-- ==== Sys2Proof/Word.lean ====
section
/-! DEFINITION. The words of the ZAMCODA PH7120: bytes, the 24 data bits of a lane word and its 30 coded bits. -/

namespace Sys2Proof

/-- A byte of the configuration PROM or of a drive link message (sections 10.4 and 10.5). -/
abbrev Byte := BitVec 8

/-- The 24 data bits of one lane word (section 10.1). -/
abbrev DataWord := BitVec 24

/-- The 30 bits of one lane word in the order sent, d23 to d0, c4 to c0, p, the first in bit 29 (R196). -/
abbrev CodedWord := BitVec 30

end Sys2Proof
end

