-- ==== Sys2Proof/Syntax.lean ====
section
/-! DEFINITION. The commands of the block: one constructor of `Instr` per row of spec/opcode_table.json, with the
operands that the row's event brings to the part (the frame heard, the REPORT received, the samples read, the station
or job whose timer ran out). -/

namespace Sys2Proof

/-- The side a head stands on, from the SIDE strap (R28). -/
inductive Side where
  | top
  | bottom
  deriving DecidableEq, Repr

/-- The two queues whose head frame carries a stall timer (R17). -/
inductive StallQueue where
  | safety
  | work
  deriving DecidableEq, Repr

/-- How the rest of a SPOILED frame reached the receiver (R6): consumed up to the follow count of its header, or ended by
a Manchester violation or an early quiet. -/
inductive SpoiledRest where
  | consumed
  | violated
  deriving DecidableEq, Repr

/-- A frame that reached its frame end intact (R4). The kind is the command's constructor, and the follow count is the
number of following words. `errors` lists, by word position (0 the header, 1 to 15 the following words), each word that
was received with an error the check code corrected, as the 30 bits received (R5, R196). -/
structure RxFrame where
  src    : BitVec 4
  dst    : BitVec 4
  aux    : BitVec 7
  body   : List DataWord
  errors : List (Nat × CodedWord) := []
  deriving DecidableEq, Repr

/-- A REPORT of the axis drive (R122, section 10.5). -/
structure DriveReport where
  x          : BitVec 16
  y          : BitVec 16
  z          : BitVec 16
  inPosition : Bool
  fault      : Bool
  number     : BitVec 8
  deriving DecidableEq, Repr

/-- The commands, in the order of spec/opcode_table.json. -/
inductive Instr where
  /-- RESET_N_ASSERT (R27). -/
  | resetNAssert
  /-- RESET_N_RELEASE (R27 to R30): the straps ST[3:0] and SIDE, and the bytes the PROM gives, `none` when it does not
  answer. -/
  | resetNRelease (st : BitVec 4) (side : Side) (prom : Option (List Byte))
  /-- SELFTEST_END (R31): whether the memory patterns read back as written, and the 16 voltage and 16 current samples
  of the ZERO check. -/
  | selftestEnd (memoryOk : Bool) (volts amps : List Int)
  /-- LISTEN_TIMER_EXPIRY (R33). -/
  | listenTimerExpiry
  /-- LINE_QUIET (R2). -/
  | lineQuiet
  /-- LINE_NOISE (R3). -/
  | lineNoise
  /-- SYNC_DETECTED (R10). -/
  | syncDetected
  /-- GAP_END (R10). -/
  | gapEnd
  /-- POST_BURST_GAP_END (R12). -/
  | postBurstGapEnd
  /-- LANE_COLLISION (R11). -/
  | laneCollision
  /-- FRAME_SENT (R11). -/
  | frameSent
  /-- HELD_FRAME_ACCEPTED (R14). -/
  | heldFrameAccepted
  /-- STALL_TIMER_EXPIRY (R17), of the queue named. -/
  | stallTimerExpiry (queue : StallQueue)
  /-- FRAME_SPOILED (R6): the words received from the header up to the uncorrectable word, and how the rest ended. -/
  | frameSpoiled (words : List CodedWord) (rest : SpoiledRest)
  /-- FRAME_BROKEN (R7): the words received whole before the frame broke. -/
  | frameBroken (words : List CodedWord)
  /-- DEAFNESS_TIMER_EXPIRY (R24). -/
  | deafnessTimerExpiry
  /-- OFFER (R52). -/
  | offer (f : RxFrame)
  /-- WITHDRAW (R61). -/
  | withdraw (f : RxFrame)
  /-- TAKE (R69). -/
  | take (f : RxFrame)
  /-- SET (R74). -/
  | set (f : RxFrame)
  /-- DROP (R80). -/
  | drop (f : RxFrame)
  /-- LANDED (R86). -/
  | landed (f : RxFrame)
  /-- START (R88). -/
  | start (f : RxFrame)
  /-- READING (R156). -/
  | reading (f : RxFrame)
  /-- AGAIN (R89). -/
  | again (f : RxFrame)
  /-- RESULT (R62). -/
  | result (f : RxFrame)
  /-- BEACON (R110). -/
  | beacon (f : RxFrame)
  /-- FAULT (R40). -/
  | fault (f : RxFrame)
  /-- STATUS (R40). -/
  | status (f : RxFrame)
  /-- REFUSED (R18). -/
  | refused (f : RxFrame)
  /-- PLAN_BEACON (R38). -/
  | planBeacon (f : RxFrame)
  /-- CLAIM (R101). -/
  | claim (f : RxFrame)
  /-- SHRINK (R108). -/
  | shrink (f : RxFrame)
  /-- RELEASE (R108). -/
  | release (f : RxFrame)
  /-- OBJECT (R104). -/
  | object (f : RxFrame)
  /-- CENSUS_REQ (R112). -/
  | censusReq (f : RxFrame)
  /-- CENSUS_REPLY (R114). -/
  | censusReply (f : RxFrame)
  /-- CENSUS_TIMER_EXPIRY (R111). -/
  | censusTimerExpiry
  /-- OBJECTION_WINDOW_EXPIRY (R100). -/
  | objectionWindowExpiry
  /-- SLOT_WINDOW_EXPIRY (R102), of the station named. -/
  | slotWindowExpiry (station : Nat)
  /-- BOARD_OUT (R43). -/
  | boardOut (f : RxFrame)
  /-- BOARD_IN (R45). -/
  | boardIn (f : RxFrame)
  /-- RESTART (R46): the frame, and the bytes the PROM gives should the restart read it again (R48). -/
  | restart (f : RxFrame) (prom : Option (List Byte))
  /-- RESUME (R143). -/
  | resume (f : RxFrame)
  /-- CLEAR_FROZEN (R116). -/
  | clearFrozen (f : RxFrame)
  /-- CLEAR_LOG (R194). -/
  | clearLog (f : RxFrame)
  /-- QUERY (R171). -/
  | query (f : RxFrame)
  /-- SILENCE_TIMER_EXPIRY (R39), of the station named. -/
  | silenceTimerExpiry (station : Nat)
  /-- PLAN_LOSS_TIMER_EXPIRY (R42). -/
  | planLossTimerExpiry
  /-- BEACON_TIMER_EXPIRY (R38). -/
  | beaconTimerExpiry
  /-- TAKE_WINDOW_EXPIRY (R58), of the entry of the job named. -/
  | takeWindowExpiry (job : Nat)
  /-- CATCH_GRACE_EXPIRY (R59), of the entry of the job named. -/
  | catchGraceExpiry (job : Nat)
  /-- LANDING_WAIT_EXPIRY (R84), of the membership in the job named. -/
  | landingWaitExpiry (job : Nat)
  /-- HOLD_LIMIT_EXPIRY (R90), of the membership in the job named. -/
  | holdLimitExpiry (job : Nat)
  /-- LANDING_LIMIT_EXPIRY (R90), of the membership in the job named. -/
  | landingLimitExpiry (job : Nat)
  /-- READING_DEADLINE_EXPIRY (R157), of the lead membership in the job named. -/
  | readingDeadlineExpiry (job : Nat)
  /-- SETTLE_END (R149). -/
  | settleEnd
  /-- SAMPLE_INSTANT (R150): the voltage in µV and the current in nA at the converters' inputs. -/
  | sampleInstant (volt amp : Int)
  /-- WINDOW_END (R154). -/
  | windowEnd
  /-- DRIVE_REPORT (R122). -/
  | driveReport (r : DriveReport)
  /-- DRIVE_SILENCE_EXPIRY (R122). -/
  | driveSilenceExpiry
  /-- RESTART_LIFT_TIMEOUT (R47). -/
  | restartLiftTimeout
  /-- CONTACT_CLOSING (R140). -/
  | contactClosing
  /-- CONTACT_OPENING (R152). -/
  | contactOpening
  /-- IDLE_PARK_TIMER_EXPIRY (R125). -/
  | idleParkTimerExpiry
  /-- SPACE_WAIT_EXPIRY (R128). -/
  | spaceWaitExpiry
  /-- HALT_ASSERTED (R142). -/
  | haltAsserted
  /-- HALT_RELEASED (R124). -/
  | haltReleased
  /-- RESTART_WAIT_EXPIRY (R184). -/
  | restartWaitExpiry
  /-- UNASSIGNED_KIND_FRAME (R22), with its kind code. -/
  | unassignedKindFrame (code : BitVec 5) (f : RxFrame)
  deriving DecidableEq, Repr

end Sys2Proof
end

