-- ==== Sys2Proof/Machine/State.lean ====
section
/-! DEFINITION. The state of the PH7120, block by block (chapter 00, "Functional overview"), as plain data, and the state
right after reset. A timer is `none` while stopped and `some d` while running, `d` being the length in nanoseconds it was
started with (log entry 2); the command that names its expiry acts only while it runs. -/

namespace Sys2Proof.Machine

/-! ## Shared data -/

/-- A timer: stopped, or running for the given number of nanoseconds. -/
abbrev Timer := Option Nat

/-- The motion states (section 6.2). -/
inductive MotionState where
  | offline | joining | parked | idle | claiming | waitSpace | travel | descend | landed | measure | hold | lift
  | parking | frozen
  deriving DecidableEq, Repr

/-- A rectangle of the work plane, in gu (R93). -/
structure Rect where
  xmin : Nat
  xmax : Nat
  ymin : Nat
  ymax : Nat
  deriving DecidableEq, Repr

/-- A tip region, in gu, both ends included and not clamped (R96). -/
structure Region where
  xmin : Int
  xmax : Int
  ymin : Int
  ymax : Int
  deriving DecidableEq, Repr

/-- The two kinds of claim (section 5.2). -/
inductive ClaimKind where
  | standing | travel
  deriving DecidableEq, Repr

/-- One thing for each head, stations 1 to 8. -/
structure Heads (α : Type) where
  h1 : α
  h2 : α
  h3 : α
  h4 : α
  h5 : α
  h6 : α
  h7 : α
  h8 : α
  deriving DecidableEq, Repr

/-! ## Configuration record (chapter 02, section 10.4) -/

/-- The configuration in use, after the clamping of R30. -/
structure ConfigRecord where
  reachXmin : Nat
  reachXmax : Nat
  reachYmin : Nat
  reachYmax : Nat
  parkX : Nat
  parkY : Nat
  exn : Nat
  exp : Nat
  eyn : Nat
  eyp : Nat
  m   : Nat
  zt  : Nat
  zs  : Nat
  zo  : Nat
  /-- Set for STANDARD, clear for FINE. -/
  tipStandard : Bool
  catchFlag : Bool
  fenceMode : Nat
  /-- In ms. -/
  takeWindow : Nat
  /-- In ms. -/
  spaceWait : Nat
  /-- In s. -/
  idlePark : Nat
  /-- In µs. -/
  postBurst : Nat
  deriving DecidableEq, Repr

/-! ## Lane interface, LIF (chapter 01) -/

/-- The receiver states (R3). -/
inductive Receiver where
  | waitQuiet | idle | header | follow
  deriving DecidableEq, Repr

/-- The access classes (section 1.4). -/
inductive AccessClass where
  | safety | work | plan | post
  deriving DecidableEq, Repr

/-- The reasons of a DROP, in the order of their codes 0 to 6 (section 10.3). -/
inductive DropReason where
  | space | late | unplaced | partnerLost | planLost | fault | holdExpired
  deriving DecidableEq, Repr

/-- The verdicts, in the order of their codes 0 to 7 (section 10.3). -/
inductive Verdict where
  | pass | low | high | isOpen | leak | isOver | noContact | missing
  deriving DecidableEq, Repr

/-- A RESULT, complete when it enters the post queue (R164, R168). `value` is the 32-bit value field. -/
structure ResultRecord where
  job        : Nat
  board      : Nat
  verdict    : Verdict
  value      : BitVec 32
  passesUsed : Nat
  neg        : Bool
  members    : List Nat
  deriving DecidableEq, Repr

/-- A frame the head may send, by its fields. Those LIF fills at the sync (R38, R97, R113, R171) are not held here. -/
inductive TxFrame where
  | claim (kind : ClaimKind) (rect : Rect)
  | shrink (rect : Rect)
  | release
  | object (claimant ordinal : Nat) (rect : Rect) (owner : Nat)
  | censusReq
  | censusReply
  | take (job role : Nat) (catchFlag : Bool)
  | drop (job : Nat) (reason : DropReason) (lost : Nat)
  | set (job : Nat) (takers : List Nat)
  | landed (job role pass : Nat) (noContact : Bool)
  | start (job pass : Nat)
  | reading (job role pass : Nat) (isOver compliance lifted : Bool) (volt amp : Int)
  | again (job : Nat) (repeated : Bool) (pass : Nat)
  | beacon
  | fault (code mode : Nat) (motion : MotionState) (job : Nat)
  | result (r : ResultRecord)
  | status (item selector : Nat)
  | refused (unknownItem : Bool) (kind : Nat) (aux : BitVec 7) (dst : Nat)
  deriving DecidableEq, Repr

/-- The four transmit places (R13). -/
inductive Place where
  | safety | work | answer | post
  deriving DecidableEq, Repr

/-- A frame's header fields and following words as driven on the lane (section 10.1). -/
structure Wire where
  kind : BitVec 5
  src  : BitVec 4
  dst  : BitVec 4
  aux  : BitVec 7
  body : List DataWord
  deriving DecidableEq, Repr

/-- The frame on the lane. `detached` marks a frame whose queue was emptied under it: it finishes and is not retried
(R16, R26). `withdrawn` and `replacement` are the request waiting on its outcome (R15). `burstAt` is the time from the
burst start to this frame's sync, in ns. `heard` is set once its own readback has been handed on (R18): its frame end is
reached. `draw` is the number of the free value that is the level read as its sync starts (R196; log entry 53). -/
structure Tx where
  place       : Place
  frame       : TxFrame
  wire        : Wire
  coded       : List CodedWord
  burstAt     : Nat
  detached    : Bool
  withdrawn   : Bool
  replacement : Option TxFrame
  heard       : Bool
  draw        : Nat
  deriving DecidableEq, Repr

/-- The last-sender trackers, one per access class (R9). -/
structure Trackers where
  safety : Nat
  work   : Nat
  plan   : Nat
  post   : Nat
  deriving DecidableEq, Repr

/-- The six lane counters (R25). -/
structure Counters where
  corrected  : Nat
  spoiled    : Nat
  broken     : Nat
  collisions : Nat
  discarded  : Nat
  late       : Nat
  deriving DecidableEq, Repr

/-- The check log's entry (R6). -/
structure LogEntry where
  syndrome    : Nat
  parityWrong : Bool
  position    : Nat
  kind        : Nat
  source      : Nat
  deriving DecidableEq, Repr

/-- The check log (R6). -/
structure CheckLog where
  entry : Option LogEntry
  more  : Bool
  deriving DecidableEq, Repr

structure Lif where
  receiver    : Receiver
  safety      : List TxFrame
  work        : List TxFrame
  answer      : Option TxFrame
  post        : List TxFrame
  /-- Frames held by the blocks for WORK space, in the order first offered (R14). -/
  held        : List TxFrame
  tx          : Option Tx
  /-- Set when the frame just sent has not yet been handed on as readback (log entry 5). -/
  readbackDue : Bool
  /-- The gap being counted from the start of quiet: the class contended in and the gap in ns (R10). -/
  gap         : Option (AccessClass × Nat)
  /-- A post burst that may go on: the time from its start to the last frame end, in ns (R12). -/
  burst       : Option Nat
  trackers    : Trackers
  /-- Consecutive-collision count, 0 to 16 (R11). -/
  k           : Nat
  stallSafety : Timer
  stallWork   : Timer
  deafness    : Timer
  silent      : Bool
  counters    : Counters
  checkLog    : CheckLog
  deriving DecidableEq, Repr

/-! ## Station control, STC (chapter 02) -/

/-- The join states (section 10.3). -/
inductive JoinState where
  | notStarted | listen | census | placing | complete | failed
  deriving DecidableEq, Repr

/-- The board session states (section 2.6). -/
inductive BoardState where
  | noBoard | active (n : Nat) | changing
  deriving DecidableEq, Repr

/-- Presence of a station (section 2.4). -/
inductive Presence where
  | absent | present | lost
  deriving DecidableEq, Repr

/-- A reported fence mode: none, or 0 to 3 (section 2.4). -/
inductive FenceReport where
  | noFence | mode (n : Nat)
  deriving DecidableEq, Repr

/-- A roster entry (section 2.4); a side, motion state or fence mode is `none` while unknown. -/
structure RosterEntry where
  presence : Presence
  side     : Option Side
  motion   : Option MotionState
  fence    : Option FenceReport
  silence  : Timer
  deriving DecidableEq, Repr

/-- The self-test result (R31): not run, or which checks failed. -/
inductive SelfTest where
  | notRun
  | done (memoryFailed driveFailed contactFailed zeroFailed : Bool)
  deriving DecidableEq, Repr

/-- The progress of a station restart (R46 to R48): none, its lift phase, or the self-test rerun of an OFFLINE head. -/
inductive RestartPhase where
  | noRestart | lifting | selfTest
  deriving DecidableEq, Repr

structure Stc where
  /-- RESET_N is held low (R27). -/
  inReset      : Bool
  /-- The station number, 1 to 8; `none` before the straps are read and for BAD_STRAP (R28). -/
  station      : Option Nat
  side         : Side
  config       : Option ConfigRecord
  selfTest     : SelfTest
  /-- The self-test is running (R31), with what it has seen: a REPORT without the fault flag, a contact not open. -/
  selfTesting  : Bool
  driveSeen    : Bool
  contactSeen  : Bool
  join         : JoinState
  listen       : Timer
  /-- The tip position of R36 from which a head away from its park point places itself: X, Y, Z. -/
  placeAt      : Option (Nat × Nat × Nat)
  roster0      : RosterEntry
  roster       : Heads RosterEntry
  board        : BoardState
  changeDue    : Bool
  beaconTimer  : Timer
  planLoss     : Timer
  offlineReason : Nat
  restart      : RestartPhase
  /-- The 2 s bound on the restart's LIFT (R47, R122). -/
  restartLift  : Timer
  deriving DecidableEq, Repr

/-! ## Job table, JTB (chapter 03) -/

/-- The job kinds, in the order of their codes 0 to 3 (section 10.3). -/
inductive JobKind where
  | cont | kelvin | diode | isol
  deriving DecidableEq, Repr

/-- The tip class a point asks for, in the order of its codes 0 to 2 (section 10.3). -/
inductive TipClass where
  | fine | standard | any
  deriving DecidableEq, Repr

structure Point where
  x    : Nat
  y    : Nat
  side : Side
  tip  : TipClass
  deriving DecidableEq, Repr

/-- An offer as received (section 3.1). -/
structure Offer where
  job      : Nat
  board    : Nat
  kind     : JobKind
  priority : Nat
  budget   : Nat
  stimulus : Nat
  settle   : Nat
  sample   : Nat
  low      : DataWord
  high     : DataWord
  points   : List Point
  deriving DecidableEq, Repr

/-- A job table entry (section 3.3). OPEN, FORMING and FORMED follow from `formed` and `takers` (R57). -/
structure Entry where
  offer    : Offer
  /-- For each role, whether its point is servable by the head (R53). -/
  servable : List Bool
  /-- For each role, its taker. -/
  takers   : List (Option Nat)
  formed   : Bool
  /-- Arrival rank (R54). -/
  rank     : Nat
  window   : Timer
  grace    : Timer
  deriving DecidableEq, Repr

structure Jtb where
  /-- In table order (R54). -/
  entries  : List Entry
  nextRank : Nat
  deriving DecidableEq, Repr

/-! ## Rendezvous unit, RVU (chapter 04), with the lead's reading table (section 7.3) -/

/-- The membership states, in the order of their codes 0 to 5 (section 10.3). -/
inductive MemberState where
  | taken | formed | moving | landed | measuring | hold
  deriving DecidableEq, Repr

/-- A reading (R153). -/
structure Reading where
  volt       : Int
  amp        : Int
  isOver       : Bool
  compliance : Bool
  lifted     : Bool
  deriving DecidableEq, Repr

/-- An AGAIN kept while the membership is MEASURING (R89). -/
structure DeferredAgain where
  source   : Nat
  repeated : Bool
  pass     : Nat
  deriving DecidableEq, Repr

/-- A membership record (section 4.4). A row of the landing table is `none` before the role has landed in the current
pass, else its NOCONTACT flag; a row of the reading table is `none` while not present. -/
structure Membership where
  job          : Nat
  role         : Nat
  state        : MemberState
  takers       : List Nat
  pass         : Nat
  setSent      : Bool
  landings     : List (Option Bool)
  readings     : List (Option Reading)
  landingWait  : Timer
  holdLimit    : Timer
  landingLimit : Timer
  deadline     : Timer
  deferred     : Option DeferredAgain
  deriving DecidableEq, Repr

/-- The head's own pending TAKE (R66). Its stage follows from where its frame stands in LIF. -/
structure PendingTake where
  job       : Nat
  role      : Nat
  catchFlag : Bool
  deriving DecidableEq, Repr

structure Rvu where
  current    : Option Membership
  next       : Option Membership
  pending    : Option PendingTake
  mismatches : Nat
  deriving DecidableEq, Repr

/-! ## Space claim unit, SCU (chapter 05) -/

/-- A claim of the head's own; `placing` marks the STANDING claim of PLACING (R37, R105). -/
structure Claim where
  kind    : ClaimKind
  rect    : Rect
  region  : Region
  placing : Bool
  deriving DecidableEq, Repr

/-- The stages of a pending claim (section 5.2). -/
inductive ClaimStage where
  | queued
  | window (ordinal : Nat) (timer : Nat)
  deriving DecidableEq, Repr

structure PendingClaim where
  claim : Claim
  stage : ClaimStage
  deriving DecidableEq, Repr

/-- What a claim-map slot holds (section 5.3). -/
inductive SlotHolds where
  | empty
  | held (rect : Rect)
  | heldPending (held : Option Rect) (pending : Rect) (ordinal : Nat) (timer : Nat)
  | frozen (held pending : Option Rect)
  deriving DecidableEq, Repr

/-- A claim-map slot; the last ordinal is `none` while unknown. -/
structure Slot where
  holds       : SlotHolds
  lastOrdinal : Option Nat
  deriving DecidableEq, Repr

structure Scu where
  held          : Option Claim
  pending       : Option PendingClaim
  ordinal       : Nat
  lastGranted   : Option Nat
  map           : Heads Slot
  doubt         : Bool
  /-- A census of the head's own is pending: from the offer of its CENSUS_REQ to the end of its window (R109). -/
  censusPending : Bool
  censusTimer   : Timer
  repeatMark    : Bool
  replyQueued   : Bool
  deriving DecidableEq, Repr

/-! ## Motion sequencer, MSQ (chapter 06) -/

/-- The phases of DESCEND (R132, R134). -/
inductive DescendPhase where
  | approach | search | rise | scrub
  deriving DecidableEq, Repr

/-- The phases of FROZEN (R142). -/
inductive FrozenPhase where
  | stopping | lifting | still
  deriving DecidableEq, Repr

/-- The phases of PARKING (R137). -/
inductive ParkPhase where
  | seek | wait | move
  deriving DecidableEq, Repr

/-- The profiles of a MOVE, in the order of their codes 0 to 2 (R121, section 10.5). -/
inductive Profile where
  | travel | search | lift
  deriving DecidableEq, Repr

/-- What a drive command orders (R121). -/
inductive DriveOrder where
  | move (x y z : Nat) (profile : Profile)
  | stop
  deriving DecidableEq, Repr

/-- A drive command with its number (R121). -/
structure DriveCommand where
  number : Nat
  order  : DriveOrder
  deriving DecidableEq, Repr

structure Msq where
  motion        : MotionState
  descend       : DescendPhase
  frozen        : FrozenPhase
  park          : ParkPhase
  lastReport    : Option DriveReport
  lastCommand   : Option DriveCommand
  /-- The target of the move being claimed or made: X, Y (R124). -/
  target        : Option (Nat × Nat)
  /-- The standing XY (R123). -/
  standing      : Option (Nat × Nat)
  grant         : Option Region
  retouch       : Nat
  /-- The waiting point: X, Y (R124). -/
  waiting       : Option (Nat × Nat)
  idleTimer     : Timer
  spaceWait     : Timer
  spaceExpired  : Bool
  abandonMark   : Bool
  parkRequest   : Bool
  resumeMark    : Bool
  /-- A STOP sent for a late objection has not completed (R130). -/
  lateStop      : Bool
  /-- SCU has told MSQ of a map change, a clearing of doubt or its own CENSUS_REPLY (R127); never set between steps. -/
  spaceEvent    : Bool
  /-- The drive silence timer (R122). -/
  driveSilence  : Timer
  /-- DRIVE_FAULT has been reported and no REPORT without the fault flag has come since (R122). -/
  driveReported : Bool
  /-- CORRIDOR_BREACH has been reported for a tip outside the region and neither a REPORT inside it nor a change of the
  held claim has come since (R139). -/
  breachReported : Bool
  deriving DecidableEq, Repr

/-! ## Measurement unit, MEU (chapter 07) -/

/-- The front end's role settings (R147). -/
inductive FrontEnd where
  | off | force | ret | sense
  deriving DecidableEq, Repr

/-- The stimulus: off, a current in nA or a voltage in µV (R148). -/
inductive Stimulus where
  | off
  | current (nA : Nat)
  | voltage (uV : Nat)
  deriving DecidableEq, Repr

/-- The measurement window: OFF, or SETTLE or SAMPLE with its settle time in ns and its sample count (R149). -/
inductive Window where
  | off
  | settle (settleNs samples : Nat)
  | sample (settleNs samples : Nat)
  deriving DecidableEq, Repr

/-- The sample accumulator and its flags (R150 to R152). -/
structure Accumulator where
  volts      : Int
  amps       : Int
  count      : Nat
  isOver       : Bool
  compliance : Bool
  lifted     : Bool
  deriving DecidableEq, Repr

/-- The head's own reading with its role and the pass of its membership (R153). -/
structure OwnReading where
  role    : Nat
  pass    : Nat
  reading : Reading
  deriving DecidableEq, Repr

structure Meu where
  frontEnd   : FrontEnd
  stimulus   : Stimulus
  window     : Window
  acc        : Accumulator
  ownReading : Option OwnReading
  deriving DecidableEq, Repr

/-! ## Fault unit, FLU (chapter 09) -/

/-- The fault record (section 9.2). `held` is the held claim that R146 enters in it; the table of 9.2 and the answer of 10.3
have no such field, so it is shown nowhere (log entry 47). -/
structure FaultRecord where
  code   : Nat
  motion : MotionState
  tipX   : Nat
  tipY   : Nat
  job    : Nat
  board  : Nat
  held   : Option Claim
  deriving DecidableEq, Repr

/-- The fence states (chapter 09); ACTING carries its mode, 0 or 1. -/
inductive FenceState where
  | noFence | acting (mode : Nat) | restartWait | restarting | silent | haltAll
  deriving DecidableEq, Repr

structure Flu where
  record      : Option FaultRecord
  second      : Bool
  count       : Nat
  fence       : FenceState
  /-- The code of the fault being acted on. -/
  acting      : Option Nat
  restartWait : Timer
  haltDrive   : Bool
  /-- FAULT_N is asserted (R181). -/
  faultN      : Bool
  /-- The FAULT frame of a mode 1 fence has not been heard (R184). -/
  awaitFault  : Bool
  /-- The jobs whose DROP(FAULT) of a mode 1 fence has not been heard (R184). -/
  awaitDrops  : List Nat
  deriving DecidableEq, Repr

/-! ## Inputs the part reads as levels -/

structure Pins where
  /-- The contact input reads CLOSED (R131). -/
  contact : Bool
  /-- Another station, the plan station or the emergency stop drives HALT (section 9.5). -/
  haltIn  : Bool
  deriving DecidableEq, Repr

/-- The machine. -/
structure State where
  lif     : Lif
  stc     : Stc
  jtb     : Jtb
  rvu     : Rvu
  scu     : Scu
  msq     : Msq
  meu     : Meu
  flu     : Flu
  pins    : Pins
  /-- How many free values have been drawn (the model's own field, log entries 1 and 53). -/
  drawn   : Nat
  /-- The commands that wait, first in, first out. -/
  pending : List Instr
  deriving DecidableEq, Repr

/-- The reasons a step can stop with a fault. There is none: the manual gives every command an effect in every state, and
the faults of chapter 09 are effects on `State`. -/
inductive Fault where
  deriving DecidableEq, Repr

/-- The reasons a step can be refused. -/
inductive Refusal where
  /-- Raised by `exec` for a command that has no meaning yet; safe. No command of this model is refused so. -/
  | notModelled (mnemonic : String)
  deriving DecidableEq, Repr

/-! ## Reset -/

/-- One value for each head. -/
def Heads.all {α : Type} (a : α) : Heads α := ⟨a, a, a, a, a, a, a, a⟩

/-- An ABSENT roster entry with nothing known (R50). -/
def RosterEntry.absent : RosterEntry :=
  { presence := .absent, side := none, motion := none, fence := none, silence := none }

/-- An EMPTY slot whose last ordinal is unknown (R120). -/
def Slot.empty : Slot := { holds := .empty, lastOrdinal := none }

/-- The accumulator when a window opens (R149). -/
def Accumulator.clear : Accumulator :=
  { volts := 0, amps := 0, count := 0, isOver := false, compliance := false, lifted := false }

/-- The lane counters at 0 (R25). -/
def Counters.zero : Counters :=
  { corrected := 0, spoiled := 0, broken := 0, collisions := 0, discarded := 0, late := 0 }

/-- The empty check log (R6). -/
def CheckLog.empty : CheckLog := { entry := none, more := false }

/-- LIF after power-on start (R26). -/
def Lif.powerOn : Lif :=
  { receiver := .waitQuiet, safety := [], work := [], answer := none, post := [], held := [], tx := none,
    readbackDue := false, gap := none, burst := none,
    trackers := { safety := 0, work := 0, plan := 0, post := 0 }, k := 0, stallSafety := none, stallWork := none,
    deafness := none, silent := false, counters := .zero, checkLog := .empty }

/-- STC after power-on start, with RESET_N still low (R27, R50). -/
def Stc.powerOn : Stc :=
  { inReset := true, station := none, side := .top, config := none, selfTest := .notRun, selfTesting := false,
    driveSeen := false, contactSeen := false, join := .notStarted, listen := none, placeAt := none,
    roster0 := .absent, roster := .all .absent, board := .noBoard, changeDue := false, beaconTimer := none,
    planLoss := none, offlineReason := 0, restart := .noRestart, restartLift := none }

/-- JTB after power-on start (R68). -/
def Jtb.powerOn : Jtb := { entries := [], nextRank := 0 }

/-- RVU after power-on start (R68, R92). -/
def Rvu.powerOn : Rvu := { current := none, next := none, pending := none, mismatches := 0 }

/-- SCU after power-on start (R120). -/
def Scu.powerOn : Scu :=
  { held := none, pending := none, ordinal := 0, lastGranted := none, map := .all .empty, doubt := true,
    censusPending := false, censusTimer := none, repeatMark := false, replyQueued := false }

/-- MSQ after power-on start (R146). -/
def Msq.powerOn : Msq :=
  { motion := .offline, descend := .approach, frozen := .still, park := .seek, lastReport := none,
    lastCommand := none, target := none, standing := none, grant := none, retouch := 0, waiting := none,
    idleTimer := none, spaceWait := none, spaceExpired := false, abandonMark := false, parkRequest := false,
    resumeMark := false, lateStop := false, spaceEvent := false, driveSilence := none, driveReported := false,
    breachReported := false }

/-- MEU after power-on start (R167). -/
def Meu.powerOn : Meu :=
  { frontEnd := .off, stimulus := .off, window := .off, acc := .clear, ownReading := none }

/-- FLU after power-on start (R195). -/
def Flu.powerOn : Flu :=
  { record := none, second := false, count := 0, fence := .noFence, acting := none, restartWait := none,
    haltDrive := false, faultN := false, awaitFault := false, awaitDrops := [] }

/-- The machine while RESET_N is held low, every block at its power-on value (R27). The first command that acts on it is
RESET_N_RELEASE. The input levels at that moment are the surroundings' (log entry 3). -/
def State.reset : State :=
  { lif := .powerOn, stc := .powerOn, jtb := .powerOn, rvu := .powerOn, scu := .powerOn, msq := .powerOn,
    meu := .powerOn, flu := .powerOn, pins := { contact := false, haltIn := false }, drawn := 0, pending := [] }

/-! ## Updates of one block -/

def State.onLif (s : State) (f : Lif → Lif) : State := { s with lif := f s.lif }
def State.onStc (s : State) (f : Stc → Stc) : State := { s with stc := f s.stc }
def State.onJtb (s : State) (f : Jtb → Jtb) : State := { s with jtb := f s.jtb }
def State.onRvu (s : State) (f : Rvu → Rvu) : State := { s with rvu := f s.rvu }
def State.onScu (s : State) (f : Scu → Scu) : State := { s with scu := f s.scu }
def State.onMsq (s : State) (f : Msq → Msq) : State := { s with msq := f s.msq }
def State.onMeu (s : State) (f : Meu → Meu) : State := { s with meu := f s.meu }
def State.onFlu (s : State) (f : Flu → Flu) : State := { s with flu := f s.flu }
def State.onPins (s : State) (f : Pins → Pins) : State := { s with pins := f s.pins }

end Sys2Proof.Machine
end

