-- ==== Sys2Proof/Machine/Geometry.lean ====
section
/-! DEFINITION. The work plane: relations between rectangles, and the corridors of claims (R93 to R96). -/

namespace Sys2Proof.Machine

/-- Two rectangles conflict (R93). -/
def Rect.conflicts (a b : Rect) : Bool :=
  decide (a.xmin < b.xmax) && decide (b.xmin < a.xmax) && decide (a.ymin < b.ymax) && decide (b.ymin < a.ymax)

/-- `a` is inside `b` (R93). -/
def Rect.inside (a b : Rect) : Bool :=
  decide (b.xmin ≤ a.xmin) && decide (a.xmax ≤ b.xmax) && decide (b.ymin ≤ a.ymin) && decide (a.ymax ≤ b.ymax)

/-- The bounding rectangle (R93). -/
def Rect.bounding (a b : Rect) : Rect :=
  { xmin := min a.xmin b.xmin, xmax := max a.xmax b.xmax, ymin := min a.ymin b.ymin, ymax := max a.ymax b.ymax }

/-- The bounding rectangle with one that may be absent. -/
def Rect.boundingWith (a : Rect) : Option Rect → Rect
  | none => a
  | some b => b.bounding a

/-- A number clamped to a range (chapter 00, "Numbers and arithmetic"). -/
def clampNat (lo hi n : Nat) : Nat := max lo (min hi n)

/-- A signed bound clamped to the 0 to 65535 of a rectangle (R95). -/
def clampBound (n : Int) : Nat := if n < 0 then 0 else if n > 65535 then 65535 else n.toNat

/-- A signed number clamped to a range. -/
def clampInt (lo hi n : Int) : Int := if n < lo then lo else if n > hi then hi else n

/-- The larger of the distances in X and in Y (R65, R94). -/
def chebyshev (x y x' y' : Nat) : Nat := max (max x x' - min x x') (max y y' - min y y')

/-- The swell S of a corridor (R94). -/
def swell (kind : ClaimKind) (m d : Nat) : Nat :=
  match kind with
  | .travel => m + min m ((d + 63) / 64)
  | .standing => m

/-- The corridor rectangle from (xc, yc) to (xt, yt) (R95). -/
def corridorRect (c : ConfigRecord) (kind : ClaimKind) (xc yc xt yt : Nat) : Rect :=
  let s : Int := swell kind c.m (chebyshev xc yc xt yt)
  { xmin := clampBound ((min xc xt : Nat) - (c.exn : Int) - s)
    xmax := clampBound ((max xc xt : Nat) + (c.exp : Int) + s)
    ymin := clampBound ((min yc yt : Nat) - (c.eyn : Int) - s)
    ymax := clampBound ((max yc yt : Nat) + (c.eyp : Int) + s) }

/-- The tip region of a corridor (R96). -/
def corridorRegion (c : ConfigRecord) (kind : ClaimKind) (xc yc xt yt : Nat) : Region :=
  let s : Int := swell kind c.m (chebyshev xc yc xt yt)
  { xmin := (min xc xt : Nat) - s, xmax := (max xc xt : Nat) + s
    ymin := (min yc yt : Nat) - s, ymax := (max yc yt : Nat) + s }

/-- The claim of a corridor. -/
def corridor (c : ConfigRecord) (kind : ClaimKind) (xc yc xt yt : Nat) : Claim :=
  { kind := kind, rect := corridorRect c kind xc yc xt yt, region := corridorRegion c kind xc yc xt yt,
    placing := false }

/-- A point lies in a region, ends included. -/
def Region.contains (r : Region) (x y : Nat) : Bool :=
  decide (r.xmin ≤ (x : Int)) && decide ((x : Int) ≤ r.xmax) && decide (r.ymin ≤ (y : Int)) && decide ((y : Int) ≤ r.ymax)

/-- A rectangle with each bound kept within another (R106). -/
def Rect.narrowTo (a b : Rect) : Rect :=
  { xmin := clampNat b.xmin b.xmax a.xmin, xmax := clampNat b.xmin b.xmax a.xmax
    ymin := clampNat b.ymin b.ymax a.ymin, ymax := clampNat b.ymin b.ymax a.ymax }

/-- A region with each bound kept within another (R106). -/
def Region.narrowTo (a b : Region) : Region :=
  { xmin := clampInt b.xmin b.xmax a.xmin, xmax := clampInt b.xmin b.xmax a.xmax
    ymin := clampInt b.ymin b.ymax a.ymin, ymax := clampInt b.ymin b.ymax a.ymax }

/-- The STANDING claim taken at a stop or an arrival, narrowed to the claim held (R106). -/
def standingWithin (c : ConfigRecord) (held : Claim) (x y : Nat) : Claim :=
  { kind := .standing, rect := (corridorRect c .standing x y x y).narrowTo held.rect,
    region := (corridorRegion c .standing x y x y).narrowTo held.region, placing := false }

/-- The region a head without a claim is checked against: M around its park point (R139). -/
def parkRegion (c : ConfigRecord) : Region :=
  { xmin := c.parkX - (c.m : Int), xmax := c.parkX + (c.m : Int)
    ymin := c.parkY - (c.m : Int), ymax := c.parkY + (c.m : Int) }

/-- The tip stands at the park point (R37). -/
def atPark (c : ConfigRecord) (x y z : Nat) : Bool :=
  (parkRegion c).contains x y && decide ((c.zt : Int) - c.m ≤ z)

end Sys2Proof.Machine
end

