-- ==== Sys2Proof/Machine/Code.lean ====
section
/-! DEFINITION. The check code of the lane words: the extended Hamming code of R196 and its decoding by R5. -/

namespace Sys2Proof.Machine

/-- The Hamming positions of the data bits d0 to d23: 3 to 29 without the powers of two (R196). -/
def dataPositions : List Nat :=
  [3, 5, 6, 7, 9, 10, 11, 12, 13, 14, 15, 17, 18, 19, 20, 21, 22, 23, 24, 25, 26, 27, 28, 29]

/-- The exclusive-or of the positions of the set bits of `d`, where `d`'s bit `i` stands at the head of the list. -/
def checkBitsFrom (d : DataWord) : Nat → List Nat → BitVec 5
  | _, [] => 0
  | i, p :: ps => (if d.getLsbD i then BitVec.ofNat 5 p else 0) ^^^ checkBitsFrom d (i + 1) ps

/-- The check bits c4 to c0 of a data word: bit j is the exclusive-or of the data bits whose position has bit j set, so
the whole is the exclusive-or of the positions of the set data bits (R196). -/
def checkBits (d : DataWord) : BitVec 5 := checkBitsFrom d 0 dataPositions

/-- The exclusive-or of the lowest `n` bits of `x`. -/
def parityOf {w : Nat} (x : BitVec w) : Nat → Bool
  | 0 => false
  | n + 1 => xor (x.getLsbD n) (parityOf x n)

/-- The coded form of a data word: d23 to d0, c4 to c0, then the overall parity bit that makes the parity of the 30 bits
even (R196). -/
def encodeWord (d : DataWord) : CodedWord :=
  let body : BitVec 29 := d ++ checkBits d
  body ++ BitVec.ofBool (parityOf body 29)

/-- The outcomes of decoding a word (R5); a corrected word keeps its syndrome. -/
inductive WordOutcome where
  | clean (d : DataWord)
  | corrected (d : DataWord) (syndrome : Nat)
  | uncorrectable
  deriving DecidableEq, Repr

/-- The data word with the bit at a Hamming position inverted; a position of a check bit leaves the data as received. -/
def flipPosition (d : DataWord) (position : Nat) : DataWord :=
  match dataPositions.findIdx? (· == position) with
  | some i => d ^^^ BitVec.ofNat 24 (2 ^ i)
  | none => d

/-- The data bits of a coded word. -/
def wordData (w : CodedWord) : DataWord := w.extractLsb' 6 24

/-- The position syndrome of a received word (R196). -/
def syndromeOf (w : CodedWord) : Nat := (w.extractLsb' 1 5 ^^^ checkBits (wordData w)).toNat

/-- The decoding table of R5. -/
def decodeWord (w : CodedWord) : WordOutcome :=
  let d := wordData w
  let syn := syndromeOf w
  if parityOf w 30 then
    if syn = 0 then .corrected d 0
    else if syn ≤ 29 then .corrected (flipPosition d syn) syn
    else .uncorrectable
  else if syn = 0 then .clean d
  else .uncorrectable

end Sys2Proof.Machine
end

