-- ==== Sys2Proof/Machine/Layout.lean ====
section
/-! DEFINITION. The layouts of chapter 10: how fields are packed into data words and read back, the kind codes with their
classes and follow counts, and the codes of the values that fields carry. -/

namespace Sys2Proof.Machine

/-! ## Packing -/

/-- The width and the value of a run of fields, each a width and a value, packed from the most significant bit down. -/
def packNat : List (Nat × Nat) → Nat × Nat
  | [] => (0, 0)
  | (w, v) :: fs =>
    let r := packNat fs
    (w + r.1, v % 2 ^ w * 2 ^ r.1 + r.2)

/-- The `n` data words of a number, the most significant first. -/
def wordsOf (v : Nat) : Nat → List DataWord
  | 0 => []
  | n + 1 => BitVec.ofNat 24 (v / 2 ^ (24 * n)) :: wordsOf v n

/-- Fields packed from bit 23 of the first word downward, the bits left over sent as 0 (section 10.3, R197). -/
def packFields (fs : List (Nat × Nat)) : List DataWord :=
  let r := packNat fs
  let n := (r.1 + 23) / 24
  wordsOf (r.2 * 2 ^ (24 * n - r.1)) n

/-- The number spelt by the following words of a frame. -/
def bodyNat : List DataWord → Nat
  | [] => 0
  | w :: ws => w.toNat * 2 ^ (24 * ws.length) + bodyNat ws

/-- The field of `width` bits that begins `offset` bits after bit 23 of the first following word. -/
def bodyField (ws : List DataWord) (offset width : Nat) : Nat :=
  bodyNat ws / 2 ^ (24 * ws.length - offset - width) % 2 ^ width

/-- Bits `lo` to `lo + width - 1` of an aux field. -/
def auxField (aux : BitVec 7) (lo width : Nat) : Nat := aux.toNat / 2 ^ lo % 2 ^ width

/-- A bit as a number. -/
def bitNat (b : Bool) : Nat := if b then 1 else 0

/-- A `width`-bit number read as two's complement. -/
def signed (width n : Nat) : Int := if n < 2 ^ (width - 1) then n else (n : Int) - 2 ^ width

/-- The field value of a signed number of `width` bits. -/
def unsign (width : Nat) (n : Int) : Nat := (n % 2 ^ width).toNat

/-! ## Kinds (sections 1.4, 10.2, 10.3) -/

/-- The frame kinds; STATUS and REFUSED share a code. -/
inductive Kind where
  | claim | shrink | release | object | censusReq | censusReply
  | take | drop | set | landed | start | reading | again | beacon | fault
  | offer | withdraw | boardOut | boardIn | query | restart | resume | clearFrozen | clearLog | planBeacon
  | result | status | refused
  | unassigned (code : Nat)
  deriving DecidableEq, Repr

/-- The kind codes (section 10.2). -/
def Kind.code : Kind → Nat
  | .claim => 0x01 | .shrink => 0x02 | .release => 0x03 | .object => 0x04 | .censusReq => 0x05
  | .censusReply => 0x06 | .take => 0x08 | .drop => 0x09 | .set => 0x0A | .landed => 0x0B | .start => 0x0C
  | .reading => 0x0D | .again => 0x0E | .beacon => 0x0F | .fault => 0x10 | .offer => 0x11 | .withdraw => 0x12
  | .boardOut => 0x13 | .boardIn => 0x14 | .query => 0x15 | .restart => 0x16 | .resume => 0x17
  | .clearFrozen => 0x18 | .clearLog => 0x19 | .planBeacon => 0x1A | .result => 0x1C | .status => 0x1D
  | .refused => 0x1D | .unassigned c => c

/-- The access class of a kind (section 1.4); an unassigned kind has none (R9). -/
def Kind.accessClass : Kind → Option AccessClass
  | .claim | .shrink | .release | .object | .censusReq | .censusReply => some .safety
  | .take | .drop | .set | .landed | .start | .reading | .again | .beacon | .fault => some .work
  | .offer | .withdraw | .boardOut | .boardIn | .query | .restart | .resume | .clearFrozen | .clearLog
  | .planBeacon => some .plan
  | .result | .status | .refused => some .post
  | .unassigned _ => none

/-- The follow counts allowed (R22, section 10.3); an OFFER is handed on with any. -/
def Kind.followAllowed : Kind → Nat → Bool
  | .claim, n | .shrink, n | .object, n | .reading, n | .result, n => n == 3
  | .release, n | .censusReq, n | .query, n => n == 0
  | .censusReply, n => n == 3 || n == 6 || n == 9 || n == 12
  | .set, n => n == 1 || n == 2
  | .offer, _ | .planBeacon, _ => true
  | .status, n => decide (1 ≤ n) && decide (n ≤ 15)
  | .unassigned _, _ => false
  | _, n => n == 1

/-- The motion state codes (section 10.3). -/
def MotionState.code : MotionState → Nat
  | .offline => 0 | .joining => 1 | .parked => 2 | .idle => 3 | .claiming => 4 | .waitSpace => 5 | .travel => 6
  | .descend => 7 | .landed => 8 | .measure => 9 | .hold => 10 | .lift => 11 | .parking => 12 | .frozen => 13

/-- The motion state of a code; 14 and 15 name none (R197). -/
def motionOfCode : Nat → Option MotionState
  | 0 => some .offline | 1 => some .joining | 2 => some .parked | 3 => some .idle | 4 => some .claiming
  | 5 => some .waitSpace | 6 => some .travel | 7 => some .descend | 8 => some .landed | 9 => some .measure
  | 10 => some .hold | 11 => some .lift | 12 => some .parking | 13 => some .frozen | _ => none

def sideBit : Side → Nat
  | .top => 0
  | .bottom => 1

def sideOfBit (n : Nat) : Side := if n = 0 then .top else .bottom

def claimKindBit : ClaimKind → Nat
  | .standing => 0
  | .travel => 1

def DropReason.code : DropReason → Nat
  | .space => 0 | .late => 1 | .unplaced => 2 | .partnerLost => 3 | .planLost => 4 | .fault => 5 | .holdExpired => 6

/-- The reason of a DROP's code; 7 names none (R197). -/
def dropReasonOfCode : Nat → Option DropReason
  | 0 => some .space | 1 => some .late | 2 => some .unplaced | 3 => some .partnerLost | 4 => some .planLost
  | 5 => some .fault | 6 => some .holdExpired | _ => none

def Verdict.code : Verdict → Nat
  | .pass => 0 | .low => 1 | .high => 2 | .isOpen => 3 | .leak => 4 | .isOver => 5 | .noContact => 6 | .missing => 7

def JoinState.code : JoinState → Nat
  | .notStarted => 0 | .listen => 1 | .census => 2 | .placing => 3 | .complete => 4 | .failed => 5

def MemberState.code : MemberState → Nat
  | .taken => 0 | .formed => 1 | .moving => 2 | .landed => 3 | .measuring => 4 | .hold => 5

def jobKindOfCode : Nat → JobKind
  | 0 => .cont | 1 => .kelvin | 2 => .diode | _ => .isol

/-- The number of points, and of roles, of a job kind (section 3.1). -/
def JobKind.points : JobKind → Nat
  | .kelvin => 4
  | _ => 2

/-- The tip class of a point's code; 3 names none (R51). -/
def tipOfCode : Nat → Option TipClass
  | 0 => some .fine | 1 => some .standard | 2 => some .any | _ => none

/-- The fence mode as BEACON and the FAULT answer carry it, 7 for none (section 10.3; log entry 21). -/
def fenceCode : Option Nat → Nat
  | none => 7
  | some m => m

/-- A rectangle as the fields of a rectangle block without its spare byte (section 10.3). -/
def rectFields (r : Rect) : List (Nat × Nat) := [(16, r.xmin), (16, r.xmax), (16, r.ymin), (16, r.ymax)]

/-- The rectangle of the `i`-th rectangle block of a frame. -/
def bodyRect (ws : List DataWord) (i : Nat) : Rect :=
  { xmin := bodyField ws (72 * i) 16, xmax := bodyField ws (72 * i + 16) 16
    ymin := bodyField ws (72 * i + 32) 16, ymax := bodyField ws (72 * i + 48) 16 }

/-- The spare byte of the `i`-th rectangle block of a frame. -/
def bodySpare (ws : List DataWord) (i : Nat) : Nat := bodyField ws (72 * i + 64) 8

/-- A rectangle whose minima lie below its maxima (R93, R197). -/
def Rect.proper (r : Rect) : Bool := decide (r.xmin < r.xmax) && decide (r.ymin < r.ymax)

/-- The header word of a frame (section 10.1). -/
def Wire.header (w : Wire) : DataWord :=
  w.kind ++ w.src ++ w.dst ++ BitVec.ofNat 4 w.body.length ++ w.aux

/-- The coded words of a frame, header first (R1, R196). -/
def Wire.code (w : Wire) : List CodedWord := encodeWord w.header :: w.body.map encodeWord

/-- The kind, source and follow count of a header word. -/
def headerKind (d : DataWord) : Nat := d.toNat / 2 ^ 19 % 32
def headerSource (d : DataWord) : Nat := d.toNat / 2 ^ 15 % 16

end Sys2Proof.Machine
end

