-- ==== Sys2Proof/Machine/Operands.lean ====
section
/-! DEFINITION. The fields of the frames received, by kind (section 10.3), the value checks LIF makes on them (R197), the
validation code (R21), and the reading of the configuration record (R29, R30, section 10.4). -/

namespace Sys2Proof.Machine

open Sys2Proof (RxFrame)

/-! ## Fields of received frames -/

/-- The job number in the first following word: bits 23 to 12. -/
def rxJob (f : RxFrame) : Nat := bodyField f.body 0 12

/-- The claim ordinal carried in aux bits 6 to 1. -/
def rxOrdinal (f : RxFrame) : Nat := auxField f.aux 1 6

/-- The side carried in aux bit 0 (RELEASE, OBJECT, CENSUS_REQ, CENSUS_REPLY). -/
def rxAuxSide (f : RxFrame) : Side := sideOfBit (auxField f.aux 0 1)

/-- The side carried in the spare byte of a CLAIM or SHRINK. -/
def rxRectSide (f : RxFrame) : Side := sideOfBit (bodyField f.body 64 1)

/-- The rectangle of a CLAIM, SHRINK or OBJECT. -/
def rxRect (f : RxFrame) : Rect := bodyRect f.body 0

/-- The claimant and the owner of an OBJECT. -/
def rxClaimant (f : RxFrame) : Nat := bodyField f.body 64 4
def rxOwner (f : RxFrame) : Nat := bodyField f.body 68 4

/-- The held rectangle of a CENSUS_REPLY, if any. Bit 7 clear alone makes the block empty, which the spec does not say of one
whose rectangle words are not 0 (section 10.3, R197; log entry 55). -/
def rxReplyHeld (f : RxFrame) : Option Rect := if bodyField f.body 64 1 = 1 then some (bodyRect f.body 0) else none

/-- The frozen notes of a CENSUS_REPLY: owner and rectangle, in the order sent. -/
def rxNotesFrom (f : RxFrame) : Nat → Nat → List (Nat × Rect)
  | _, 0 => []
  | i, n + 1 => (bodyField f.body (72 * i + 64) 4, bodyRect f.body i) :: rxNotesFrom f (i + 1) n

def rxNotes (f : RxFrame) : List (Nat × Rect) := rxNotesFrom f 1 (f.body.length / 3 - 1)

/-- TAKE: role and catch flag. -/
def rxTakeRole (f : RxFrame) : Nat := auxField f.aux 1 2
def rxTakeCatch (f : RxFrame) : Bool := auxField f.aux 0 1 == 1

/-- DROP: reason and lost station. -/
def rxDropReason (f : RxFrame) : Option DropReason := dropReasonOfCode (auxField f.aux 0 3)
def rxLost (f : RxFrame) : Nat := bodyField f.body 12 4

/-- SET: the takers of its roles. -/
def rxSetCount (f : RxFrame) : Nat := auxField f.aux 0 3
def rxSetTakers (f : RxFrame) : List Nat :=
  let two := [bodyField f.body 12 4, bodyField f.body 16 4]
  if rxSetCount f = 4 then two ++ [bodyField f.body 20 4, bodyField f.body 24 4] else two

/-- LANDED: role, pass and NOCONTACT. -/
def rxLandedRole (f : RxFrame) : Nat := auxField f.aux 3 2
def rxLandedPass (f : RxFrame) : Nat := auxField f.aux 1 2
def rxNoContact (f : RxFrame) : Bool := auxField f.aux 0 1 == 1

/-- START: pass. AGAIN: kind and new pass. -/
def rxPass (f : RxFrame) : Nat := auxField f.aux 0 2
def rxRepeat (f : RxFrame) : Bool := auxField f.aux 2 1 == 1

/-- READING. -/
def rxReadingRole (f : RxFrame) : Nat := auxField f.aux 5 2
def rxReadingPass (f : RxFrame) : Nat := auxField f.aux 3 2
def rxReading (f : RxFrame) : Reading :=
  { volt := signed 24 (bodyField f.body 24 24), amp := signed 24 (bodyField f.body 48 24)
    isOver := auxField f.aux 2 1 == 1, compliance := auxField f.aux 1 1 == 1, lifted := auxField f.aux 0 1 == 1 }

/-- BEACON (section 10.3). -/
def rxBeaconMotion (f : RxFrame) : Nat := bodyField f.body 0 4
def rxBeaconOrdinal (f : RxFrame) : Nat := bodyField f.body 9 6
def rxBeaconFence (f : RxFrame) : Nat := bodyField f.body 15 3
def rxBeaconSide (f : RxFrame) : Side := sideOfBit (bodyField f.body 18 1)

/-- The fence mode of a BEACON, 7 for none. -/
def fenceOfCode (n : Nat) : FenceReport := if n = 7 then .noFence else .mode n

/-- FAULT: the mode entered, and the motion state code. -/
def rxFaultMode (f : RxFrame) : Nat := auxField f.aux 0 2

/-- The fault code a FAULT carries (section 10.3). -/
def rxFaultCode (f : RxFrame) : Nat := bodyField f.body 0 8
def rxFaultMotion (f : RxFrame) : Nat := bodyField f.body 8 4

/-- RESULT: its board number. -/
def rxResultBoard (f : RxFrame) : Nat := bodyField f.body 12 5

/-- STATUS: its item, and the motion state of an IDENTITY answer, which stands behind item and selector (8 bits), station
and side (5), the configuration summary (277) and the self-test result and join state (8) (R172). -/
def rxStatusItem (f : RxFrame) : Nat := bodyField f.body 0 4
def rxStatusMotion (f : RxFrame) : Nat := bodyField f.body 298 4

/-- BOARD_IN: board. CLEAR_FROZEN: station. QUERY: item and selector. -/
def rxBoard (f : RxFrame) : Nat := bodyField f.body 12 5
def rxFrozenStation (f : RxFrame) : Nat := bodyField f.body 12 4
def rxItem (f : RxFrame) : Nat := auxField f.aux 4 3
def rxSelector (f : RxFrame) : Nat := auxField f.aux 0 4

/-! ## OFFER (R51) -/

/-- The point at index `i` of an OFFER; `none` where its tip class names none. -/
def rxPoint (f : RxFrame) (i : Nat) : Option Point :=
  let at0 := 96 + 48 * i
  (tipOfCode (bodyField f.body (at0 + 17) 2)).map fun t =>
    { x := bodyField f.body at0 16, y := bodyField f.body (at0 + 24) 16,
      side := sideOfBit (bodyField f.body (at0 + 16) 1), tip := t }

def rxPointsFrom (f : RxFrame) : Nat → Nat → Option (List Point)
  | _, 0 => some []
  | i, n + 1 =>
    match rxPoint f i, rxPointsFrom f (i + 1) n with
    | some p, some ps => some (p :: ps)
    | _, _ => none

/-- The largest stimulus code of a kind (section 3.1). -/
def maxStimulus : JobKind → Nat
  | .isol => 2
  | _ => 4

/-- The offer of an OFFER frame, `none` where it is malformed (R51). -/
def rxOffer (f : RxFrame) : Option Offer :=
  let kind := jobKindOfCode (auxField f.aux 5 2)
  let job := rxJob f
  let stim := bodyField f.body 20 3
  if job = 0 ∨ f.body.length ≠ 4 + 2 * kind.points ∨ maxStimulus kind < stim then none
  else
    match rxPointsFrom f 0 kind.points with
    | none => none
    | some ps =>
      if ps.all fun p => decide (p.x ≤ 60000) && decide (p.y ≤ 60000) then
        some
          { job := job, board := bodyField f.body 12 5, kind := kind, priority := auxField f.aux 3 2
            budget := auxField f.aux 1 2, stimulus := stim, settle := bodyField f.body 24 8
            sample := bodyField f.body 17 3, low := BitVec.ofNat 24 (bodyField f.body 48 24)
            high := BitVec.ofNat 24 (bodyField f.body 72 24), points := ps }
      else none

/-! ## Checks made by LIF -/

/-- The frame's station numbers as head numbers. -/
def isHead (n : Nat) : Bool := decide (1 ≤ n) && decide (n ≤ 8)

/-- The field values LIF accepts for each kind (R197; of the empty held block of a CENSUS_REPLY, log entry 55). -/
def fieldsOk (k : Kind) (f : RxFrame) : Bool :=
  match k with
  | .drop =>
    match rxDropReason f with
    | none => false
    | some .partnerLost => isHead (rxLost f)
    | some _ => true
  | .beacon =>
    (motionOfCode (rxBeaconMotion f)).isSome && (decide (rxBeaconFence f ≤ 3) || rxBeaconFence f == 7)
  | .fault => (motionOfCode (rxFaultMotion f)).isSome
  | .set => (rxSetCount f == 2 && f.body.length == 1) || (rxSetCount f == 4 && f.body.length == 2)
  | .claim | .shrink => (rxRect f).proper
  | .object => (rxRect f).proper && isHead (rxClaimant f) && isHead (rxOwner f)
  | .censusReply =>
    (match rxReplyHeld f with | some r => r.proper | none => true) &&
      (rxNotes f).all fun n => isHead n.1 && n.2.proper
  | .boardIn => rxBoard f != 0
  | .result => rxResultBoard f != 0
  | _ => true

/-- The source fits the kind (R20). -/
def sourceOk (k : Kind) (src : Nat) : Bool :=
  match k.accessClass with
  | some .plan => src == 0
  | some _ => decide (1 ≤ src) && decide (src ≤ 8)
  | none => decide (src ≤ 8)

/-- The validation code of a destination (R21). -/
def validationCode (dst : BitVec 4) : Nat := Nat.xor 0xC35 (dst.toNat * 0x111) % 4096

/-- The frame's validation code is that of its destination (R21). -/
def codeOk (f : RxFrame) : Bool := bodyField f.body 0 12 == validationCode f.dst

/-! ## Configuration record (R29, R30) -/

/-- Byte `i` of the record; a PROM that does not answer, or has no such byte, reads as 0xFF. -/
def promByte (prom : Option (List Byte)) (i : Nat) : Byte := ((prom.getD [])[i]?).getD 0xFF

/-- A 16-bit field, most significant byte first. -/
def promWord (prom : Option (List Byte)) (i : Nat) : Nat :=
  (promByte prom i).toNat * 256 + (promByte prom (i + 1)).toNat

/-- One byte into the CRC of polynomial 0x1021, most significant bit first (R29). -/
def crcBits : Nat → BitVec 16 → BitVec 16
  | 0, c => c
  | n + 1, c => crcBits n (if c.msb then (c <<< 1) ^^^ 0x1021#16 else c <<< 1)

def crcByte (c : BitVec 16) (b : Byte) : BitVec 16 := crcBits 8 (c ^^^ (b ++ (0 : Byte)))

/-- The CRC of bytes, from the initial value 0xFFFF (R29). -/
def crc16 (bs : List Byte) : BitVec 16 := bs.foldl crcByte 0xFFFF

/-- The first `n` bytes of the record. -/
def promBytes (prom : Option (List Byte)) : Nat → List Byte
  | 0 => []
  | n + 1 => promBytes prom n ++ [promByte prom n]

/-- The record passes the four checks made on it as stored (R29). -/
def recordOk (prom : Option (List Byte)) : Bool :=
  let w := promWord prom
  (crc16 (promBytes prom 38)).toNat == w 38 && promByte prom 0 == 0x31#8 &&
    decide (w 1 < w 3 ∧ w 3 ≤ 60000 ∧ w 5 < w 7 ∧ w 7 ≤ 60000) &&
    decide (w 25 < w 23 ∧ w 27 < w 25)

/-- A clamped field with the value an erased field takes (R30). -/
def clampOrErased (erased value lo hi n : Nat) : Nat := if n = erased then value else clampNat lo hi n

/-- The configuration a record gives, field by field (R30); `none` where it is CONFIG_BAD (R29). -/
def readRecord (prom : Option (List Byte)) : Option ConfigRecord :=
  if recordOk prom then
    let w := promWord prom
    let b (i : Nat) : Nat := (promByte prom i).toNat
    some
      { reachXmin := w 1, reachXmax := w 3, reachYmin := w 5, reachYmax := w 7, parkX := w 9, parkY := w 11
        exn := clampNat 0 4000 (w 13), exp := clampNat 0 4000 (w 15)
        eyn := clampNat 0 4000 (w 17), eyp := clampNat 0 4000 (w 19)
        m := clampNat 8 1000 (w 21), zt := w 23, zs := w 25, zo := w 27
        tipStandard := b 29 != 0, catchFlag := b 30 != 0, fenceMode := min (b 31) 3
        takeWindow := clampOrErased 0xFFFF 100 10 1000 (w 32)
        spaceWait := clampOrErased 0xFFFF 500 100 2000 (w 34)
        idlePark := clampOrErased 0xFF 5 0 60 (b 36)
        postBurst := clampNat 0 200 (b 37) }
  else none

/-- The fields of a head with no record in use read 0 (R172); the post burst limit is then 0 (R29). -/
def ConfigRecord.zero : ConfigRecord :=
  { reachXmin := 0, reachXmax := 0, reachYmin := 0, reachYmax := 0, parkX := 0, parkY := 0, exn := 0, exp := 0
    eyn := 0, eyp := 0, m := 0, zt := 0, zs := 0, zo := 0, tipStandard := false, catchFlag := false, fenceMode := 0
    takeWindow := 0, spaceWait := 0, idlePark := 0, postBurst := 0 }

end Sys2Proof.Machine
end

