-- ==== Sys2Proof/Config.lean ====
section
/-! DEFINITION. What the manual leaves open and the part decides, as free values without a body. The configuration
record the part reads at power-on is not here: it is state (`Machine.ConfigRecord`). -/

namespace Sys2Proof

/-- R178: "Two reports can arrive together ... Either may be taken first." One drive REPORT can carry the fault flag and
lie outside the claimed region at once. For the n-th such REPORT this free value says whether DRIVE_FAULT is taken
before CORRIDOR_BREACH (log entry 1). -/
opaque Config.driveFaultFirst : Nat → Bool

/-- R196: "LIF begins the first sync of a frame by driving the line to the level opposite the level it reads when it starts."
The level of the undriven line is not the part's, and "the idle polarity of the lane does not matter" (R1). For the n-th start
of a frame this free value says whether LIF reads the high level (log entry 53). -/
opaque Config.lineLevel : Nat → Bool

end Sys2Proof
end

