-- ==== Sys2Proof/Machine/Wave.lean ====
section
/-! DEFINITION. The line levels of the lane words (R1, R196): the syncs and Manchester bits LIF drives, and what a receiver reads
from them. A level is `true` for high, and stands for half a bit time, 62.5 ns. -/

namespace Sys2Proof.Machine

open Sys2Proof (CodedWord)

/-! ## Sending -/

/-- A sync that starts at a level: 2.5 bit times of it, then 1.5 of the other (R1). -/
def syncLevels (first : Bool) : List Bool := List.replicate 5 first ++ List.replicate 3 (!first)

/-- A bit, with its transition at the middle: high to low for a 1, low to high for a 0 (R1). -/
def bitLevels (b : Bool) : List Bool := [b, !b]

/-- The bits of a coded word in the order sent, the most significant first (R1). -/
def wordBits (w : CodedWord) : List Bool := (List.range 30).map fun i => w.getLsbD (29 - i)

/-- The levels of a word, 34 bit times (R1). -/
def wordLevels (first : Bool) (w : CodedWord) : List Bool := syncLevels first ++ (wordBits w).flatMap bitLevels

/-- The levels of the words of a frame, without a gap between them (R1); `first i` is the level word `i` starts its sync
with. -/
def lineLevels (first : Nat → Bool) : List CodedWord → List Bool
  | [] => []
  | w :: ws => wordLevels (first 0) w ++ lineLevels (fun i => first (i + 1)) ws

/-- The level LIF starts the sync of word `i` of a frame with: of the first, the one opposite the level it reads; of a later
one, the one opposite the second half of the bit before it, which is the value of that bit (R196). -/
def syncStart (read : Bool) (ws : List CodedWord) : Nat → Bool
  | 0 => !read
  | i + 1 => (ws.getD i 0).getLsbD 0

/-- The levels LIF drives for the frame on the lane, from the first level of its sync to its frame end (R1, R11, R196). -/
def Tx.levels (t : Tx) : List Bool := lineLevels (syncStart (Config.lineLevel t.draw) t.coded) t.coded

/-- What LIF drives: nothing while it does not transmit (R1). -/
def State.driven (s : State) : Option (List Bool) := s.lif.tx.map Tx.levels

/-! ## Receiving -/

/-- The values of bits from the directions of their mid-bit transitions; `none` at a Manchester violation (R1). -/
def readBits : List Bool → Option (List Bool)
  | [] => some []
  | [_] => none
  | a :: b :: rest => if a = b then none else (readBits rest).map (a :: ·)

/-- A word from 30 bits, the most significant first. -/
def bitsWord (bits : List Bool) : CodedWord := bits.foldl (fun w b => w.shiftConcat b) 0

/-- The levels begin with a sync, which may start at either level (R1). -/
def startsSync (levels : List Bool) : Bool := levels.take 8 == syncLevels true || levels.take 8 == syncLevels false

/-- A word from its 34 bit times: a sync that starts at either level, then 30 bits; `none` where the sync is missing or a bit
violates (R1, R7). -/
def readWord (levels : List Bool) : Option CodedWord :=
  if startsSync levels then
    match readBits (levels.drop 8) with
    | some bits => if bits.length = 30 then some (bitsWord bits) else none
    | none => none
  else none

/-- The half bit times of a word (R1). -/
def wordHalves : Nat := 68

/-- Up to `n` words from the levels of a line, and whether all of them were read: the reading ends at a violation, which a
missing sync is, or where the line goes quiet (R1, R7). -/
def readWords : Nat → List Bool → List CodedWord × Bool
  | 0, _ => ([], true)
  | n + 1, levels =>
    match readWord (levels.take wordHalves) with
    | some w =>
      let rest := readWords n (levels.drop wordHalves)
      (w :: rest.1, rest.2)
    | none => ([], false)

end Sys2Proof.Machine
end

