-- ==== Sys2Proof/Decode.lean ====
section
/-! DEFINITION. Commands and the words of the lane: the command that the words of a frame spell (R4, R5, sections 10.1 to
10.3), the words of a command that is a frame, and the host's decoder of table words. The opcode table gives its rows no
bits, so no table word spells a command. -/

namespace Sys2Proof

open Sys2Proof.Machine

/-- The opcode table gives no row any bits: no word spells a command. -/
def decodeTableWord (_nbits _w : Nat) : Option Instr := none

/-! ## The words of a frame -/

/-- The kind and the frame of a command that is a frame reaching its frame end. -/
def Instr.frame? : Instr → Option (Kind × RxFrame)
  | .offer f => some (.offer, f) | .withdraw f => some (.withdraw, f) | .take f => some (.take, f)
  | .set f => some (.set, f) | .drop f => some (.drop, f) | .landed f => some (.landed, f)
  | .start f => some (.start, f) | .reading f => some (.reading, f) | .again f => some (.again, f)
  | .result f => some (.result, f) | .beacon f => some (.beacon, f) | .fault f => some (.fault, f)
  | .status f => some (.status, f) | .refused f => some (.refused, f) | .planBeacon f => some (.planBeacon, f)
  | .claim f => some (.claim, f) | .shrink f => some (.shrink, f) | .release f => some (.release, f)
  | .object f => some (.object, f) | .censusReq f => some (.censusReq, f)
  | .censusReply f => some (.censusReply, f) | .boardOut f => some (.boardOut, f)
  | .boardIn f => some (.boardIn, f) | .restart f _ => some (.restart, f) | .resume f => some (.resume, f)
  | .clearFrozen f => some (.clearFrozen, f) | .clearLog f => some (.clearLog, f) | .query f => some (.query, f)
  | .unassignedKindFrame c f => some (.unassigned c.toNat, f)
  | _ => none

/-- The header word of a frame (section 10.1). -/
def RxFrame.header (k : Kind) (f : RxFrame) : DataWord :=
  BitVec.ofNat 5 k.code ++ f.src ++ f.dst ++ BitVec.ofNat 4 f.body.length ++ f.aux

/-- The words of a frame as sent without an error, header first. -/
def frameWords (k : Kind) (f : RxFrame) : List CodedWord := encodeWord (f.header k) :: f.body.map encodeWord

/-- The command of a kind code (section 10.2); STATUS and REFUSED are told apart by aux bit 6. A RESTART is given no PROM. -/
def commandOf (code : Nat) (f : RxFrame) : Instr :=
  match code with
  | 0x01 => .claim f | 0x02 => .shrink f | 0x03 => .release f | 0x04 => .object f | 0x05 => .censusReq f
  | 0x06 => .censusReply f | 0x08 => .take f | 0x09 => .drop f | 0x0A => .set f | 0x0B => .landed f
  | 0x0C => .start f | 0x0D => .reading f | 0x0E => .again f | 0x0F => .beacon f | 0x10 => .fault f
  | 0x11 => .offer f | 0x12 => .withdraw f | 0x13 => .boardOut f | 0x14 => .boardIn f | 0x15 => .query f
  | 0x16 => .restart f none | 0x17 => .resume f | 0x18 => .clearFrozen f | 0x19 => .clearLog f
  | 0x1A => .planBeacon f | 0x1C => .result f
  | 0x1D => if f.aux.getLsbD 6 then .refused f else .status f
  | _ => .unassignedKindFrame (BitVec.ofNat 5 code) f

/-- The data of received words with the positions of those that were corrected; `none` at an uncorrectable word (R5). -/
def decodeBody : Nat → List CodedWord → Option (List DataWord × List (Nat × CodedWord))
  | _, [] => some ([], [])
  | i, w :: ws =>
    match decodeWord w, decodeBody (i + 1) ws with
    | .clean d, some (ds, es) => some (d :: ds, es)
    | .corrected d _, some (ds, es) => some (d :: ds, (i, w) :: es)
    | _, _ => none

/-- The command that the words of a frame spell; `none` where a word is uncorrectable, or the follow count of the header is
not met (R4). -/
def commandOfWords (ws : List CodedWord) : Option Instr :=
  match decodeBody 0 ws with
  | some (h :: body, errors) =>
    if h.toNat / 2 ^ 7 % 16 = body.length then
      some (commandOf (headerKind h)
        { src := h.extractLsb' 15 4, dst := h.extractLsb' 11 4, aux := h.extractLsb' 0 7, body := body
          errors := errors })
    else none
  | _ => none

/-! ## The levels of a frame -/

/-- The words of a frame up to its first uncorrectable one; `none` where there is none (R6). -/
def upToBad : List CodedWord → Option (List CodedWord)
  | [] => none
  | w :: ws => if decodeWord w = .uncorrectable then some [w] else (upToBad ws).map (w :: ·)

/-- The command of the levels that come in, from their first transition, on a line that was quiet: LINE_NOISE where they begin
no valid sync (R3); else a frame, the row of its kind where it stays intact, FRAME_SPOILED at an uncorrectable word and
FRAME_BROKEN at a violation or an early end without one (R1, R4 to R7). -/
def commandOfLevels (levels : List Bool) : Instr :=
  if !startsSync levels then .lineNoise
  else
  match readWord (levels.take wordHalves) with
  | none => .frameBroken []
  | some h =>
    match decodeWord h with
    | .uncorrectable => .frameSpoiled [h] .consumed
    | .clean d | .corrected d _ =>
      let follow := readWords (d.toNat / 2 ^ 7 % 16) (levels.drop wordHalves)
      let words := h :: follow.1
      match upToBad words with
      | some bad => .frameSpoiled bad (if follow.2 then .consumed else .violated)
      | none => if follow.2 then (commandOfWords words).getD (.frameBroken words) else .frameBroken words

end Sys2Proof
end

