-- ==== Sys2Proof/Machine/Flags.lean ====
section
/-! DEFINITION. The arithmetic of measurement: sample flags (R151), readings (R153), result conditions and values
(R158 to R160), limits (R161), verdicts (R162) and the next step (R163). -/

namespace Sys2Proof.Machine

/-- A quotient rounded half away from zero (R153): twice the remainder against the divisor, the sign given back. -/
def roundQuot (num : Int) (den : Nat) : Int :=
  let m := num.natAbs
  let q := m / den + (if den ≤ 2 * (m % den) then 1 else 0)
  if num < 0 then -(q : Int) else (q : Int)

/-- The stimulus of an offer's kind and code (R148). -/
def stimulusOf (kind : JobKind) (code : Nat) : Stimulus :=
  match kind with
  | .isol => .voltage (match code with | 0 => 1000000 | 1 => 2000000 | _ => 4000000)
  | _ => .current (match code with | 0 => 1000 | 1 => 10000 | 2 => 100000 | 3 => 1000000 | _ => 5000000)

/-- The front-end setting of a role (R147). -/
def frontEndOf (role : Nat) : FrontEnd :=
  match role with
  | 0 => .force
  | 1 => .ret
  | _ => .sense

/-- The end of the voltage converter's range, in µV (R150). -/
def voltEnd : Int := 5000000

/-- The end of the current converter's range, in nA (R150). -/
def ampEnd : Int := 8000000

/-- A voltage sample sets OVER (R151). -/
def voltOver (v : Int) : Bool := decide (v = -voltEnd) || decide (v = voltEnd)

/-- A current sample sets OVER (R151). -/
def ampOver (i : Int) : Bool := decide (i = -ampEnd) || decide (i = ampEnd)

/-- One sample at a role setting, the stimulus being a current or not (R150, R151). A converter returns the end of its
range for an input beyond it. -/
def addSample (setting : FrontEnd) (stim : Stimulus) (volt amp : Int) (a : Accumulator) : Accumulator :=
  let v := clampInt (-voltEnd) voltEnd volt
  let i := clampInt (-ampEnd) ampEnd amp
  let comp := match setting, stim with
    | .force, .current _ => decide (4900000 ≤ v.natAbs)
    | _, _ => false
  match setting with
  | .off => a
  | .sense => { a with volts := a.volts + v, count := a.count + 1, isOver := a.isOver || voltOver v }
  | _ => { a with volts := a.volts + v, amps := a.amps + i, count := a.count + 1,
                  isOver := a.isOver || voltOver v || ampOver i, compliance := a.compliance || comp }

/-- The reading of a window of `n` samples (R153). -/
def formReading (n : Nat) (setting : FrontEnd) (a : Accumulator) : Reading :=
  { volt := roundQuot a.volts n, amp := if setting = .sense then 0 else roundQuot a.amps n,
    isOver := a.isOver, compliance := a.compliance, lifted := a.lifted }

/-- The saturated value (section 7.4). -/
def saturated : Nat := 4294967295

/-- The value of a result and the conditions that go with it. -/
structure Computed where
  value   : Int
  neg     : Bool
  isOpen  : Bool
  leak    : Bool
  deriving DecidableEq, Repr

/-- A reading of a table that has the row; an absent row reads as zeros and is never asked for (R162: MISSING first). -/
def rowOf (rows : List (Option Reading)) (role : Nat) : Reading :=
  ((rows[role]?).join).getD { volt := 0, amp := 0, isOver := false, compliance := false, lifted := false }

/-- The resistance of a CONT or KELVIN job in mΩ and its NEG flag (R158). -/
def resistance (dv i : Int) : Int × Bool :=
  if i.natAbs < 100 then (saturated, false)
  else if (0 < dv ∧ i < 0) ∨ (dv < 0 ∧ 0 < i) then (0, true)
  else (min (roundQuot ((dv.natAbs * 1000000 : Nat) : Int) i.natAbs) saturated, false)

/-- The value and conditions of a complete reading table (R158 to R160). -/
def compute (kind : JobKind) (rows : List (Option Reading)) : Computed :=
  let f := rowOf rows 0
  let r := rowOf rows 1
  match kind with
  | .cont | .kelvin =>
    let dv := if kind = .kelvin then (rowOf rows 2).volt - (rowOf rows 3).volt else f.volt - r.volt
    let v := resistance dv r.amp
    { value := v.1, neg := v.2, isOpen := decide (r.amp.natAbs < 100) || f.compliance
      leak := decide (f.amp.natAbs < (f.amp - r.amp).natAbs * 16) }
  | .diode =>
    { value := f.volt - r.volt, neg := false, isOpen := f.compliance, leak := false }
  | .isol =>
    { value := if r.amp.natAbs < 10 then saturated else roundQuot ((f.volt - r.volt).natAbs : Int) r.amp.natAbs,
      neg := false, isOpen := false, leak := false }

/-- The comparison with the limits (R161): unsigned limits, signed ones for DIODE; ISOL uses the low limit alone. -/
def compareLimits (kind : JobKind) (low high : DataWord) (value : Int) : Verdict :=
  let lo : Int := if kind = .diode then low.toInt else low.toNat
  let hi : Int := if kind = .diode then high.toInt else high.toNat
  if value < lo then .low
  else if kind ≠ .isol ∧ hi < value then .high
  else .pass

/-- A row satisfies `p`. -/
def anyRow (rows : List (Option Reading)) (p : Reading → Bool) : Bool :=
  rows.any fun r => match r with | some x => p x | none => false

/-- The verdict, the value reported with it and NEG (R162). -/
def judge (kind : JobKind) (low high : DataWord) (rows : List (Option Reading)) : Verdict × Int × Bool :=
  if rows.any (·.isNone) then (.missing, 0, false)
  else if anyRow rows (·.lifted) then (.noContact, 0, false)
  else
    let c := compute kind rows
    let v : Verdict :=
      if anyRow rows (·.isOver) then .isOver
      else if c.isOpen then .isOpen
      else if c.leak then .leak
      else compareLimits kind low high c.value
    (v, c.value, c.neg)

/-- What the lead does after its decision (R163): `none` posts the result, `some repeated` sends AGAIN. -/
def nextStep (verdict : Verdict) (pass budget : Nat) : Option Bool :=
  if pass < budget then
    match verdict with
    | .isOpen | .noContact => some false
    | .missing => some true
    | _ => none
  else none

end Sys2Proof.Machine
end

