-- ==== Sys2Proof/Machine/Timing.lean ====
section
/-! DEFINITION. The lengths of time the manual gives, in nanoseconds. -/

namespace Sys2Proof.Machine

def us (n : Nat) : Nat := n * 1000
def ms (n : Nat) : Nat := n * 1000000

/-- R33. -/
def listenTime : Nat := ms 30
/-- R38. -/
def beaconPeriod : Nat := ms 10
/-- R39. -/
def silenceTime : Nat := ms 30
/-- R42. -/
def planLossTime : Nat := ms 1000
/-- R47, R122. -/
def restartLiftTime : Nat := ms 2000
/-- R17. -/
def stallSafetyTime : Nat := ms 2
/-- R17. -/
def stallWorkTime : Nat := ms 20
/-- R24. -/
def deafnessTime : Nat := ms 50
/-- R84. -/
def landingWaitTime : Nat := ms 2000
/-- R90. -/
def landingLimitTime : Nat := ms 2100
/-- R100, R101. -/
def objectionTime : Nat := us 200
/-- R111. -/
def censusTime : Nat := ms 5
/-- R122. -/
def driveSilenceTime : Nat := ms 2
/-- R184. -/
def restartWaitTime : Nat := ms 40
/-- The time of one lane word, 34 bit times of 125 ns (section 1.1, R1). -/
def wordTime : Nat := 4250
/-- The short gap of a post burst (R12). -/
def burstGap : Nat := us 1

/-- The base gap of an access class (section 1.4). -/
def AccessClass.baseGap : AccessClass → Nat
  | .safety => us 3
  | .work => us 8
  | .plan => us 13
  | .post => us 18

/-- The step of the rotation and of the backoff, 0.5 µs (R10, R11). -/
def gapStep : Nat := 500

/-- The backoff of a station after `k` consecutive collisions (R11). -/
def backoff (station k : Nat) : Nat :=
  if k = 0 then 0 else (station + 1) * gapStep * 2 ^ (min k 5 - 1)

/-- The rotation position of a station against a tracker (R9). -/
def rotation (station tracker : Nat) : Nat := (station + 17 - tracker) % 9

/-- The settle time of a settle code, 0 read as 1 (R51, R149). -/
def settleTime (code : Nat) : Nat := us (max code 1 * 50)

/-- The sample count of a sample code, 5 to 7 read as 4 (R51, R149). -/
def sampleCount (code : Nat) : Nat := 4 * 2 ^ min code 4

/-- The spacing of the samples (R149). -/
def sampleSpacing : Nat := us 10

/-- The time from the START frame end to the end of the window (R149). -/
def windowTime (settle sample : Nat) : Nat := settleTime settle + sampleCount sample * sampleSpacing

/-- The reading deadline, counted from the START frame end (R155). -/
def deadlineTime (settle sample : Nat) : Nat := windowTime settle sample + ms 5

/-- The hold limit, counted from the START frame end (R88). -/
def holdLimitTime (settle sample : Nat) : Nat := windowTime settle sample + ms 25

/-- The catch grace, in ms, of a take window in ms: a quarter of it, no less than 5 (R59). -/
def catchGraceMs (takeWindow : Nat) : Nat := max (takeWindow / 4) 5

end Sys2Proof.Machine
end

