-- ==== Sys2Proof/Machine/Access.lean ====
section
/-! DEFINITION. How the blocks read one another's state: the configuration, the roster, the claim map, the job table and
the memberships. -/

namespace Sys2Proof.Machine

/-! ## Things kept per head -/

/-- What is kept for head `n`; `none` outside 1 to 8. -/
def Heads.at? {α : Type} (h : Heads α) (n : Nat) : Option α :=
  match n with
  | 1 => some h.h1 | 2 => some h.h2 | 3 => some h.h3 | 4 => some h.h4
  | 5 => some h.h5 | 6 => some h.h6 | 7 => some h.h7 | 8 => some h.h8
  | _ => none

/-- What is kept for head `n`, replaced; nothing outside 1 to 8. -/
def Heads.put {α : Type} (h : Heads α) (n : Nat) (a : α) : Heads α :=
  match n with
  | 1 => { h with h1 := a } | 2 => { h with h2 := a } | 3 => { h with h3 := a } | 4 => { h with h4 := a }
  | 5 => { h with h5 := a } | 6 => { h with h6 := a } | 7 => { h with h7 := a } | 8 => { h with h8 := a }
  | _ => h

/-- A function on what is kept for every head. -/
def Heads.map {α β : Type} (h : Heads α) (f : α → β) : Heads β :=
  ⟨f h.h1, f h.h2, f h.h3, f h.h4, f h.h5, f h.h6, f h.h7, f h.h8⟩

/-- What is kept, with its station, in ascending station order. -/
def Heads.list {α : Type} (h : Heads α) : List (Nat × α) :=
  [(1, h.h1), (2, h.h2), (3, h.h3), (4, h.h4), (5, h.h5), (6, h.h6), (7, h.h7), (8, h.h8)]

/-! ## Configuration, position and situation -/

/-- The configuration in use, all 0 without a record (R172). -/
def State.cfg (s : State) : ConfigRecord := s.stc.config.getD .zero

/-- The head's station number as a source, 16 (no station) without one. -/
def State.own (s : State) : Nat := s.stc.station.getD 16

/-- The tip position last reported, 0 before the first REPORT (section 9.2, R172). -/
def State.tipX (s : State) : Nat := match s.msq.lastReport with | some r => r.x.toNat | none => 0
def State.tipY (s : State) : Nat := match s.msq.lastReport with | some r => r.y.toNat | none => 0
def State.tipZ (s : State) : Nat := match s.msq.lastReport with | some r => r.z.toNat | none => 0

/-- The HALT line is asserted: driven by another or by the head itself, which sees its own drive (section 9.5). -/
def State.halt (s : State) : Bool := s.pins.haltIn || s.flu.haltDrive

/-- A station restart is in its lift phase (R46). -/
def State.lifting (s : State) : Bool := s.stc.restart == .lifting

/-- The head is fenced in mode 2 or 3. -/
def State.fenced23 (s : State) : Bool := s.flu.fence == .silent || s.flu.fence == .haltAll

/-- The active fence mode shown (chapter 09). -/
def State.fenceMode (s : State) : Option Nat :=
  match s.flu.fence with
  | .noFence => none
  | .acting m => some m
  | .restartWait | .restarting => some 1
  | .silent => some 2
  | .haltAll => some 3

/-- The board number shown: n in ACTIVE(n), 0 otherwise. -/
def State.boardNumber (s : State) : Nat := match s.stc.board with | .active n => n | _ => 0

/-- The board state is ACTIVE. -/
def State.boardActive (s : State) : Bool := match s.stc.board with | .active _ => true | _ => false

/-- SCU and the blocks above it may offer SAFETY frames other than a census of a joining head: the head is not in LISTEN,
not OFFLINE, not silent, and not in the lift phase of a restart (R101, R109, R112). -/
def State.mayOffer (s : State) : Bool :=
  s.stc.join != .listen && s.msq.motion != .offline && !s.lif.silent && !s.lifting

/-! ## Counters -/

/-- A counter of 16 bits that holds at its end (R25). -/
def saturate16 (n : Nat) : Nat := if n < 65535 then n + 1 else n

/-- A counter of 8 bits that holds at its end (R75, R180). -/
def saturate8 (n : Nat) : Nat := if n < 255 then n + 1 else n

def State.onCounters (s : State) (f : Counters → Counters) : State :=
  s.onLif fun l => { l with counters := f l.counters }

/-- A frame discarded for cause (R22, R25). -/
def countDiscard (s : State) : State :=
  s.onCounters fun c => { c with discarded := saturate16 c.discarded }

/-! ## Roster (section 2.4) -/

/-- The roster entry of a station as the blocks see it; the head's own is kept PRESENT with its own side and state. -/
def State.rosterOf (s : State) (n : Nat) : RosterEntry :=
  if s.stc.station = some n then
    { presence := .present, side := some s.stc.side, motion := some s.msq.motion, fence := none, silence := none }
  else if n = 0 then s.stc.roster0
  else (s.stc.roster.at? n).getD .absent

/-- A change to the roster entry of a station other than the head itself. -/
def updRoster (n : Nat) (f : RosterEntry → RosterEntry) (s : State) : State :=
  if s.stc.station = some n then s
  else if n = 0 then s.onStc fun c => { c with roster0 := f c.roster0 }
  else match s.stc.roster.at? n with
    | some e => s.onStc fun c => { c with roster := c.roster.put n (f e) }
    | none => s

/-- A head other than this one whose roster side is this head's. -/
def State.sameSide (s : State) (n : Nat) : Bool :=
  isHead n && s.stc.station != some n && (s.rosterOf n).side == some s.stc.side

/-- Station 0 is PRESENT. -/
def State.planPresent (s : State) : Bool := (s.rosterOf 0).presence == .present

/-- The station counts toward the side count (R35). -/
def State.countsForSide (s : State) (n : Nat) : Bool :=
  let e := s.rosterOf n
  s.sameSide n && (e.presence == .present || e.presence == .lost) && e.motion != some .offline

/-- The side count (R35). -/
def State.sideCount (s : State) : Nat := ([1, 2, 3, 4, 5, 6, 7, 8].filter s.countsForSide).length

/-! ## Claim map (section 5.3) -/

/-- The slot of a station. -/
def State.slotOf (s : State) (n : Nat) : Slot := (s.scu.map.at? n).getD .empty

def putSlot (n : Nat) (sl : Slot) (s : State) : State := s.onScu fun c => { c with map := c.map.put n sl }

/-- The rectangles of a slot that count in the map, in the order of the search of R101 (R99). -/
def SlotHolds.rects : SlotHolds → List Rect
  | .empty => []
  | .held r => [r]
  | .heldPending h p _ _ => h.toList ++ [p]
  | .frozen h p => h.toList ++ p.toList

/-- The rectangles of the map with their owners, in the order of the search of R101. -/
def State.mapRects (s : State) : List (Nat × Rect) :=
  s.scu.map.list.flatMap fun p => p.2.holds.rects.map fun r => (p.1, r)

/-- A rectangle conflicts with the map (R93). -/
def State.conflictsMap (s : State) (r : Rect) : Bool := s.mapRects.any fun p => r.conflicts p.2

/-- The slot after its pending rectangle has left it without becoming held. -/
def SlotHolds.dropPending : SlotHolds → SlotHolds
  | .heldPending (some h) _ _ _ => .held h
  | .heldPending none _ _ _ => .empty
  | h => h

/-- The bounding rectangle of the rectangles of a FROZEN slot. -/
def frozenBound (held pending : Option Rect) : Option Rect :=
  match held, pending with
  | some a, p => some (a.boundingWith p)
  | none, p => p

/-! ## Job table (chapter 03) -/

/-- The entry of a job. -/
def State.entry? (s : State) (job : Nat) : Option Entry := s.jtb.entries.find? fun e => e.offer.job == job

/-- A change to the entry of a job. -/
def updEntry (job : Nat) (f : Entry → Entry) (s : State) : State :=
  s.onJtb fun t => { t with entries := t.entries.map fun e => if e.offer.job = job then f e else e }

/-- The entry of a job leaves the table (R60). -/
def dropEntry (job : Nat) (s : State) : State :=
  s.onJtb fun t => { t with entries := t.entries.filter fun e => e.offer.job != job }

/-- The entry is OPEN (R57). -/
def Entry.isOpen (e : Entry) : Bool := !e.formed && e.takers.all (·.isNone)

/-- The code of an entry's state: 0 OPEN, 1 FORMING, 2 FORMED (section 10.3, R57). -/
def Entry.stateCode (e : Entry) : Nat := if e.formed then 2 else if e.isOpen then 0 else 1

/-- The taker of a role. -/
def Entry.takerOf (e : Entry) (role : Nat) : Option Nat := (e.takers[role]?).join

/-- Every role has a taker. -/
def Entry.full (e : Entry) : Bool := e.takers.all (·.isSome)

/-- The station is recorded as a taker of some role. -/
def Entry.hasTaker (e : Entry) (station : Nat) : Bool := e.takers.any (· == some station)

/-- An untaken role is servable by the head. -/
def Entry.openServable (e : Entry) : Bool := (e.takers.zip e.servable).any fun p => p.1.isNone && p.2

/-! ## Memberships (section 4.4) -/

/-- The membership of the head in a job. -/
def State.member? (s : State) (job : Nat) : Option Membership :=
  match s.rvu.current with
  | some m => if m.job = job then some m else
      match s.rvu.next with
      | some n => if n.job = job then some n else none
      | none => none
  | none => none

/-- A change to the membership in a job. -/
def updMember (job : Nat) (f : Membership → Membership) (s : State) : State :=
  let g (m : Membership) : Membership := if m.job = job then f m else m
  s.onRvu fun r => { r with current := r.current.map g, next := r.next.map g }

/-- The lead flag (section 4.4). -/
def Membership.lead (m : Membership) : Bool := m.role == 0

/-- The head's lead membership in a job. -/
def State.leadMember? (s : State) (job : Nat) : Option Membership :=
  match s.member? job with
  | some m => if m.lead then some m else none
  | none => none

/-- The job of the current membership, 0 without one (section 9.2). -/
def State.currentJob (s : State) : Nat := match s.rvu.current with | some m => m.job | none => 0

end Sys2Proof.Machine
end

