-- ==== Sys2Proof/Machine/Answers.lean ====
section
/-! DEFINITION. What LIF fills in when it starts a frame's sync: the STATUS answers (R172 to R174) and the lane form of
every frame the head sends (R97, R113, R196, R197, sections 10.1 to 10.3). -/

namespace Sys2Proof.Machine

/-! ## Fields that can be absent (section 10.3) -/

/-- A quantity behind its presence bit; when absent its own bits are 0. -/
def optField (width : Nat) (q : Option Nat) : List (Nat × Nat) :=
  match q with
  | some v => [(1, 1), (width, v)]
  | none => [(1, 0), (width, 0)]

/-- A rectangle behind its presence bit. -/
def optRect (q : Option Rect) : List (Nat × Nat) :=
  match q with
  | some r => (1, 1) :: rectFields r
  | none => [(1, 0), (64, 0)]

/-! ## The items -/

/-- The self-test result's code (section 10.3). -/
def SelfTest.code : SelfTest → Nat
  | .notRun => 16
  | .done m d c z => 8 * bitNat m + 4 * bitNat d + 2 * bitNat c + bitNat z

/-- The board state's code (section 10.3). -/
def BoardState.code : BoardState → Nat
  | .noBoard => 0 | .active _ => 1 | .changing => 2

/-- The IDENTITY answer (R172; log entry 21). -/
def identityFields (s : State) : List (Nat × Nat) :=
  let c := s.cfg
  [(4, s.own), (1, sideBit s.stc.side), (1, bitNat s.stc.config.isSome),
   (16, c.reachXmin), (16, c.reachXmax), (16, c.reachYmin), (16, c.reachYmax), (16, c.parkX), (16, c.parkY),
   (16, c.exn), (16, c.exp), (16, c.eyn), (16, c.eyp), (16, c.m), (16, c.zt), (16, c.zs), (16, c.zo),
   (1, bitNat c.tipStandard), (1, bitNat c.catchFlag), (2, c.fenceMode), (16, c.takeWindow), (16, c.spaceWait),
   (8, c.idlePark), (8, c.postBurst), (5, s.stc.selfTest.code), (3, s.stc.join.code), (4, s.msq.motion.code),
   (2, s.stc.board.code), (5, s.boardNumber), (16, s.tipX), (16, s.tipY), (16, s.tipZ),
   (1, bitNat ((s.msq.lastReport.map (·.inPosition)).getD false)),
   (1, bitNat ((s.msq.lastReport.map (·.fault)).getD false))]

/-- The COUNTERS answer (R172). -/
def counterFields (s : State) : List (Nat × Nat) :=
  let c := s.lif.counters
  [(16, c.corrected), (16, c.spoiled), (16, c.broken), (16, c.collisions), (16, c.discarded), (16, c.late)] ++
  (match s.lif.checkLog.entry with
    | some e => [(1, 1), (5, e.syndrome), (1, bitNat e.parityWrong), (4, e.position), (5, e.kind), (4, e.source)]
    | none => [(1, 0), (19, 0)]) ++
  [(1, bitNat s.lif.checkLog.more)]

/-- The FAULT answer (R173; log entry 21). -/
def faultFields (s : State) : List (Nat × Nat) :=
  (match s.flu.record with
    | some r => [(1, 1), (8, r.code), (4, r.motion.code), (16, r.tipX), (16, r.tipY), (12, r.job), (5, r.board)]
    | none => [(1, 0), (61, 0)]) ++
  [(1, bitNat s.flu.second), (8, s.flu.count), (3, fenceCode s.fenceMode), (1, bitNat s.flu.faultN),
   (8, s.stc.offlineReason)]

/-- A slot's state code (section 10.3). -/
def SlotHolds.code : SlotHolds → Nat
  | .empty => 0 | .held _ => 1 | .heldPending .. => 2 | .frozen .. => 3

/-- The held claim behind its presence bit. -/
def heldFields (q : Option Claim) : List (Nat × Nat) :=
  match q with
  | some c => [(1, 1), (1, claimKindBit c.kind)] ++ rectFields c.rect
  | none => [(1, 0), (65, 0)]

/-- The pending claim behind its presence bit. -/
def pendingFields (q : Option PendingClaim) : List (Nat × Nat) :=
  match q with
  | some p =>
    [(1, 1), (1, match p.stage with | .queued => 0 | .window .. => 1), (1, claimKindBit p.claim.kind)] ++
      rectFields p.claim.rect
  | none => [(1, 0), (66, 0)]

/-- The CLAIMS answer of selector 0 (R173). -/
def claimFields (s : State) : List (Nat × Nat) :=
  heldFields s.scu.held ++ pendingFields s.scu.pending ++ [(6, s.scu.ordinal)] ++ optField 6 s.scu.lastGranted ++
  [(1, bitNat s.scu.doubt), (1, bitNat s.scu.censusPending), (1, bitNat s.scu.replyQueued)] ++
  s.scu.map.list.flatMap fun p => (2, p.2.holds.code) :: optField 6 p.2.lastOrdinal

/-- The CLAIMS answer of selectors 1 to 8 (R173). -/
def slotFields (sl : Slot) : List (Nat × Nat) :=
  [(2, sl.holds.code)] ++ optField 6 sl.lastOrdinal ++
  match sl.holds with
  | .empty => optRect none ++ optRect none
  | .held r => optRect (some r) ++ optRect none
  | .heldPending h p _ _ => optRect h ++ optRect (some p)
  | .frozen h p => optRect h ++ optRect p

/-- A membership behind its presence bit (R174). -/
def memberFields (q : Option Membership) : List (Nat × Nat) :=
  match q with
  | some m => [(1, 1), (12, m.job), (2, m.role), (1, bitNat m.lead), (3, m.state.code), (2, m.pass)]
  | none => [(1, 0), (20, 0)]

/-- The JOBS answer of selector 0 (R174). -/
def jobFields (s : State) : List (Nat × Nat) :=
  [(5, s.jtb.entries.length), (4, s.lif.post.length), (8, s.rvu.mismatches)] ++
  (match s.rvu.pending with
    | some p => [(1, 1), (12, p.job), (2, p.role)]
    | none => [(1, 0), (14, 0)]) ++
  memberFields s.rvu.current ++ memberFields s.rvu.next

/-- The set of servable roles as a number, bit i for role i (section 10.3). -/
def servableBits : List Bool → Nat
  | [] => 0
  | b :: bs => bitNat b + 2 * servableBits bs

/-- A table entry behind its presence bit (R174). -/
def entryFields (q : Option Entry) : List (Nat × Nat) :=
  match q with
  | some e =>
    let t (i : Nat) : Nat := (e.takerOf i).getD 0
    [(1, 1), (12, e.offer.job), (2, e.offer.priority), (2, e.stateCode), (4, servableBits e.servable),
     (4, t 0), (4, t 1), (4, t 2), (4, t 3)]
  | none => [(1, 0), (36, 0)]

/-- The JOBS answer of selectors 1 to 4: positions 6 × selector − 5 to 6 × selector (R174). -/
def pageFields (s : State) (selector : Nat) : List (Nat × Nat) :=
  [0, 1, 2, 3, 4, 5].flatMap fun i => entryFields (s.jtb.entries[6 * (selector - 1) + i]?)

/-- The item and selector are taken by a QUERY (section 8.2). -/
def itemTaken (item selector : Nat) : Bool :=
  match item with
  | 0 | 1 | 2 => selector == 0
  | 3 => decide (selector ≤ 8)
  | 4 => decide (selector ≤ 4)
  | _ => false

/-- The following words of a STATUS (R171 to R174). -/
def statusBody (s : State) (item selector : Nat) : List DataWord :=
  packFields <| [(4, item), (4, selector)] ++
    match item with
    | 0 => identityFields s
    | 1 => counterFields s
    | 2 => faultFields s
    | 3 => if selector = 0 then claimFields s else slotFields (s.slotOf selector)
    | _ => if selector = 0 then jobFields s else pageFields s selector

/-! ## The lane form of the head's frames -/

/-- The frozen notes of a CENSUS_REPLY: the FROZEN slots in ascending station order, the lowest three (R113). -/
def State.frozenNotes (s : State) : List (Nat × Rect) :=
  (s.scu.map.list.filterMap fun p =>
    match p.2.holds with
    | .frozen h q => (frozenBound h q).map fun r => (p.1, r)
    | _ => none).take 3

/-- The ordinal a claim-family frame carries (R97). -/
def State.nextOrdinal (s : State) : Nat := (s.scu.ordinal + 1) % 64

/-- The BEACON's word (R38, section 10.3). -/
def beaconFields (s : State) : List (Nat × Nat) :=
  [(4, s.msq.motion.code), (5, s.boardNumber), (6, s.scu.ordinal), (3, fenceCode s.fenceMode), (1, sideBit s.stc.side)]

/-- The rectangle blocks of a CENSUS_REPLY (R113, section 10.3). -/
def replyFields (s : State) : List (Nat × Nat) :=
  (match s.scu.held with
    | some c => rectFields c.rect ++ [(1, 1), (1, claimKindBit c.kind), (6, 0)]
    | none => [(64, 0), (8, 0)]) ++
  s.frozenNotes.flatMap fun n => rectFields n.2 ++ [(4, n.1), (4, 0)]

/-- Taker `i` of a list, 0 where the kind lacks the role (R197). -/
def takerAt (ts : List Nat) (i : Nat) : Nat := (ts[i]?).getD 0

/-- Kind, destination, aux fields and following words of a frame, its late-filled fields taken from the state (R97, R113,
R171). RESULT, STATUS and REFUSED go to station 0, every other kind to all (R19). -/
def frameParts (s : State) : TxFrame → Kind × Nat × List (Nat × Nat) × List DataWord
  | .claim k r => (.claim, 15, [(6, s.nextOrdinal), (1, claimKindBit k)],
      packFields (rectFields r ++ [(1, sideBit s.stc.side), (7, 0)]))
  | .shrink r => (.shrink, 15, [(6, s.nextOrdinal), (1, 0)],
      packFields (rectFields r ++ [(1, sideBit s.stc.side), (7, 0)]))
  | .release => (.release, 15, [(6, s.nextOrdinal), (1, sideBit s.stc.side)], [])
  | .object c o r w => (.object, 15, [(6, o), (1, sideBit s.stc.side)], packFields (rectFields r ++ [(4, c), (4, w)]))
  | .censusReq => (.censusReq, 15, [(6, 0), (1, sideBit s.stc.side)], [])
  | .censusReply => (.censusReply, 15, [(6, s.scu.ordinal), (1, sideBit s.stc.side)], packFields (replyFields s))
  | .take j r c => (.take, 15, [(4, 0), (2, r), (1, bitNat c)], packFields [(12, j)])
  | .drop j r l => (.drop, 15, [(4, 0), (3, r.code)], packFields [(12, j), (4, l)])
  | .set j ts => (.set, 15, [(4, 0), (3, ts.length)],
      if ts.length ≤ 2 then packFields [(12, j), (4, takerAt ts 0), (4, takerAt ts 1)]
      else packFields [(12, j), (4, takerAt ts 0), (4, takerAt ts 1), (4, takerAt ts 2), (4, takerAt ts 3)])
  | .landed j r p n => (.landed, 15, [(2, 0), (2, r), (2, p), (1, bitNat n)], packFields [(12, j)])
  | .start j p => (.start, 15, [(5, 0), (2, p)], packFields [(12, j)])
  | .reading j r p ov co li v i =>
      (.reading, 15, [(2, r), (2, p), (1, bitNat ov), (1, bitNat co), (1, bitNat li)],
        packFields [(12, j), (12, 0), (24, unsign 24 v), (24, unsign 24 i)])
  | .again j rep p => (.again, 15, [(4, 0), (1, bitNat rep), (2, p)], packFields [(12, j)])
  | .beacon => (.beacon, 15, [(7, s.stc.offlineReason)], packFields (beaconFields s))
  | .fault c m mo j => (.fault, 15, [(5, 0), (2, m)], packFields [(8, c), (4, mo.code), (12, j)])
  | .result r =>
      (.result, 0, [(3, r.verdict.code), (2, r.passesUsed - 1), (1, bitNat r.neg), (1, 0)],
        packFields [(12, r.job), (5, r.board), (7, 0), (32, r.value.toNat), (4, takerAt r.members 0),
          (4, takerAt r.members 1), (4, takerAt r.members 2), (4, takerAt r.members 3)])
  | .status i sel => (.status, 0, [(7, 0)], statusBody s i sel)
  | .refused u k a d => (.refused, 0, [(1, 1), (5, 0), (1, bitNat u)], packFields [(5, k), (7, a.toNat), (4, d)])

/-- The frame as LIF drives it. -/
def fillFrame (s : State) (f : TxFrame) : Wire :=
  let p := frameParts s f
  { kind := BitVec.ofNat 5 p.1.code, src := BitVec.ofNat 4 s.own, dst := BitVec.ofNat 4 p.2.1
    aux := BitVec.ofNat 7 (packNat p.2.2.1).2, body := p.2.2.2 }

/-! ## Drive link messages (section 10.5) -/

/-- The bytes of a number, the most significant first. -/
def bytesOf (v : Nat) : Nat → List Byte
  | 0 => []
  | n + 1 => BitVec.ofNat 8 (v / 2 ^ (8 * n)) :: bytesOf v n

def Profile.code : Profile → Nat
  | .travel => 0 | .search => 1 | .lift => 2

/-- A command as the drive link carries it. -/
def DriveCommand.message (c : DriveCommand) : List Byte :=
  match c.order with
  | .move x y z p => 0x01 :: bytesOf c.number 1 ++ bytesOf x 2 ++ bytesOf y 2 ++ bytesOf z 2 ++ bytesOf p.code 1
  | .stop => 0x02 :: bytesOf c.number 1

/-- A REPORT read from the bytes of the drive link; `none` where they are no REPORT. -/
def DriveReport.ofMessage : List Byte → Option DriveReport
  | [t, x1, x0, y1, y0, z1, z0, fl, n] =>
    if t = 0x81#8 then
      some { x := x1 ++ x0, y := y1 ++ y0, z := z1 ++ z0, inPosition := fl.getLsbD 0, fault := fl.getLsbD 1, number := n }
    else none
  | _ => none

end Sys2Proof.Machine
end

