-- ==== Sys2Proof/Machine/Lane.lean ====
section
/-! DEFINITION. The lane interface: the transmit places and their entry, replacement and withdrawal (R13 to R15), silence
(R16), the contention choice and the gap (R8 to R10), the start and the end of a transmission (R11, R12), and the check
log (R5, R6). -/

namespace Sys2Proof.Machine

/-! ## What is on the lane -/

/-- The frame on the lane came from this place and still stands there. -/
def State.onLane (s : State) (p : Place) : Bool :=
  match s.lif.tx with
  | some t => t.place == p && !t.detached
  | none => false

def updTx (f : Tx → Tx) (s : State) : State := s.onLif fun l => { l with tx := l.tx.map f }

/-- A frame waits to take the place of the one on the lane, by its outcome; a later request replaces an earlier (R15). -/
def askReplacement (f : TxFrame) (s : State) : State :=
  updTx (fun t => { t with replacement := some f, withdrawn := false }) s

/-! ## Stall timers (R17) -/

/-- The stall timer a SAFETY queue's head frame starts, none for an empty queue. -/
def safetyStall (q : List TxFrame) : Timer := if q.isEmpty then none else some stallSafetyTime

/-- The stall timer a WORK queue's head frame starts, none for an empty queue. -/
def workStall (q : List TxFrame) : Timer := if q.isEmpty then none else some stallWorkTime

/-! ## SAFETY queue (R13) -/

/-- The two frames are of one sort, of which the SAFETY queue holds one: claim family and census reply; CENSUS_REQ;
OBJECT about one claimant (R13). -/
def sameSort : TxFrame → TxFrame → Bool
  | .object c .., .object c' .. => c == c'
  | .censusReq, .censusReq => true
  | .claim .., g | .shrink _, g | .release, g | .censusReply, g =>
    match g with
    | .claim .. | .shrink _ | .release | .censusReply => true
    | _ => false
  | _, _ => false

/-- A frame takes the place of the first of its sort. -/
def replaceSort (f : TxFrame) : List TxFrame → List TxFrame
  | [] => []
  | g :: gs => if sameSort f g then f :: gs else g :: replaceSort f gs

/-- The head of the SAFETY queue is of this frame's sort. -/
def headSort (f : TxFrame) (q : List TxFrame) : Bool :=
  match q with
  | g :: _ => sameSort f g
  | [] => false

/-- A frame enters the SAFETY queue: in the place of the queued one of its sort, behind the frame on the lane where that
is the one, or at the tail (R13, R15). LIF takes none while silent (R16), and no block offers one in the lift phase of a
restart (R46). -/
def offerSafety (f : TxFrame) (s : State) : State :=
  let q := s.lif.safety
  if s.lif.silent || s.lifting then s
  else if headSort f q && s.onLane .safety then askReplacement f s
  else if q.any (sameSort f) then
    s.onLif fun l =>
      { l with safety := replaceSort f q,
               stallSafety := if headSort f q then safetyStall (replaceSort f q) else l.stallSafety }
  else
    s.onLif fun l =>
      { l with safety := q ++ [f], stallSafety := if q.isEmpty then safetyStall (q ++ [f]) else l.stallSafety }

/-! ## WORK queue (R14) -/

/-- The WORK queue takes a frame offered now: it has a place, and no frame offered earlier is still held (R14; log
entry 8). -/
def State.workFree (s : State) : Bool := decide (s.lif.work.length < 8) && s.lif.held.isEmpty

/-- A frame enters the WORK queue at its tail. -/
def pushWork (f : TxFrame) (s : State) : State :=
  s.onLif fun l =>
    { l with work := l.work ++ [f],
             stallWork := if l.work.isEmpty then workStall (l.work ++ [f]) else l.stallWork }

/-- A frame offered to the WORK queue. It enters, or its block holds it; of BEACONs one at most is held (R14). While
silent LIF takes BEACONs alone (R16), and in the lift phase of a restart no block offers (R46; log entries 9 and 13). -/
def offerWork (f : TxFrame) (s : State) : State :=
  if (s.lif.silent && f != .beacon) || s.lifting then s
  else if s.workFree then pushWork f s
  else if f == .beacon && s.lif.held.contains .beacon then s
  else s.onLif fun l => { l with held := l.held ++ [f] }

/-! ## Post queue and answer slot (R13, R176) -/

/-- A RESULT enters the post queue at its tail (R168). While silent LIF takes none (R16; log entry 13). -/
def postResult (r : ResultRecord) (s : State) : State :=
  if s.lif.silent then s else s.onLif fun l => { l with post := l.post ++ [.result r] }

/-- An answer enters the answer slot, in the place of an unsent one (R15, R176). -/
def placeAnswer (f : TxFrame) (s : State) : State :=
  if s.lif.silent then s
  else if s.onLane .answer then askReplacement f s
  else s.onLif fun l => { l with answer := some f }

/-! ## Emptied queues (R16, R26) -/

/-- A frame of the head's own of this shape is on the lane, its frame end not yet reached (R16, R26, R66, R111). -/
def State.laneHolds (s : State) (p : TxFrame → Bool) : Bool :=
  match s.lif.tx with
  | some t => p t.frame && !t.heard
  | none => false

/-- A frame is a TAKE. -/
def isTakeFrame : TxFrame → Bool
  | .take .. => true
  | _ => false

/-- The frame on the lane loses its place and its waiting request; it finishes and is not retried (R16, R26; log
entry 36). -/
def detachTx (l : Lif) : Option Tx :=
  l.tx.map fun t => { t with detached := true, withdrawn := false, replacement := none }

/-- Every queue emptied and every held frame released (R16, R26). -/
def emptyQueues (s : State) : State :=
  s.onLif fun l =>
    { l with safety := [], work := [], answer := none, post := [], held := [], tx := detachTx l
             stallSafety := none, stallWork := none }

/-- Silence with a FAULT frame, which stands alone in the WORK queue (R16; log entry 36). -/
def lifSilence (f : TxFrame) (s : State) : State :=
  pushWork f ((emptyQueues s).onLif fun l => { l with silent := true })

/-! ## Contention (R8 to R10) -/

/-- The frame LIF contends with: the first of the highest non-empty class, the answer before the post queue (R8). -/
def State.choice (s : State) : Option (Place × AccessClass × TxFrame) :=
  match s.lif.safety, s.lif.work, s.lif.answer, s.lif.post with
  | f :: _, _, _, _ => some (.safety, .safety, f)
  | [], f :: _, _, _ => some (.work, .work, f)
  | [], [], some f, _ => some (.answer, .post, f)
  | [], [], none, f :: _ => some (.post, .post, f)
  | [], [], none, [] => none

/-- The tracker of a class (R9). -/
def Trackers.of (t : Trackers) : AccessClass → Nat
  | .safety => t.safety | .work => t.work | .plan => t.plan | .post => t.post

/-- A tracker set to a station (R9). -/
def Trackers.put (t : Trackers) (c : AccessClass) (n : Nat) : Trackers :=
  match c with
  | .safety => { t with safety := n } | .work => { t with work := n }
  | .plan => { t with plan := n } | .post => { t with post := n }

/-- The gap for a frame of a class, from the start of quiet (R10). -/
def State.gapFor (s : State) (c : AccessClass) : Nat :=
  c.baseGap + gapStep * rotation s.own (s.lif.trackers.of c) + backoff s.own s.lif.k

/-- The gap for the present choice (R8); none with nothing to send or without a station number (R28). -/
def State.gapNow (s : State) : Option (AccessClass × Nat) :=
  if s.stc.station.isNone then none else s.choice.map fun c => (c.2.1, s.gapFor c.2.1)

/-- The choice made again in a gap that runs: recomputed, or dropped when the queues have become empty (R8). -/
def regap (s : State) : State := s.onLif fun l => { l with gap := if l.gap.isSome then s.gapNow else none }

/-- The sync of a frame starts; its late fields are filled, and the level of the line is read (R10, R97, R196). `burstAt` is
the time since the burst start. -/
def startTx (place : Place) (f : TxFrame) (burstAt : Nat) (s : State) : State :=
  let w := fillFrame s f
  let u := s.onLif fun l =>
    { l with gap := none, burst := none, receiver := .header, readbackDue := false,
             tx := some { place := place, frame := f, wire := w, coded := w.code, burstAt := burstAt,
                          detached := false, withdrawn := false, replacement := none, heard := false, draw := s.drawn } }
  { u with drawn := s.drawn + 1 }

/-- The time on the lane of a frame (section 1.1). -/
def Tx.time (t : Tx) : Nat := (t.wire.body.length + 1) * wordTime

/-- The head frame leaves a place, and the next one becomes the head (R11, R17). -/
def leavePlace (p : Place) (s : State) : State :=
  s.onLif fun l =>
    match p with
    | .safety => { l with safety := l.safety.tail, stallSafety := safetyStall l.safety.tail }
    | .work => { l with work := l.work.tail, stallWork := workStall l.work.tail }
    | .answer => { l with answer := none }
    | .post => { l with post := l.post.tail }

/-- The head frame of a place is replaced in its place (R15). -/
def replaceHead (p : Place) (f : TxFrame) (s : State) : State :=
  s.onLif fun l =>
    match p with
    | .safety => { l with safety := f :: l.safety.tail, stallSafety := safetyStall (f :: l.safety.tail) }
    | .work => { l with work := f :: l.work.tail, stallWork := workStall (f :: l.work.tail) }
    | .answer => { l with answer := some f }
    | .post => { l with post := f :: l.post.tail }

/-- A replacement whose frame was sent enters as a new entry at the tail, or in the emptied answer slot (R15). -/
def enterReplacement (p : Place) (f : TxFrame) (s : State) : State :=
  match p with
  | .safety => offerSafety f s
  | .answer => placeAnswer f s
  | .work | .post => s

/-! ## The check log (R5, R6) -/

/-- A corrected word: counted, and entered in the check log or marked by `more`. -/
def logCorrected (position kind source syndrome : Nat) (s : State) : State :=
  s.onLif fun l =>
    { l with
      counters := { l.counters with corrected := saturate16 l.counters.corrected }
      checkLog := match l.checkLog.entry with
        | none => { entry := some { syndrome := syndrome, parityWrong := true, position := position, kind := kind,
                                    source := source }, more := l.checkLog.more }
        | some _ => { l.checkLog with more := true } }

/-- A received word decoded: a correction is counted and logged (R5). -/
def decodeInto (kind source : Nat) (position : Nat) (w : CodedWord) (s : State) : State :=
  match decodeWord w with
  | .corrected _ syn => logCorrected position kind source syn s
  | _ => s

/-- The corrected words of an intact frame (R5). -/
def logErrors (k : Kind) (f : RxFrame) (s : State) : State :=
  f.errors.foldl (fun t e => decodeInto k.code f.src.toNat e.1 e.2 t) s

/-- The following words of a frame that did not stay intact, decoded up to the first uncorrectable one (R5, R6). -/
def decodeFollowing (kind source : Nat) : Nat → List CodedWord → State → State
  | _, [], s => s
  | i, w :: ws, s =>
    match decodeWord w with
    | .uncorrectable => s
    | _ => decodeFollowing kind source (i + 1) ws (decodeInto kind source i w s)

/-- The words of a frame that did not stay intact: the header names kind and source, unless it is the bad word (R6). -/
def decodeWords (ws : List CodedWord) (s : State) : State :=
  match ws with
  | [] => s
  | h :: rest =>
    match decodeWord h with
    | .clean d | .corrected d _ =>
      decodeFollowing (headerKind d) (headerSource d) 1 rest (decodeInto (headerKind d) (headerSource d) 0 h s)
    | .uncorrectable => s

/-- The header of the frame is the uncorrectable word. -/
def headerLost (ws : List CodedWord) : Bool :=
  match ws with
  | h :: _ => decodeWord h == .uncorrectable
  | [] => true

end Sys2Proof.Machine
end

