-- ==== Sys2Proof/Machine/Head.lean ====
section
/-! DEFINITION. The operations of the blocks on one another: the fault record (R180), the end of a membership, the freeze,
silence and fences (R183 to R187), drive commands (R121, R123), abandonment (R136), and the station restart (R46 to R48). -/

namespace Sys2Proof.Machine

/-! ## Fault record -/

/-- FLU enters a fault: the first in the record, a later one as the second flag, either in the count; FAULT_N follows
the record (R180, R181). -/
def recordFault (code : Nat) (s : State) : State :=
  s.onFlu fun u =>
    { u with
      record := match u.record with
        | some r => some r
        | none => some { code := code, motion := s.msq.motion, tipX := s.tipX, tipY := s.tipY,
                         job := s.currentJob, board := s.boardNumber, held := s.scu.held }
      second := u.second || u.record.isSome
      count := saturate8 u.count
      faultN := true }

/-- The floor of a fatal fault (section 9.1). -/
def faultFloor (code : Nat) : Nat :=
  match code with
  | 0x01 | 0x02 | 0x03 => 3
  | 0x04 => 2
  | 0x05 | 0x06 => 1
  | _ => 0

/-- The effective fence mode (R179). -/
def State.effectiveMode (s : State) (code : Nat) : Nat := max s.cfg.fenceMode (faultFloor code)

/-! ## Measurement unit -/

/-- The stimulus goes off, the front end to NONE, an open window is aborted, and a lead's reading table is emptied with its
deadline stopped (R165, R166). -/
def meuAbort (s : State) : State :=
  (s.onMeu fun _ => Meu.powerOn).onRvu fun r =>
    { r with current := r.current.map fun m =>
        { m with readings := m.readings.map fun _ => none, deadline := none } }

/-! ## Memberships -/

/-- A frame is the READING of a job. -/
def isReadingOf (job : Nat) : TxFrame → Bool
  | .reading j .. => j == job
  | _ => false

/-- The membership in a job ends. A next one becomes current (R77), and a READING held for it is released (R154;
log entry 37). -/
def endMember (job : Nat) (s : State) : State :=
  let s := s.onLif fun l => { l with held := l.held.filter fun f => !isReadingOf job f }
  s.onRvu fun r =>
    match r.current with
    | some m =>
      if m.job = job then { r with current := r.next, next := none }
      else { r with next := match r.next with
              | some n => if n.job = job then none else some n
              | none => none }
    | none => r

/-- A frame is a READING. -/
def isReading : TxFrame → Bool
  | .reading .. => true
  | _ => false

/-- A READING held for WORK space is released unsent (R166). -/
def releaseReadings (s : State) : State := s.onLif fun l => { l with held := l.held.filter fun f => !isReading f }

/-- Every membership removed without a frame (R91). -/
def endMembers (s : State) : State := (releaseReadings s).onRvu fun r => { r with current := none, next := none }

/-! ## Beacon, PARKED and IDLE -/

/-- STC offers a BEACON (R38). A head without a station number sends none (R28). -/
def offerBeacon (s : State) : State := if s.stc.station.isNone then s else offerWork .beacon s

/-- The change beacon on reaching PARKED: a board state still CHANGING becomes NONE first (R44). -/
def changeBeacon (s : State) : State :=
  if s.stc.changeDue then
    offerBeacon <| s.onStc fun c =>
      { c with changeDue := false, board := match c.board with | .changing => .noBoard | b => b }
  else s

/-- PARKED is entered (R126). -/
def enterParked (s : State) : State :=
  changeBeacon <| s.onMsq fun m =>
    { m with motion := .parked, grant := none, parkRequest := false, spaceWait := none, spaceExpired := false,
             abandonMark := false, lateStop := false }

/-- IDLE is entered (R125). -/
def enterIdle (s : State) : State :=
  s.onMsq fun m => { m with motion := .idle, spaceWait := none, spaceExpired := false, abandonMark := false }

/-- The head leaves CLAIMING or WAIT_SPACE for IDLE, or for PARKED where it holds no claim (R128, R136). -/
def idleOrParked (s : State) : State := if s.scu.held.isSome then enterIdle s else enterParked s

/-! ## Reports of SCU to MSQ -/

/-- The space-wait timer starts unless it runs (R128). -/
def startSpaceWait (s : State) : State :=
  s.onMsq fun m =>
    { m with spaceWait := match m.spaceWait with | some t => some t | none => some (ms s.cfg.spaceWait) }

/-- WAIT_SPACE is entered with the space wait running (R127, R128). -/
def enterWaitSpace (s : State) : State := startSpaceWait (s.onMsq fun m => { m with motion := .waitSpace })

/-- The space wait has run out for the current membership: DROP(SPACE), the membership removed (R79, R128). -/
def spaceDrop (s : State) : State :=
  match s.rvu.current with
  | some m => idleOrParked (endMember m.job (offerWork (.drop m.job .space 0) s))
  | none => idleOrParked s

/-- SCU reports VOID: the pending claim is gone (R127, R128, R136, R137). -/
def reportVoid (s : State) : State :=
  match s.msq.motion with
  | .claiming =>
    if s.msq.abandonMark then idleOrParked s
    else if s.msq.spaceExpired then spaceDrop s
    else enterWaitSpace s
  | .parking => s.onMsq fun m => { m with park := if m.park = .seek then .wait else m.park }
  | _ => s

/-! ## Own claim -/

/-- The held claim changes; a tip outside the region is reported anew after that (R139). -/
def setHeld (q : Option Claim) (s : State) : State :=
  (s.onScu fun c => { c with held := q }).onMsq fun m => { m with breachReported := false }

/-- A frame is a CLAIM. -/
def isClaimFrame : TxFrame → Bool
  | .claim .. => true
  | _ => false

/-- The head's CLAIM is on the lane and still stands in its queue. -/
def State.claimOnLane (s : State) : Bool :=
  match s.lif.tx with
  | some t => isClaimFrame t.frame && !t.detached
  | none => false

/-- Frames leave the SAFETY queue; a new head frame starts its stall timer (R15, R17). -/
def filterSafety (keep : TxFrame → Bool) (s : State) : State :=
  s.onLif fun l =>
    let q := l.safety.filter keep
    { l with safety := q, stallSafety := if q.head? = l.safety.head? then l.stallSafety else safetyStall q }

/-- A CLAIM of the head's own waits behind a frame on the lane (R15). -/
def State.claimWaits (s : State) : Bool :=
  match s.lif.tx with
  | some t => match t.replacement with | some f => isClaimFrame f | none => false
  | none => false

/-- SCU withdraws a queued CLAIM: the pending claim goes with it; a CLAIM on the lane is left to its outcome (R15,
R99; log entry 12). -/
def withdrawClaim (s : State) : State :=
  match s.scu.pending with
  | some p =>
    match p.stage with
    | .queued =>
      if s.claimWaits then
        (updTx (fun t => { t with replacement := none }) s).onScu fun c => { c with pending := none }
      else if s.claimOnLane then updTx (fun t => { t with withdrawn := t.replacement.isNone }) s
      else (filterSafety (fun f => !isClaimFrame f) s).onScu fun c => { c with pending := none }
    | .window .. => s
  | none => s

/-- SCU withdraws a queued CLAIM and reports VOID where it is gone (R99). -/
def withdrawAndReport (s : State) : State :=
  let t := withdrawClaim s
  if s.scu.pending.isSome && t.scu.pending.isNone then reportVoid t else t

/-- A pending claim is ended by a SHRINK or a RELEASE, and VOID reported; a CLAIM on the lane finishes without a pending
claim to match it (R106, R107; log entry 12). -/
def endPending (s : State) : State :=
  if s.scu.pending.isSome then
    reportVoid <| (withdrawClaim s).onScu fun c => { c with pending := none }
  else s

/-- SCU takes a RELEASE (R107). A silent head takes none. -/
def takeRelease (s : State) : State :=
  if s.lif.silent then s
  else
    let s := endPending (setHeld none s)
    if s.scu.replyQueued then s else offerSafety .release s

/-- SCU takes a SHRINK at a reported position, or a RELEASE where the head holds no claim (R106). A silent head takes
none. -/
def takeShrink (x y : Nat) (s : State) : State :=
  if s.lif.silent then s
  else match s.scu.held with
    | none => takeRelease s
    | some h =>
      let c := standingWithin s.cfg h x y
      let s := endPending (setHeld (some c) s)
      if s.scu.replyQueued then s else offerSafety (.shrink c.rect) s

/-- Doubt is set; while the head's own census window runs the repeat mark is set with it (R109, R111). -/
def setDoubt (s : State) : State :=
  s.onScu fun c => { c with doubt := true, repeatMark := c.repeatMark || c.censusTimer.isSome }

/-- SCU voids the head's claim in its window itself (R100). -/
def selfVoid (s : State) : State := reportVoid (setDoubt (s.onScu fun c => { c with pending := none }))

/-- The claim in its window conflicts with the map (R100). -/
def State.windowConflict (s : State) : Bool :=
  match s.scu.pending with
  | some p => match p.stage with
    | .window .. => s.conflictsMap p.claim.rect
    | .queued => false
  | none => false

/-- The map has changed: a rectangle that entered it is tested against the claim in its window (R100), and MSQ is told
(R127). -/
def mapChanged (s : State) : State :=
  let s := s.onMsq fun m => { m with spaceEvent := true }
  if s.windowConflict then selfVoid s else s

/-! ## OFFLINE -/

/-- The frame is one that the end of a join discards (R34, R189). -/
def isJoinFrame : TxFrame → Bool
  | .claim .. | .censusReq => true
  | _ => false

/-- The head goes OFFLINE with a reason (R32, R34, R118). Its beacon timer starts unless it runs (R38). -/
def goOffline (code : Nat) (s : State) : State :=
  let s := filterSafety (fun f => !isJoinFrame f) s
  let s := s.onLif fun l =>
    { l with deafness := none
             tx := l.tx.map fun t =>
               { t with detached := t.detached || isJoinFrame t.frame
                        replacement := t.replacement.filter fun f => !isJoinFrame f } }
  let s := s.onScu fun c =>
    { c with held := none, pending := none, doubt := true, censusPending := false, censusTimer := none
             repeatMark := false }
  let s := s.onMsq fun m => { m with motion := .offline, driveSilence := none, breachReported := false }
  s.onStc fun c =>
    { c with join := .failed, board := .noBoard, listen := none, placeAt := none, offlineReason := code
             selfTesting := false, restart := .noRestart, restartLift := none
             beaconTimer := if c.station.isNone then none
               else match c.beaconTimer with | some t => some t | none => some beaconPeriod }

/-- A start fault: entered in the record, and the head goes OFFLINE with its code (R188). -/
def startFault (code : Nat) (s : State) : State := goOffline code (recordFault code s)

/-! ## Drive commands and the freeze -/

/-- The number of the next command (R121). -/
def State.nextCommand (s : State) : Nat :=
  match s.msq.lastCommand with
  | some c => (c.number + 1) % 256
  | none => 0

/-- MSQ sends the drive a command (R121). -/
def sendCommand (o : DriveOrder) (s : State) : State :=
  s.onMsq fun m => { m with lastCommand := some { number := s.nextCommand, order := o } }

/-- The freeze of R142: the timers, the waiting point and the marks go, STOP is sent, and FROZEN begins in STOPPING. -/
def freeze (s : State) : State :=
  sendCommand .stop <| s.onMsq fun m =>
    { m with motion := .frozen, frozen := .stopping, idleTimer := none, spaceWait := none, spaceExpired := false
             waiting := none, abandonMark := false, parkRequest := false, resumeMark := false, lateStop := false }

/-- The freeze of a fence of mode 2 or 3, from every state but OFFLINE and JOINING; a FROZEN head stays in its phase
(R144, R185). -/
def freezeForFence (s : State) : State :=
  match s.msq.motion with
  | .offline | .joining => s
  | .frozen => s.onMsq fun m => { m with resumeMark := false }
  | _ => freeze s

/-- The freeze at HALT (R142, R117): stimulus off, memberships removed without a frame, the motion frozen, a queued CLAIM
withdrawn. -/
def haltFreeze (s : State) : State := withdrawClaim (freeze (endMembers (meuAbort s)))

/-- What silence takes from SCU: a claim that was queued, a census whose request was discarded, a reply's mark
(R118; log entry 13). -/
def silenceScu (s : State) : State :=
  s.onScu fun c =>
    { c with
      pending := match c.pending with
        | some p => match p.stage with | .queued => none | .window .. => some p
        | none => none
      censusPending := c.censusPending && (c.censusTimer.isSome || s.laneHolds (· == .censusReq))
      replyQueued := c.replyQueued && s.laneHolds (· == .censusReply) }

/-- The fence of mode 2 or 3 (R185, R186): stimulus off, silence with the FAULT frame, memberships removed without a
frame, the freeze, and in mode 3 the HALT drive. A pending TAKE goes with its queue unless it is on the lane (R66, R70;
log entry 36). -/
def silentFence (mode code : Nat) (s : State) : State :=
  let frame := TxFrame.fault code mode s.msq.motion s.currentJob
  let s := lifSilence frame (meuAbort s)
  let s := silenceScu (endMembers s)
  let s := s.onRvu fun r => { r with pending := if s.laneHolds isTakeFrame then r.pending else none }
  let s := freezeForFence s
  let s := s.onStc fun c => { c with restart := .noRestart, restartLift := none }
  s.onFlu fun u =>
    { u with fence := if mode = 3 ∨ u.haltDrive then .haltAll else .silent, acting := some code, restartWait := none
             haltDrive := u.haltDrive || mode == 3, awaitFault := false, awaitDrops := [] }

/-- FLU takes a fault of floor 3: COLLISION, CORRIDOR_BREACH or DUP_STATION (R178, R187, R189, R191, R192). From every
situation but OFFLINE, JOINING and a HALT already driven it leads to mode 3. -/
def takeFault3 (code : Nat) (s : State) : State :=
  let s := recordFault code s
  match s.msq.motion with
  | .offline => s
  | .joining => goOffline code s
  | _ => if s.flu.haltDrive then s else silentFence 3 code s

/-- The check of R123 on the X and Y of a MOVE. -/
def State.moveAllowed (s : State) (x y : Nat) (p : Profile) : Bool :=
  (p == .lift && s.msq.lastReport.isSome && s.tipX == x && s.tipY == y) ||
    match s.msq.grant, s.scu.held with
    | some g, some h => g.contains x y && h.region.contains x y
    | _, _ => false

/-- MSQ sends a MOVE, or reports CORRIDOR_BREACH where it fails the check (R123). -/
def sendMove (x y z : Nat) (p : Profile) (s : State) : State :=
  if s.moveAllowed x y p then sendCommand (.move x y z p) s else takeFault3 0x02 s

/-- The standing XY (R123); the tip where none has been set. -/
def State.stand (s : State) : Nat × Nat := s.msq.standing.getD (s.tipX, s.tipY)

/-- LIFT is entered: to Zt at the standing XY (R135). -/
def enterLift (s : State) : State :=
  sendMove s.stand.1 s.stand.2 s.cfg.zt .lift (s.onMsq fun m => { m with motion := .lift })

/-! ## Abandonment -/

/-- MSQ and MEU abandon the membership they serve, by motion state (R136). With no window open the accumulator, its flags and
the own reading go with the membership too, which the spec does not say (R151, R166, R167; log entry 58). -/
def msqAbandon (s : State) : State :=
  match s.msq.motion with
  | .claiming =>
    let s := s.onMsq fun m => { m with spaceWait := none, spaceExpired := false }
    let s := withdrawClaim s
    if s.scu.pending.isNone then idleOrParked s else s.onMsq fun m => { m with abandonMark := true }
  | .waitSpace => idleOrParked s
  | .travel => s.onMsq fun m => { m with abandonMark := true }
  | .descend | .landed | .measure | .hold => enterLift (meuAbort s)
  | _ => s

/-- RVU abandons the membership in a job without a frame (R79, R91). Only a current one reaches MSQ, whose waiting point
is cleared with it (R124, R136). -/
def abandonMember (job : Nat) (s : State) : State :=
  match s.rvu.current with
  | some m =>
    if m.job = job then msqAbandon ((endMember job s).onMsq fun q => { q with waiting := none })
    else endMember job s
  | none => s

/-- RVU offers a DROP for a membership and abandons it (R79). -/
def dropMember (job : Nat) (reason : DropReason) (lost : Nat) (s : State) : State :=
  abandonMember job (offerWork (.drop job reason lost) s)

/-- The jobs of the memberships, current then next. -/
def State.memberJobs (s : State) : List Nat :=
  (s.rvu.current.map (·.job)).toList ++ (s.rvu.next.map (·.job)).toList

/-- Every membership abandoned without a frame, current then next (R67, R91). -/
def abandonAll (s : State) : State := s.memberJobs.foldl (fun t j => abandonMember j t) s

/-! ## Fences of mode 0 and 1, and the remaining faults -/

/-- The REPORT action of a fence of mode 0 or 1 (R183, R184). -/
def reportFence (mode code : Nat) (s : State) : State :=
  let jobs := s.memberJobs
  let frame := TxFrame.fault code mode s.msq.motion s.currentJob
  let s := (meuAbort s).onFlu fun u =>
    { u with fence := .acting mode, acting := some code, awaitFault := mode == 1
             awaitDrops := if mode = 1 then jobs else [] }
  jobs.foldl (fun t j => dropMember j .fault 0 t) (offerWork frame s)

/-- A fence entered from fence state NONE (R179, R183 to R186). -/
def enterFence (code : Nat) (s : State) : State :=
  let mode := s.effectiveMode code
  if mode ≤ 1 then reportFence mode code s else silentFence mode code s

/-- JOINING begins (R33): LISTEN, doubt set, the listen timer and drive supervision
running (log entry 41). -/
def enterJoining (s : State) : State :=
  let s := setDoubt <| s.onMsq fun m =>
    { m with motion := .joining, driveSilence := some driveSilenceTime }
  s.onStc fun c =>
    { c with join := .listen, listen := some listenTime, placeAt := none, beaconTimer := none, offlineReason := 0
             selfTesting := false, restart := .noRestart, restartLift := none }

/-- A self-test begins (R31; log entry 16). -/
def beginSelfTest (s : State) : State :=
  s.onStc fun c => { c with selfTesting := true, driveSeen := false, contactSeen := s.pins.contact }

/-- A roster entry at the clear phase: PRESENT becomes ABSENT, LOST is kept (R48, R50). -/
def RosterEntry.atRestart (e : RosterEntry) : RosterEntry := if e.presence = .lost then e else .absent

/-- A slot at the clear phase: FROZEN is kept (R119). -/
def Slot.atRestart (sl : Slot) : Slot :=
  match sl.holds with
  | .frozen .. => sl
  | _ => .empty

/-- Steps 1 to 3 of the clear phase (R48): LIF (R26), JTB (R67), RVU (R92), SCU (R119), MSQ (R145), STC (R50), MEU (R167)
and FLU (R195). A census whose CENSUS_REQ is on the lane stays pending: that frame is not discarded unsent (R26, R111; log
entry 14). -/
def clearDynamic (s : State) : State :=
  let s := emptyQueues s
  { s with
    lif := { s.lif with receiver := .waitQuiet, readbackDue := false, gap := none, burst := none, k := 0
                        deafness := none, silent := false }
    jtb := { s.jtb with entries := [] }
    rvu := { s.rvu with current := none, next := none, pending := none }
    scu := { s.scu with held := none, pending := none, lastGranted := none, map := s.scu.map.map Slot.atRestart
                        censusPending := s.msq.motion != .offline && s.laneHolds (· == .censusReq)
                        censusTimer := none, repeatMark := false, replyQueued := false }
    msq := { s.msq with target := none, standing := none, grant := none, retouch := 0, waiting := none, idleTimer := none
                        spaceWait := none, spaceExpired := false, abandonMark := false, parkRequest := false
                        resumeMark := false, lateStop := false, spaceEvent := false, breachReported := false }
    stc := { s.stc with roster0 := s.stc.roster0.atRestart, roster := s.stc.roster.map RosterEntry.atRestart
                        board := .noBoard, changeDue := false, beaconTimer := none, planLoss := none
                        restart := .noRestart, restartLift := none }
    meu := Meu.powerOn
    flu := { s.flu with fence := .noFence, acting := none, restartWait := none, haltDrive := false
                        awaitFault := false, awaitDrops := [] } }

/-- The head was OFFLINE for CONFIG_BAD or SELFTEST_FAIL (R48). -/
def State.rereads (s : State) : Bool :=
  s.msq.motion == .offline && (s.stc.offlineReason == 0x10 || s.stc.offlineReason == 0x11)

/-- The clear and rejoin phase (R48). A head OFFLINE for its record or its self-test reads and tests again before it
joins; a lift that a drive fault ended leaves the head OFFLINE (R47; log entry 26). -/
def clearPhase (driveFailed : Bool) (prom : Option (List Byte)) (s : State) : State :=
  let again := s.rereads
  let s := clearDynamic s
  if again then
    match readRecord prom with
    | none => startFault 0x10 (s.onStc fun c => { c with config := none })
    | some r => beginSelfTest (s.onStc fun c => { c with config := some r, restart := .selfTest })
  else if driveFailed then goOffline 0x07 s
  else enterJoining s

/-- A station restart begins (R46, R47): the stimulus goes off, a held READING is released (R166), and a tip below Zt is
lifted first (log entries 10 and 11). A RESTART in ACTING of mode 0 makes the fence state RESTARTING (R184), whose mode the
model shows as 1 although R195 keeps the active mode, 0, in the lift (log entry 48). -/
def startRestart (prom : Option (List Byte)) (s : State) : State :=
  let s := (releaseReadings (meuAbort s)).onFlu fun u =>
    { u with restartWait := none
             fence := match u.fence with | .acting _ | .restartWait => .restarting | f => f }
  let s := s.onLif fun l => { l with deafness := none }
  if s.msq.motion = .joining ∨ s.msq.motion = .offline ∨ s.cfg.zt ≤ s.tipZ then clearPhase false prom s
  else
    let s := s.onStc fun c => { c with restart := .lifting, restartLift := some restartLiftTime }
    sendCommand (.move s.tipX s.tipY s.cfg.zt .lift) (s.onMsq fun m => { m with motion := .lift })

/-- FLU takes LANE_STALL, LANE_DEAF or DRIVE_FAULT (R178, R179, R187, R189, R191, R192). A DRIVE_FAULT while the restart's
LIFT runs ends the lift phase (R47). -/
def takeFault (code : Nat) (s : State) : State :=
  let s := recordFault code s
  match s.msq.motion with
  | .offline => s
  | .joining => goOffline code s
  | _ =>
    if s.lifting then if code = 0x07 then clearPhase true none s else s
    else if s.flu.fence = .noFence then enterFence code s
    else s

/-- The deafness timer starts as join completes (R24). -/
def startDeafness (s : State) : State := s.onLif fun l => { l with deafness := some deafnessTime }

/-- The head leaves JOINING (R37): the join state becomes COMPLETE. -/
def completeJoin (s : State) : State :=
  startDeafness (s.onStc fun c => { c with join := .complete, listen := none, placeAt := none })

/-- START_CONFLICT (R37, R105, R190): in JOINING the head leaves for its fence, FROZEN and STILL; after it, it is a fault
of floor 2 like any. -/
def startConflict (s : State) : State :=
  let mode := s.effectiveMode 0x04
  let s := recordFault 0x04 s
  match s.msq.motion with
  | .offline => s
  | .joining =>
    (silentFence mode 0x04 (completeJoin s)).onMsq fun m => { m with motion := .frozen, frozen := .still }
  | _ => if s.lifting then s else if s.flu.fence = .noFence then silentFence mode 0x04 s else s

end Sys2Proof.Machine
end

