-- ==== Sys2Proof/Machine/Settle.lean ====
section
/-! DEFINITION. What the blocks do of themselves once a command's own effect has been made: the re-check of a queued CLAIM
(R99), the end of a fence's action and the restart it leads to (R183, R184), placing (R37), the handing over and serving of
points, IDLE and parking (R78, R124 to R127, R137), taking (R64, R65, R72), the census of doubt (R109), and the contention
choice (R8). Each acts where its condition holds, so at rest none acts again. -/

namespace Sys2Proof.Machine

/-! ## Corridors (R98, R127, R137) -/

/-- SCU takes a request for a corridor that is not refused: the pending claim and its CLAIM (R98). -/
def queueClaim (c : Claim) (s : State) : State :=
  offerSafety (.claim c.kind c.rect) (s.onScu fun u => { u with pending := some { claim := c, stage := .queued } })

/-- SCU refuses a request for a corridor (R98). -/
def State.refusesClaim (s : State) (c : Claim) : Bool :=
  s.scu.doubt || s.scu.replyQueued || s.scu.pending.isSome || s.conflictsMap c.rect

/-- MSQ's target; the tip before one is set. -/
def State.goal (s : State) : Nat × Nat := s.msq.target.getD (s.tipX, s.tipY)

/-- MSQ asks for its TRAVEL corridor from the tip to its target (R127). -/
def askTravel (s : State) : State :=
  let c := corridor s.cfg .travel s.tipX s.tipY s.goal.1 s.goal.2
  if s.refusesClaim c then enterWaitSpace s
  else (queueClaim c s).onMsq fun m => { m with motion := .claiming }

/-- MSQ asks for the corridor to the park point (R137). -/
def askPark (s : State) : State :=
  let c := corridor s.cfg .travel s.tipX s.tipY s.cfg.parkX s.cfg.parkY
  if s.refusesClaim c then s.onMsq fun m => { m with park := .wait }
  else (queueClaim c s).onMsq fun m => { m with park := .seek }

/-! ## The steps -/

/-- HALT is seen in a motion state in which it acts (R141, R142). In FROZEN a second HALT changes nothing (R142), so a TAKEN
membership won while FROZEN (R70) stays, where R91 speaks of every state but PARKED, OFFLINE and JOINING: the model follows
R142 (log entry 49). -/
def MotionState.haltActs : MotionState → Bool
  | .parked | .offline | .joining | .frozen => false
  | _ => true

def settleHalt (s : State) : State := if s.halt && s.msq.motion.haltActs then haltFreeze s else s

/-- The pending claim is queued and doubt is set or it conflicts with the map (R99). -/
def State.claimStale (s : State) : Bool :=
  match s.scu.pending with
  | some p => match p.stage with
    | .queued => s.scu.doubt || s.conflictsMap p.claim.rect
    | .window .. => false
  | none => false

def settleClaim (s : State) : State := if s.claimStale then withdrawAndReport s else s

/-- The REPORT action ends where MSQ stands (R183). -/
def MotionState.actionEnds : MotionState → Bool
  | .idle | .parked | .parking | .frozen => true
  | _ => false

/-- The end of the REPORT action (R183, R184). -/
def settleAction (s : State) : State :=
  match s.flu.fence with
  | .acting m =>
    if s.msq.motion.actionEnds then
      if m = 0 then s.onFlu fun u => { u with fence := .noFence, acting := none }
      else s.onFlu fun u => { u with fence := .restartWait, restartWait := some restartWaitTime }
    else s
  | _ => s

/-- The restart of a mode 1 fence, once its FAULT and DROP(FAULT) frames have been heard (R184). -/
def settleRestart (s : State) : State :=
  if s.flu.fence = .restartWait ∧ s.flu.awaitFault = false ∧ s.flu.awaitDrops = [] then startRestart none s else s

/-- The STANDING claim of PLACING (R37). -/
def placingClaim (s : State) (x y : Nat) : Claim := { corridor s.cfg .standing x y x y with placing := true }

/-- The head in PLACING announces its STANDING claim, again after it was voided, once doubt is clear (R37, R98;
log entry 19). -/
def settlePlacing (s : State) : State :=
  match s.stc.join, s.stc.placeAt, s.scu.pending with
  | .placing, some p, none =>
    let c := placingClaim s p.1 p.2.1
    if s.scu.doubt || s.scu.replyQueued || s.msq.motion != .joining then s
    else if s.conflictsMap c.rect then startConflict s
    else queueClaim c s
  | _, _, _ => s

/-- A FORMED current membership is handed to MSQ, unless the head is FROZEN or fenced (R78). -/
def settleHandover (s : State) : State :=
  match s.rvu.current with
  | some m =>
    if m.state = .formed ∧ s.msq.motion ≠ .frozen ∧ s.flu.fence = .noFence then
      match (s.entry? m.job).bind fun e => e.offer.points[m.role]? with
      | some p =>
        (s.onRvu fun r => { r with current := some { m with state := .moving } }).onMsq fun q =>
          { q with waiting := some (p.x, p.y) }
      | none => s
    else s
  | none => s

/-- A waiting point is served in IDLE, and in PARKED while HALT is released (R124). -/
def settleServe (s : State) : State :=
  match s.msq.waiting with
  | some p =>
    if s.msq.motion = .idle ∨ (s.msq.motion = .parked ∧ s.halt = false) then
      askTravel <| s.onMsq fun m => { m with waiting := none, retouch := 0, target := some p }
    else s
  | none => s

/-- IDLE without a point to serve: parking, or the idle-park timer (R125). -/
def settleIdle (s : State) : State :=
  if s.msq.motion = .idle then
    if !s.boardActive || s.msq.parkRequest then
      askPark <| s.onMsq fun m => { m with motion := .parking, idleTimer := none }
    else
      s.onMsq fun m =>
        { m with idleTimer := if s.rvu.current.isNone && s.cfg.idlePark != 0 then
            (match m.idleTimer with | some t => some t | none => some (ms (1000 * s.cfg.idlePark)))
          else none }
  else s.onMsq fun m => { m with idleTimer := none }

/-- MSQ asks again after an event of the claim space (R127, R137). -/
def settleSpace (s : State) : State :=
  if s.msq.spaceEvent then
    let s := s.onMsq fun m => { m with spaceEvent := false }
    match s.msq.motion with
    | .waitSpace => askTravel s
    | .parking => if s.msq.park = .wait then askPark s else s
    | _ => s
  else s

/-! ## Taking (R64, R65, R72) -/

/-- The head holds no membership, or one in LANDED, MEASURING or HOLD (R64). -/
def State.memberRoom (s : State) : Bool :=
  match s.rvu.current, s.rvu.next with
  | none, none => true
  | some m, none => m.state == .landed || m.state == .measuring || m.state == .hold
  | _, some _ => false

/-- The take conditions (R64, R170). -/
def State.mayTake (s : State) : Bool :=
  s.boardActive && s.planPresent && decide (s.lif.post.length < 6) &&
    s.msq.motion != .joining && s.msq.motion != .offline && s.msq.motion != .frozen &&
    s.stc.restart == .noRestart && s.flu.fence == .noFence && s.rvu.pending.isNone && s.memberRoom

/-- The reference position of role selection (R65). -/
def State.reference (s : State) : Nat × Nat :=
  if s.msq.motion = .parked then (s.cfg.parkX, s.cfg.parkY) else (s.tipX, s.tipY)

/-- A role the head might take: its job and index with the keys of the choice. -/
structure Candidate where
  job      : Nat
  role     : Nat
  priority : Nat
  distance : Nat
  deriving DecidableEq, Repr

/-- `a` comes before `b` by priority and distance; on a tie the one earlier in table order and role index stands. -/
def Candidate.beats (a b : Candidate) : Bool :=
  decide (b.priority < a.priority) || (a.priority == b.priority && decide (a.distance < b.distance))

/-- The roles of an entry that are servable and untaken, of a job in which the head holds no role, in index order. -/
def entryCandidates (s : State) (e : Entry) : List Candidate :=
  if e.hasTaker s.own then []
  else
    [0, 1, 2, 3].filterMap fun i =>
      match e.offer.points[i]?, e.servable[i]?, e.takers[i]? with
      | some p, some true, some none =>
        some { job := e.offer.job, role := i, priority := e.offer.priority
               distance := chebyshev s.reference.1 s.reference.2 p.x p.y }
      | _, _, _ => none

/-- The ordinary candidates: the take window runs and the entry is OPEN or FORMING (R65). -/
def State.candidates (s : State) : List Candidate :=
  (s.jtb.entries.filter fun e => e.window.isSome && !e.formed).flatMap (entryCandidates s)

/-- The catch candidates: the catch grace runs (R72). -/
def State.catchCandidates (s : State) : List Candidate :=
  if s.cfg.catchFlag then (s.jtb.entries.filter fun e => e.grace.isSome).flatMap (entryCandidates s) else []

/-- The best of a list of candidates (R65). -/
def bestOf : List Candidate → Option Candidate
  | [] => none
  | c :: cs =>
    match bestOf cs with
    | none => some c
    | some d => if d.beats c then some d else some c

/-- RVU offers a TAKE, which is pending from then on (R64, R66). -/
def offerTake (c : Candidate) (catchFlag : Bool) (s : State) : State :=
  offerWork (.take c.job c.role catchFlag) <| s.onRvu fun r =>
    { r with pending := some { job := c.job, role := c.role, catchFlag := catchFlag } }

/-- A take is attempted when the conditions hold and a candidate exists, a catch candidate before others (R64, R72). -/
def settleTake (s : State) : State :=
  if s.mayTake then
    match bestOf s.catchCandidates with
    | some c => offerTake c true s
    | none => match bestOf s.candidates with
      | some c => offerTake c false s
      | none => s
  else s

/-- SCU offers a CENSUS_REQ while doubt is set and no census of its own is pending (R109). -/
def settleCensus (s : State) : State :=
  if s.scu.doubt && !s.scu.censusPending && s.mayOffer then
    offerSafety .censusReq (s.onScu fun c => { c with censusPending := true })
  else s

/-- All of it, in order. In the lift phase of a restart the blocks take no action and LIF alone goes on (R46; log
entry 10). -/
def settle (s : State) : State :=
  if s.lifting then regap (s.onMsq fun m => { m with spaceEvent := false })
  else
    regap (settleCensus (settleTake (settleSpace (settleIdle (settleServe (settleHandover (settlePlacing
      (settleRestart (settleAction (settleClaim (settleHalt s)))))))))))

end Sys2Proof.Machine
end

