-- ==== Sys2Proof/Machine/Ops.lean ====
section
/-! DEFINITION. What every command passes through: the reset gate and the settling of the blocks (`live`), the reception of
an intact frame in the order of R18 with its checks (`hear`), and the gates of the restart's lift phase (R46). -/

namespace Sys2Proof.Machine

open Sys2Proof (RxFrame)

/-- What a command does to the state, or that it stops. -/
abbrev Result := Host.Outcome State Fault Refusal

/-- A command of a running part: its own effect, then what the blocks do of themselves. A part held in reset does nothing
(R27; log entry 2). -/
def live (f : State → State) (s : State) : Result :=
  .next (if s.stc.inReset then s else settle (f s))

/-- The blocks whose state a restart clears take no action in its lift phase (R46; log entry 10). -/
def unlessLift (f : State → State) (s : State) : State := if s.lifting then s else f s

/-! ## Presence (R18 step 2, R39, R41) -/

/-- The deafness timer restarts at a frame of another station, once join is complete and no restart runs (R24). After a fault
of floor 3 has ended a restart (R192), which had stopped the timer, the spec does not say when it runs again: the model
starts it at the next such frame (log entry 11). -/
def hearOther (s : State) : State :=
  if s.stc.join = .complete ∧ s.stc.restart = .noRestart then startDeafness s else s

/-- The source of a frame, other than the head itself, is PRESENT and its silence timer restarts; for the plan station the
plan-loss timer stops (R39, R41, R42). -/
def hearPresence (src : Nat) (s : State) : State :=
  let s := updRoster src (fun e => { e with presence := .present, silence := some silenceTime }) s
  if src = 0 then s.onStc fun c => { c with planLoss := none } else s

/-- The side a frame carries, of the seven kinds that carry one (R40; log entry 23). -/
def carriedSide (k : Kind) (f : RxFrame) : Option Side :=
  if k.followAllowed f.body.length then
    match k with
    | .beacon => some (rxBeaconSide f)
    | .claim | .shrink => some (rxRectSide f)
    | .release | .object | .censusReq | .censusReply => some (rxAuxSide f)
    | _ => none
  else none

/-- STC stores the side of the source (R40). -/
def storeSide (k : Kind) (f : RxFrame) (s : State) : State :=
  match carriedSide k f with
  | some d => if isHead f.src.toNat then updRoster f.src.toNat (fun e => { e with side := some d }) s else s
  | none => s

/-- The tracker of the frame's class takes its source, a station 0 to 8 (R9; log entry 6). -/
def moveTracker (k : Kind) (src : Nat) (s : State) : State :=
  match k.accessClass with
  | some c => if src ≤ 8 then s.onLif fun l => { l with trackers := l.trackers.put c src } else s
  | none => s

/-! ## Checks (R19 to R22, R197) -/

/-- The frame is for the head, or is handed on whatever its destination (R19; log entry 22). -/
def State.isFor (s : State) (k : Kind) (f : RxFrame) : Bool :=
  f.dst.toNat == s.own || f.dst.toNat == 15 ||
    match k with
    | .result => true
    | .status | .refused => f.dst.toNat == 0
    | _ => false

/-- The kinds that carry a validation code (R21). -/
def Kind.guarded : Kind → Bool
  | .boardOut | .boardIn | .restart | .resume | .clearFrozen | .clearLog => true
  | _ => false

/-- The head is able to answer the plan station (R171). -/
def State.canAnswer (s : State) : Bool :=
  s.stc.station.isSome && s.stc.join != .notStarted && s.stc.join != .listen && !s.lifting && !s.lif.silent

/-- PTU composes a REFUSED for a frame, where the head is able to answer (R175). -/
def refuse (unknownItem : Bool) (k : Kind) (f : RxFrame) (s : State) : State :=
  if s.canAnswer then placeAnswer (.refused unknownItem k.code f.aux f.dst.toNat) s else s

/-- A guarded frame whose code is wrong, or a RESTART to all: counted, and refused where it was addressed (R21, R175). -/
def checkCode (k : Kind) (f : RxFrame) (act : State → State) (s : State) : State :=
  if k.guarded then
    if f.dst.toNat = 15 ∧ (k = .restart ∨ codeOk f = false) then countDiscard s
    else if codeOk f then act s
    else refuse false k f (countDiscard s)
  else act s

/-- The checks of R19 to R22 and R197 in their order; a frame that passes them is handed on. -/
def checkFrame (k : Kind) (f : RxFrame) (act : State → State) (s : State) : State :=
  if s.isFor k f then
    if k.followAllowed f.body.length && fieldsOk k f then
      if sourceOk k f.src.toNat then checkCode k f act s else countDiscard s
    else countDiscard s
  else s

/-! ## Hearing -/

/-- A frame of the head's own is awaited: one is on the lane, or was just sent (R18, R23; log entry 5). -/
def State.awaitsReadback (s : State) : Bool := s.lif.tx.isSome || s.lif.readbackDue

/-- The frame on the lane, or the one just sent, has been handed on (log entry 5). -/
def markHeard (s : State) : State :=
  s.onLif fun l => { l with readbackDue := false, tx := l.tx.map fun t => { t with heard := true } }

/-- The receiver at a frame end (R4); a receiver in WAIT_QUIET, past which the head's own frame runs out, goes on waiting
(R3; log entry 44). A frame of another station drops a gap and a burst (R10, R12). -/
def frameEnd (own : Bool) (s : State) : State :=
  s.onLif fun l =>
    { l with receiver := if l.receiver = .waitQuiet then .waitQuiet else .idle, gap := none
             burst := if own then l.burst else none }

/-- The frame is of the head's own source (R18, R23). -/
def State.isOwn (s : State) (f : RxFrame) : Bool := f.src.toNat == s.own

/-- What an intact frame brings about before any check (R18 steps 1 and 2): the receiver's frame end and the corrected words
(R4, R5), the tracker (R9), and for a frame of another station the deafness timer, the presence of its source and the side
it carries (R24, R39, R40); for the head's own its readback is no longer awaited. -/
def received (k : Kind) (f : RxFrame) (s : State) : State :=
  let src := f.src.toNat
  let t := moveTracker k src (frameEnd (s.isOwn f) (logErrors k f s))
  if s.isOwn f then (if s.awaitsReadback then markHeard t else t)
  else storeSide k f (if src ≤ 8 then hearOther (hearPresence src t) else t)

/-- The frame is received: in WAIT_QUIET no sync starts a frame (R3), but for the head's own, which is heard by its readback
wherever a restart has left the receiver (R11, R18, R26; log entry 44). -/
def State.receives (s : State) (f : RxFrame) : Bool :=
  s.lif.receiver != .waitQuiet || (s.isOwn f && s.awaitsReadback)

/-- An intact frame reaches its frame end (R18). A frame of the head's own source is its readback while one is awaited,
and DUP_STATION otherwise (R23). -/
def hear (k : Kind) (f : RxFrame) (act : State → State) (s : State) : State :=
  if s.receives f then
    if s.isOwn f && !s.awaitsReadback then takeFault3 0x03 (received k f s) else checkFrame k f act (received k f s)
  else s

end Sys2Proof.Machine
end

