-- ==== Sys2Proof/Machine/MotionOps.lean ====
section
/-! DEFINITION. The motion sequencer's operations: the descent and the touchdown (R132, R134), arrivals and stops (R129,
R130, R137, R142), the late objection (R130), and what it does with a REPORT (R122, R139). -/

namespace Sys2Proof.Machine

/-- The tip position last reported. -/
def State.tip (s : State) : Nat × Nat := (s.tipX, s.tipY)

/-- The standing XY takes the reported tip position (R123). -/
def standAtTip (s : State) : State := s.onMsq fun m => { m with standing := some s.tip }

/-! ## Descent -/

/-- The end of a descent: RVU offers LANDED, its membership is LANDED, and the head is in LANDED (R85, R132). -/
def descentEnd (noContact : Bool) (s : State) : State :=
  let s := match s.rvu.current with
    | some m =>
      (offerWork (.landed m.job m.role m.pass noContact) s).onRvu fun r =>
        { r with current := some { m with state := .landed } }
    | none => s
  s.onMsq fun m => { m with motion := .landed }

/-- Touchdown: STOP, and the descent ends with contact (R132). -/
def touchdown (s : State) : State := descentEnd false (sendCommand .stop s)

/-- DESCEND, phase SEARCH, begins (R132). -/
def startSearch (s : State) : State :=
  let s := s.onMsq fun m => { m with motion := .descend, descend := .search }
  if s.pins.contact then touchdown s else sendMove s.stand.1 s.stand.2 s.cfg.zo .search s

/-- DESCEND, phase APPROACH, begins (R132). -/
def startApproach (s : State) : State :=
  sendMove s.stand.1 s.stand.2 s.cfg.zs .travel (s.onMsq fun m => { m with motion := .descend, descend := .approach })

/-- The retouch of a pass begins in DESCEND, phase RISE (R134). -/
def startRise (pass : Nat) (s : State) : State :=
  sendMove s.stand.1 s.stand.2 s.cfg.zs .lift <|
    s.onMsq fun m => { m with motion := .descend, descend := .rise, retouch := 2 * pass }

/-- The scrub target: the point's X plus the retouch offset, and its Y (R134). -/
def State.scrubTarget (s : State) : Nat × Nat := (s.goal.1 + s.msq.retouch, s.goal.2)

/-- DESCEND, phase SCRUB, begins; a target that fails the check of R123 is skipped (R134). -/
def startScrub (s : State) : State :=
  let t := s.scrubTarget
  if s.moveAllowed t.1 t.2 .search then
    sendCommand (.move t.1 t.2 s.cfg.zs .search) (s.onMsq fun m => { m with descend := .scrub })
  else startSearch s

/-- The SEARCH move completed with the contact open (R132). -/
def overtravel (s : State) : State :=
  descentEnd true (sendMove s.stand.1 s.stand.2 s.cfg.zs .lift s)

/-- A command completes in DESCEND (R132, R134). -/
def descendComplete (s : State) : State :=
  match s.msq.descend with
  | .approach => startSearch s
  | .search => if s.pins.contact then s else overtravel s
  | .rise => startScrub s
  | .scrub => startSearch (standAtTip s)

/-! ## Travel, stops and parking -/

/-- MSQ reports its position to SCU, which takes a SHRINK there, and sets the standing XY (R106, R129, R130). -/
def arrive (s : State) : State := standAtTip (takeShrink s.tipX s.tipY s)

/-- The MOVE of a TRAVEL is complete (R129), or its STOP for a late objection is (R130); the head then asks again from the
stop position once doubt is clear, at once where it already is (R105; log entry 32). -/
def travelComplete (s : State) : State :=
  let late := s.msq.lateStop
  let abandon := s.msq.abandonMark
  let s := (arrive s).onMsq fun m => { m with lateStop := false }
  if abandon then enterIdle s
  else if late then
    enterWaitSpace (s.onMsq fun m => { m with spaceWait := none, spaceExpired := false, spaceEvent := true })
  else startApproach s

/-- A command completes in PARKING (R130, R137; log entry 32). -/
def parkComplete (s : State) : State :=
  match s.msq.park with
  | .move =>
    if s.msq.lateStop then (arrive s).onMsq fun m => { m with lateStop := false, park := .wait }
    else enterParked (takeRelease s)
  | .seek | .wait =>
    if s.msq.lateStop then (arrive s).onMsq fun m => { m with lateStop := false } else s

/-- FROZEN reaches phase STILL; the resume mark lets the head go to IDLE (R142, R143). -/
def enterStill (s : State) : State :=
  let s := s.onMsq fun m => { m with frozen := .still }
  if s.msq.resumeMark && !s.halt && !s.fenced23 then enterIdle (s.onMsq fun m => { m with resumeMark := false }) else s

/-- A command completes in FROZEN (R142). -/
def frozenComplete (s : State) : State :=
  match s.msq.frozen with
  | .stopping =>
    let s := arrive s
    if s.tipZ < s.cfg.zt then
      sendMove s.stand.1 s.stand.2 s.cfg.zt .lift (s.onMsq fun m => { m with frozen := .lifting })
    else enterStill s
  | .lifting => enterStill s
  | .still => s

/-- The STOP of a late objection completes in another state (R130; log entry 32). -/
def lateComplete (s : State) : State :=
  if s.msq.lateStop then (arrive s).onMsq fun m => { m with lateStop := false } else s

/-- The completion of a touchdown's STOP sets the standing XY (R123, R132); that of an overtravel's LIFT sets nothing.
A later REPORT with the STOP's number and the in-position flag is taken as its completion too, which the spec does not say
(R121; log entry 54). -/
def downComplete (s : State) : State :=
  match s.msq.lastCommand with
  | some c => if c.order = .stop then standAtTip s else s
  | none => s

/-- The completion of the last command, by motion state (R121). -/
def commandComplete (s : State) : State :=
  if s.lifting then clearPhase false none s
  else
    match s.msq.motion with
    | .travel => travelComplete s
    | .descend => descendComplete s
    | .lift => enterIdle s
    | .parking => parkComplete s
    | .frozen => frozenComplete s
    | .idle | .claiming | .waitSpace => lateComplete s
    | .landed | .measure | .hold => downComplete s
    | .offline | .joining | .parked => s

/-- SCU reports LATE (R130; log entry 32). -/
def lateObjection (s : State) : State :=
  let stop (s : State) : State := (sendCommand .stop s).onMsq fun m => { m with lateStop := true }
  match s.msq.motion with
  | .travel => stop s
  | .parking => if s.msq.park = .move then stop s else s
  | .idle => stop s
  | _ => s

/-- The travel of a granted claim begins (R129). A target that fails the check of R123 is recorded with the motion state TRAVEL
being entered; the spec does not say whether it is that or CLAIMING (R180; log entry 52). -/
def startTravel (s : State) : State :=
  sendMove s.goal.1 s.goal.2 s.cfg.zt .travel <|
    s.onMsq fun m => { m with motion := .travel, spaceWait := none, spaceExpired := false, lateStop := false }

/-- The park move of a granted claim begins (R137). -/
def startParkMove (s : State) : State :=
  sendMove s.cfg.parkX s.cfg.parkY s.cfg.zt .travel (s.onMsq fun m => { m with park := .move, lateStop := false })

/-! ## Reports -/

/-- MSQ supervises the drive (R122). -/
def State.supervises (s : State) : Bool := s.msq.motion != .offline

/-- The region the tip is checked against (R139). -/
def State.referenceRegion (s : State) : Region :=
  match s.scu.held with
  | some c => c.region
  | none => parkRegion s.cfg

/-- MSQ checks the tip of a REPORT (R139). -/
def State.checksTip (s : State) : Bool := s.msq.motion != .offline && s.msq.motion != .joining

/-- The REPORT lies outside the reference region in a state in which that is checked (R139). -/
def State.breaches (s : State) (r : DriveReport) : Bool :=
  s.checksTip && !s.referenceRegion.contains r.x.toNat r.y.toNat

/-- The REPORT is kept, the silence timer restarts, and the reports of DRIVE_FAULT and CORRIDOR_BREACH may be made anew
(R122, R139). -/
def keepReport (r : DriveReport) (s : State) : State :=
  let s := s.onStc fun c => { c with driveSeen := c.driveSeen || (c.selfTesting && !r.fault) }
  s.onMsq fun m =>
    { m with lastReport := some r
             driveSilence := if s.supervises then some driveSilenceTime else m.driveSilence
             driveReported := m.driveReported && r.fault
             breachReported := m.breachReported && s.breaches r }

/-- MSQ reports DRIVE_FAULT once (R122). -/
def reportDrive (s : State) : State :=
  if s.msq.driveReported then s else takeFault 0x07 (s.onMsq fun m => { m with driveReported := true })

/-- MSQ reports CORRIDOR_BREACH once (R139). -/
def reportBreach (s : State) : State :=
  if s.msq.breachReported then s else takeFault3 0x02 (s.onMsq fun m => { m with breachReported := true })

/-- The faults of a REPORT, in either order where it carries both (R178). -/
def reportFaults (driveFault breach : Bool) (s : State) : State :=
  match driveFault, breach with
  | false, false => s
  | true, false => reportDrive s
  | false, true => reportBreach s
  | true, true =>
    let first := Config.driveFaultFirst s.drawn
    let s := { s with drawn := s.drawn + 1 }
    if first then reportBreach (reportDrive s) else reportDrive (reportBreach s)

/-- The REPORT completes the last command sent (R121). -/
def State.completes (s : State) (r : DriveReport) : Bool :=
  match s.msq.lastCommand with
  | some c => r.inPosition && r.number.toNat == c.number
  | none => false

/-- What the head does with a REPORT. Where one carries a fault and completes the last command, the spec gives no order; the
model takes the fault first and then the completion in the state it has left (log entry 51). -/
def takeReport (r : DriveReport) (s : State) : State :=
  let breach := s.breaches r
  let drive := s.supervises && r.fault
  let s := reportFaults drive breach (keepReport r s)
  if s.completes r then commandComplete s else s

end Sys2Proof.Machine
end

