-- ==== Sys2Proof/Machine/JobOps.lean ====
section
/-! DEFINITION. The shared operations of the job table, the rendezvous unit and the lead: admission (R53 to R56), taking
(R69, R70, R74), the entries' removal (R58, R60), partner loss (R82), the landing decision (R87), AGAIN (R89), the window
and its readings (R149, R153, R154), and the lead's decision (R157 to R164). -/

namespace Sys2Proof.Machine

/-! ## Admission -/

/-- A point is servable by the head (R53). -/
def State.servable (s : State) (p : Point) : Bool :=
  let c := s.cfg
  p.side == s.stc.side && decide (c.reachXmin ≤ p.x ∧ p.x ≤ c.reachXmax ∧ c.reachYmin ≤ p.y ∧ p.y ≤ c.reachYmax) &&
    match p.tip with
    | .any => true
    | .standard => c.tipStandard
    | .fine => !c.tipStandard

/-- An OPEN entry for an offer, its take window running (R52). -/
def State.newEntry (s : State) (o : Offer) (rank : Nat) : Entry :=
  { offer := o, servable := o.points.map s.servable, takers := o.points.map fun _ => none, formed := false
    rank := rank, window := some (ms s.cfg.takeWindow), grace := none }

/-- `a` stands before `b` in table order (R54). -/
def Entry.before (a b : Entry) : Bool :=
  decide (b.offer.priority < a.offer.priority) || (a.offer.priority == b.offer.priority && decide (a.rank < b.rank))

/-- An entry put at its place in table order (R54). -/
def insertEntry (e : Entry) : List Entry → List Entry
  | [] => [e]
  | x :: xs => if x.before e then x :: insertEntry e xs else e :: x :: xs

/-- An offer is admitted (R52). -/
def admitOffer (o : Offer) (s : State) : State :=
  s.onJtb fun t => { entries := insertEntry (s.newEntry o t.nextRank) t.entries, nextRank := t.nextRank + 1 }

/-- The head has a pending TAKE for a job (R66). -/
def State.takePending (s : State) (job : Nat) : Bool :=
  match s.rvu.pending with
  | some p => p.job == job
  | none => false

/-- An entry may be evicted for an offer of a priority (R55). -/
def State.evictable (s : State) (priority : Nat) (e : Entry) : Bool :=
  e.isOpen && decide (e.offer.priority < priority) && !s.takePending e.offer.job

/-- `a` is evicted rather than `b`: a lower priority, then a later arrival (R55). -/
def Entry.evictedBefore (a b : Entry) : Bool :=
  decide (a.offer.priority < b.offer.priority) || (a.offer.priority == b.offer.priority && decide (b.rank < a.rank))

/-- The eviction candidate (R55). -/
def State.victim (s : State) (priority : Nat) : Option Entry :=
  (s.jtb.entries.filter (s.evictable priority)).foldl
    (fun best e => match best with
      | none => some e
      | some b => if e.evictedBefore b then some e else some b) none

/-- An offer for a job already held (R56). -/
def replaceOffer (o : Offer) (e : Entry) (s : State) : State :=
  if e.isOpen then
    let s := dropEntry o.job s
    if (o.points.map s.servable).any id then
      s.onJtb fun t => { t with entries := insertEntry (s.newEntry o e.rank) t.entries }
    else s
  else countDiscard s

/-- A well-formed offer, step by step (R52). -/
def takeOffer (o : Offer) (s : State) : State :=
  if s.stc.board ≠ .active o.board then countDiscard s
  else match s.entry? o.job with
  | some e => replaceOffer o e s
  | none =>
    if !(o.points.map s.servable).any id then s
    else if s.jtb.entries.length < 24 then admitOffer o s
    else match s.victim o.priority with
      | some v => admitOffer o (dropEntry v.offer.job s)
      | none => s

/-! ## Removal -/

/-- An entry is removed and the membership in its job abandoned without a frame (R60, R63). -/
def removeJob (job : Nat) (s : State) : State := abandonMember job (dropEntry job s)

/-- An entry not FORMED at its take window's end is kept (R58). -/
def State.keeps (s : State) (e : Entry) : Bool :=
  e.hasTaker s.own || (s.cfg.catchFlag && e.openServable) || e.full

/-- The catch grace (R59). -/
def State.graceTime (s : State) : Nat := ms (catchGraceMs s.cfg.takeWindow)

/-- The decision at the take window's end, and again at a DROP after it (R58, R80). A running catch grace goes on. -/
def decideWindow (e : Entry) (s : State) : State :=
  if s.keeps e then
    updEntry e.offer.job (fun e =>
      { e with window := none, grace := match e.grace with | some t => some t | none => some s.graceTime }) s
  else dropEntry e.offer.job s

/-! ## Taking -/

/-- The outcomes of a TAKE (R69). -/
inductive TakeOutcome where
  | won | lost | discarded
  deriving DecidableEq, Repr

/-- The judgement of a TAKE, its first matching case (R69, R73). -/
def Entry.judgeTake (e : Entry) (src role : Nat) (catchFlag : Bool) : TakeOutcome :=
  if e.offer.points.length ≤ role then .discarded
  else if e.formed then .lost
  else if e.window.isNone && !(catchFlag && e.grace.isSome) then .discarded
  else if (e.takerOf role).isSome then .lost
  else if e.hasTaker src then .discarded
  else .won

/-- A new membership in state TAKEN (R70). -/
def Membership.fresh (job role points : Nat) : Membership :=
  { job := job, role := role, state := .taken, takers := [], pass := 0, setSent := false
    landings := List.replicate points none, readings := List.replicate points none
    landingWait := none, holdLimit := none, landingLimit := none, deadline := none, deferred := none }

/-- A membership is made, current or next (R77); the head never holds two in one job (log entry 31). -/
def makeMember (m : Membership) (s : State) : State :=
  if (s.member? m.job).isSome then s
  else s.onRvu fun r => if r.current.isNone then { r with current := some m } else { r with next := some m }

/-- The head's own TAKE has won a role (R70; log entry 34). In JOINING and OFFLINE no membership exists (R167). A role that is
not servable by the head ends in DROP(SPACE) alone: where it is role 0 and the last untaken one, no SET is sent, which the
spec does not order (R74; log entry 56). -/
def ownWin (e : Entry) (role : Nat) (s : State) : State :=
  if s.fenced23 || s.msq.motion == .joining || s.msq.motion == .offline then s
  else if e.servable[role]? = some true then makeMember (.fresh e.offer.job role e.offer.points.length) s
  else offerWork (.drop e.offer.job .space 0) s

/-- The lead offers SET once its entry records a taker for every role (R74). -/
def offerSet (job : Nat) (s : State) : State :=
  match s.entry? job, s.leadMember? job with
  | some e, some m =>
    if e.full && !e.formed && m.state == .taken && !m.setSent then
      updMember job (fun m => { m with setSent := true }) (offerWork (.set job (e.takers.filterMap id)) s)
    else s
  | _, _ => s

/-- A TAKE of the head's own stops being pending when it is heard (R66). -/
def clearPending (own : Bool) (s : State) : State :=
  if own then s.onRvu fun r => { r with pending := none } else s

/-- A TAKE for a held job (R69, R70, R74). -/
def takeRole (e : Entry) (src role : Nat) (catchFlag : Bool) (s : State) : State :=
  match e.judgeTake src role catchFlag with
  | .discarded => countDiscard s
  | .lost => s
  | .won =>
    let s := updEntry e.offer.job (fun e => { e with takers := e.takers.set role (some src) }) s
    offerSet e.offer.job (if src = s.own then ownWin e role s else s)

/-! ## Working sets -/

/-- A SET passes its checks (R74). -/
def Entry.acceptsSet (e : Entry) (src : Nat) (ts : List Nat) : Bool :=
  ts.length == e.offer.points.length && ts.all isHead && decide ts.Nodup && ts.head? == some src && !e.formed

/-- A formation mismatch (R75). -/
def countMismatch (s : State) : State := s.onRvu fun r => { r with mismatches := saturate8 r.mismatches }

/-- RVU compares a SET with its own TAKEN membership (R75); a member other than the lead starts its landing limit
(R90; log entry 31). -/
def compareSet (job : Nat) (ts : List Nat) (s : State) : State :=
  match s.member? job with
  | some m =>
    if m.state ≠ .taken then s
    else if ts[m.role]? = some s.own then
      updMember job (fun m =>
        { m with state := .formed, takers := ts, landingLimit := if m.lead then none else some landingLimitTime }) s
    else countMismatch (endMember job s)
  | none => if s.own ∈ ts then countMismatch s else s

/-- The lead after its own SET (R76). In LISTEN, where no block queues a frame (R33), the DROP(LATE) is not offered: a SET
that was on the lane at the clear phase of a restart is read back there. The spec does not say which of R33 and R76 holds;
the model follows R33 (log entry 45). -/
def ownSet (job : Nat) (s : State) : State :=
  match s.member? job with
  | some m => if m.lead && m.state == .formed then updMember job (fun m => { m with landingWait := some landingWaitTime }) s
    else s
  | none => if s.stc.join = .listen ∧ s.msq.motion = .joining then s else offerWork (.drop job .late 0) s

/-- A SET for a held job (R74 to R76). -/
def takeSet (e : Entry) (src : Nat) (ts : List Nat) (s : State) : State :=
  let job := e.offer.job
  if e.acceptsSet src ts then
    let s := updEntry job (fun e => { e with takers := ts.map some, formed := true, window := none, grace := none }) s
    let s := compareSet job ts s
    if src = s.own then ownSet job s else s
  else countDiscard s

/-! ## DROP -/

/-- A taker record cleared (R80). -/
def clearTaker (n : Nat) (ts : List (Option Nat)) : List (Option Nat) := ts.map fun t => if t = some n then none else t

/-- A role freed by a DROP: where it is the head's own, its membership ends with the record (R63, R83; log entry 46); after
the take window the entry is decided again (R80). -/
def freeRole (e : Entry) (n : Nat) (s : State) : State :=
  if e.hasTaker n then
    let e' := { e with takers := clearTaker n e.takers }
    let s := updEntry e.offer.job (fun e => { e with takers := clearTaker n e.takers }) s
    let s := if n = s.own then abandonMember e.offer.job s else s
    if e.window.isSome then s else decideWindow e' s
  else s

/-- A DROP for a held job (R80, R81). -/
def takeDrop (e : Entry) (src : Nat) (reason : DropReason) (lost : Nat) (s : State) : State :=
  let job := e.offer.job
  if e.formed then
    if e.hasTaker src ∨ reason = .unplaced then removeJob job s else countDiscard s
  else if reason = .unplaced then removeJob job s
  else if e.hasTaker src then freeRole e (if reason = .partnerLost then lost else src) s
  else s

/-! ## Partner loss -/

/-- The takers of a membership's job by role: those of the entry while TAKEN, then those of the SET (R82). -/
def State.takersOf (s : State) (m : Membership) : List (Option Nat) :=
  if m.state = .taken then ((s.entry? m.job).map (·.takers)).getD [] else m.takers.map some

/-- Some role below `role` has a taker that remains. -/
def lowerRemains (out : Nat) (role : Nat) (ts : List (Option Nat)) : Bool :=
  (ts.take role).any fun t => match t with | some n => n != out | none => false

/-- A station is out: for each membership that counts it among its takers, the lowest remaining role sends
DROP(PARTNER_LOST) (R82). -/
def partnerLoss (out : Nat) (s : State) : State :=
  s.memberJobs.foldl (fun t job =>
    match t.member? job with
    | some m =>
      let ts := t.takersOf m
      if some out ∈ ts ∧ lowerRemains out m.role ts = false then
        if m.state = .taken then offerWork (.drop job .partnerLost out) t else dropMember job .partnerLost out t
      else t
    | none => t) s

/-! ## The lead's results -/

/-- The RESULT of a job enters the post queue; the lead's membership ends and the lead lifts (R164, R168). -/
def postJob (e : Entry) (m : Membership) (verdict : Verdict) (value : Int) (neg : Bool) (s : State) : State :=
  abandonMember m.job <|
    postResult { job := m.job, board := e.offer.board, verdict := verdict, value := BitVec.ofInt 32 value
                 passesUsed := m.pass + 1, neg := neg, members := m.takers } s

/-- The lead decides once every role has landed (R87). -/
def landingDecision (e : Entry) (m : Membership) (s : State) : State :=
  if m.landings.all (·.isSome) then
    let s := updMember m.job (fun m => { m with landingWait := none }) s
    if m.landings.any (· == some true) then
      if m.pass < e.offer.budget then offerWork (.again m.job false (m.pass + 1)) s
      else postJob e m .noContact 0 false s
    else offerWork (.start m.job m.pass) s
  else s

/-- A LANDED at the lead (R86). -/
def takeLanding (e : Entry) (m : Membership) (src role pass : Nat) (noContact : Bool) (s : State) : State :=
  if e.takerOf role ≠ some src ∨ pass ≠ m.pass ∨ m.landings[role]? ≠ some none then countDiscard s
  else
    let m' := { m with landings := m.landings.set role (some noContact) }
    landingDecision e m' (updMember m.job (fun m => { m with landings := m.landings.set role (some noContact) }) s)

/-- The lead's decision: the verdict, and AGAIN or the RESULT (R157, R162 to R164). -/
def leadDecision (e : Entry) (m : Membership) (s : State) : State :=
  let j := judge e.offer.kind e.offer.low e.offer.high m.readings
  let s := updMember m.job (fun m => { m with deadline := none }) s
  match nextStep j.1 m.pass e.offer.budget with
  | some repeated => offerWork (.again m.job repeated (m.pass + 1)) s
  | none => postJob e m j.1 j.2.1 j.2.2 s

/-- The lead decides when its table is complete (R157). -/
def decideIfComplete (job : Nat) (s : State) : State :=
  match s.entry? job, s.leadMember? job with
  | some e, some m => if m.deadline.isSome && m.readings.all (·.isSome) then leadDecision e m s else s
  | _, _ => s

/-- A READING at the lead (R156). Its V and I are stored as received, beyond the range of a reading too, of which the spec
says nothing (log entry 50). -/
def takeReading (e : Entry) (m : Membership) (src role pass : Nat) (r : Reading) (s : State) : State :=
  if e.takerOf role ≠ some src ∨ role = 0 ∨ pass ≠ m.pass ∨ m.deadline = none ∨ m.readings[role]? ≠ some none then
    countDiscard s
  else
    decideIfComplete m.job (updMember m.job (fun m => { m with readings := m.readings.set role (some r) }) s)

/-! ## AGAIN -/

/-- An AGAIN is taken (R89): the new pass, the landing limit of a member other than the lead anew, and the retouch descent or
the next START. An AGAIN(REPEAT) taken in DESCEND, while a retouch runs, has the head in LANDED at once like any, the MOVE
running on, which R133 does not say (log entry 57). -/
def applyAgain (job : Nat) (repeated : Bool) (pass : Nat) (s : State) : State :=
  let s := updMember job (fun m =>
    { m with
      state := .landed, pass := pass, holdLimit := none, deferred := none
      landingLimit := if m.lead then none else some landingLimitTime
      readings := if m.lead then m.readings.map (fun _ => none) else m.readings
      landings := if m.lead then m.landings.map (fun _ => if repeated then some false else none) else m.landings
      landingWait := if m.lead && !repeated then some landingWaitTime else m.landingWait }) s
  if repeated then
    let s := s.onMsq fun q => { q with motion := .landed }
    match s.leadMember? job with
    | some _ => offerWork (.start job pass) s
    | none => s
  else startRise pass s

/-- The source is the taker of role 0 of a membership's set (R88, R89). -/
def State.isLeadOf (s : State) (m : Membership) (src : Nat) : Bool := (s.takersOf m).head? == some (some src)

/-- An AGAIN at a membership (R89). -/
def takeAgain (m : Membership) (src : Nat) (repeated : Bool) (pass : Nat) (s : State) : State :=
  if m.state = .measuring then
    updMember m.job (fun m => { m with deferred := some { source := src, repeated := repeated, pass := pass } }) s
  else if s.isLeadOf m src ∧ pass = m.pass + 1 ∧ (m.state = .landed ∨ m.state = .hold) then
    applyAgain m.job repeated pass s
  else countDiscard s

/-! ## The window -/

/-- The window opens at the START frame end (R88, R149, R155; log entry 33). -/
def openWindow (e : Entry) (m : Membership) (s : State) : State :=
  let o := e.offer
  let s := s.onMeu fun u =>
    { frontEnd := frontEndOf m.role
      stimulus := if m.role = 0 then stimulusOf o.kind o.stimulus else .off
      window := .settle (settleTime o.settle) (sampleCount o.sample), acc := .clear, ownReading := u.ownReading }
  let s := updMember m.job (fun m =>
    { m with state := .measuring, landingLimit := none
             deadline := if m.lead then some (deadlineTime o.settle o.sample) else none }) s
  s.onMsq fun q => { q with motion := .measure }

/-- A START at a membership (R88). -/
def takeStart (e : Entry) (m : Membership) (src pass : Nat) (s : State) : State :=
  if s.isLeadOf m src ∧ pass = m.pass ∧ m.state = .landed then openWindow e m s else countDiscard s

/-- The membership enters HOLD; a deferred AGAIN is checked and applied (R88, R89). -/
def enterHold (job : Nat) (s : State) : State :=
  match s.entry? job, s.member? job with
  | some e, some m =>
    let s := updMember job (fun m =>
      { m with state := .hold, deferred := none
               holdLimit := if m.lead then none else some (holdLimitTime e.offer.settle e.offer.sample) }) s
    let s := s.onMsq fun q => { q with motion := .hold }
    match m.deferred with
    | some d => takeAgain { m with state := .hold } d.source d.repeated d.pass s
    | none => s
  | _, _ => s

/-- The window ends: the front end goes to NONE and the reading is formed (R153, R154). At a member other than the lead its
READING is offered, and the membership is in HOLD once the frame is in the WORK queue; at the lead the reading is stored. -/
def closeWindow (samples : Nat) (s : State) : State :=
  let r := formReading samples s.meu.frontEnd s.meu.acc
  let s := s.onMeu fun u =>
    { u with frontEnd := .off, stimulus := .off, window := .off
             ownReading := s.rvu.current.map fun m => { role := m.role, pass := m.pass, reading := r } }
  match s.rvu.current with
  | some m =>
    if m.lead then
      let s := updMember m.job (fun m => { m with readings := m.readings.set 0 (some r) }) s
      decideIfComplete m.job (enterHold m.job s)
    else
      let enters := s.workFree
      let s := offerWork (.reading m.job m.role m.pass r.isOver r.compliance r.lifted r.volt r.amp) s
      if enters then enterHold m.job s else s
  | none => s

/-- A held READING as it enters the WORK queue, with the LIFTED flag of that moment (R152, R153; log entry 33). -/
def stampLifted (s : State) : TxFrame → TxFrame
  | .reading j r p o c l v i => .reading j r p o c (l || s.meu.acc.lifted) v i
  | f => f

/-- The head's own reading with the LIFTED flag of the moment its READING enters the WORK queue (R152, R153). -/
def stampOwnReading (s : State) : State :=
  s.onMeu fun u => { u with ownReading := u.ownReading.map fun o =>
    { o with reading := { o.reading with lifted := o.reading.lifted || u.acc.lifted } } }

end Sys2Proof.Machine
end

