-- ==== Sys2Proof/Machine/SpaceOps.lean ====
section
/-! DEFINITION. The space claim unit's operations: claims heard (R100, R101), SHRINK and RELEASE heard (R108), objections
(R103 to R105), the census (R111 to R114), frozen slots (R115, R116), the grant (R37, R100, R127, R137), and the reports of
a station that is out (R41, R82). -/

namespace Sys2Proof.Machine

/-! ## Claims heard -/

/-- The claim ordinal takes the value a claim-family frame of the head's own carried (R97). -/
def setOrdinal (n : Nat) (s : State) : State := s.onScu fun c => { c with ordinal := n }

/-- The pending claim is the one whose CLAIM is heard: it is QUEUED, its rectangle and kind are those carried, and no other
CLAIM of the head's own waits (R100; log entry 12). -/
def State.matchesPending (s : State) (kind : ClaimKind) (rect : Rect) (p : PendingClaim) : Bool :=
  p.stage == .queued && p.claim.kind == kind && p.claim.rect == rect && !s.claimWaits

/-- The readback of the head's own CLAIM (R97, R100). -/
def ownClaim (ordinal : Nat) (kind : ClaimKind) (rect : Rect) (s : State) : State :=
  let s := setOrdinal ordinal s
  match s.scu.pending with
  | some p =>
    if s.matchesPending kind rect p then
      let s := s.onScu fun c => { c with pending := some { p with stage := .window ordinal objectionTime } }
      if s.scu.doubt || s.conflictsMap p.claim.rect then selfVoid s else s
    else s
  | none => s

/-- A slot that leaves FROZEN becomes HELD with the bounding rectangle of its frozen rectangles (R101, R108). -/
def SlotHolds.thaw : SlotHolds → SlotHolds
  | .frozen h p => match frozenBound h p with
    | some r => .held r
    | none => .empty
  | h => h

/-- The reference rectangle of a slot (R108), and the one it keeps as held. -/
def SlotHolds.reference : SlotHolds → Option Rect
  | .empty => none
  | .held r => some r
  | .heldPending h _ _ _ => h
  | .frozen h p => frozenBound h p

/-- A slot that holds one rectangle, or none (section 5.3). -/
def SlotHolds.ofHeld : Option Rect → SlotHolds
  | some r => .held r
  | none => .empty

/-- A slot's content and last ordinal replaced. -/
def setSlot (n : Nat) (holds : SlotHolds) (ordinal : Nat) (s : State) : State :=
  putSlot n { holds := holds, lastOrdinal := some ordinal } s

/-- The head's own rectangles a peer's claim is tested against: held, then pending in WINDOW (R101). -/
def State.ownRects (s : State) : List Rect :=
  (s.scu.held.map (·.rect)).toList ++
    match s.scu.pending with
    | some p => match p.stage with
      | .window .. => [p.claim.rect]
      | .queued => []
    | none => []

/-- What station `n`'s new rectangle conflicts with, first in the order of R101: the rectangle's owner and itself. -/
def State.objection (s : State) (n : Nat) (rect : Rect) : Option (Nat × Rect) :=
  ((s.ownRects.map fun r => (s.own, r)) ++ s.mapRects.filter fun p => p.1 != n).find? fun p => rect.conflicts p.2

/-- A peer's CLAIM (R101). -/
def peerClaim (n ordinal : Nat) (rect : Rect) (s : State) : State :=
  let s := setSlot n ((s.slotOf n).holds.thaw) ordinal s
  let s := mapChanged s
  let kept := (s.slotOf n).holds.reference
  match s.objection n rect with
  | none => setSlot n (.heldPending kept rect ordinal objectionTime) ordinal s
  | some (owner, r) =>
    let s := setSlot n (.ofHeld kept) ordinal s
    if s.mayOffer then offerSafety (.object n ordinal r owner) s else s

/-- A peer's SHRINK (R108). -/
def peerShrink (n ordinal : Nat) (rect : Rect) (s : State) : State :=
  match (s.slotOf n).holds.reference with
  | none => mapChanged (setSlot n (.held rect) ordinal s)
  | some h =>
    if rect.inside h then mapChanged (setSlot n (.held rect) ordinal s)
    else mapChanged (countDiscard (setSlot n (.held (h.bounding rect)) ordinal s))

/-- A peer's RELEASE (R108). -/
def peerRelease (n ordinal : Nat) (s : State) : State := mapChanged (setSlot n .empty ordinal s)

/-! ## Objections -/

/-- The installation of an objected rectangle in its owner's slot (R104). -/
def install (owner : Nat) (rect : Rect) (s : State) : State :=
  if s.stc.station = some owner then s
  else
    let sl := s.slotOf owner
    let holds : SlotHolds :=
      match sl.holds with
      | .empty => if (s.rosterOf owner).presence = .present then .held rect else .frozen (some rect) none
      | .held r => .held (r.bounding rect)
      | .heldPending h p o t => .heldPending (some (rect.boundingWith h)) p o t
      | .frozen h p => .frozen (some (rect.boundingWith h)) p
    putSlot owner { sl with holds := holds } s

/-- A late objection (R105, R130; log entry 32). -/
def lateObject (s : State) : State :=
  let s := s.onCounters fun c => { c with late := saturate16 c.late }
  match s.scu.held with
  | some c => if c.kind = .travel then lateObjection s else if c.placing then startConflict s else s
  | none => s

/-- The ordinal of the pending claim in WINDOW. -/
def State.windowOrdinal (s : State) : Option Nat :=
  match s.scu.pending with
  | some p => match p.stage with
    | .window o _ => some o
    | .queued => none
  | none => none

/-- The pending claim is the STANDING claim of PLACING. -/
def State.pendingPlacing (s : State) : Bool :=
  match s.scu.pending with
  | some p => p.claim.placing
  | none => false

/-- An OBJECT that names the head as claimant (R104; log entry 30). -/
def objectAtClaimant (ordinal : Nat) (rect : Rect) (owner : Nat) (s : State) : State :=
  let s := install owner rect (setDoubt s)
  let s :=
    if s.windowOrdinal = some ordinal then
      let placing := s.pendingPlacing
      let s := s.onScu fun c => { c with pending := none }
      if placing then startConflict s else reportVoid s
    else if s.scu.lastGranted = some ordinal then lateObject s
    else s
  mapChanged s

/-- An OBJECT about a peer's claim (R103). -/
def objectAtObserver (claimant ordinal : Nat) (s : State) : State :=
  let sl := s.slotOf claimant
  match sl.holds with
  | .heldPending _ _ o _ =>
    if o = ordinal then mapChanged (putSlot claimant { sl with holds := sl.holds.dropPending } s) else s
  | _ => s

/-! ## Census -/

/-- The end of the head's own pending claim at a CENSUS_REQ (R112). -/
def censusVoid (s : State) : State :=
  match s.scu.pending with
  | some p => match p.stage with
    | .queued => withdrawAndReport s
    | .window .. => reportVoid (s.onScu fun c => { c with pending := none })
  | none => s

/-- SCU queues one CENSUS_REPLY (R112). -/
def queueReply (s : State) : State :=
  if s.scu.replyQueued || s.msq.motion == .joining || s.msq.motion == .offline || s.lif.silent || s.lifting then s
  else offerSafety .censusReply (s.onScu fun c => { c with replyQueued := true })

/-- A CENSUS_REQ of the side (R112). -/
def censusRequest (s : State) : State :=
  let s := censusVoid s
  let s := s.onScu fun c => { c with map := c.map.map fun sl => { sl with holds := sl.holds.dropPending } }
  mapChanged (queueReply s)

/-- The head's own CENSUS_REQ at its readback (R111). -/
def censusStart (s : State) : State :=
  s.onScu fun c => { c with censusPending := true, censusTimer := some censusTime, repeatMark := false }

/-- The head's own CENSUS_REPLY at its readback (R113). -/
def replyHeard (s : State) : State :=
  (s.onScu fun c => { c with replyQueued := false }).onMsq fun m => { m with spaceEvent := true }

/-- One frozen note (R114). -/
def takeNote (note : Nat × Rect) (s : State) : State :=
  let o := note.1
  let sl := s.slotOf o
  if s.stc.station = some o then s
  else
    match sl.holds with
    | .frozen h p => putSlot o { sl with holds := .frozen (some (note.2.boundingWith h)) p } s
    | .held r =>
      if (s.rosterOf o).presence = .present then s
      else putSlot o { sl with holds := .frozen (some (r.bounding note.2)) none } s
    | .heldPending h _ _ _ =>
      if (s.rosterOf o).presence = .present then s
      else putSlot o { sl with holds := .frozen (some (note.2.boundingWith h)) none } s
    | .empty => putSlot o { sl with holds := .frozen (some note.2) none } s

/-- A peer's CENSUS_REPLY (R114). -/
def peerReply (n ordinal : Nat) (held : Option Rect) (notes : List (Nat × Rect)) (s : State) : State :=
  mapChanged (notes.foldl (fun t note => takeNote note t) (setSlot n (.ofHeld held) ordinal s))

/-- STC's share of a CENSUS_REPLY's notes: the owner's side is the replier's, and an ABSENT owner is LOST (R40). -/
def noteOwners (side : Side) (notes : List (Nat × Rect)) (s : State) : State :=
  notes.foldl (fun t note => updRoster note.1 (fun e =>
    { e with side := some side, presence := if e.presence = .absent then .lost else e.presence }) t) s

/-! ## Frozen slots and stations that are out -/

/-- A slot frozen (R115). -/
def SlotHolds.freeze : SlotHolds → SlotHolds
  | .held r => .frozen (some r) none
  | .heldPending h p _ _ => .frozen h (some p)
  | h => h

/-- The slot of a same-side peer is frozen (R115). -/
def freezeSlot (n : Nat) (s : State) : State :=
  if s.sameSide n then
    let sl := s.slotOf n
    mapChanged (putSlot n { sl with holds := sl.holds.freeze } s)
  else s

/-- A peer is lost or out (R41, R82, R115). RVU takes no part in the lift phase of a restart (R46). -/
def stationOut (n : Nat) (s : State) : State := unlessLift (partnerLoss n) (freezeSlot n s)

/-- A station's reported fence mode; one that becomes 2 or 3 puts the station out (R40, R82, R115; log entry 28). -/
def storeFence (n : Nat) (mode : FenceReport) (s : State) : State :=
  let old := (s.rosterOf n).fence
  let s := updRoster n (fun e => { e with fence := some mode }) s
  if old ≠ some mode ∧ (mode = .mode 2 ∨ mode = .mode 3) ∧ s.stc.station ≠ some n then stationOut n s else s

/-- A BEACON's claim ordinal against the slot of its sender (R110). -/
def beaconOrdinal (n ordinal : Nat) (s : State) : State :=
  let sl := s.slotOf n
  match sl.lastOrdinal with
  | none => putSlot n { sl with lastOrdinal := some ordinal } s
  | some o => if o = ordinal then s else putSlot n { sl with lastOrdinal := some ordinal } (setDoubt s)

/-! ## The grant -/

/-- The head leaves JOINING as its placing claim is granted at (x, y), its tip at height z (R37, R145). -/
def placed (x y z : Nat) (s : State) : State :=
  let s := (completeJoin s).onMsq fun m => { m with standing := some (x, y) }
  if s.halt then
    if z < s.cfg.zt then
      sendMove x y s.cfg.zt .lift (s.onMsq fun m => { m with motion := .frozen, frozen := .lifting })
    else s.onMsq fun m => { m with motion := .frozen, frozen := .still }
  else if z < s.cfg.zt then enterLift s
  else enterIdle s

/-- SCU reports GRANTED (R37, R127, R136, R137, R142); in the lift phase of a restart MSQ takes no action (R145;
log entry 10). -/
def granted (c : Claim) (s : State) : State :=
  if s.lifting then s
  else
    let s := s.onMsq fun m => { m with grant := some c.region }
    match s.msq.motion with
    | .joining => match s.stc.placeAt with
      | some p => placed p.1 p.2.1 p.2.2 s
      | none => s
    | .claiming => if s.msq.abandonMark then enterIdle s else startTravel s
    | .parking => if s.msq.park = .seek then startParkMove s else s
    | _ => s

/-- The objection window of the head's own claim ends (R100). -/
def windowExpires (s : State) : State :=
  match s.scu.pending with
  | some p => match p.stage with
    | .window o _ =>
      granted p.claim ((setHeld (some p.claim) s).onScu fun c => { c with pending := none, lastGranted := some o })
    | .queued => s
  | none => s

/-! ## The end of a census in a join (R36, R37) -/

/-- The head leaves JOINING to PARKED (R37, R107). -/
def placeParked (s : State) : State := enterParked (takeRelease (completeJoin s))

/-- The second side count and PLACING (R35 to R37). -/
def censusJoin (s : State) : State :=
  if 4 ≤ s.sideCount then startFault 0x12 s
  else if atPark s.cfg s.tipX s.tipY s.tipZ then placeParked s
  else s.onStc fun c => { c with join := .placing, placeAt := some (s.tipX, s.tipY, s.tipZ) }

end Sys2Proof.Machine
end

