-- ==== Sys2Proof/Machine/Claims.lean ====
section
/-! DEFINITION. The frames and timers of the space claim unit (chapter 05). It acts on frames of its own side (chapter 05,
opening) and on none in the lift phase of a restart (R119). -/

namespace Sys2Proof.Machine

open Sys2Proof (RxFrame Side)

/-- A frame of the claim space: acted on where it carries the head's side, at the readback of the head's own or as a
peer's (chapter 05, opening; log entry 10). -/
def onSide (side : Side) (f : RxFrame) (own : State → State) (peer : Nat → State → State) (s : State) : State :=
  unlessLift (fun s =>
    if side = s.stc.side then (if f.src.toNat = s.own then own s else peer f.src.toNat s) else s) s

/-! ## Claim family -/

/-- The kind a CLAIM carries (section 10.3). -/
def rxClaimKind (f : RxFrame) : ClaimKind := if auxField f.aux 0 1 = 0 then .standing else .travel

/-- CLAIM (R100, R101). -/
def execClaim (f : RxFrame) (s : State) : Result :=
  live (hear .claim f (onSide (rxRectSide f) f (ownClaim (rxOrdinal f) (rxClaimKind f) (rxRect f))
    fun n => peerClaim n (rxOrdinal f) (rxRect f))) s

/-- SHRINK (R97, R108). -/
def execShrink (f : RxFrame) (s : State) : Result :=
  live (hear .shrink f (onSide (rxRectSide f) f (setOrdinal (rxOrdinal f))
    fun n => peerShrink n (rxOrdinal f) (rxRect f))) s

/-- RELEASE (R97, R108). -/
def execRelease (f : RxFrame) (s : State) : Result :=
  live (hear .release f (onSide (rxAuxSide f) f (setOrdinal (rxOrdinal f)) fun n => peerRelease n (rxOrdinal f))) s

/-! ## OBJECT -/

/-- An OBJECT of the side: at the claimant it names, or at an observer (R103, R104). -/
def hearObject (f : RxFrame) (s : State) : State :=
  if rxClaimant f = s.own then objectAtClaimant (rxOrdinal f) (rxRect f) (rxOwner f) s
  else objectAtObserver (rxClaimant f) (rxOrdinal f) s

/-- OBJECT (R104). -/
def execObject (f : RxFrame) (s : State) : Result :=
  live (hear .object f (onSide (rxAuxSide f) f (hearObject f) fun _ => hearObject f)) s

/-! ## Census -/

/-- The head's own CENSUS_REQ: its window opens where its census is still pending (R111, R112; log entry 14). -/
def ownCensus (s : State) : State := censusRequest (if s.scu.censusPending then censusStart s else s)

/-- CENSUS_REQ (R112). -/
def execCensusReq (f : RxFrame) (s : State) : Result :=
  live (hear .censusReq f (onSide (rxAuxSide f) f ownCensus fun _ => censusRequest)) s

/-- A CENSUS_REPLY: STC stores what its notes say of their owners, then SCU installs it (R40, R113, R114). -/
def hearReply (f : RxFrame) (s : State) : State :=
  onSide (rxAuxSide f) f replyHeard (fun n => peerReply n (rxOrdinal f) (rxReplyHeld f) (rxNotes f))
    (noteOwners (rxAuxSide f) (rxNotes f) s)

/-- CENSUS_REPLY (R114). -/
def execCensusReply (f : RxFrame) (s : State) : Result := live (hear .censusReply f (hearReply f)) s

/-- The census window ends: doubt is cleared, or the census made again; a join goes on once doubt is clear (R36, R111). -/
def endCensus (s : State) : State :=
  if s.scu.censusTimer.isSome then
    let again := s.scu.repeatMark
    let s := s.onScu fun c => { c with censusTimer := none, censusPending := false, repeatMark := false, doubt := again }
    if again then s
    else
      let s := s.onMsq fun m => { m with spaceEvent := true }
      if s.stc.join = .census ∧ s.msq.motion = .joining then censusJoin s else s
  else s

/-- CENSUS_TIMER_EXPIRY (R111). -/
def execCensusTimerExpiry (s : State) : Result := live endCensus s

/-! ## Windows -/

/-- OBJECTION_WINDOW_EXPIRY (R100). -/
def execObjectionWindowExpiry (s : State) : Result := live windowExpires s

/-- The window of a peer's claim ends: its pending rectangle is held (R102). -/
def endSlotWindow (n : Nat) (s : State) : State :=
  let sl := s.slotOf n
  match sl.holds with
  | .heldPending _ p _ _ => mapChanged (putSlot n { sl with holds := .held p } s)
  | _ => s

/-- SLOT_WINDOW_EXPIRY (R102). -/
def execSlotWindowExpiry (station : Nat) (s : State) : Result := live (endSlotWindow station) s

/-! ## CLEAR_FROZEN -/

/-- CLEAR_FROZEN at SCU (R116). -/
def clearSlot (n : Nat) (s : State) : State :=
  if !isHead n then countDiscard s
  else if s.stc.station = some n then s
  else
    match (s.slotOf n).holds with
    | .frozen .. => mapChanged (putSlot n .empty s)
    | _ => s

/-- CLEAR_FROZEN (R116). -/
def execClearFrozen (f : RxFrame) (s : State) : Result :=
  live (hear .clearFrozen f (unlessLift (clearSlot (rxFrozenStation f)))) s

end Sys2Proof.Machine
end

