-- ==== Sys2Proof/Machine/Jobs.lean ====
section
/-! DEFINITION. The frames and timers of the job table and the rendezvous unit (chapters 03, 04): OFFER to RESULT, the take
window, the catch grace, and the timers of the memberships. In the lift phase of a restart the frames draw no action, and
the membership timers have no effect (R46). -/

namespace Sys2Proof.Machine

open Sys2Proof (RxFrame)

/-- A frame that names a job, at the entry of that job; without one it is passed over. -/
def atEntry (f : RxFrame) (act : Entry → State → State) (s : State) : State :=
  unlessLift (fun s => match s.entry? (rxJob f) with | some e => act e s | none => s) s

/-- A frame that names a job, at its entry and the head's membership in it; without either it is passed over. -/
def atMember (f : RxFrame) (act : Entry → Membership → State → State) (s : State) : State :=
  atEntry f (fun e s => match s.member? e.offer.job with | some m => act e m s | none => s) s

/-- A frame that names a job, at its entry and the head's lead membership in it. -/
def atLead (f : RxFrame) (act : Entry → Membership → State → State) (s : State) : State :=
  atEntry f (fun e s => match s.leadMember? e.offer.job with | some m => act e m s | none => s) s

/-! ## OFFER, WITHDRAW -/

/-- An OFFER handed to JTB: discarded whole where it is malformed (R51, R52). -/
def hearOffer (f : RxFrame) (s : State) : State :=
  match rxOffer f with
  | some o => takeOffer o s
  | none => countDiscard s

/-- OFFER (R52). -/
def execOffer (f : RxFrame) (s : State) : Result := live (hear .offer f (unlessLift (hearOffer f))) s

/-- A WITHDRAW finds its entry while the board is ACTIVE (R61; log entry 15). -/
def takeWithdraw (e : Entry) (s : State) : State := if s.boardActive then removeJob e.offer.job s else s

/-- WITHDRAW (R61). -/
def execWithdraw (f : RxFrame) (s : State) : Result := live (hear .withdraw f (atEntry f takeWithdraw)) s

/-! ## TAKE, SET, DROP -/

/-- A TAKE heard: the head's own stops being pending, whatever its outcome (R69, R70). -/
def hearTake (f : RxFrame) (s : State) : State :=
  atEntry f (fun e s => takeRole e f.src.toNat (rxTakeRole f) (rxTakeCatch f) s)
    (clearPending (f.src.toNat == s.own) s)

/-- TAKE (R69). -/
def execTake (f : RxFrame) (s : State) : Result := live (hear .take f (hearTake f)) s

/-- A SET heard; the lead's own that finds no entry and no membership ends the set (R74, R76). -/
def hearSet (f : RxFrame) (s : State) : State :=
  match s.entry? (rxJob f) with
  | some e => takeSet e f.src.toNat (rxSetTakers f) s
  | none => if f.src.toNat = s.own then ownSet (rxJob f) s else s

/-- SET (R74). -/
def execSet (f : RxFrame) (s : State) : Result := live (hear .set f (unlessLift (hearSet f))) s

/-- A DROP(FAULT) of the head's own has been heard (R184). -/
def dropHeard (own : Bool) (job : Nat) (reason : DropReason) (s : State) : State :=
  if own && reason == .fault then
    s.onFlu fun u => { u with awaitDrops := u.awaitDrops.filter fun j => j != job }
  else s

/-- A DROP heard (R80, R81). -/
def hearDrop (f : RxFrame) (s : State) : State :=
  match rxDropReason f with
  | some reason =>
    atEntry f (fun e s => takeDrop e f.src.toNat reason (rxLost f) s)
      (dropHeard (f.src.toNat == s.own) (rxJob f) reason s)
  | none => s

/-- DROP (R80). -/
def execDrop (f : RxFrame) (s : State) : Result := live (hear .drop f (hearDrop f)) s

/-! ## LANDED, START, READING, AGAIN, RESULT -/

/-- LANDED (R86). -/
def execLanded (f : RxFrame) (s : State) : Result :=
  live (hear .landed f (atLead f fun e m s =>
    takeLanding e m f.src.toNat (rxLandedRole f) (rxLandedPass f) (rxNoContact f) s)) s

/-- START (R88). -/
def execStart (f : RxFrame) (s : State) : Result :=
  live (hear .start f (atMember f fun e m s => takeStart e m f.src.toNat (rxPass f) s)) s

/-- READING (R156). -/
def execReading (f : RxFrame) (s : State) : Result :=
  live (hear .reading f (atLead f fun e m s =>
    takeReading e m f.src.toNat (rxReadingRole f) (rxReadingPass f) (rxReading f) s)) s

/-- AGAIN (R89). -/
def execAgain (f : RxFrame) (s : State) : Result :=
  live (hear .again f (atMember f fun _ m s => takeAgain m f.src.toNat (rxRepeat f) (rxPass f) s)) s

/-- A RESULT heard: matched by job and board, it removes the entry and ends the membership with its lift (R62,
R90; log entry 24). -/
def takeResult (board : Nat) (e : Entry) (s : State) : State :=
  if e.offer.board = board then removeJob e.offer.job s else s

/-- RESULT (R62). -/
def execResult (f : RxFrame) (s : State) : Result :=
  live (hear .result f (atEntry f fun e s => takeResult (rxResultBoard f) e s)) s

/-! ## Entry timers -/

/-- The take window of an entry ends (R58). -/
def endTakeWindow (job : Nat) (s : State) : State :=
  match s.entry? job with
  | some e => if e.window.isSome && !e.formed then decideWindow e s else s
  | none => s

/-- TAKE_WINDOW_EXPIRY (R58). -/
def execTakeWindowExpiry (job : Nat) (s : State) : Result := live (endTakeWindow job) s

/-- The head sends DROP(UNPLACED) for an entry whose catch grace has run out: a role is untaken, and its own role is the
lowest among the recorded takers (R73). -/
def State.sendsUnplaced (s : State) (e : Entry) (m : Membership) : Bool :=
  !e.full && e.takerOf m.role == some s.own && (e.takers.take m.role).all (·.isNone)

/-- The catch grace of an entry ends (R59, R73). -/
def endCatchGrace (job : Nat) (s : State) : State :=
  match s.entry? job with
  | some e =>
    if e.grace.isSome && !e.formed then
      let s := match s.member? job with
        | some m => if s.sendsUnplaced e m then offerWork (.drop job .unplaced 0) s else s
        | none => s
      removeJob job s
    else s
  | none => s

/-- CATCH_GRACE_EXPIRY (R59). -/
def execCatchGraceExpiry (job : Nat) (s : State) : Result := live (endCatchGrace job) s

/-! ## Membership timers -/

/-- A timer of the membership in a job runs out: DROP with a reason, and the membership is abandoned (R79). -/
def endMembershipTimer (job : Nat) (runs : Membership → Bool) (reason : DropReason) (s : State) : State :=
  match s.member? job with
  | some m => if runs m then dropMember job reason 0 s else s
  | none => s

/-- LANDING_WAIT_EXPIRY (R84). -/
def execLandingWaitExpiry (job : Nat) (s : State) : Result :=
  live (unlessLift (endMembershipTimer job (fun m => m.landingWait.isSome) .late)) s

/-- HOLD_LIMIT_EXPIRY (R90). -/
def execHoldLimitExpiry (job : Nat) (s : State) : Result :=
  live (unlessLift (endMembershipTimer job (fun m => m.holdLimit.isSome) .holdExpired)) s

/-- LANDING_LIMIT_EXPIRY (R90). -/
def execLandingLimitExpiry (job : Nat) (s : State) : Result :=
  live (unlessLift (endMembershipTimer job (fun m => m.landingLimit.isSome) .late)) s

/-- The reading deadline of a lead membership ends: the lead decides without the rows that are absent (R157). -/
def endDeadline (job : Nat) (s : State) : State :=
  match s.entry? job, s.leadMember? job with
  | some e, some m => if m.deadline.isSome then leadDecision e m s else s
  | _, _ => s

/-- READING_DEADLINE_EXPIRY (R157). -/
def execReadingDeadlineExpiry (job : Nat) (s : State) : Result := live (unlessLift (endDeadline job)) s

end Sys2Proof.Machine
end

