-- ==== Sys2Proof/Machine/Line.lean ====
section
/-! DEFINITION. The commands of the line and of LIF's own transmissions (chapter 01): quiet, noise, syncs, gaps, collisions,
sent frames, held frames, stalls, spoiled and broken frames, deafness, and frames of an unassigned kind. -/

namespace Sys2Proof.Machine

open Sys2Proof (RxFrame StallQueue SpoiledRest)

/-! ## Lost frames -/

/-- SCU is told that a frame was lost; in the lift phase of a restart it takes no action (R6, R7, R109). -/
def frameLost (s : State) : State := unlessLift setDoubt s

/-- A BROKEN frame (R7). -/
def frameBroke (s : State) : State := frameLost (s.onCounters fun c => { c with broken := saturate16 c.broken })

/-! ## Line -/

/-- Quiet: the receiver is IDLE, and the gap for the frame LIF contends with begins; a frame of which no word was received
whole is ended by it (R2, R3, R4, R7, R8, R10). FRAME_BROKEN carries the words of any other frame that quiet ends, which
R5 has decoded, and comes first (log entries 7 and 29). -/
def takeQuiet (s : State) : State :=
  if s.lif.tx.isSome then s
  else
    let early := s.lif.receiver == .header || s.lif.receiver == .follow
    let s := if early then frameBroke s else s
    let s := s.onLif fun l => { l with receiver := .idle, readbackDue := false, burst := none }
    s.onLif fun l => { l with gap := s.gapNow }

/-- LINE_QUIET (R2). -/
def execLineQuiet (s : State) : Result := live takeQuiet s

/-- A transition that begins no valid sync (R3, R10). -/
def takeNoise (s : State) : State :=
  if s.lif.tx.isNone && s.lif.receiver == .idle then
    s.onLif fun l => { l with receiver := .waitQuiet, gap := none, burst := none }
  else s

/-- LINE_NOISE (R3). -/
def execLineNoise (s : State) : Result := live takeNoise s

/-- The receiver takes the word that follows a header (R3, R4). -/
def takeFollow (s : State) : State :=
  if s.lif.receiver == .header then s.onLif fun l => { l with receiver := .follow } else s

/-- A sync. Of another station, the gap is dropped, and the receiver takes a header, or the word that follows one; while LIF
transmits, the sync is that of the next word of its own frame, which the receiver takes as of any (R3, R10; log entry 7). -/
def takeSync (s : State) : State :=
  match s.lif.tx with
  | some t => if t.wire.body.isEmpty then s else takeFollow s
  | none =>
    if s.lif.receiver == .idle then
      s.onLif fun l => { l with receiver := .header, gap := none, burst := none, readbackDue := false }
    else takeFollow s

/-- SYNC_DETECTED (R10). -/
def execSyncDetected (s : State) : Result := live takeSync s

/-! ## Transmission -/

/-- The gap ends with the line quiet: LIF starts the sync of the frame it contends with (R10). -/
def takeGapEnd (s : State) : State :=
  if s.lif.gap.isSome && s.lif.tx.isNone && s.lif.receiver == .idle then
    match s.choice with
    | some c => startTx c.1 c.2.2 0 s
    | none => s
  else s

/-- GAP_END (R10). -/
def execGapEnd (s : State) : Result := live takeGapEnd s

/-- The next POST frame of a burst may start 1 µs after the frame end (R12; log entry 25). -/
def State.burstGoesOn (s : State) (sinceStart : Nat) : Bool :=
  s.cfg.postBurst != 0 && decide (sinceStart + burstGap < us s.cfg.postBurst) && s.lif.safety.isEmpty &&
    s.lif.work.isEmpty && (s.lif.answer.isSome || !s.lif.post.isEmpty)

/-- The short gap of a burst ends (R12). -/
def takeBurstGapEnd (s : State) : State :=
  match s.lif.burst with
  | some t =>
    if s.burstGoesOn t && s.lif.tx.isNone then
      match s.choice with
      | some c => startTx c.1 c.2.2 (t + burstGap) s
      | none => s
    else s.onLif fun l => { l with burst := none }
  | none => s

/-- POST_BURST_GAP_END (R12). -/
def execPostBurstGapEnd (s : State) : Result := live takeBurstGapEnd s

/-- The pending claim, census or reply whose frame collided after its place was emptied is gone (R16, R26, R118). -/
def loseDetached (f : TxFrame) (s : State) : State :=
  match f with
  | .take .. => s.onRvu fun r => { r with pending := none }
  | .censusReq => s.onScu fun c => { c with censusPending := false }
  | .censusReply => s.onScu fun c => { c with replyQueued := false }
  | _ => s

/-- The pending claim whose CLAIM was withdrawn or replaced as it collided is gone (R15, R99). -/
def loseClaim (f : TxFrame) (replacement : Option TxFrame) (s : State) : State :=
  if isClaimFrame f && !(match replacement with | some g => isClaimFrame g | none => false) && s.scu.pending.isSome then
    match s.scu.pending with
    | some p => match p.stage with
      | .queued => reportVoid (s.onScu fun c => { c with pending := none })
      | .window .. => s
    | none => s
  else s

/-- What the collision does to the frame's place (R11, R15, R16). -/
def settleCollided (t : Tx) (s : State) : State :=
  if t.detached then loseDetached t.frame s
  else
    match t.replacement with
    | some f => loseClaim t.frame (some f) (replaceHead t.place f s)
    | none => if t.withdrawn then loseClaim t.frame none (leavePlace t.place s) else s

/-- A collision (R7, R11). -/
def takeCollision (s : State) : State :=
  match s.lif.tx with
  | some t =>
    let stalls := s.lif.k == 15
    let s := s.onLif fun l =>
      { l with tx := none, k := min (l.k + 1) 16, receiver := .waitQuiet, burst := none, gap := none
               counters := { l.counters with collisions := saturate16 l.counters.collisions } }
    let s := frameLost (settleCollided t s)
    if stalls then takeFault 0x05 s else s
  | none => s

/-- LANE_COLLISION (R11). -/
def execLaneCollision (s : State) : Result := live takeCollision s

/-- A frame is sent: k is 0, the frame leaves its place and the next becomes the head, a waiting replacement enters, the
beacon timer restarts, and a POST frame may be followed by the next of its burst (R11, R12, R15, R38). -/
def takeSent (s : State) : State :=
  match s.lif.tx with
  | some t =>
    let s := s.onLif fun l =>
      { l with tx := none, k := 0, readbackDue := !t.heard
               burst := match t.place with
                 | .answer | .post => some (t.burstAt + t.time)
                 | .safety | .work => none }
    let s := if t.detached then s else leavePlace t.place s
    let s := match t.replacement with
      | some f => enterReplacement t.place f s
      | none => s
    s.onStc fun c => { c with beaconTimer := c.beaconTimer.map fun _ => beaconPeriod }
  | none => s

/-- FRAME_SENT (R11). -/
def execFrameSent (s : State) : Result := live takeSent s

/-! ## Held frames and stalls -/

/-- The job of a READING. -/
def readingJob : TxFrame → Option Nat
  | .reading j .. => some j
  | _ => none

/-- A member whose window has ended is in HOLD once its READING is in the WORK queue (R14, R88). -/
def holdIfMeasuring (job : Nat) (s : State) : State :=
  match s.member? job with
  | some m => if m.state = .measuring ∧ s.meu.window = .off then enterHold job s else s
  | none => s

/-- LIF takes the frame first held into the WORK queue; a member whose READING enters is in HOLD (R14, R88). -/
def takeHeld (s : State) : State :=
  match s.lif.held with
  | f :: rest =>
    if s.lif.work.length < 8 then
      let s := pushWork (stampLifted s f) (s.onLif fun l => { l with held := rest })
      match readingJob f with
      | some j => holdIfMeasuring j (stampOwnReading s)
      | none => s
    else s
  | [] => s

/-- HELD_FRAME_ACCEPTED (R14; log entry 9). -/
def execHeldFrameAccepted (s : State) : Result := live (unlessLift takeHeld) s

/-- A stall timer passes its limit (R17). -/
def takeStall (queue : StallQueue) (s : State) : State :=
  match queue with
  | .safety =>
    if s.lif.stallSafety.isSome then takeFault 0x05 (s.onLif fun l => { l with stallSafety := none }) else s
  | .work =>
    if s.lif.stallWork.isSome then takeFault 0x05 (s.onLif fun l => { l with stallWork := none }) else s

/-- STALL_TIMER_EXPIRY (R17). -/
def execStallTimerExpiry (queue : StallQueue) (s : State) : Result := live (takeStall queue) s

/-! ## Spoiled and broken frames, deafness, unassigned kinds -/

/-- What befalls a frame that did not stay intact, where the receiver takes frames: in WAIT_QUIET none begins (R3). -/
def unlessWaiting (f : State → State) (s : State) : State := if s.lif.receiver = .waitQuiet then s else f s

/-- A SPOILED frame: its words up to the bad one are decoded, it is counted, and SCU is told (R4, R5, R6; log
entry 7). -/
def takeSpoiled (words : List CodedWord) (rest : SpoiledRest) (s : State) : State :=
  let s := decodeWords words s
  let s := s.onCounters fun c => { c with spoiled := saturate16 c.spoiled }
  frameLost <| s.onLif fun l =>
    { l with receiver := if headerLost words || rest == .violated then .waitQuiet else .idle, gap := none, burst := none }

/-- FRAME_SPOILED (R6). -/
def execFrameSpoiled (words : List CodedWord) (rest : SpoiledRest) (s : State) : Result :=
  live (unlessWaiting (takeSpoiled words rest)) s

/-- A BROKEN frame: its whole words are decoded, it is counted, and SCU is told (R5, R7; log entry 7). -/
def takeBroken (words : List CodedWord) (s : State) : State :=
  frameBroke <| (decodeWords words s).onLif fun l => { l with receiver := .waitQuiet, gap := none, burst := none }

/-- FRAME_BROKEN (R7). -/
def execFrameBroken (words : List CodedWord) (s : State) : Result := live (unlessWaiting (takeBroken words)) s

/-- 50 ms without a frame of another station (R24). -/
def takeDeafness (s : State) : State :=
  if s.lif.deafness.isSome then takeFault 0x06 (s.onLif fun l => { l with deafness := none }) else s

/-- DEAFNESS_TIMER_EXPIRY (R24). -/
def execDeafnessTimerExpiry (s : State) : Result := live takeDeafness s

/-- UNASSIGNED_KIND_FRAME (R22). -/
def execUnassignedKindFrame (code : BitVec 5) (f : RxFrame) (s : State) : Result :=
  live (hear (.unassigned code.toNat) f id) s

end Sys2Proof.Machine
end

