-- ==== Sys2Proof/Machine/Measure.lean ====
section
/-! DEFINITION. The commands of the measurement window (chapter 07): the end of settling, the sample instants, and the end of
the window. In the lift phase of a restart no window is open (R47). -/

namespace Sys2Proof.Machine

/-- The settle time ends: the window enters SAMPLE (R149). -/
def beginSampling (s : State) : State :=
  match s.meu.window with
  | .settle t n => s.onMeu fun u => { u with window := .sample t n }
  | _ => s

/-- SETTLE_END (R149). -/
def execSettleEnd (s : State) : Result := live beginSampling s

/-- A sample instant (R150, R151). -/
def takeSample (volt amp : Int) (s : State) : State :=
  match s.meu.window with
  | .sample _ n =>
    if s.meu.acc.count < n then
      s.onMeu fun u => { u with acc := addSample u.frontEnd u.stimulus volt amp u.acc }
    else s
  | _ => s

/-- SAMPLE_INSTANT (R150). -/
def execSampleInstant (volt amp : Int) (s : State) : Result := live (takeSample volt amp) s

/-- The window ends (R154). -/
def endWindow (s : State) : State :=
  match s.meu.window with
  | .sample _ n => closeWindow n s
  | _ => s

/-- WINDOW_END (R154). -/
def execWindowEnd (s : State) : Result := live endWindow s

end Sys2Proof.Machine
end

