-- ==== Sys2Proof/Machine/Motion.lean ====
section
/-! DEFINITION. The commands of the motion sequencer (chapter 06): REPORTs, the drive's silence, the restart's lift bound, the
contact input, the idle-park and space-wait timers, the HALT line and RESUME. -/

namespace Sys2Proof.Machine

open Sys2Proof (RxFrame)

/-! ## Drive -/

/-- DRIVE_REPORT (R122). -/
def execDriveReport (r : DriveReport) (s : State) : Result := live (takeReport r) s

/-- 2 ms without a REPORT (R122). -/
def driveSilent (s : State) : State :=
  if s.msq.driveSilence.isSome then reportDrive (s.onMsq fun m => { m with driveSilence := none }) else s

/-- DRIVE_SILENCE_EXPIRY (R122). -/
def execDriveSilenceExpiry (s : State) : Result := live driveSilent s

/-- The restart's LIFT has not completed in 2 s: DRIVE_FAULT, unless it has been reported, and the lift phase ends without it
(R47, R122; log entry 18). -/
def liftTimeout (s : State) : State :=
  if s.lifting ∧ s.stc.restartLift.isSome then
    if s.msq.driveReported then clearPhase true none s else reportDrive s
  else s

/-- RESTART_LIFT_TIMEOUT (R47). -/
def execRestartLiftTimeout (s : State) : Result := live liftTimeout s

/-! ## Contact input -/

/-- The motion states in which a closing has no effect (R140). -/
def MotionState.closingExpected : MotionState → Bool
  | .landed | .measure | .hold | .offline => true
  | _ => false

/-- A closing, by motion state: touchdown, nothing, or COLLISION (R132, R140). -/
def takeClosing (s : State) : State :=
  if s.msq.motion = .descend then touchdown s
  else if s.msq.motion.closingExpected then s
  else takeFault3 0x01 s

/-- The contact input closes; a self-test under way sees it (R31, R131). -/
def contactClose (s : State) : State :=
  if s.pins.contact then s
  else
    let s := s.onPins fun p => { p with contact := true }
    if s.stc.inReset then s
    else settle (takeClosing (s.onStc fun c => { c with contactSeen := c.contactSeen || c.selfTesting }))

/-- CONTACT_CLOSING (R140). -/
def execContactClosing (s : State) : Result := .next (contactClose s)

/-- The contact input opens: in MEASURE the LIFTED flag is set (R133, R152). -/
def contactOpen (s : State) : State :=
  if s.pins.contact then
    let s := s.onPins fun p => { p with contact := false }
    if s.stc.inReset then s
    else settle (if s.msq.motion = .measure then s.onMeu fun u => { u with acc := { u.acc with lifted := true } } else s)
  else s

/-- CONTACT_OPENING (R152). -/
def execContactOpening (s : State) : Result := .next (contactOpen s)

/-! ## Timers -/

/-- The idle-park delay has passed in IDLE (R125, R137). -/
def idlePark (s : State) : State :=
  if s.msq.idleTimer.isSome ∧ s.msq.motion = .idle then
    askPark (s.onMsq fun m => { m with motion := .parking, idleTimer := none })
  else s

/-- IDLE_PARK_TIMER_EXPIRY (R125). -/
def execIdleParkTimerExpiry (s : State) : Result := live (unlessLift idlePark) s

/-- The space wait ends (R128). -/
def endSpaceWait (s : State) : State :=
  if s.msq.spaceWait.isSome then
    let s := s.onMsq fun m => { m with spaceWait := none }
    match s.msq.motion with
    | .waitSpace => spaceDrop s
    | .claiming => s.onMsq fun m => { m with spaceExpired := true }
    | _ => s
  else s

/-- SPACE_WAIT_EXPIRY (R128). -/
def execSpaceWaitExpiry (s : State) : Result := live (unlessLift endSpaceWait) s

/-! ## HALT and RESUME -/

/-- The HALT line is driven from outside; a resume mark is cleared (R143). The freeze is `settleHalt`'s. -/
def haltSeen (s : State) : State :=
  let s := s.onPins fun p => { p with haltIn := true }
  if s.stc.inReset then s else settle (s.onMsq fun m => { m with resumeMark := false })

/-- HALT_ASSERTED (R142). -/
def execHaltAsserted (s : State) : Result := .next (haltSeen s)

/-- The drive of the HALT line from outside ends (R124). -/
def haltGone (s : State) : State :=
  let s := s.onPins fun p => { p with haltIn := false }
  if s.stc.inReset then s else settle s

/-- HALT_RELEASED (R124). -/
def execHaltReleased (s : State) : Result := .next (haltGone s)

/-- A validated RESUME, by the first row of R143 that matches. -/
def takeResume (s : State) : State :=
  if s.halt then countDiscard s
  else if s.fenced23 then s
  else if s.msq.motion = .frozen then
    if s.msq.frozen = .still then enterIdle (s.onMsq fun m => { m with resumeMark := false })
    else s.onMsq fun m => { m with resumeMark := true }
  else s

/-- RESUME (R143). -/
def execResume (f : RxFrame) (s : State) : Result := live (hear .resume f (unlessLift takeResume)) s

end Sys2Proof.Machine
end

