-- ==== Sys2Proof/Machine/Start.lean ====
section
/-! DEFINITION. The commands of the start (chapter 02, sections 2.1 and 2.2): RESET_N, the self-test's end and the listen
timer. -/

namespace Sys2Proof.Machine

/-! ## RESET_N -/

/-- Every block at its power-on value; the input levels, the free values drawn and the waiting commands are not the
part's (R27). -/
def State.powerOn (s : State) : State := { State.reset with pins := s.pins, drawn := s.drawn, pending := s.pending }

/-- RESET_N_ASSERT (R27). -/
def execResetNAssert (s : State) : Result := .next s.powerOn

/-- The strap read and the configuration record's (R28, R29; log entry 26). -/
def powerOnStart (st : BitVec 4) (side : Side) (prom : Option (List Byte)) (s : State) : State :=
  let s := s.powerOn.onStc fun c => { c with inReset := false, side := side }
  if isHead st.toNat then
    let s := s.onStc fun c => { c with station := some st.toNat }
    match readRecord prom with
    | none => startFault 0x10 s
    | some r => beginSelfTest (s.onStc fun c => { c with config := some r })
  else startFault 0x13 s

/-- RESET_N_RELEASE (R27 to R30). -/
def execResetNRelease (st : BitVec 4) (side : Side) (prom : Option (List Byte)) (s : State) : Result :=
  .next (settle (powerOnStart st side prom s))

/-! ## Self-test -/

/-- The ZERO check: the mean of 16 samples has the magnitude given, or less (R31). -/
def meanWithin (limit : Nat) (samples : List Int) : Bool := decide (samples.sum.natAbs ≤ limit * 16)

/-- The self-test's result (R31). -/
def State.testResult (s : State) (memoryOk : Bool) (volts amps : List Int) : SelfTest :=
  .done (!memoryOk) (!s.stc.driveSeen) s.stc.contactSeen (!(meanWithin 2000 volts && meanWithin 50 amps))

/-- The memories the self-test wrote, at their power-on values, with the stimulus off (R31). In the self-test that a restart
runs again the FROZEN slots it keeps stay (R48, R116); the queue memories are taken with the answer slot, and a frame on the
lane is not retried, which the spec does not say of that self-test (R177; log entry 17). -/
def restoreMemories (s : State) : State :=
  let s := emptyQueues (meuAbort s)
  { s with
    jtb := { s.jtb with entries := [] }
    rvu := { s.rvu with current := none, next := none, pending := none }
    scu := { s.scu with map := if s.stc.restart = .selfTest then s.scu.map.map Slot.atRestart else .all .empty } }

/-- The self-test ends (R31, R33, R48). -/
def endSelfTest (memoryOk : Bool) (volts amps : List Int) (s : State) : State :=
  if s.stc.selfTesting then
    let r := s.testResult memoryOk volts amps
    let s := (restoreMemories s).onStc fun c => { c with selfTest := r, selfTesting := false }
    if r = .done false false false false then enterJoining s else startFault 0x11 s
  else s

/-- SELFTEST_END (R31). -/
def execSelftestEnd (memoryOk : Bool) (volts amps : List Int) (s : State) : Result :=
  live (endSelfTest memoryOk volts amps) s

/-! ## Listening -/

/-- STC asks SCU for the census of the join (R36): a CENSUS_REQ is offered although doubt was cleared in LISTEN, by a census
whose request was on the lane at the clear phase (R111). With doubt set, or a census pending, `settleCensus` sees to it. -/
def askCensus (s : State) : State :=
  if s.scu.doubt || s.scu.censusPending then s
  else offerSafety .censusReq (s.onScu fun c => { c with censusPending := true })

/-- The listen timer expires: BEACONs begin, the first side count is made, and STC asks for a census (R33, R35, R36, R38;
log entry 35). -/
def endListen (s : State) : State :=
  if s.stc.join = .listen ∧ s.msq.motion = .joining then
    let s := s.onStc fun c => { c with listen := none, beaconTimer := some beaconPeriod }
    if 4 ≤ s.sideCount then startFault 0x12 s else askCensus (s.onStc fun c => { c with join := .census })
  else s

/-- LISTEN_TIMER_EXPIRY (R33). -/
def execListenTimerExpiry (s : State) : Result := live endListen s

end Sys2Proof.Machine
end

