-- ==== Sys2Proof/Machine/Stations.lean ====
section
/-! DEFINITION. The frames and timers of station control, the posting unit and the fault unit's log (chapters 02, 08, 09):
beacons, FAULT, STATUS, REFUSED, PLAN_BEACON, board sessions, RESTART, CLEAR_LOG, QUERY, and the silence, plan-loss, beacon
and restart-wait timers. -/

namespace Sys2Proof.Machine

open Sys2Proof (RxFrame)

/-! ## What a station reports of itself -/

/-- A station's last reported motion state (R40). The code 14 or 15 of a STATUS(IDENTITY) names none: R197 discards only BEACON
and FAULT frames with such a code, so the frame is handed on, and the model keeps the old state (log entry 21). -/
def storeMotion (n : Nat) (m : Option MotionState) (s : State) : State :=
  match m with
  | some _ => updRoster n (fun e => { e with motion := m }) s
  | none => s

/-- A BEACON: motion state and fence mode for STC, the claim ordinal for SCU where it is a same-side peer's (R40, R110). -/
def hearBeacon (f : RxFrame) (s : State) : State :=
  let n := f.src.toNat
  let s := storeMotion n (motionOfCode (rxBeaconMotion f)) s
  let s := storeFence n (fenceOfCode (rxBeaconFence f)) s
  if n = s.own ∨ rxBeaconSide f ≠ s.stc.side then s else unlessLift (beaconOrdinal n (rxBeaconOrdinal f)) s

/-- BEACON (R110). -/
def execBeacon (f : RxFrame) (s : State) : Result := live (hear .beacon f (hearBeacon f)) s

/-- The FAULT is the one a mode 1 fence awaits: it carries mode 1 and the code acted on (R182, R184). -/
def State.awaited (s : State) (f : RxFrame) : Bool := rxFaultMode f == 1 && s.flu.acting == some (rxFaultCode f)

/-- A FAULT: the fence mode its sender entered (R40, R182); the head's own of a mode 1 fence has been heard (R184). -/
def hearFault (f : RxFrame) (s : State) : State :=
  if f.src.toNat = s.own then s.onFlu fun u => { u with awaitFault := u.awaitFault && !s.awaited f }
  else storeFence f.src.toNat (.mode (rxFaultMode f)) s

/-- FAULT (R40). -/
def execFault (f : RxFrame) (s : State) : Result := live (hear .fault f (hearFault f)) s

/-- A STATUS that carries the IDENTITY item, whole, gives its sender's motion state (R40, R172; log entry 21). -/
def hearStatus (f : RxFrame) (s : State) : State :=
  if rxStatusItem f = 0 ∧ f.body.length = 15 then storeMotion f.src.toNat (motionOfCode (rxStatusMotion f)) s else s

/-- STATUS (R40). -/
def execStatus (f : RxFrame) (s : State) : Result := live (hear .status f (hearStatus f)) s

/-- REFUSED (R18): presence only. -/
def execRefused (f : RxFrame) (s : State) : Result := live (hear .refused f id) s

/-- PLAN_BEACON (R38): presence only. -/
def execPlanBeacon (f : RxFrame) (s : State) : Result := live (hear .planBeacon f id) s

/-! ## Board sessions -/

/-- JTB empties its table (R67). -/
def emptyTable (s : State) : State := s.onJtb fun t => { t with entries := [] }

/-- The change beacon of a head already PARKED (R44). -/
def beaconIfParked (s : State) : State := if s.msq.motion = .parked then changeBeacon s else s

/-- A validated BOARD_OUT (R43, R32; log entry 27). -/
def takeBoardOut (s : State) : State :=
  if s.msq.motion = .offline then emptyTable s
  else
    let s := s.onStc fun c => { c with board := .changing, changeDue := true }
    beaconIfParked (withdrawAndReport (abandonAll (emptyTable s)))

/-- BOARD_OUT (R43). -/
def execBoardOut (f : RxFrame) (s : State) : Result := live (hear .boardOut f (unlessLift takeBoardOut)) s

/-- A validated BOARD_IN (R45, R32; log entry 27). -/
def takeBoardIn (n : Nat) (s : State) : State :=
  if s.msq.motion = .offline then emptyTable s
  else
    let wasActive := s.boardActive
    let s := (emptyTable s).onStc fun c => { c with board := .active n }
    if wasActive then abandonAll s else s

/-- BOARD_IN (R45). -/
def execBoardIn (f : RxFrame) (s : State) : Result :=
  live (hear .boardIn f (unlessLift (takeBoardIn (rxBoard f)))) s

/-! ## RESTART -/

/-- A validated RESTART addressed to the head; none starts while one is in progress (R46), which the self-test of a restart
still is. One in the self-test of a power-on start, where the head is OFFLINE (R146), ends that self-test without a result
(R48; log entry 16). -/
def takeRestart (prom : Option (List Byte)) (s : State) : State :=
  if s.stc.restart ≠ .noRestart then s else startRestart prom s

/-- RESTART (R46). -/
def execRestart (f : RxFrame) (prom : Option (List Byte)) (s : State) : Result :=
  live (hear .restart f (takeRestart prom)) s

/-- The restart wait of a mode 1 fence runs out (R184). -/
def endRestartWait (s : State) : State :=
  if s.flu.fence = .restartWait ∧ s.flu.restartWait.isSome then startRestart none s else s

/-- RESTART_WAIT_EXPIRY (R184). -/
def execRestartWaitExpiry (s : State) : Result := live endRestartWait s

/-! ## CLEAR_LOG, QUERY -/

/-- A validated CLEAR_LOG: LIF's counters and check log, and FLU's record, second flag and count (R25, R181, R194). -/
def clearLogs (s : State) : State :=
  (s.onLif fun l => { l with counters := .zero, checkLog := .empty }).onFlu fun u =>
    { u with record := none, second := false, count := 0, faultN := false }

/-- CLEAR_LOG (R194). -/
def execClearLog (f : RxFrame) (s : State) : Result := live (hear .clearLog f clearLogs) s

/-- A QUERY: a STATUS request or a REFUSED request, where the head is able to answer (R171, R175). -/
def answerQuery (f : RxFrame) (s : State) : State :=
  if itemTaken (rxItem f) (rxSelector f) then
    if s.canAnswer then placeAnswer (.status (rxItem f) (rxSelector f)) s else s
  else refuse true .query f s

/-- QUERY (R171). -/
def execQuery (f : RxFrame) (s : State) : Result := live (hear .query f (answerQuery f)) s

/-! ## Timers -/

/-- A station falls silent: PRESENT becomes LOST and the blocks are told; for the plan station the plan-loss timer starts
(R39, R41, R42). -/
def loseStation (n : Nat) (s : State) : State :=
  let e := s.rosterOf n
  if e.presence = .present ∧ e.silence.isSome then
    let s := updRoster n (fun e => { e with presence := .lost, silence := none }) s
    if n = 0 then s.onStc fun c => { c with planLoss := some planLossTime } else stationOut n s
  else s

/-- SILENCE_TIMER_EXPIRY (R39). -/
def execSilenceTimerExpiry (station : Nat) (s : State) : Result := live (loseStation station) s

/-- The motion states in which a plan loss asks for no park move (R138). -/
def MotionState.noPark : MotionState → Bool
  | .parked | .frozen | .offline | .joining => true
  | _ => false

/-- The plan loss: DROP(PLAN_LOST) for each membership, and the park request (R42, R138). -/
def planLost (s : State) : State :=
  let s := s.memberJobs.foldl (fun t j => dropMember j .planLost 0 t) s
  if s.msq.motion.noPark then s else s.onMsq fun m => { m with parkRequest := true }

/-- The plan-loss timer expires (R42). -/
def endPlanLoss (s : State) : State :=
  if s.stc.planLoss.isSome then unlessLift planLost (s.onStc fun c => { c with planLoss := none }) else s

/-- PLAN_LOSS_TIMER_EXPIRY (R42). -/
def execPlanLossTimerExpiry (s : State) : Result := live endPlanLoss s

/-- The beacon timer reaches 10 ms: a BEACON is offered, and the timer runs anew (R38; log entry 20). -/
def dueBeacon (s : State) : State :=
  if s.stc.beaconTimer.isSome then offerBeacon (s.onStc fun c => { c with beaconTimer := some beaconPeriod }) else s

/-- BEACON_TIMER_EXPIRY (R38). -/
def execBeaconTimerExpiry (s : State) : Result := live dueBeacon s

end Sys2Proof.Machine
end

