-- ==== Sys2Proof/Machine/Dispatch.lean ====
section
/-! DEFINITION. The command's effect, one arm per row of the opcode table. -/

namespace Sys2Proof.Machine

open Sys2Proof (Instr)

def exec (i : Instr) (s : State) : Host.Outcome State Fault Refusal :=
  match i with
  | .resetNAssert => Sys2Proof.Machine.execResetNAssert s
  | .resetNRelease st side prom => Sys2Proof.Machine.execResetNRelease st side prom s
  | .selftestEnd memoryOk volts amps => Sys2Proof.Machine.execSelftestEnd memoryOk volts amps s
  | .listenTimerExpiry => Sys2Proof.Machine.execListenTimerExpiry s
  | .lineQuiet => Sys2Proof.Machine.execLineQuiet s
  | .lineNoise => Sys2Proof.Machine.execLineNoise s
  | .syncDetected => Sys2Proof.Machine.execSyncDetected s
  | .gapEnd => Sys2Proof.Machine.execGapEnd s
  | .postBurstGapEnd => Sys2Proof.Machine.execPostBurstGapEnd s
  | .laneCollision => Sys2Proof.Machine.execLaneCollision s
  | .frameSent => Sys2Proof.Machine.execFrameSent s
  | .heldFrameAccepted => Sys2Proof.Machine.execHeldFrameAccepted s
  | .stallTimerExpiry queue => Sys2Proof.Machine.execStallTimerExpiry queue s
  | .frameSpoiled words rest => Sys2Proof.Machine.execFrameSpoiled words rest s
  | .frameBroken words => Sys2Proof.Machine.execFrameBroken words s
  | .deafnessTimerExpiry => Sys2Proof.Machine.execDeafnessTimerExpiry s
  | .offer f => Sys2Proof.Machine.execOffer f s
  | .withdraw f => Sys2Proof.Machine.execWithdraw f s
  | .take f => Sys2Proof.Machine.execTake f s
  | .set f => Sys2Proof.Machine.execSet f s
  | .drop f => Sys2Proof.Machine.execDrop f s
  | .landed f => Sys2Proof.Machine.execLanded f s
  | .start f => Sys2Proof.Machine.execStart f s
  | .reading f => Sys2Proof.Machine.execReading f s
  | .again f => Sys2Proof.Machine.execAgain f s
  | .result f => Sys2Proof.Machine.execResult f s
  | .beacon f => Sys2Proof.Machine.execBeacon f s
  | .fault f => Sys2Proof.Machine.execFault f s
  | .status f => Sys2Proof.Machine.execStatus f s
  | .refused f => Sys2Proof.Machine.execRefused f s
  | .planBeacon f => Sys2Proof.Machine.execPlanBeacon f s
  | .claim f => Sys2Proof.Machine.execClaim f s
  | .shrink f => Sys2Proof.Machine.execShrink f s
  | .release f => Sys2Proof.Machine.execRelease f s
  | .object f => Sys2Proof.Machine.execObject f s
  | .censusReq f => Sys2Proof.Machine.execCensusReq f s
  | .censusReply f => Sys2Proof.Machine.execCensusReply f s
  | .censusTimerExpiry => Sys2Proof.Machine.execCensusTimerExpiry s
  | .objectionWindowExpiry => Sys2Proof.Machine.execObjectionWindowExpiry s
  | .slotWindowExpiry station => Sys2Proof.Machine.execSlotWindowExpiry station s
  | .boardOut f => Sys2Proof.Machine.execBoardOut f s
  | .boardIn f => Sys2Proof.Machine.execBoardIn f s
  | .restart f prom => Sys2Proof.Machine.execRestart f prom s
  | .resume f => Sys2Proof.Machine.execResume f s
  | .clearFrozen f => Sys2Proof.Machine.execClearFrozen f s
  | .clearLog f => Sys2Proof.Machine.execClearLog f s
  | .query f => Sys2Proof.Machine.execQuery f s
  | .silenceTimerExpiry station => Sys2Proof.Machine.execSilenceTimerExpiry station s
  | .planLossTimerExpiry => Sys2Proof.Machine.execPlanLossTimerExpiry s
  | .beaconTimerExpiry => Sys2Proof.Machine.execBeaconTimerExpiry s
  | .takeWindowExpiry job => Sys2Proof.Machine.execTakeWindowExpiry job s
  | .catchGraceExpiry job => Sys2Proof.Machine.execCatchGraceExpiry job s
  | .landingWaitExpiry job => Sys2Proof.Machine.execLandingWaitExpiry job s
  | .holdLimitExpiry job => Sys2Proof.Machine.execHoldLimitExpiry job s
  | .landingLimitExpiry job => Sys2Proof.Machine.execLandingLimitExpiry job s
  | .readingDeadlineExpiry job => Sys2Proof.Machine.execReadingDeadlineExpiry job s
  | .settleEnd => Sys2Proof.Machine.execSettleEnd s
  | .sampleInstant volt amp => Sys2Proof.Machine.execSampleInstant volt amp s
  | .windowEnd => Sys2Proof.Machine.execWindowEnd s
  | .driveReport r => Sys2Proof.Machine.execDriveReport r s
  | .driveSilenceExpiry => Sys2Proof.Machine.execDriveSilenceExpiry s
  | .restartLiftTimeout => Sys2Proof.Machine.execRestartLiftTimeout s
  | .contactClosing => Sys2Proof.Machine.execContactClosing s
  | .contactOpening => Sys2Proof.Machine.execContactOpening s
  | .idleParkTimerExpiry => Sys2Proof.Machine.execIdleParkTimerExpiry s
  | .spaceWaitExpiry => Sys2Proof.Machine.execSpaceWaitExpiry s
  | .haltAsserted => Sys2Proof.Machine.execHaltAsserted s
  | .haltReleased => Sys2Proof.Machine.execHaltReleased s
  | .restartWaitExpiry => Sys2Proof.Machine.execRestartWaitExpiry s
  | .unassignedKindFrame code f => Sys2Proof.Machine.execUnassignedKindFrame code f s

end Sys2Proof.Machine
end

