-- ==== Sys2Proof/WellFormed.lean ====
section
/-! DEFINITION. Which commands are possible: the operands each brings are those its event can bring. The meanings are given
on every term; an ill-formed one stands for nothing that happens. -/

namespace Sys2Proof

open Sys2Proof.Machine

/-- A frame's word positions: at most 15 following words (section 1.2). -/
def RxFrame.lengthOk (f : RxFrame) : Bool := decide (f.body.length ≤ 15)

/-- The word of a frame at a position, 0 the header. -/
def RxFrame.wordAt (k : Kind) (f : RxFrame) (i : Nat) : Option DataWord := (f.header k :: f.body)[i]?

/-- Word `e.2` was received at position `e.1` with one error, and corrects to the frame's word there (R5). -/
def RxFrame.errorOk (k : Kind) (f : RxFrame) (e : Nat × CodedWord) : Bool :=
  match decodeWord e.2 with
  | .corrected d _ => f.wordAt k e.1 == some d
  | _ => false

/-- The frame is intact: its errors are corrected ones, in the order of their positions (R4, R5). -/
def RxFrame.ok (k : Kind) (f : RxFrame) : Bool :=
  f.lengthOk && f.errors.all (f.errorOk k) && decide ((f.errors.map (·.1)).Pairwise (· < ·))

/-- Aux bit 6 tells STATUS from REFUSED, and an unassigned code is one of five (section 10.2). -/
def auxOk (k : Kind) (f : RxFrame) : Bool :=
  match k with
  | .status => !f.aux.getLsbD 6
  | .refused => f.aux.getLsbD 6
  | .unassigned c => [0x00, 0x07, 0x1B, 0x1E, 0x1F].contains c
  | _ => true

/-- The PROM gives the 40 bytes of the record, or does not answer (R29). -/
def promOk : Option (List Byte) → Bool
  | some bs => bs.length == 40
  | none => true

/-- 16 samples within a converter's range (R31, R150). -/
def samplesOk (range : Int) (xs : List Int) : Bool :=
  xs.length == 16 && xs.all fun x => decide (-range ≤ x) && decide (x ≤ range)

/-- The words of a SPOILED frame end at its first uncorrectable word (R6). -/
def spoiledOk (ws : List CodedWord) : Bool :=
  decide (ws.length ≤ 16) && ws.dropLast.all (fun w => decodeWord w != .uncorrectable) &&
    match ws.getLast? with
    | some w => decodeWord w == .uncorrectable
    | none => false

/-- The words of a BROKEN frame received whole are all correctable, and one is missing at least (R7). -/
def brokenOk (ws : List CodedWord) : Bool :=
  decide (ws.length ≤ 15) && ws.all fun w => decodeWord w != .uncorrectable

/-- The command is one that can happen. -/
def Instr.wellFormed (i : Instr) : Bool :=
  (match i.frame? with
    | some (k, f) => f.ok k && auxOk k f
    | none => true) &&
  match i with
  | .resetNRelease _ _ prom => promOk prom
  | .restart _ prom => promOk prom
  | .selftestEnd _ volts amps => samplesOk voltEnd volts && samplesOk ampEnd amps
  | .frameSpoiled ws _ => spoiledOk ws
  | .frameBroken ws => brokenOk ws
  | .slotWindowExpiry n => isHead n
  | .silenceTimerExpiry n => decide (n ≤ 8)
  | .takeWindowExpiry j | .catchGraceExpiry j | .landingWaitExpiry j | .holdLimitExpiry j
  | .landingLimitExpiry j | .readingDeadlineExpiry j => decide (1 ≤ j) && decide (j ≤ 4095)
  | _ => true

end Sys2Proof
end

