-- ==== Sys2Proof/Safety.lean ====
section
/-! DEFINITION. The terms in which claims about the part are stated: views of the state, the situations in which a command
has its effect, what the blocks' own action after a command keeps, and the safety conditions of the manual as invariants. -/

namespace Sys2Proof.Machine

open Sys2Proof (RxFrame Instr)

/-! ## Views of the state -/

/-- The input levels, the count of free values drawn and the commands that wait. -/
def State.outer (s : State) : Pins × Nat × List Instr := (s.pins, s.drawn, s.pending)

/-- The lane counters, the check log and the last-sender trackers. -/
def State.log (s : State) : Counters × CheckLog × Trackers := (s.lif.counters, s.lif.checkLog, s.lif.trackers)

/-- Whether the part is held in reset, its station number and its side. -/
def State.identity (s : State) : Bool × Option Nat × Side := (s.stc.inReset, s.stc.station, s.stc.side)

/-- The roster entries of stations 0 to 8. -/
def State.rosters (s : State) : RosterEntry × Heads RosterEntry := (s.stc.roster0, s.stc.roster)

/-- The claim map. -/
def State.space (s : State) : Heads Slot := s.scu.map

/-- The held claim, the ordinals and doubt. -/
def State.claimState (s : State) : Option Claim × Nat × Option Nat × Bool :=
  (s.scu.held, s.scu.ordinal, s.scu.lastGranted, s.scu.doubt)

/-- The last drive command and the last REPORT. -/
def State.driveState (s : State) : Option DriveCommand × Option DriveReport := (s.msq.lastCommand, s.msq.lastReport)

/-- The fault record, the second flag, the fault count and FAULT_N. -/
def State.faultState (s : State) : Option FaultRecord × Bool × Nat × Bool :=
  (s.flu.record, s.flu.second, s.flu.count, s.flu.faultN)

/-- Silence, the fence state and the HALT drive. -/
def State.fenceState (s : State) : Bool × FenceState × Bool := (s.lif.silent, s.flu.fence, s.flu.haltDrive)

/-- The frames offered to the WORK queue and not yet sent, in it or held for it (R14). -/
def State.offered (s : State) : List TxFrame := s.lif.work ++ s.lif.held

/-- The order of the last drive command (R121). -/
def State.lastOrder (s : State) : Option DriveOrder := s.msq.lastCommand.map (·.order)

/-! ## Situations -/

/-- The part runs: out of reset, not in the lift phase of a restart, and with no fence of mode 1, whose end is a restart. It
may be joining, OFFLINE, FROZEN, halted, or fenced in mode 0, 2 or 3. -/
structure State.Running (s : State) : Prop where
  noReset : s.stc.inReset = false
  noLift  : s.lifting = false
  noFence1 : s.flu.fence = .noFence ∨ s.flu.fence = .acting 0 ∨ s.flu.fence = .silent ∨ s.flu.fence = .haltAll

/-- The part is at work: it runs, HALT is released, there is no fence, and the join is over. -/
structure State.AtWork (s : State) : Prop where
  noReset : s.stc.inReset = false
  noLift  : s.lifting = false
  noHalt  : s.halt = false
  noFence : s.flu.fence = .noFence
  joined  : s.msq.motion ≠ .joining

/-- The probe of a head that is down can be lifted where it stands: a REPORT has come, and its position is the standing XY, so
that the LIFT passes the check of R123. -/
def State.LiftsSafely (s : State) : Prop :=
  s.msq.motion = .descend ∨ s.msq.motion = .landed ∨ s.msq.motion = .measure ∨ s.msq.motion = .hold →
    s.msq.lastReport ≠ none ∧ s.stand = s.tip

/-- A frame is handed on to the blocks that own its kind: the receiver takes it (R3), the head's own is awaited (R18, R23),
and it passes the checks of R19 to R22 and R197. -/
structure State.Accepts (s : State) (k : Kind) (f : RxFrame) : Prop where
  received : s.receives f = true
  readback : s.isOwn f = true → s.awaitsReadback = true
  forHead  : s.isFor k f = true
  follow   : k.followAllowed f.body.length = true
  fields   : fieldsOk k f = true
  source   : sourceOk k f.src.toNat = true
  code     : k.guarded = true → codeOk f = true ∧ ¬ (f.dst.toNat = 15 ∧ k = .restart)

/-- The motion states in which MSQ serves a membership or stands still by itself, and the blocks' own action begins no
motion: all but PARKED, IDLE, CLAIMING, WAIT_SPACE and PARKING (and JOINING, which is STC's). -/
def MotionState.engaged : MotionState → Bool
  | .travel | .descend | .landed | .measure | .hold | .lift | .frozen | .offline => true
  | .joining | .parked | .idle | .claiming | .waitSpace | .parking => false

/-! ## What the blocks' own action keeps

After the effect of a command, the blocks do what their rules ask of them at once: they offer a TAKE or a CENSUS_REQ, hand a
point over, ask for a corridor, withdraw a stale CLAIM (`settle`). `RunKept s t` and `WorkKept s t` list what that leaves as
it was: `t` is `s` but for such actions. -/

/-- What the blocks' own action keeps in every running part. -/
structure RunKept (s t : State) : Prop where
  outer       : t.outer = s.outer
  log         : t.log = s.log
  identity    : t.identity = s.identity
  rosters     : t.rosters = s.rosters
  config      : t.stc.config = s.stc.config
  planLoss    : t.stc.planLoss = s.stc.planLoss
  beaconTimer : t.stc.beaconTimer = s.stc.beaconTimer
  offline     : t.stc.offlineReason = s.stc.offlineReason
  jtb         : t.jtb = s.jtb
  space       : t.space = s.space
  claimState  : t.claimState = s.claimState
  censusTimer : t.scu.censusTimer = s.scu.censusTimer
  mismatches  : t.rvu.mismatches = s.rvu.mismatches
  report      : t.msq.lastReport = s.msq.lastReport
  receiver    : t.lif.receiver = s.lif.receiver
  collisions  : t.lif.k = s.lif.k

/-- What the blocks' own action keeps in a part at work. -/
structure WorkKept (s t : State) : Prop extends RunKept s t where
  meu        : t.meu = s.meu
  flu        : t.flu = s.flu
  post       : t.lif.post = s.lif.post
  answer     : t.lif.answer = s.lif.answer
  silent     : t.lif.silent = s.lif.silent
  deafness   : t.lif.deafness = s.lif.deafness
  burst      : t.lif.burst = s.lif.burst
  join       : t.stc.join = s.stc.join
  restart    : t.stc.restart = s.stc.restart
  reply      : t.scu.replyQueued = s.scu.replyQueued
  command    : t.msq.lastCommand = s.msq.lastCommand
  standing   : t.msq.standing = s.msq.standing
  drive      : t.msq.driveSilence = s.msq.driveSilence
  /-- What was offered to the WORK queue stays offered, a READING aside, which goes with its membership. -/
  offered    : ∀ f ∈ s.offered, (∀ j, isReadingOf j f = false) → f ∈ t.offered
  /-- An engaged head goes on with its motion and its memberships; a current one in FORMED is handed over (R78). -/
  motion     : s.msq.motion.engaged = true → t.msq.motion = s.msq.motion
  current    : s.msq.motion.engaged = true → (∀ m, s.rvu.current = some m → m.state ≠ .formed) →
    t.rvu.current = s.rvu.current ∧ t.rvu.next = s.rvu.next

/-! ## Faults -/

/-- R180, R181: a fault with a code is entered. The record keeps the first, a later one sets the second flag, either is counted,
and FAULT_N is asserted. The held claim of the record is R146's (log entry 47). -/
def State.entered (s : State) (code : Nat) : State := s.onFlu fun u => { u with
  record := some (u.record.getD {
    code := code, motion := s.msq.motion, tipX := s.tipX, tipY := s.tipY, job := s.currentJob, board := s.boardNumber
    held := s.scu.held })
  second := u.second || u.record.isSome, count := saturate8 u.count, faultN := true }

/-- R16, R142, R166, R185, R186: a fence of mode 2 or 3 is entered. The head is silent with its FAULT frame alone to send, its
memberships and its measurement end, and it stops, but where it was FROZEN; mode 3 drives HALT. Claim, ordinals, doubt and job
table stay. -/
structure Silenced (mode : Nat) (fault : TxFrame) (s t : State) : Prop where
  work    : t.lif.work = [fault]
  places  : t.lif.safety = [] ∧ t.lif.answer = none ∧ t.lif.post = [] ∧ t.lif.held = []
  silent  : t.lif.silent = true
  members : t.rvu.current = none ∧ t.rvu.next = none
  /-- A TAKE on the lane that has not been heard stays pending; any other goes with its frame (R16, R66). -/
  take    : t.rvu.pending = if ∃ x ∈ s.lif.tx, isTakeFrame x.frame = true ∧ x.heard = false then s.rvu.pending else none
  meu     : t.meu = Meu.powerOn
  motion  : t.msq.motion = .frozen
  phase   : t.msq.frozen = if s.msq.motion = .frozen then s.msq.frozen else .stopping
  command : t.msq.lastCommand =
    if s.msq.motion = .frozen then s.msq.lastCommand else some { number := s.nextCommand, order := .stop }
  restart : t.stc.restart = .noRestart
  fence   : t.flu.fence = if mode = 3 ∨ s.flu.haltDrive = true then .haltAll else .silent
  halt    : t.flu.haltDrive = (s.flu.haltDrive || mode == 3)
  claim   : t.claimState = s.claimState
  table   : t.jtb = s.jtb

/-- R32, R34, R118, R189: a fault has ended the join. The head is OFFLINE with the fault's code, without board or claim and in
doubt, its CLAIM and CENSUS_REQ discarded; it sends no FAULT frame, and its fence and HALT drive are as before. -/
structure WentOffline (code : Nat) (s t : State) : Prop where
  motion  : t.msq.motion = .offline
  join    : t.stc.join = .failed
  reason  : t.stc.offlineReason = code
  board   : t.stc.board = .noBoard
  claim   : t.scu.held = none ∧ t.scu.pending = none ∧ t.scu.doubt = true
  census  : t.scu.censusPending = false ∧ t.scu.censusTimer = none
  frames  : t.offered = s.offered ∧ ∀ f ∈ t.lif.safety, f ≠ .censusReq ∧ isClaimFrame f = false
  timers  : t.lif.deafness = none ∧ t.msq.driveSilence = none ∧ t.stc.listen = none
  fence   : t.fenceState = s.fenceState
  table   : t.jtb = s.jtb
  command : t.msq.lastCommand = s.msq.lastCommand

/-! ## Restart -/

/-- R48, steps 1 to 3: what the clear phase of a restart leaves of `s`, whatever the head then does. -/
structure Cleared (s t : State) : Prop where
  outer    : t.outer = s.outer
  log      : t.log = s.log
  identity : t.identity = s.identity
  table    : t.jtb.entries = []
  members  : t.rvu.current = none ∧ t.rvu.next = none ∧ t.rvu.pending = none
  queues   : t.lif.safety = [] ∧ t.lif.work = [] ∧ t.lif.answer = none ∧ t.lif.post = [] ∧ t.lif.held = []
  claim    : t.scu.held = none ∧ t.scu.pending = none
  ordinal  : t.scu.ordinal = s.scu.ordinal
  map      : t.space = s.space.map fun sl => match sl.holds with | .frozen .. => sl | _ => Slot.empty
  plan     : t.stc.roster0 = if s.stc.roster0.presence = .lost then s.stc.roster0 else .absent
  roster   : t.stc.roster = s.stc.roster.map fun e => if e.presence = .lost then e else .absent
  board    : t.stc.board = .noBoard ∧ t.stc.changeDue = false ∧ t.stc.planLoss = none
  fence    : t.flu.fence = .noFence ∧ t.flu.restartWait = none ∧ t.flu.haltDrive = false ∧ t.lif.silent = false
  meu      : t.meu = Meu.powerOn
  drive    : t.driveState = s.driveState

/-- R48, step 4 with R33: the head joins anew, its configuration and its fault record kept, and with them a census whose
request is on the lane and has not been heard (R26, R111; log entry 14). -/
structure Rejoined (s t : State) : Prop extends Cleared s t where
  motion  : t.msq.motion = .joining
  join    : t.stc.join = .listen ∧ t.stc.listen = some 30000000
  restart : t.stc.restart = .noRestart ∧ t.stc.selfTesting = false ∧ t.stc.offlineReason = 0
  doubt   : t.scu.doubt = true
  beacon  : t.stc.beaconTimer = none
  config  : t.stc.config = s.stc.config
  faults  : t.faultState = s.faultState
  census  : t.scu.censusTimer = none ∧
    (t.scu.censusPending = true ↔ s.msq.motion ≠ .offline ∧ ∃ x ∈ s.lif.tx, x.frame = .censusReq ∧ x.heard = false)

/-- R47, step 2: the lift phase of a restart has begun. Claims, map, table and queues of `s` stay until it ends; a held READING
is released (R166). -/
structure LiftBegun (s t : State) : Prop where
  restart : t.stc.restart = .lifting ∧ t.stc.restartLift = some 2000000000
  motion  : t.msq.motion = .lift
  command : t.msq.lastCommand = some { number := s.nextCommand, order := .move s.tipX s.tipY s.cfg.zt .lift }
  meu     : t.meu = Meu.powerOn
  claim   : t.claimState = s.claimState ∧ t.scu.pending = s.scu.pending ∧ t.space = s.space
  table   : t.jtb = s.jtb
  queues  : t.lif.safety = s.lif.safety ∧ t.lif.post = s.lif.post ∧ t.lif.work = s.lif.work
  held    : t.lif.held = s.lif.held.filter fun f => !isReading f
  halt    : t.flu.haltDrive = s.flu.haltDrive ∧ t.lif.silent = s.lif.silent
  faults  : t.faultState = s.faultState

/-! ## Safety conditions -/

/-- R165: the stimulus is driven only in MEASURE, with the window open and the current membership MEASURING; the next
membership waits in TAKEN or FORMED behind a current one of another job (R77). -/
def State.StimulusSafe (s : State) : Prop :=
  (s.meu.stimulus ≠ .off → s.meu.window ≠ .off ∧ s.msq.motion = .measure ∧
    ∃ m, s.rvu.current = some m ∧ m.state = .measuring) ∧
  ∀ n, s.rvu.next = some n → (n.state = .taken ∨ n.state = .formed) ∧
    ∃ m, s.rvu.current = some m ∧ m.job ≠ n.job

/-- R16, R185, R186, R193: the head is silent exactly in fence mode 2 or 3, and drives HALT exactly in mode 3. -/
def State.FenceSafe (s : State) : Prop :=
  (s.lif.silent = true ↔ s.flu.fence = .silent ∨ s.flu.fence = .haltAll) ∧
    (s.flu.haltDrive = true ↔ s.flu.fence = .haltAll)

/-- R181: FAULT_N is asserted exactly while the fault record holds an entry. -/
def State.FaultSafe (s : State) : Prop := s.flu.faultN = s.flu.record.isSome

/-- R11, R25, R75, R180: the counters keep their ranges. -/
def State.CountersSafe (s : State) : Prop :=
  s.lif.counters.corrected ≤ 65535 ∧ s.lif.counters.spoiled ≤ 65535 ∧ s.lif.counters.broken ≤ 65535 ∧
    s.lif.counters.collisions ≤ 65535 ∧ s.lif.counters.discarded ≤ 65535 ∧ s.lif.counters.late ≤ 65535 ∧
    s.lif.k ≤ 16 ∧ s.rvu.mismatches ≤ 255 ∧ s.flu.count ≤ 255

/-- R14: the WORK queue holds at most 8 frames. -/
def State.WorkQueueSafe (s : State) : Prop := s.lif.work.length ≤ 8

/-- A frame that a silent head may still send: the FAULT frame of its fence, and BEACONs (R16). -/
def TxFrame.silentOk : TxFrame → Bool
  | .beacon | .fault .. => true
  | _ => false

/-- R16: a silent head has nothing to send but FAULT and BEACON frames, and a frame left on the lane is not retried. -/
def State.SilentSafe (s : State) : Prop :=
  s.lif.silent = true →
    s.lif.safety = [] ∧ s.lif.answer = none ∧ s.lif.post = [] ∧
    (∀ f ∈ s.lif.work, f.silentOk = true) ∧ (∀ f ∈ s.lif.held, f = .beacon) ∧
    ∀ t, s.lif.tx = some t → t.replacement = none ∧ (t.detached = true ∨ t.place = .work)

/-- R100: the head's claim in its objection window conflicts with no rectangle of the claim map. -/
def State.WindowSafe (s : State) : Prop :=
  ∀ p o t, s.scu.pending = some p → p.stage = .window o t → s.conflictsMap p.claim.rect = false

/-- R54, R69: at most 24 entries, one per job, in table order with distinct ranks below the next; every role of an entry has
at most one taker, and no station takes two roles of it. -/
def State.TableSafe (s : State) : Prop :=
  s.jtb.entries.length ≤ 24 ∧ (s.jtb.entries.map (·.offer.job)).Nodup ∧ (s.jtb.entries.map (·.rank)).Nodup ∧
    s.jtb.entries.Pairwise (fun a b => a.before b = true) ∧
    (∀ e ∈ s.jtb.entries, e.rank < s.jtb.nextRank ∧ e.takers.length = e.offer.points.length ∧
      (e.takers.filterMap id).Nodup)

/-- R32, R118, R167, R191: an OFFLINE head has no board and no membership, holds no claim, claims none, stays in doubt with no
census, and is not fenced. -/
def State.OfflineSafe (s : State) : Prop :=
  s.msq.motion = .offline →
    s.stc.board = .noBoard ∧ s.rvu.current = none ∧ s.rvu.next = none ∧ s.scu.held = none ∧ s.scu.pending = none ∧
    s.scu.doubt = true ∧ s.scu.censusPending = false ∧ s.scu.censusTimer = none ∧ s.flu.fence = .noFence

/-- R33 to R37: the head is in JOINING exactly in the join states LISTEN, CENSUS and PLACING, there with no membership (R167)
and not fenced (R48, R189, R190); a self-test runs in OFFLINE alone (R31). -/
def State.JoinSafe (s : State) : Prop :=
  (s.msq.motion = .joining ↔ s.stc.join = .listen ∨ s.stc.join = .census ∨ s.stc.join = .placing) ∧
    (s.msq.motion = .joining → s.rvu.current = none ∧ s.rvu.next = none ∧ s.flu.fence = .noFence) ∧
    (s.stc.selfTesting = true → s.msq.motion = .offline)

/-- R27: a part held in reset stands at its power-on values, so that it drives nothing. -/
def State.ResetSafe (s : State) : Prop :=
  s.stc.inReset = true →
    s = { State.reset with pins := s.pins, drawn := s.drawn, pending := s.pending }

/-- Every safety condition at once. -/
structure State.Safe (s : State) : Prop where
  stimulus : s.StimulusSafe
  fence    : s.FenceSafe
  fault    : s.FaultSafe
  counters : s.CountersSafe
  work     : s.WorkQueueSafe
  silent   : s.SilentSafe
  window   : s.WindowSafe
  table    : s.TableSafe
  offline  : s.OfflineSafe
  join     : s.JoinSafe
  reset    : s.ResetSafe

end Sys2Proof.Machine
end

