-- ==== Sys2Proof/Certificates/Slice0/Obligations.lean ====
section
/-! DEFINITION. The statements for the provers. `settle` is what the blocks do of themselves after a command; what it keeps in
a running part and in a part at work is `RunKept` and `WorkKept` of Safety.lean. That their own action comes at the end of a
command, in the order of `settle`, is the model's choice (log entry 42); so are the two commands of an own frame's end (log
entry 5) and the lengths that timers hold (log entry 2). -/

open Sys2Proof Sys2Proof.Machine

/-- A step takes the command at the front of the queue and runs it with the queue's rest. On an empty queue it idles, which
is the model's choice (log entry 4). -/
def Obligations.StepRunsFrontCommand : Prop :=
  (∀ (c : Instr) (q : List Instr) (s : State), step { s with pending := c :: q } = exec c { s with pending := q }) ∧
    ∀ s : State, s.pending = [] → step s = .next s

/-- R27: asserting RESET_N at any moment puts every block at its power-on value; held in reset, the part does
nothing. The model's choices in it: log entries 2, 3 and 41. -/
def Obligations.ResetHoldsThePart : Prop :=
  (∀ s : State, exec .resetNAssert s =
    .next { State.reset with pins := s.pins, drawn := s.drawn, pending := s.pending }) ∧
  ∀ (c : Instr) (s : State), s.stc.inReset = true → s.ResetSafe → (∀ st d p, c ≠ .resetNRelease st d p) →
    ∃ t, exec c s = .next t ∧ t = { s with pins := t.pins }

/-- R3, R10: noise and syncs at the receiver, and what WAIT_QUIET does not hear. The model's choices in it: log entries 7 and
44. -/
def Obligations.LineWatchFollowsTheLine : Prop :=
  ∀ s : State, s.Running →
    let nothing (c : Instr) : Prop := exec c s = .next (settle s) ∧ RunKept s (settle s)
    let follow := s.onLif fun l => { l with receiver := .follow }
    (s.lif.tx = none →
      (s.lif.receiver = .idle →
        let u := s.onLif fun l => { l with receiver := .waitQuiet, gap := none, burst := none }
        let v := s.onLif fun l => { l with receiver := .header, gap := none, burst := none, readbackDue := false }
        (exec .lineNoise s = .next (settle u) ∧ RunKept u (settle u)) ∧
          exec .syncDetected s = .next (settle v) ∧ RunKept v (settle v)) ∧
      (s.lif.receiver = .header → exec .syncDetected s = .next (settle follow) ∧ RunKept follow (settle follow)) ∧
      (s.lif.receiver = .waitQuiet → nothing .lineNoise ∧ nothing .syncDetected)) ∧
    (∀ x, s.lif.tx = some x →
      nothing .lineNoise ∧
      (x.wire.body ≠ [] → s.lif.receiver = .header →
        exec .syncDetected s = .next (settle follow) ∧ RunKept follow (settle follow)) ∧
      (x.wire.body = [] ∨ s.lif.receiver ≠ .header → nothing .syncDetected)) ∧
    (s.lif.receiver = .waitQuiet →
      (∀ ws rest, nothing (.frameSpoiled ws rest)) ∧ (∀ ws, nothing (.frameBroken ws)) ∧
      ∀ c k f, c.frame? = some (k, f) → s.isOwn f = false ∨ s.awaitsReadback = false → nothing c)

/-- R2, R3, R8 to R11: the gap counted from the start of quiet, for the frame LIF contends with. The model's choices
in it: log entry 29. -/
def Obligations.QuietStartsTheGap : Prop :=
  ∀ (s : State) (n : Nat), s.Running → s.stc.station = some n → 1 ≤ n → n ≤ 8 → (∀ c, s.lif.trackers.of c ≤ 8) →
    s.lif.tx = none → (s.lif.receiver = .idle ∨ s.lif.receiver = .waitQuiet) → s.choice ≠ none →
    ∃ t, exec .lineQuiet s = .next t ∧ t.lif.receiver = .idle ∧ t.lif.burst = none ∧
      RunKept (s.onLif fun l => { l with receiver := .idle }) t ∧
      t.lif.gap = t.choice.map fun x => (x.2.1,
        x.2.1.baseGap + 500 * (((n : Int) - s.lif.trackers.of x.2.1 - 1) % 9).toNat +
          if s.lif.k = 0 then 0 else (n + 1) * 500 * 2 ^ (min s.lif.k 5 - 1))

/-- R8, R10, R12: the start of a sync, after a normal gap and after the short gap of a post burst. The model's
choices in it: log entries 25 (the moment of the 1 µs) and 53 (the number of the line level read at the start). -/
def Obligations.GapEndStartsTheSync : Prop :=
  ∀ s : State, s.Running → s.lif.tx = none →
    (∀ p c f, s.lif.gap.isSome = true → s.lif.receiver = .idle → s.choice = some (p, c, f) →
      let v := s.onLif fun l => { l with
        gap := none, burst := none, receiver := .header, readbackDue := false
        tx := some { place := p, frame := f, wire := fillFrame s f, coded := (fillFrame s f).code, burstAt := 0,
                     detached := false, withdrawn := false, replacement := none, heard := false, draw := s.drawn } }
      let u := { v with drawn := s.drawn + 1 }
      exec .gapEnd s = .next (settle u) ∧ RunKept u (settle u)) ∧
    ∀ b p c f, s.lif.burst = some b → s.choice = some (p, c, f) →
      (c = .post → s.cfg.postBurst ≠ 0 → b + 1000 < s.cfg.postBurst * 1000 →
        let v := s.onLif fun l => { l with
          gap := none, burst := none, receiver := .header, readbackDue := false
          tx := some { place := p, frame := f, wire := fillFrame s f, coded := (fillFrame s f).code, burstAt := b + 1000,
                       detached := false, withdrawn := false, replacement := none, heard := false, draw := s.drawn } }
        let u := { v with drawn := s.drawn + 1 }
        exec .postBurstGapEnd s = .next (settle u) ∧ RunKept u (settle u)) ∧
      (c ≠ .post ∨ s.cfg.postBurst = 0 ∨ s.cfg.postBurst * 1000 ≤ b + 1000 →
        let u := s.onLif fun l => { l with burst := none }
        exec .postBurstGapEnd s = .next (settle u) ∧ RunKept u (settle u))

/-- R11, R7, R15: a collision below the count at which LANE_STALL is reported: a frame that keeps its place, one whose queue was
emptied under it (R16, R26), one that gives way to the frame waiting behind it, and a CLAIM whose pending claim goes with it,
withdrawn (R99) or replaced by another frame. The model's choices in it: log entries 12 (when the pending claim goes) and 13 (what
ends with a frame whose queue was emptied: a pending TAKE, a pending census, the mark of a reply). -/
def Obligations.CollisionKeepsTheFrame : Prop :=
  ∀ (s : State) (x : Tx), s.Running → s.lif.tx = some x → s.lif.k ≠ 15 →
    let u := (s.onLif fun l => { l with
        tx := none, k := min (l.k + 1) 16, receiver := .waitQuiet, burst := none, gap := none
        counters := { l.counters with collisions := saturate16 l.counters.collisions } }).onScu fun c =>
      { c with doubt := true, repeatMark := c.repeatMark || c.censusTimer.isSome }
    let goes (v : State) : Prop := exec .laneCollision s = .next (settle v) ∧ RunKept v (settle v)
    (x.detached = false → x.withdrawn = false → x.replacement = none → goes u) ∧
    (x.detached = true → goes (match x.frame with
      | .take .. => u.onRvu fun r => { r with pending := none }
      | .censusReq => u.onScu fun c => { c with censusPending := false }
      | .censusReply => u.onScu fun c => { c with replyQueued := false }
      | _ => u)) ∧
    (∀ g, x.detached = false → x.replacement = some g → isClaimFrame x.frame = false ∨ isClaimFrame g = true ∨
      (∀ p, s.scu.pending = some p → p.stage ≠ .queued) →
      goes (u.onLif fun l => match x.place with
        | .safety => { l with safety := g :: l.safety.tail, stallSafety := some 2000000 }
        | .work => { l with work := g :: l.work.tail, stallWork := some 20000000 }
        | .answer => { l with answer := some g }
        | .post => { l with post := g :: l.post.tail })) ∧
    ∀ p, s.AtWork → s.lif.silent = false → x.detached = false →
      isClaimFrame x.frame = true → x.place = .safety → s.scu.pending = some p → p.stage = .queued →
      s.msq.motion = .claiming → s.msq.abandonMark = false → s.msq.spaceExpired = false →
      let ends (g : List TxFrame) : Prop :=
        ∃ t, exec .laneCollision s = .next t ∧ t.scu.pending = none ∧ t.scu.doubt = true ∧ t.msq.motion = .waitSpace ∧
          (∀ f ∈ g ++ s.lif.safety.tail, f ∈ t.lif.safety) ∧
          ((∀ f ∈ s.lif.safety.tail, isClaimFrame f = false) → ∀ f ∈ t.lif.safety, isClaimFrame f = false) ∧
          t.lif.counters.collisions = saturate16 s.lif.counters.collisions ∧ t.scu.held = s.scu.held ∧ t.jtb = s.jtb
      (x.withdrawn = true → x.replacement = none → ends []) ∧
      (∀ g, x.replacement = some g → isClaimFrame g = false → ends [g])

/-- R11 to R13, R17, R38: a frame sent successfully, by the place it came from. The model's choices in it: log entry
5 (readbackDue). -/
def Obligations.SentFrameLeavesItsPlace : Prop :=
  ∀ (s : State) (x : Tx), s.Running → s.lif.tx = some x → x.detached = false → x.replacement = none →
    let sent := (s.onLif fun l => { l with tx := none, k := 0, readbackDue := !x.heard }).onStc fun c =>
      { c with beaconTimer := c.beaconTimer.map fun _ => 10000000 }
    let stall (q : List TxFrame) (d : Nat) : Timer := if q = [] then none else some d
    let burst : Option Nat := some (x.burstAt + (x.wire.body.length + 1) * 4250)
    let u := sent.onLif fun l => match x.place with
      | .safety => { l with safety := l.safety.tail, stallSafety := stall l.safety.tail 2000000, burst := none }
      | .work => { l with work := l.work.tail, stallWork := stall l.work.tail 20000000, burst := none }
      | .answer => { l with answer := none, burst := burst }
      | .post => { l with post := l.post.tail, burst := burst }
    exec .frameSent s = .next (settle u) ∧ RunKept u (settle u)

/-- R14: LIF takes held frames in the order in which they were first offered; R14, R88, R152, R153: a READING that enters takes
the LIFTED flag of that moment, and its member to HOLD. The model's choices in it: log entries 8 and 33. -/
def Obligations.HeldFrameEntersWork : Prop :=
  ∀ s : State, s.AtWork →
    (s.lif.held = [] ∨ 8 ≤ s.lif.work.length →
      exec .heldFrameAccepted s = .next (settle s) ∧ WorkKept s (settle s)) ∧
    ∀ f rest, s.lif.held = f :: rest → s.lif.work.length < 8 →
      let stamped : TxFrame := match f with
        | .reading j r p o c l v i => .reading j r p o c (l || s.meu.acc.lifted) v i
        | g => g
      let enters := s.onLif fun l => { l with
        held := rest, work := l.work ++ [stamped], stallWork := if l.work = [] then some 20000000 else l.stallWork }
      let u := enters.onMeu fun x => { x with ownReading := x.ownReading.map fun o =>
        { o with reading := { o.reading with lifted := o.reading.lifted || x.acc.lifted } } }
      ((∀ j, isReadingOf j f = false) → exec .heldFrameAccepted s = .next (settle enters) ∧ WorkKept enters (settle enters)) ∧
      ∀ j, isReadingOf j f = true →
        ((∀ m, s.member? j = some m → m.state ≠ .measuring) ∨ s.meu.window ≠ .off →
          exec .heldFrameAccepted s = .next (settle u) ∧ WorkKept u (settle u)) ∧
        ∀ m e, s.rvu.current = some m → m.job = j → m.state = .measuring → m.role ≠ 0 → m.deferred = none →
          s.meu.window = .off → s.entry? j = some e → (∀ n, s.rvu.next = some n → n.job ≠ j) →
          ∃ t, exec .heldFrameAccepted s = .next t ∧ t.msq.motion = .hold ∧
            t.rvu.current = some { m with
              state := .hold
              holdLimit := some (settleTime e.offer.settle + sampleCount e.offer.sample * 10000 + 25000000) } ∧
            t.rvu.next = s.rvu.next ∧ t.meu = u.meu ∧ t.lif.stallWork = u.lif.stallWork ∧
            (∃ ws hs, t.lif.work = s.lif.work ++ stamped :: ws ∧ t.lif.held = rest ++ hs ∧
              ∀ g ∈ ws ++ hs, ∀ i, isReadingOf i g = false) ∧
            t.lif.silent = s.lif.silent ∧ t.jtb = s.jtb ∧ t.space = s.space ∧ t.claimState = s.claimState ∧ t.flu = s.flu

/-- R4 to R7, R25, R109: frames that do not stay intact, and the check log their corrected words fill. The model's choices in
it: log entry 7. -/
def Obligations.SpoiledAndBrokenFramesAreCounted : Prop :=
  ∀ s : State, s.Running → s.lif.counters.corrected ≤ 65535 →
    let fixed (ws : List CodedWord) : Nat :=
      (ws.filter fun w => match decodeWord w with | .corrected .. => true | _ => false).length
    let logged (ws : List CodedWord) (t : State) : Prop :=
      (fixed ws = 0 → t.lif.checkLog = s.lif.checkLog) ∧
      (s.lif.checkLog.entry ≠ none → 1 ≤ fixed ws → t.lif.checkLog = { s.lif.checkLog with more := true }) ∧
      (s.lif.checkLog.entry = none → ∀ i w, ws[i]? = some w → ∀ d syn, decodeWord w = .corrected d syn →
        (∀ v ∈ ws.take i, ∃ c, decodeWord v = .clean c) → ∀ h e, ws.head? = some h →
        (decodeWord h = .clean e ∨ ∃ n, decodeWord h = .corrected e n) →
        t.lif.checkLog = {
          entry := some { syndrome := syn, parityWrong := true, position := i, kind := e.toNat / 2 ^ 19 % 32
                          source := e.toNat / 2 ^ 15 % 16 }
          more := s.lif.checkLog.more || decide (2 ≤ fixed ws) })
    let same (t : State) : Prop := t.lif.trackers = s.lif.trackers ∧ t.rosters = s.rosters ∧ t.space = s.space ∧
      t.scu.held = s.scu.held ∧ t.scu.ordinal = s.scu.ordinal ∧ t.jtb = s.jtb ∧ t.scu.doubt = true
    (s.lif.receiver ≠ .waitQuiet →
      (∀ ws rest, spoiledOk ws = true →
        ∃ t, exec (.frameSpoiled ws rest) s = .next t ∧ same t ∧ logged ws t ∧
          t.lif.counters = { s.lif.counters with
            corrected := min 65535 (s.lif.counters.corrected + fixed ws), spoiled := saturate16 s.lif.counters.spoiled } ∧
          t.lif.receiver = if ws.length = 1 ∨ rest = .violated then .waitQuiet else .idle) ∧
      ∀ ws, brokenOk ws = true →
        ∃ t, exec (.frameBroken ws) s = .next t ∧ same t ∧ logged ws t ∧ t.lif.receiver = .waitQuiet ∧
          t.lif.counters = { s.lif.counters with
            corrected := min 65535 (s.lif.counters.corrected + fixed ws), broken := saturate16 s.lif.counters.broken }) ∧
    (s.lif.tx = none → s.lif.receiver = .header ∨ s.lif.receiver = .follow →
      ∃ t, exec .lineQuiet s = .next t ∧ same t ∧ t.lif.checkLog = s.lif.checkLog ∧ t.lif.receiver = .idle ∧
        t.lif.counters = { s.lif.counters with broken := saturate16 s.lif.counters.broken })

/-- R18 steps 1 and 2 and R38 to R42, for the kinds that give presence and last reported state alone. The model's
choices in it: log entries 6, 21 and 22. -/
def Obligations.FramesOfPresenceAlone : Prop :=
  ∀ (s : State) (f : RxFrame), s.Running → s.isOwn f = false → f.errors = [] →
    let heard (tr : Trackers) : State := s.onLif fun l => { l with
      receiver := .idle, gap := none, burst := none, trackers := tr
      deafness := if s.stc.join = .complete ∧ s.stc.restart = .noRestart then some 50000000 else l.deafness }
    (s.Accepts .planBeacon f →
      let u := (heard { s.lif.trackers with plan := 0 }).onStc fun c => { c with
        roster0 := { c.roster0 with presence := .present, silence := some 30000000 }, planLoss := none }
      exec (.planBeacon f) s = .next (settle u) ∧ RunKept u (settle u)) ∧
    ∀ e, s.stc.roster.at? f.src.toNat = some e →
      let from' (m : Option MotionState) : State :=
        (heard { s.lif.trackers with post := f.src.toNat }).onStc fun c => { c with
          roster := c.roster.put f.src.toNat { e with presence := .present, silence := some 30000000, motion := m } }
      (s.Accepts .refused f → exec (.refused f) s = .next (settle (from' e.motion)) ∧
        RunKept (from' e.motion) (settle (from' e.motion))) ∧
      (s.Accepts .status f →
        let m := if rxStatusItem f = 0 ∧ f.body.length = 15 ∧ rxStatusMotion f ≤ 13 then motionOfCode (rxStatusMotion f)
          else e.motion
        exec (.status f) s = .next (settle (from' m)) ∧ RunKept (from' m) (settle (from' m)))

/-- R19 to R22 and R197, for every kind of frame. The model's choices in it: log
entries 5, 6, 22 and 44. -/
def Obligations.ChecksDiscardOrPassOver : Prop :=
  ∀ (c : Instr) (k : Kind) (f : RxFrame) (s : State), c.frame? = some (k, f) → s.Running →
    s.receives f = true → (s.isOwn f = true → s.awaitsReadback = true) →
    let r := received k f s
    let u := r.onLif fun l => { l with counters := { l.counters with discarded := saturate16 l.counters.discarded } }
    (s.isFor k f = false → exec c s = .next (settle r) ∧ RunKept r (settle r)) ∧
    (s.isFor k f = true →
      (k.followAllowed f.body.length = false ∨ fieldsOk k f = false ∨ sourceOk k f.src.toNat = false ∨
        k.guarded = true ∧ f.dst.toNat = 15 ∧ (k = .restart ∨ codeOk f = false)) →
      exec c s = .next (settle u) ∧ RunKept u (settle u)) ∧
    (s.isFor k f = true → k.followAllowed f.body.length = true → fieldsOk k f = true → sourceOk k f.src.toNat = true →
      k.guarded = true → codeOk f = false → f.dst.toNat ≠ 15 →
      exec c s = .next (settle (if s.canAnswer then placeAnswer (.refused false k.code f.aux f.dst.toNat) u else u)))

/-- R23, R139, R140 with R180, R182, R185 to R187, R189, R191 and R192: where the three faults of floor 3 lead, from every fence
state and in the lift phase of a restart too, and where they are only entered. The model's choices in it: log entries 1 (the
order of two faults), 5 (when a readback is awaited) and 47. -/
def Obligations.FloorThreeFaultsHaltAll : Prop :=
  (∀ s : State, s.stc.inReset = false → s.flu.haltDrive = false → s.msq.motion ≠ .offline → s.msq.motion ≠ .joining →
    let fenced (code : Nat) (u t : State) : Prop := t.faultState = (u.entered code).faultState ∧
      Silenced 3 (.fault code 3 s.msq.motion s.currentJob) u t
    let told (r : DriveReport) : State := s.onMsq fun m => { m with lastReport := some r }
    let stays (r : DriveReport) : Prop := r.inPosition = false ∨
      r.number.toNat ≠ s.nextCommand ∧ (s.msq.motion = .frozen → s.completes r = false)
    (s.pins.contact = false → s.msq.motion ≠ .descend → s.msq.motion.closingExpected = false →
      ∃ t, exec .contactClosing s = .next t ∧ fenced 0x01 s t) ∧
    (∀ r, s.breaches r = true → r.fault = false → s.msq.breachReported = false → stays r →
      ∃ t, exec (.driveReport r) s = .next t ∧ fenced 0x02 (told r) t ∧ t.msq.lastReport = some r) ∧
    (∀ c k f, c.frame? = some (k, f) → s.isOwn f = true → s.awaitsReadback = false → s.lif.receiver ≠ .waitQuiet →
      ∃ t, exec c s = .next t ∧ fenced 0x03 s t ∧ t.lif.counters.discarded = s.lif.counters.discarded) ∧
    ∀ r, s.breaches r = true → r.fault = true → s.msq.breachReported = false → s.msq.driveReported = false → stays r →
      s.flu.fence = .noFence → s.lifting = false → s.rvu.current = none → s.rvu.next = none →
      let driveFirst := Config.driveFaultFirst s.drawn
      let frame : TxFrame := if driveFirst = true ∧ s.cfg.fenceMode = 3 then .fault 0x07 3 s.msq.motion 0
        else .fault 0x02 3 (if driveFirst = true ∧ 2 ≤ s.cfg.fenceMode then .frozen else s.msq.motion) 0
      ∃ t, exec (.driveReport r) s = .next t ∧ t.drawn = s.drawn + 1 ∧ t.msq.lastReport = some r ∧
        t.faultState = (((told r).entered (if driveFirst then 0x07 else 0x02)).entered 0x02).faultState ∧
        Silenced 3 frame (told r) t) ∧
  (∀ s : State, s.Running ∨ s.stc.inReset = false ∧ s.lifting = true →
    s.msq.motion = .offline ∨ s.flu.haltDrive = true ∧ s.msq.motion ≠ .joining →
    (s.pins.contact = false → s.msq.motion ≠ .descend → s.msq.motion.closingExpected = false →
      let u := ((s.onPins fun p => { p with contact := true }).onStc fun c =>
        { c with contactSeen := c.contactSeen || c.selfTesting }).entered 0x01
      exec .contactClosing s = .next (settle u) ∧ RunKept u (settle u)) ∧
    ∀ c k f, c.frame? = some (k, f) → s.isOwn f = true → s.awaitsReadback = false → s.lif.receiver ≠ .waitQuiet →
      let u := (received k f s).entered 0x03
      exec c s = .next (settle u) ∧ RunKept u (settle u)) ∧
  ∀ s : State, s.Running → s.msq.motion = .joining →
    (s.pins.contact = false → ∃ t, exec .contactClosing s = .next t ∧
      t.faultState = (s.entered 0x01).faultState ∧ WentOffline 0x01 s t) ∧
    ∀ c k f, c.frame? = some (k, f) → s.isOwn f = true → s.awaitsReadback = false → s.lif.receiver ≠ .waitQuiet →
      ∃ t, exec c s = .next t ∧ t.faultState = (s.entered 0x03).faultState ∧ WentOffline 0x03 s t

/-- R11, R17, R24, R122 with R179 to R187, R189, R191 and R192: the faults of floors 1 and 0. Taken in fence state NONE they fence
the head by their mode; in JOINING they end the join; in OFFLINE, in a fence and in the lift phase of a restart they are entered
alone. The model's choices in it: log entry 47. -/
def Obligations.TimedFaultsFenceByMode : Prop :=
  (∀ s : State, s.AtWork → s.msq.motion ≠ .offline → s.lif.silent = false → (s.rvu.current = none → s.rvu.next = none) →
    let fences (code floor : Nat) (u t : State) : Prop :=
      let mode := max u.cfg.fenceMode floor
      let jobs := (u.rvu.current.map (·.job)).toList ++ (u.rvu.next.map (·.job)).toList
      let down : Prop := u.msq.motion = .descend ∨ u.msq.motion = .landed ∨ u.msq.motion = .measure ∨ u.msq.motion = .hold
      t.meu = Meu.powerOn ∧ t.jtb = u.jtb ∧ t.space = u.space ∧
      (2 ≤ mode → t.faultState = (u.entered code).faultState ∧ t.lif.stallWork = some 20000000 ∧
        Silenced mode (.fault code mode u.msq.motion u.currentJob) u t) ∧
      (mode ≤ 1 → (u.rvu.current ≠ none → u.LiftsSafely) →
        t.faultState = (u.entered code).faultState ∧ TxFrame.fault code mode u.msq.motion u.currentJob ∈ t.offered ∧
        (∀ j ∈ jobs, TxFrame.drop j .fault 0 ∈ t.offered) ∧ t.rvu.current = none ∧ t.rvu.next = none ∧
        t.flu.awaitFault = (mode == 1) ∧ (mode = 1 → t.flu.awaitDrops = jobs) ∧
        (mode = 0 → u.msq.motion.actionEnds = true → t.flu.fence = .noFence) ∧
        (mode = 1 → u.msq.motion.actionEnds = true →
          t.flu.fence = .restartWait ∧ t.flu.restartWait = some 40000000) ∧
        (u.msq.motion.actionEnds = false → u.msq.motion.engaged = true → t.flu.fence = .acting mode) ∧
        (u.msq.motion = .travel → u.rvu.current ≠ none → t.msq.motion = .travel ∧ t.msq.abandonMark = true) ∧
        (down → u.rvu.current ≠ none → t.msq.motion = .lift ∧
          t.msq.lastCommand = some { number := u.nextCommand, order := .move u.tipX u.tipY u.cfg.zt .lift }))
    let rests : Prop := s.msq.motion.engaged = true ∧ s.scu.pending = none ∧ (s.scu.doubt = false ∨ s.scu.censusPending = true)
    (s.lif.stallSafety.isSome = true → ∃ t, exec (.stallTimerExpiry .safety) s = .next t ∧ fences 0x05 1 s t ∧
      (2 ≤ s.cfg.fenceMode ∨ rests → t.lif.stallSafety = none)) ∧
    (s.lif.stallWork.isSome = true → ∃ t, exec (.stallTimerExpiry .work) s = .next t ∧ fences 0x05 1 s t ∧
      (s.lif.work ≠ [] → s.cfg.fenceMode ≤ 1 → t.lif.stallWork = none)) ∧
    (s.lif.deafness.isSome = true → ∃ t, exec .deafnessTimerExpiry s = .next t ∧ fences 0x06 1 s t ∧
      t.lif.deafness = none) ∧
    (s.msq.driveSilence.isSome = true → s.msq.driveReported = false →
      ∃ t, exec .driveSilenceExpiry s = .next t ∧ fences 0x07 0 s t ∧ t.msq.driveSilence = none) ∧
    (∀ r, r.fault = true → s.breaches r = false → r.inPosition = false →
      let u := s.onMsq fun m => { m with
        lastReport := some r, driveReported := true, breachReported := false, driveSilence := some 2000000 }
      (s.msq.driveReported = false → ∃ t, exec (.driveReport r) s = .next t ∧ fences 0x07 0 u t ∧
        t.msq.lastReport = some r ∧ t.msq.driveSilence = some 2000000) ∧
      (s.msq.driveReported = true → exec (.driveReport r) s = .next (settle u) ∧ WorkKept u (settle u))) ∧
    ∀ x, s.lif.tx = some x → s.lif.k = 15 → x.detached = false → x.withdrawn = false → x.replacement = none →
      let u := (s.onLif fun l => { l with
          tx := none, k := 16, receiver := .waitQuiet, burst := none, gap := none
          counters := { l.counters with collisions := saturate16 l.counters.collisions } }).onScu fun c =>
        { c with doubt := true, repeatMark := c.repeatMark || c.censusTimer.isSome }
      ∃ t, exec .laneCollision s = .next t ∧ fences 0x05 1 u t ∧ t.lif.k = 16 ∧ t.lif.tx = none ∧ t.log = u.log ∧
        t.scu.doubt = true) ∧
  (∀ s : State, s.stc.inReset = false →
    s.msq.motion = .offline ∨ s.msq.motion ≠ .joining ∧ (s.lifting = true ∨ s.flu.fence ≠ .noFence) →
    let only (c : Instr) (u : State) : Prop := exec c s = .next (settle u) ∧
      (s.Running ∨ s.lifting = true → RunKept u (settle u))
    (s.lif.stallSafety.isSome = true →
      only (.stallTimerExpiry .safety) ((s.onLif fun l => { l with stallSafety := none }).entered 0x05)) ∧
    (s.lif.stallWork.isSome = true →
      only (.stallTimerExpiry .work) ((s.onLif fun l => { l with stallWork := none }).entered 0x05)) ∧
    (s.lif.deafness.isSome = true →
      only .deafnessTimerExpiry ((s.onLif fun l => { l with deafness := none }).entered 0x06)) ∧
    (s.lifting = false → s.msq.driveSilence.isSome = true → s.msq.driveReported = false →
      only .driveSilenceExpiry ((s.onMsq fun m => { m with driveSilence := none, driveReported := true }).entered 0x07))) ∧
  ∀ s : State, s.Running → s.msq.motion = .joining →
    let ends (c : Instr) (code : Nat) : Prop := ∃ t, exec c s = .next t ∧
      t.faultState = (s.entered code).faultState ∧ WentOffline code s t
    (s.lif.stallSafety.isSome = true → ends (.stallTimerExpiry .safety) 0x05) ∧
    (s.lif.stallWork.isSome = true → ends (.stallTimerExpiry .work) 0x05) ∧
    (s.lif.deafness.isSome = true → ends .deafnessTimerExpiry 0x06) ∧
    (s.msq.driveSilence.isSome = true → s.msq.driveReported = false → ends .driveSilenceExpiry 0x07)

/-- R52 to R55: admission and eviction. -/
def Obligations.OfferEntersTheTable : Prop :=
  ∀ (s : State) (f : RxFrame) (o : Offer), s.Running → s.TableSafe → s.Accepts .offer f → rxOffer f = some o →
    s.stc.board = .active o.board → s.entry? o.job = none → (∃ p ∈ o.points, s.servable p = true) →
    let r := received .offer f s
    let e : Entry := { offer := o, servable := o.points.map s.servable, takers := o.points.map fun _ => none
                       formed := false, rank := s.jtb.nextRank, window := some (s.cfg.takeWindow * 1000000), grace := none }
    let admitted (rest : List Entry) : State := r.onJtb fun _ => {
      entries := (rest.filter fun x => decide (o.priority ≤ x.offer.priority)) ++ e ::
        rest.filter fun x => decide (x.offer.priority < o.priority)
      nextRank := s.jtb.nextRank + 1 }
    let goes (v : Entry) : Prop := v ∈ s.jtb.entries ∧ v.isOpen = true ∧ v.offer.priority < o.priority ∧
      s.takePending v.offer.job = false
    (s.jtb.entries.length < 24 → let u := admitted s.jtb.entries
      exec (.offer f) s = .next (settle u) ∧ RunKept u (settle u)) ∧
    (s.jtb.entries.length = 24 →
      (∀ v, goes v →
        (∀ w, goes w → v.offer.priority < w.offer.priority ∨ v.offer.priority = w.offer.priority ∧ w.rank ≤ v.rank) →
        let u := admitted (s.jtb.entries.filter fun x => x.offer.job != v.offer.job)
        exec (.offer f) s = .next (settle u) ∧ RunKept u (settle u)) ∧
      ((∀ v, ¬ goes v) → exec (.offer f) s = .next (settle r) ∧ RunKept r (settle r)))

/-- R51, R52 and R56: the offers that make no new entry. -/
def Obligations.OfferIsTurnedAwayOrReplaces : Prop :=
  ∀ (s : State) (f : RxFrame), s.Running → s.TableSafe → s.Accepts .offer f →
    let r := received .offer f s
    let u := r.onLif fun l => { l with counters := { l.counters with discarded := saturate16 l.counters.discarded } }
    (rxOffer f = none → exec (.offer f) s = .next (settle u) ∧ RunKept u (settle u)) ∧
    ∀ o, rxOffer f = some o →
      let fits : Prop := ∃ p ∈ o.points, s.servable p = true
      (s.stc.board ≠ .active o.board → exec (.offer f) s = .next (settle u) ∧ RunKept u (settle u)) ∧
      (s.stc.board = .active o.board →
        (s.entry? o.job = none → ¬ fits → exec (.offer f) s = .next (settle r) ∧ RunKept r (settle r)) ∧
        ∀ e, s.entry? o.job = some e →
          (e.isOpen = false → exec (.offer f) s = .next (settle u) ∧ RunKept u (settle u)) ∧
          (e.isOpen = true → ∃ t, exec (.offer f) s = .next t ∧ t.log = r.log ∧ t.TableSafe ∧
            (∀ j, j ≠ o.job → t.entry? j = s.entry? j) ∧
            (¬ fits → t.entry? o.job = none) ∧
            (fits → t.entry? o.job = some {
              offer := o, servable := o.points.map s.servable, takers := o.points.map fun _ => none, formed := false
              rank := e.rank, window := some (s.cfg.takeWindow * 1000000), grace := none })))

/-- R69 and R73: the judgement of a peer's TAKE; R74: the SET of a lead whose entry it fills. -/
def Obligations.TakeIsJudged : Prop :=
  ∀ (s : State) (f : RxFrame) (e : Entry), s.Running → s.Accepts .take f → s.isOwn f = false → s.entry? (rxJob f) = some e →
    let r := received .take f s
    let u := r.onLif fun l => { l with counters := { l.counters with discarded := saturate16 l.counters.discarded } }
    let role := rxTakeRole f
    let onTime : Prop := e.window.isSome = true ∨ rxTakeCatch f = true ∧ e.grace.isSome = true
    let won (t : State) : Prop := t.jtb = { s.jtb with
      entries := s.jtb.entries.map fun x =>
        if x.offer.job = e.offer.job then { x with takers := x.takers.set role (some f.src.toNat) } else x }
    (e.offer.points.length ≤ role ∨
        role < e.offer.points.length ∧ e.formed = false ∧
          (¬ onTime ∨ e.takerOf role = none ∧ e.hasTaker f.src.toNat = true) →
      exec (.take f) s = .next (settle u) ∧ RunKept u (settle u)) ∧
    (role < e.offer.points.length → (e.formed = true ∨ onTime ∧ (e.takerOf role).isSome = true) →
      exec (.take f) s = .next (settle r) ∧ RunKept r (settle r)) ∧
    (role < e.offer.points.length → e.formed = false → onTime → e.takerOf role = none → e.hasTaker f.src.toNat = false →
      (∃ t, exec (.take f) s = .next t ∧ won t ∧ t.log = r.log ∧ t.space = s.space ∧ t.claimState = s.claimState) ∧
      ∀ m, s.AtWork → s.lif.silent = false → s.leadMember? e.offer.job = some m → m.state = .taken → m.setSent = false →
        (e.takers.set role (some f.src.toNat)).all (·.isSome) = true →
        ∃ t, exec (.take f) s = .next t ∧ won t ∧
          TxFrame.set e.offer.job ((e.takers.set role (some f.src.toNat)).filterMap id) ∈ t.offered)

/-- R64, R65, R69, R70, R72, R74 and R77: the head's own TAKE at its readback, and the TAKE a head that may take offers. That it
is seen at the end of a command without effect of its own is the model's choice (log entry 42); so are log entries 31 and 34. -/
def Obligations.OwnTakeMakesAMembership : Prop :=
  (∀ (s : State) (f : RxFrame), s.AtWork → s.msq.motion ≠ .offline → s.Accepts .take f → s.isOwn f = true →
    let r := (received .take f s).onRvu fun v => { v with pending := none }
    let d := r.onLif fun l => { l with counters := { l.counters with discarded := saturate16 l.counters.discarded } }
    let role := rxTakeRole f
    (s.entry? (rxJob f) = none → exec (.take f) s = .next (settle r) ∧ WorkKept r (settle r)) ∧
    ∀ e, s.entry? (rxJob f) = some e →
      let onTime : Prop := e.window.isSome = true ∨ rxTakeCatch f = true ∧ e.grace.isSome = true
      (e.offer.points.length ≤ role ∨ e.formed = false ∧
          (¬ onTime ∨ e.takerOf role = none ∧ e.hasTaker s.own = true) →
        exec (.take f) s = .next (settle d) ∧ WorkKept d (settle d)) ∧
      (role < e.offer.points.length → e.formed = true ∨ onTime ∧ (e.takerOf role).isSome = true →
        exec (.take f) s = .next (settle r) ∧ WorkKept r (settle r)) ∧
      (role < e.offer.points.length → e.formed = false → onTime → e.takerOf role = none → e.hasTaker s.own = false →
        let takers := e.takers.set role (some s.own)
        let v := r.onJtb fun t => { t with entries := t.entries.map fun x =>
          if x.offer.job = e.offer.job then { x with takers := x.takers.set role (some s.own) } else x }
        (e.servable[role]? = some true → s.member? e.offer.job = none →
          let m : Membership := {
            job := e.offer.job, role := role, state := .taken, takers := [], pass := 0, setSent := false
            landings := List.replicate e.offer.points.length none, readings := List.replicate e.offer.points.length none
            landingWait := none, holdLimit := none, landingLimit := none, deadline := none, deferred := none }
          let w := v.onRvu fun q => if s.rvu.current = none then { q with current := some m } else { q with next := some m }
          (role ≠ 0 ∨ takers.any (·.isNone) = true → exec (.take f) s = .next (settle w) ∧ WorkKept w (settle w)) ∧
          (role = 0 → takers.all (·.isSome) = true → s.lif.silent = false →
            ∃ t, exec (.take f) s = .next t ∧ t.jtb = v.jtb ∧
              TxFrame.set e.offer.job (takers.filterMap id) ∈ t.offered)) ∧
        (e.servable[role]? ≠ some true → s.lif.silent = false → s.member? e.offer.job = none →
          ∃ t, exec (.take f) s = .next t ∧ t.jtb = v.jtb ∧ TxFrame.drop e.offer.job .space 0 ∈ t.offered ∧
            (s.msq.motion.engaged = true → (∀ c, s.rvu.current = some c → c.state ≠ .formed) →
              t.rvu.current = s.rvu.current ∧ t.rvu.next = s.rvu.next)))) ∧
  ∀ s : State, s.AtWork → s.lif.silent = false → s.meu.window = .off → s.claimStale = false → s.msq.waiting = none →
    s.msq.spaceEvent = false →
    let able : Prop := s.boardActive = true ∧ (s.rosterOf 0).presence = .present ∧ s.lif.post.length < 6 ∧
      s.msq.motion ≠ .offline ∧ s.msq.motion ≠ .frozen ∧ s.stc.restart = .noRestart ∧ s.rvu.pending = none ∧
      s.rvu.next = none ∧
      (∀ m, s.rvu.current = some m → m.state = .landed ∨ m.state = .measuring ∨ m.state = .hold)
    let distance (p : Point) : Nat :=
      let o := if s.msq.motion = .parked then (s.cfg.parkX, s.cfg.parkY) else s.tip
      max ((p.x : Int) - o.1).natAbs ((p.y : Int) - o.2).natAbs
    let candidate (caught : Bool) (k i : Nat) (e : Entry) (p : Point) : Prop := s.jtb.entries[k]? = some e ∧ i < 4 ∧
      e.offer.points[i]? = some p ∧ e.servable[i]? = some true ∧ e.takers[i]? = some none ∧ e.hasTaker s.own = false ∧
      if caught = true then s.cfg.catchFlag = true ∧ e.grace.isSome = true else e.window.isSome = true ∧ e.formed = false
    let best (caught : Bool) (k i : Nat) (e : Entry) (p : Point) : Prop := candidate caught k i e p ∧
      ∀ k' i' e' p', candidate caught k' i' e' p' → e'.offer.priority < e.offer.priority ∨
        e'.offer.priority = e.offer.priority ∧ (distance p < distance p' ∨
          distance p = distance p' ∧ (k < k' ∨ k = k' ∧ i ≤ i'))
    let takes (caught : Bool) (job i : Nat) : Prop := ∃ t, exec .settleEnd s = .next t ∧ t.jtb = s.jtb ∧
      t.rvu.pending = some { job := job, role := i, catchFlag := caught } ∧ TxFrame.take job i caught ∈ t.offered
    (able → ∀ k i e p, best true k i e p → takes true e.offer.job i) ∧
    (able → (∀ k i e p, ¬ candidate true k i e p) → ∀ k i e p, best false k i e p → takes false e.offer.job i) ∧
    ((¬ able ∨ ∀ c k i e p, ¬ candidate c k i e p) →
      ∃ t, exec .settleEnd s = .next t ∧ t.rvu.pending = s.rvu.pending ∧ t.jtb = s.jtb)

/-- R74 to R76: a SET heard, at the entry and at the head's own membership; R78, R124 and R127: the point of a FORMED membership
is handed over and served. That this is seen at the end of a command without effect of its own is the model's choice (log
entry 42); so is log entry 31. -/
def Obligations.SetFormsTheWorkingSet : Prop :=
  (∀ (s : State) (f : RxFrame) (e : Entry), s.Running → s.Accepts .set f → s.entry? (rxJob f) = some e →
    let r := received .set f s
    let ts := rxSetTakers f
    let job := e.offer.job
    let good : Prop := ts.length = e.offer.points.length ∧ (∀ n ∈ ts, 1 ≤ n ∧ n ≤ 8) ∧ ts.Nodup ∧
      ts.head? = some f.src.toNat ∧ e.formed = false
    let formed := r.onJtb fun t => { t with entries := t.entries.map fun x =>
      if x.offer.job = job then { x with takers := ts.map some, formed := true, window := none, grace := none } else x }
    (¬ good → let u := r.onLif fun l => { l with
        counters := { l.counters with discarded := saturate16 l.counters.discarded } }
      exec (.set f) s = .next (settle u) ∧ RunKept u (settle u)) ∧
    (good →
      (∀ m, s.rvu.current = some m → s.rvu.next = none → m.job = job → m.state = .taken →
        (ts[m.role]? = some s.own → (s.isOwn f = true ↔ m.role = 0) →
          let u := formed.onRvu fun v => { v with current := some { m with
            state := .formed, takers := ts
            landingLimit := if m.role = 0 then none else some 2100000000
            landingWait := if m.role = 0 then some 2000000000 else m.landingWait } }
          exec (.set f) s = .next (settle u) ∧ RunKept u (settle u)) ∧
        (ts[m.role]? ≠ some s.own → s.isOwn f = false →
          ∃ t, exec (.set f) s = .next t ∧ t.jtb = formed.jtb ∧ t.rvu.current = none ∧
            t.rvu.mismatches = saturate8 s.rvu.mismatches)) ∧
      (s.member? job = none → s.isOwn f = false →
        let u := if s.own ∈ ts then formed.onRvu fun v => { v with mismatches := saturate8 v.mismatches } else formed
        exec (.set f) s = .next (settle u) ∧ RunKept u (settle u)) ∧
      (s.member? job = none → s.isOwn f = true → s.AtWork → s.lif.silent = false →
        ∃ t, exec (.set f) s = .next t ∧ t.jtb = formed.jtb ∧ TxFrame.drop job .late 0 ∈ t.offered))) ∧
  (∀ s : State, s.AtWork → s.lif.silent = false → s.meu.window = .off → s.claimStale = false → s.msq.spaceEvent = false →
    let formed (m : Membership) : Prop := s.rvu.current = some m ∧ m.state = .formed
    let point (m : Membership) (p : Point) : Prop := ∃ e ∈ s.entry? m.job, e.offer.points[m.role]? = some p
    let served (x y : Nat) (t : State) : Prop := t.msq.waiting = none ∧ t.msq.target = some (x, y) ∧ t.msq.retouch = 0 ∧
      let c := corridor s.cfg .travel s.tipX s.tipY x y
      let refused : Prop := s.scu.doubt = true ∨ s.scu.replyQueued = true ∨ s.scu.pending ≠ none ∨
        s.conflictsMap c.rect = true
      (refused → t.msq.motion = .waitSpace ∧
        t.msq.spaceWait = (match s.msq.spaceWait with | some d => some d | none => some (s.cfg.spaceWait * 1000000))) ∧
      (¬ refused → t.msq.motion = .claiming ∧ t.scu.pending = some { claim := c, stage := .queued } ∧
        (s.lif.tx = none → TxFrame.claim .travel c.rect ∈ t.lif.safety))
    let stands : Prop := s.msq.motion = .idle ∨ s.msq.motion = .parked
    (∀ m p, formed m → point m p → s.msq.motion ≠ .frozen → ∃ t, exec .settleEnd s = .next t ∧
      t.rvu.current = some { m with state := .moving } ∧ t.jtb = s.jtb ∧ t.claimState = s.claimState ∧
      (stands → served p.x p.y t) ∧ (¬ stands → t.msq.waiting = some (p.x, p.y))) ∧
    (∀ m, formed m → s.msq.motion = .frozen → ∃ t, exec .settleEnd s = .next t ∧ t.rvu.current = some m ∧
      t.msq.waiting = s.msq.waiting) ∧
    ((∀ m, ¬ formed m) → ∀ x y, s.msq.waiting = some (x, y) → ∃ t, exec .settleEnd s = .next t ∧
      t.rvu.current = s.rvu.current ∧ t.jtb = s.jtb ∧ t.claimState = s.claimState ∧
      (stands → served x y t) ∧ (¬ stands → t.msq.waiting = some (x, y)))) ∧
  ∀ s : State, s.Running → s.meu.window = .off → s.msq.motion = .parked → s.halt = true →
    (∀ m, s.rvu.current = some m → m.state ≠ .formed) →
    ∃ t, exec .settleEnd s = .next t ∧ t.msq.motion = .parked ∧ t.msq.waiting = s.msq.waiting ∧ t.jtb = s.jtb

/-- R80 and R81: a peer's DROP for a job in which the head holds no membership; R63 and R83: a DROP(PARTNER_LOST) that names the
head itself ends its membership. The model's choice in it: log entry 46. -/
def Obligations.DropFreesOrRemoves : Prop :=
  (∀ (s : State) (f : RxFrame) (e : Entry) (reason : DropReason), s.Running → s.Accepts .drop f → s.isOwn f = false →
    rxDropReason f = some reason → s.entry? (rxJob f) = some e → s.member? e.offer.job = none →
    (∀ g ∈ s.lif.held, isReadingOf e.offer.job g = false) →
    let r := received .drop f s
    let src := f.src.toNat
    let gone := r.onJtb fun t => { t with entries := t.entries.filter fun x => x.offer.job != e.offer.job }
    let n := if reason = .partnerLost then rxLost f else src
    let takers := e.takers.map fun t => if t = some n then none else t
    let kept := takers.any (· == some s.own) ∨
      s.cfg.catchFlag = true ∧ (∃ p ∈ takers.zip e.servable, p.1 = none ∧ p.2 = true) ∨ takers.all (·.isSome) = true
    let freed (late : Bool) : State := r.onJtb fun t => { t with entries := t.entries.map fun x =>
      if x.offer.job = e.offer.job then
        { x with takers := x.takers.map fun y => if y = some n then none else y
                 window := if late then none else x.window
                 grace := if late then (match x.grace with | some g => some g | none => some s.graceTime) else x.grace }
      else x }
    (reason = .unplaced ∨ e.formed = true ∧ e.hasTaker src = true →
      exec (.drop f) s = .next (settle gone) ∧ RunKept gone (settle gone)) ∧
    (e.formed = true → reason ≠ .unplaced → e.hasTaker src = false →
      let u := r.onLif fun l => { l with counters := { l.counters with discarded := saturate16 l.counters.discarded } }
      exec (.drop f) s = .next (settle u) ∧ RunKept u (settle u)) ∧
    (e.formed = false → reason ≠ .unplaced →
      (e.hasTaker src = false → exec (.drop f) s = .next (settle r) ∧ RunKept r (settle r)) ∧
      (e.hasTaker src = true → e.hasTaker n = true →
        (e.window.isSome = true → exec (.drop f) s = .next (settle (freed false)) ∧
          RunKept (freed false) (settle (freed false))) ∧
        (e.window = none → kept → exec (.drop f) s = .next (settle (freed true)) ∧
          RunKept (freed true) (settle (freed true))) ∧
        (e.window = none → ¬ kept → exec (.drop f) s = .next (settle gone) ∧ RunKept gone (settle gone))))) ∧
  ∀ (s : State) (f : RxFrame) (e : Entry) (m : Membership), s.AtWork → s.LiftsSafely → s.Accepts .drop f →
    s.isOwn f = false → rxDropReason f = some .partnerLost → rxLost f = s.own → s.entry? (rxJob f) = some e →
    e.formed = false → e.hasTaker f.src.toNat = true → e.hasTaker s.own = true → s.rvu.current = some m →
    m.job = e.offer.job → (∀ n, s.rvu.next = some n → n.job ≠ m.job) →
    ∃ t, exec (.drop f) s = .next t ∧ t.member? m.job = none ∧
      t.rvu.current.map (·.job) = s.rvu.next.map (·.job) ∧ t.rvu.next = none ∧
      (∀ x, t.entry? e.offer.job = some x → x.hasTaker s.own = false) ∧
      (∀ j, j ≠ e.offer.job → t.entry? j = s.entry? j)

/-- R61 to R63 and R90: the frames that remove a job, at the table and at a head that is down for it. The model's
choices in it: log entries 15 and 24. -/
def Obligations.RemovedJobEndsTheMembership : Prop :=
  ∀ (s : State) (f : RxFrame) (e : Entry), s.Running → s.entry? (rxJob f) = some e →
    let apart : Prop := s.member? e.offer.job = none ∧ ∀ g ∈ s.lif.held, isReadingOf e.offer.job g = false
    let gone (k : Kind) : State :=
      (received k f s).onJtb fun t => { t with entries := t.entries.filter fun x => x.offer.job != e.offer.job }
    let lifts (c : Instr) (k : Kind) : Prop := ∀ m, s.AtWork →
      (s.msq.motion = .descend ∨ s.msq.motion = .landed ∨ s.msq.motion = .measure ∨ s.msq.motion = .hold) →
      s.rvu.current = some m → m.job = e.offer.job → s.msq.lastReport ≠ none → s.stand = s.tip →
      ∃ t, exec c s = .next t ∧ t.jtb = (gone k).jtb ∧ t.rvu.current.map (·.job) = s.rvu.next.map (·.job) ∧
        t.rvu.next = none ∧ t.meu = Meu.powerOn ∧ t.msq.motion = .lift ∧
        t.msq.lastCommand = some { number := s.nextCommand, order := .move s.tipX s.tipY s.cfg.zt .lift } ∧
        t.claimState = s.claimState ∧ t.flu = s.flu
    (s.Accepts .withdraw f → s.boardActive = false →
      let r := received .withdraw f s
      exec (.withdraw f) s = .next (settle r) ∧ RunKept r (settle r)) ∧
    (s.Accepts .withdraw f → s.boardActive = true →
      (apart → exec (.withdraw f) s = .next (settle (gone .withdraw)) ∧
        RunKept (gone .withdraw) (settle (gone .withdraw))) ∧ lifts (.withdraw f) .withdraw) ∧
    (s.Accepts .result f →
      (rxResultBoard f ≠ e.offer.board → exec (.result f) s = .next (settle (received .result f s)) ∧
        RunKept (received .result f s) (settle (received .result f s))) ∧
      (rxResultBoard f = e.offer.board →
        (apart → exec (.result f) s = .next (settle (gone .result)) ∧
          RunKept (gone .result) (settle (gone .result))) ∧ lifts (.result f) .result))

/-- R86 and R87: the lead's landing table. -/
def Obligations.LandingsDecideThePass : Prop :=
  ∀ (s : State) (f : RxFrame) (e : Entry) (m : Membership), s.AtWork → s.lif.silent = false → s.Accepts .landed f →
    s.entry? (rxJob f) = some e → s.leadMember? e.offer.job = some m →
    (∀ c n, s.rvu.current = some c → s.rvu.next = some n → c.job ≠ n.job) →
    let r := received .landed f s
    let role := rxLandedRole f
    let fits : Prop := e.takerOf role = some f.src.toNat ∧ rxLandedPass f = m.pass ∧ m.landings[role]? = some none
    let rows := m.landings.set role (some (rxNoContact f))
    (¬ fits → let u := r.onLif fun l => { l with
        counters := { l.counters with discarded := saturate16 l.counters.discarded } }
      exec (.landed f) s = .next (settle u) ∧ WorkKept u (settle u)) ∧
    (fits →
      (none ∈ rows → let u := updMember m.job (fun x => { x with landings := rows }) r
        exec (.landed f) s = .next (settle u) ∧ WorkKept u (settle u)) ∧
      (none ∉ rows → some true ∉ rows →
        ∃ t, exec (.landed f) s = .next t ∧ TxFrame.start m.job m.pass ∈ t.offered ∧ t.lif.post = s.lif.post) ∧
      (none ∉ rows → some true ∈ rows → m.pass < e.offer.budget →
        ∃ t, exec (.landed f) s = .next t ∧ TxFrame.again m.job false (m.pass + 1) ∈ t.offered ∧ t.lif.post = s.lif.post) ∧
      (none ∉ rows → some true ∈ rows → e.offer.budget ≤ m.pass → s.LiftsSafely →
        ∃ t, exec (.landed f) s = .next t ∧ t.member? m.job = none ∧ t.jtb = s.jtb ∧
          t.lif.post = s.lif.post ++ [.result { job := m.job, board := e.offer.board, verdict := .noContact, value := 0
                                                passesUsed := m.pass + 1, neg := false, members := m.takers }]))

/-- R88, R147 to R149 and R155: a START at a member. The model's choices in it: log entry 33. -/
def Obligations.StartOpensTheWindow : Prop :=
  ∀ (s : State) (f : RxFrame) (e : Entry) (m : Membership), s.AtWork → s.Accepts .start f →
    s.entry? (rxJob f) = some e → s.rvu.current = some m → m.job = e.offer.job →
    (∀ n, s.rvu.next = some n → n.job ≠ m.job) →
    let r := received .start f s
    let o := e.offer
    let settleNs := max o.settle 1 * 50000
    let samples := 4 * 2 ^ min o.sample 4
    let fits : Prop := (s.takersOf m).head? = some (some f.src.toNat) ∧ rxPass f = m.pass ∧ m.state = .landed
    (¬ fits → let u := r.onLif fun l => { l with
        counters := { l.counters with discarded := saturate16 l.counters.discarded } }
      exec (.start f) s = .next (settle u) ∧ WorkKept u (settle u)) ∧
    (fits →
      let u := ((r.onMeu fun x => {
          frontEnd := if m.role = 0 then .force else if m.role = 1 then .ret else .sense
          stimulus := if m.role = 0 then stimulusOf o.kind o.stimulus else .off
          window := .settle settleNs samples, acc := .clear, ownReading := x.ownReading }).onRvu fun v => { v with
        current := some { m with
          state := .measuring, landingLimit := none
          deadline := if m.role = 0 then some (settleNs + samples * 10000 + 5000000) else none } }).onMsq fun q =>
        { q with motion := .measure }
      exec (.start f) s = .next (settle u) ∧ WorkKept u (settle u))

/-- R156, R157, R163 and R164: the lead's reading table and its decision. -/
def Obligations.ReadingsDecideTheJob : Prop :=
  ∀ (s : State) (e : Entry) (m : Membership), s.AtWork → s.lif.silent = false → s.entry? m.job = some e →
    s.leadMember? m.job = some m → (∀ c n, s.rvu.current = some c → s.rvu.next = some n → c.job ≠ n.job) →
    let decided (rows : List (Option Reading)) (t : State) : Prop :=
      let j := judge e.offer.kind e.offer.low e.offer.high rows
      let again : Prop := m.pass < e.offer.budget ∧ (j.1 = .isOpen ∨ j.1 = .noContact ∨ j.1 = .missing)
      (again → TxFrame.again m.job (j.1 == .missing) (m.pass + 1) ∈ t.offered ∧ t.lif.post = s.lif.post) ∧
      (¬ again → s.LiftsSafely → t.member? m.job = none ∧ t.jtb = s.jtb ∧
        t.lif.post = s.lif.post ++ [.result {
          job := m.job, board := e.offer.board, verdict := j.1, value := BitVec.ofInt 32 j.2.1
          passesUsed := m.pass + 1, neg := j.2.2, members := m.takers }])
    (m.deadline ≠ none → ∃ t, exec (.readingDeadlineExpiry m.job) s = .next t ∧ decided m.readings t) ∧
    (m.deadline = none → exec (.readingDeadlineExpiry m.job) s = .next (settle s) ∧ WorkKept s (settle s)) ∧
    ∀ f, s.Accepts .reading f → rxJob f = m.job →
      let r := received .reading f s
      let role := rxReadingRole f
      let fits : Prop := e.takerOf role = some f.src.toNat ∧ role ≠ 0 ∧ rxReadingPass f = m.pass ∧ m.deadline ≠ none ∧
        m.readings[role]? = some none
      let rows := m.readings.set role (some (rxReading f))
      (¬ fits → let u := r.onLif fun l => { l with
          counters := { l.counters with discarded := saturate16 l.counters.discarded } }
        exec (.reading f) s = .next (settle u) ∧ WorkKept u (settle u)) ∧
      (fits → none ∈ rows → let u := updMember m.job (fun x => { x with readings := rows }) r
        exec (.reading f) s = .next (settle u) ∧ WorkKept u (settle u)) ∧
      (fits → none ∉ rows → ∃ t, exec (.reading f) s = .next t ∧ decided rows t)

/-- R89, with R84, R90 and R134: an AGAIN at a member. -/
def Obligations.AgainBeginsTheNextPass : Prop :=
  ∀ (s : State) (f : RxFrame) (e : Entry) (m : Membership), s.AtWork → s.lif.silent = false → s.Accepts .again f →
    s.entry? (rxJob f) = some e → s.rvu.current = some m → m.job = e.offer.job →
    (∀ n, s.rvu.next = some n → n.job ≠ m.job) →
    let r := received .again f s
    let lead : Prop := m.role = 0
    let fits : Prop := (s.takersOf m).head? = some (some f.src.toNat) ∧ rxPass f = m.pass + 1 ∧
      (m.state = .landed ∨ m.state = .hold)
    let m' : Membership := { m with
      state := .landed, pass := rxPass f, holdLimit := none, deferred := none
      landingLimit := if lead then none else some 2100000000
      readings := if lead then m.readings.map fun _ => none else m.readings }
    (m.state = .measuring →
      let u := r.onRvu fun v => { v with current := some { m with
        deferred := some { source := f.src.toNat, repeated := rxRepeat f, pass := rxPass f } } }
      exec (.again f) s = .next (settle u) ∧ WorkKept u (settle u)) ∧
    (m.state ≠ .measuring → ¬ fits → let u := r.onLif fun l => { l with
        counters := { l.counters with discarded := saturate16 l.counters.discarded } }
      exec (.again f) s = .next (settle u) ∧ WorkKept u (settle u)) ∧
    (fits → rxRepeat f = false → s.msq.lastReport ≠ none → s.stand = s.tip →
      let u := (r.onRvu fun v => { v with current := some { m' with
          landings := if lead then m.landings.map fun _ => none else m.landings
          landingWait := if lead then some 2000000000 else m.landingWait } }).onMsq fun q => { q with
        motion := .descend, descend := .rise, retouch := 2 * rxPass f
        lastCommand := some { number := s.nextCommand, order := .move s.tipX s.tipY s.cfg.zs .lift } }
      exec (.again f) s = .next (settle u) ∧ WorkKept u (settle u)) ∧
    (fits → rxRepeat f = true →
      ∃ t, exec (.again f) s = .next t ∧ t.msq.motion = .landed ∧ t.msq.lastCommand = s.msq.lastCommand ∧
        t.rvu.current = some { m' with
          landings := if lead then m.landings.map fun _ => some false else m.landings } ∧
        (lead → TxFrame.start m.job (rxPass f) ∈ t.offered))

/-- R58, R59 and R73: the two timers of an entry that no SET has formed. -/
def Obligations.EntryTimersDecideTheEntry : Prop :=
  ∀ (s : State) (job : Nat) (e : Entry), s.Running → s.entry? job = some e → e.formed = false →
    let gone := s.onJtb fun t => { t with entries := t.entries.filter fun x => x.offer.job != job }
    let apart : Prop := s.member? job = none ∧ ∀ g ∈ s.lif.held, isReadingOf job g = false
    (e.window.isSome = true →
      let kept : Prop := (∃ t ∈ e.takers, t = some s.own) ∨
        s.cfg.catchFlag = true ∧ (∃ p ∈ e.takers.zip e.servable, p.1 = none ∧ p.2 = true) ∨ ∀ t ∈ e.takers, t ≠ none
      (kept →
        let u := s.onJtb fun t => { t with entries := t.entries.map fun x => if x.offer.job = job then
          { x with window := none, grace := match x.grace with
              | some g => some g
              | none => some (max (s.cfg.takeWindow / 4) 5 * 1000000) } else x }
        exec (.takeWindowExpiry job) s = .next (settle u) ∧ RunKept u (settle u)) ∧
      (¬ kept → exec (.takeWindowExpiry job) s = .next (settle gone) ∧ RunKept gone (settle gone))) ∧
    (e.grace.isSome = true →
      (apart → exec (.catchGraceExpiry job) s = .next (settle gone) ∧ RunKept gone (settle gone)) ∧
      ∀ m, s.AtWork → s.lif.silent = false → s.LiftsSafely → s.rvu.current = some m → m.job = job →
        (∀ n, s.rvu.next = some n → n.job ≠ job) →
        ∃ t, exec (.catchGraceExpiry job) s = .next t ∧ t.jtb = gone.jtb ∧ t.member? job = none ∧
          (none ∈ e.takers → e.takerOf m.role = some s.own → (∀ x ∈ e.takers.take m.role, x = none) → TxFrame.drop job .unplaced 0 ∈ t.offered))

/-- R79, R84 and R90: the timers of a membership. -/
def Obligations.MembershipTimersDropTheJob : Prop :=
  ∀ (s : State) (m : Membership), s.AtWork → s.lif.silent = false → s.LiftsSafely → s.rvu.current = some m →
    (∀ n, s.rvu.next = some n → n.job ≠ m.job) →
    let ends (c : Instr) (timer : Timer) (reason : DropReason) : Prop :=
      (timer = none → exec c s = .next (settle s) ∧ WorkKept s (settle s)) ∧
      (timer ≠ none → ∃ t, exec c s = .next t ∧ TxFrame.drop m.job reason 0 ∈ t.offered ∧ t.member? m.job = none ∧
        t.rvu.next = none ∧ t.jtb = s.jtb ∧ t.space = s.space ∧ t.claimState = s.claimState ∧
        ((s.msq.motion = .descend ∨ s.msq.motion = .landed ∨ s.msq.motion = .measure ∨ s.msq.motion = .hold) →
          t.rvu.current.map (·.job) = s.rvu.next.map (·.job) ∧ t.meu = Meu.powerOn ∧ t.msq.motion = .lift ∧
          t.msq.lastCommand = some { number := s.nextCommand, order := .move s.tipX s.tipY s.cfg.zt .lift }))
    ends (.landingWaitExpiry m.job) m.landingWait .late ∧ ends (.landingLimitExpiry m.job) m.landingLimit .late ∧
      ends (.holdLimitExpiry m.job) m.holdLimit .holdExpired

/-- R149 to R154 and R88: the course of a window. The model's choices in it: log entry 8. -/
def Obligations.WindowTakesItsSamples : Prop :=
  ∀ (s : State) (settleNs n : Nat), s.AtWork →
    (s.meu.window = .settle settleNs n →
      let u := s.onMeu fun x => { x with window := .sample settleNs n }
      exec .settleEnd s = .next (settle u) ∧ WorkKept u (settle u)) ∧
    (s.meu.window = .sample settleNs n →
      (∀ volt amp : Int, s.meu.frontEnd ≠ .off → s.meu.acc.count < n →
        let sense : Prop := s.meu.frontEnd = .sense
        let v := max (-5000000) (min 5000000 volt)
        let i := max (-8000000) (min 8000000 amp)
        let u := s.onMeu fun x => { x with acc := {
          volts := x.acc.volts + v, amps := if sense then x.acc.amps else x.acc.amps + i, count := x.acc.count + 1
          isOver := x.acc.isOver || decide (v.natAbs = 5000000 ∨ ¬ sense ∧ i.natAbs = 8000000)
          compliance := x.acc.compliance || (decide (x.frontEnd = .force ∧ 4900000 ≤ v.natAbs) &&
            match x.stimulus with | .current _ => true | _ => false)
          lifted := x.acc.lifted } }
        exec (.sampleInstant volt amp) s = .next (settle u) ∧ WorkKept u (settle u)) ∧
      (∀ volt amp : Int, n ≤ s.meu.acc.count →
        exec (.sampleInstant volt amp) s = .next (settle s) ∧ WorkKept s (settle s)) ∧
      ∀ m e, s.rvu.current = some m → s.entry? m.job = some e → m.deferred = none →
        (∀ k, s.rvu.next = some k → k.job ≠ m.job) → s.lif.silent = false →
        let r : Reading := {
          volt := roundQuot s.meu.acc.volts n, amp := if s.meu.frontEnd = .sense then 0 else roundQuot s.meu.acc.amps n
          isOver := s.meu.acc.isOver, compliance := s.meu.acc.compliance, lifted := s.meu.acc.lifted }
        let frame := TxFrame.reading m.job m.role m.pass r.isOver r.compliance r.lifted r.volt r.amp
        let off := s.onMeu fun x => { x with
          frontEnd := .off, stimulus := .off, window := .off
          ownReading := some { role := m.role, pass := m.pass, reading := r } }
        let hold (rows : List (Option Reading)) (limit : Timer) (t : State) : State :=
          (t.onRvu fun q => { q with current := some { m with state := .hold, holdLimit := limit, readings := rows } }).onMsq
            fun q => { q with motion := .hold }
        (m.role ≠ 0 → s.workFree = true →
          let u := hold m.readings (some (settleTime e.offer.settle + sampleCount e.offer.sample * 10000 + 25000000))
            (off.onLif fun l => { l with
              work := l.work ++ [frame], stallWork := if l.work = [] then some 20000000 else l.stallWork })
          exec .windowEnd s = .next (settle u) ∧ WorkKept u (settle u)) ∧
        (m.role ≠ 0 → s.workFree = false →
          let u := off.onLif fun l => { l with held := l.held ++ [frame] }
          exec .windowEnd s = .next (settle u) ∧ WorkKept u (settle u)) ∧
        (m.role = 0 → none ∈ m.readings.set 0 (some r) →
          let u := hold (m.readings.set 0 (some r)) none off
          exec .windowEnd s = .next (settle u) ∧ WorkKept u (settle u)))

/-- R158 to R162, whole. `resistor` states the value of a voltage difference `v` over a current `i` in their units. -/
def Obligations.ValuesFollowTheKind : Prop :=
  let rounds (q num den : Int) : Prop := 2 * (q * den - num).natAbs ≤ den.natAbs ∧
    (2 * (q * den - num).natAbs = den.natAbs → num ≤ q * den)
  let resistor (v i : Int) (f : Reading) (c : Computed) : Prop :=
    let opposite : Prop := 0 < v ∧ i < 0 ∨ v < 0 ∧ 0 < i
    let top : Int := (v.natAbs : Int) * 1000000
    (i.natAbs < 100 → c.value = 4294967295 ∧ c.isOpen = true ∧ c.neg = false) ∧
    (100 ≤ i.natAbs → c.isOpen = f.compliance ∧
      (opposite → c.value = 0 ∧ c.neg = true) ∧
      (¬ opposite → c.neg = false ∧ 0 ≤ c.value ∧ c.value ≤ 4294967295 ∧
        (c.value < 4294967295 → rounds c.value top i.natAbs) ∧
        (c.value = 4294967295 → (2 * 4294967295 - 1) * (i.natAbs : Int) ≤ 2 * top))) ∧
    (c.leak = true ↔ f.amp.natAbs < (f.amp - i).natAbs * 16)
  (∀ f r : Reading, resistor (f.volt - r.volt) r.amp f (compute .cont [some f, some r])) ∧
  (∀ f r h l : Reading, resistor (h.volt - l.volt) r.amp f (compute .kelvin [some f, some r, some h, some l])) ∧
  (∀ f r : Reading,
    let c := compute .isol [some f, some r]
    let i := r.amp.natAbs
    (i < 10 → c.value = 4294967295) ∧
    (10 ≤ i → 0 ≤ c.value ∧ rounds c.value (f.volt - r.volt).natAbs i ∧
      (f.volt.natAbs ≤ 5000000 → r.volt.natAbs ≤ 5000000 → c.value ≤ 1000000)) ∧
    c.isOpen = false ∧ c.leak = false ∧ c.neg = false) ∧
  (∀ f r : Reading,
    let c := compute .diode [some f, some r]
    c.value = f.volt - r.volt ∧ c.isOpen = f.compliance ∧ c.leak = false ∧ c.neg = false ∧
      (f.volt.natAbs ≤ 5000000 → r.volt.natAbs ≤ 5000000 → c.value.natAbs ≤ 10000000)) ∧
  (∀ (kind : JobKind) (low high : DataWord) (v : Int),
    let lo : Int := if kind = .diode then low.toInt else low.toNat
    let hi : Int := if kind = .diode then high.toInt else high.toNat
    let verdict := compareLimits kind low high v
    (v < lo → verdict = .low) ∧
    (lo ≤ v → kind ≠ .isol → verdict = if hi < v then .high else .pass) ∧
    (lo ≤ v → kind = .isol → verdict = .pass) ∧
    (kind ≠ .isol → hi < lo → verdict ≠ .pass) ∧
    (kind ≠ .diode → 0 ≤ lo ∧ lo ≤ 16777215 ∧ 0 ≤ hi ∧ hi ≤ 16777215) ∧
    (kind = .diode → -8388608 ≤ lo ∧ lo ≤ 8388607 ∧ -8388608 ≤ hi ∧ hi ≤ 8388607)) ∧
  ∀ (kind : JobKind) (low high : DataWord) (rows : List (Option Reading)),
    let c := compute kind rows
    let some' (p : Reading → Bool) : Prop := ∃ r, some r ∈ rows ∧ p r = true
    (none ∈ rows → judge kind low high rows = (.missing, 0, false)) ∧
    (none ∉ rows → some' (·.lifted) → judge kind low high rows = (.noContact, 0, false)) ∧
    (none ∉ rows → ¬ some' (·.lifted) →
      (judge kind low high rows).2 = (c.value, c.neg) ∧
      (some' (·.isOver) → (judge kind low high rows).1 = .isOver) ∧
      (¬ some' (·.isOver) → c.isOpen = true → (judge kind low high rows).1 = .isOpen) ∧
      (¬ some' (·.isOver) → c.isOpen = false → c.leak = true → (judge kind low high rows).1 = .leak) ∧
      (¬ some' (·.isOver) → c.isOpen = false → c.leak = false →
        (judge kind low high rows).1 = compareLimits kind low high c.value))

/-- R93 to R96: the geometry of claims. -/
def Obligations.CorridorsFollowTheMove : Prop :=
  (∀ (c : ConfigRecord) (kind : ClaimKind) (xc yc xt yt : Nat), 8 ≤ c.m → xc ≤ 60000 → yc ≤ 60000 → xt ≤ 60000 →
      yt ≤ 60000 →
    let d := max ((xt : Int) - xc).natAbs ((yt : Int) - yc).natAbs
    let sw := if kind = .travel then c.m + min c.m ((d + 63) / 64) else c.m
    let bound (n : Int) : Nat := (max 0 (min 65535 n)).toNat
    let k := corridor c kind xc yc xt yt
    k.kind = kind ∧ c.m ≤ sw ∧ sw ≤ 2 * c.m ∧
    k.rect = { xmin := bound (min (xc : Int) xt - c.exn - sw), xmax := bound (max (xc : Int) xt + c.exp + sw)
               ymin := bound (min (yc : Int) yt - c.eyn - sw), ymax := bound (max (yc : Int) yt + c.eyp + sw) } ∧
    k.rect.proper = true ∧ (c.m ≤ 1000 → sw ≤ k.rect.xmax ∧ sw ≤ k.rect.ymax) ∧ k.rect.xmin ≤ 59992 ∧ k.rect.ymin ≤ 59992 ∧
    k.region = { xmin := min (xc : Int) xt - sw, xmax := max (xc : Int) xt + sw
                 ymin := min (yc : Int) yt - sw, ymax := max (yc : Int) yt + sw } ∧
    (xc = xt → yc = yt → sw = c.m ∧ k.rect = (corridor c .standing xc yc xc yc).rect) ∧
    ∀ x y, (k.region.contains x y = true ↔ k.region.xmin ≤ x ∧ (x : Int) ≤ k.region.xmax ∧ k.region.ymin ≤ y ∧
        (y : Int) ≤ k.region.ymax) ∧
      (k.region.contains x y = true →
        let b := (corridor c .standing x y x y).rect
        k.rect.xmin ≤ b.xmin + c.m ∧ b.xmax ≤ k.rect.xmax + c.m ∧ k.rect.ymin ≤ b.ymin + c.m ∧
          b.ymax ≤ k.rect.ymax + c.m)) ∧
  (∀ a b : Rect, a.conflicts b = b.conflicts a ∧
    (a.conflicts b = true ↔ a.xmin < b.xmax ∧ b.xmin < a.xmax ∧ a.ymin < b.ymax ∧ b.ymin < a.ymax) ∧
    (a.xmax = b.xmin → a.conflicts b = false) ∧
    (a.ymax = b.ymin → a.conflicts b = false) ∧
    (a.inside b = true ↔ b.xmin ≤ a.xmin ∧ a.xmax ≤ b.xmax ∧ b.ymin ≤ a.ymin ∧ a.ymax ≤ b.ymax) ∧
    a.bounding b = { xmin := min a.xmin b.xmin, xmax := max a.xmax b.xmax
                     ymin := min a.ymin b.ymin, ymax := max a.ymax b.ymax } ∧
    a.inside (a.bounding b) = true ∧ b.inside (a.bounding b) = true ∧
    (a.proper = true → b.proper = true → a.inside b = true → a.conflicts b = true)) ∧
  ∀ (s : State) (r : Rect), s.conflictsMap r = true ↔ ∃ n sl, s.scu.map.at? n = some sl ∧
    ∃ x, r.conflicts x = true ∧ match sl.holds with
      | .empty => False
      | .held h => x = h
      | .heldPending h p _ _ => h = some x ∨ x = p
      | .frozen h p => h = some x ∨ p = some x

/-- R97 and R100: claim-family frames of the head's own. The model's choices in it: log entry 12. -/
def Obligations.OwnClaimFamilySetsTheOrdinal : Prop :=
  ∀ (s : State) (f : RxFrame), s.Running → s.isOwn f = true →
    let numbered (k : Kind) : State := (received k f s).onScu fun c => { c with ordinal := rxOrdinal f }
    (s.Accepts .shrink f → rxRectSide f = s.stc.side →
      exec (.shrink f) s = .next (settle (numbered .shrink)) ∧ RunKept (numbered .shrink) (settle (numbered .shrink))) ∧
    (s.Accepts .release f → rxAuxSide f = s.stc.side →
      exec (.release f) s = .next (settle (numbered .release)) ∧
        RunKept (numbered .release) (settle (numbered .release))) ∧
    (s.Accepts .claim f → rxRectSide f = s.stc.side →
      let fits (p : PendingClaim) : Prop := p.stage = .queued ∧ p.claim.kind = rxClaimKind f ∧
        p.claim.rect = rxRect f ∧ s.claimWaits = false
      ((∀ p, s.scu.pending = some p → ¬ fits p) →
        exec (.claim f) s = .next (settle (numbered .claim)) ∧ RunKept (numbered .claim) (settle (numbered .claim))) ∧
      ∀ p, s.scu.pending = some p → fits p →
        (s.scu.doubt = false → s.conflictsMap p.claim.rect = false →
          let u := (numbered .claim).onScu fun c =>
            { c with pending := some { p with stage := .window (rxOrdinal f) 200000 } }
          exec (.claim f) s = .next (settle u) ∧ RunKept u (settle u)) ∧
        (s.scu.doubt = true ∨ s.conflictsMap p.claim.rect = true →
          ∃ t, exec (.claim f) s = .next t ∧ t.scu.pending = none ∧ t.scu.doubt = true ∧
            t.scu.ordinal = rxOrdinal f ∧ t.scu.held = s.scu.held ∧ t.space = s.space))

/-- R100 with R127, R129 and R137: the grant, by motion state. The model's choices in it: log entry 32 (lateStop). -/
def Obligations.ObjectionWindowGrantsTheClaim : Prop :=
  ∀ s : State, s.AtWork →
    (s.windowOrdinal = none → exec .objectionWindowExpiry s = .next (settle s) ∧ WorkKept s (settle s)) ∧
    ∀ p o d, s.scu.pending = some p → p.stage = .window o d →
      let g := (s.onScu fun c => { c with held := some p.claim, pending := none, lastGranted := some o }).onMsq fun m =>
        { m with grant := some p.claim.region, breachReported := false }
      let moves (x y : Nat) (g' : State) : State := g'.onMsq fun m =>
        { m with lastCommand := some { number := s.nextCommand, order := .move x y s.cfg.zt .travel } }
      (s.msq.motion = .claiming → s.msq.abandonMark = false → p.claim.region.contains s.goal.1 s.goal.2 = true →
        let u := moves s.goal.1 s.goal.2 (g.onMsq fun m =>
          { m with motion := .travel, spaceWait := none, spaceExpired := false, lateStop := false })
        exec .objectionWindowExpiry s = .next (settle u) ∧ WorkKept u (settle u)) ∧
      (s.msq.motion = .parking → s.msq.park = .seek → p.claim.region.contains s.cfg.parkX s.cfg.parkY = true →
        let u := moves s.cfg.parkX s.cfg.parkY (g.onMsq fun m => { m with park := .move, lateStop := false })
        exec .objectionWindowExpiry s = .next (settle u) ∧ WorkKept u (settle u)) ∧
      (s.msq.motion = .claiming → s.msq.abandonMark = true →
        let u := g.onMsq fun m =>
          { m with motion := .idle, spaceWait := none, spaceExpired := false, abandonMark := false }
        exec .objectionWindowExpiry s = .next (settle u) ∧ WorkKept u (settle u)) ∧
      (s.msq.motion.engaged = true → exec .objectionWindowExpiry s = .next (settle g) ∧ WorkKept g (settle g))

/-- R101: the CLAIM of a same-side peer; R99: a queued CLAIM of the head's own that the map, or doubt, no longer allows is
withdrawn, as a peer's CLAIM that is heard first makes it. -/
def Obligations.PeerClaimIsStoredOrObjected : Prop :=
  (∀ (s : State) (f : RxFrame), s.Running → s.Accepts .claim f → s.isOwn f = false → rxRectSide f = s.stc.side →
    let n := f.src.toNat
    let slot (h : SlotHolds) : State := ((received .claim f s).onMsq fun m => { m with spaceEvent := true }).onScu fun c =>
      { c with map := c.map.put n { holds := h, lastOrdinal := some (rxOrdinal f) } }
    (slot (s.slotOf n).holds.thaw).windowConflict = false →
      let kept := (s.slotOf n).holds.reference
      (s.objection n (rxRect f) = none →
        let u := slot (.heldPending kept (rxRect f) (rxOrdinal f) 200000)
        exec (.claim f) s = .next (settle u) ∧ RunKept u (settle u)) ∧
      ∀ owner rect, s.objection n (rxRect f) = some (owner, rect) →
        let u := slot (match kept with | some h => .held h | none => .empty)
        (s.mayOffer = false → exec (.claim f) s = .next (settle u) ∧ RunKept u (settle u)) ∧
        (s.mayOffer = true → ∃ t, exec (.claim f) s = .next t ∧ RunKept u t ∧
          (s.AtWork → s.lif.tx = none → TxFrame.object n (rxOrdinal f) rect owner ∈ t.lif.safety))) ∧
  ∀ (s : State) (p : PendingClaim), s.AtWork → s.lif.silent = false → s.scu.pending = some p → p.stage = .queued →
    s.lif.tx = none → s.msq.spaceEvent = false →
    (∀ m, s.rvu.current = some m → m.state ≠ .formed) →
    let withdrawn (c : Instr) : Prop := ∃ t, exec c s = .next t ∧ t.scu.pending = none ∧
      (∀ f ∈ t.lif.safety, isClaimFrame f = false) ∧ t.scu.held = s.scu.held ∧ t.jtb = s.jtb ∧
      (s.msq.motion = .claiming → s.msq.abandonMark = false → s.msq.spaceExpired = false → t.msq.motion = .waitSpace ∧
        t.msq.spaceWait = (match s.msq.spaceWait with | some d => some d | none => some (s.cfg.spaceWait * 1000000))) ∧
      (s.msq.motion = .parking → s.msq.park = .seek → t.msq.motion = .parking ∧ t.msq.park = .wait)
    (s.msq.motion = .claiming ∨ s.msq.motion = .parking ∧ s.msq.park = .seek → s.msq.abandonMark = false →
        s.msq.spaceExpired = false →
      (s.meu.window = .off → s.scu.doubt = true ∨ s.conflictsMap p.claim.rect = true → withdrawn .settleEnd) ∧
      (s.lif.receiver ≠ .waitQuiet → withdrawn (.frameBroken [])) ∧
      ∀ f, s.Accepts .claim f → s.isOwn f = false → rxRectSide f = s.stc.side →
        s.objection f.src.toNat (rxRect f) = none → p.claim.rect.conflicts (rxRect f) = true →
        p.claim.rect = (let g := if s.msq.motion = .parking then (s.cfg.parkX, s.cfg.parkY) else s.goal
          corridor s.cfg .travel s.tipX s.tipY g.1 g.2).rect →
        withdrawn (.claim f)) ∧
    (s.meu.window = .off → s.scu.doubt = false → s.conflictsMap p.claim.rect = false →
      s.msq.motion = .claiming ∨ s.msq.motion = .parking →
      ∃ t, exec .settleEnd s = .next t ∧ t.scu.pending = some p ∧ t.lif.safety = s.lif.safety ∧
        t.msq.motion = s.msq.motion)

/-- R102 and R108: the other changes of a peer's slot. -/
def Obligations.PeerShrinkReleaseAndWindowEnd : Prop :=
  ∀ s : State, s.Running →
    let changes (c : Instr) (v : State) : Prop :=
      (v.windowConflict = false → exec c s = .next (settle v) ∧ RunKept v (settle v)) ∧
      (v.windowConflict = true → ∃ t, exec c s = .next t ∧ t.space = v.space ∧ t.scu.held = s.scu.held ∧
        t.scu.pending = none ∧ t.scu.doubt = true ∧ t.rosters = v.rosters ∧ t.log = v.log ∧ t.jtb = s.jtb)
    let slot (n : Nat) (h : SlotHolds) (o : Option Nat) (r : State) : State :=
      (r.onMsq fun m => { m with spaceEvent := true }).onScu fun c =>
        { c with map := c.map.put n { holds := h, lastOrdinal := o } }
    (∀ f, s.Accepts .shrink f → s.isOwn f = false → rxRectSide f = s.stc.side →
      let n := f.src.toNat
      let r := received .shrink f s
      let rect := rxRect f
      match (s.slotOf n).holds.reference with
      | none => changes (.shrink f) (slot n (.held rect) (some (rxOrdinal f)) r)
      | some h =>
        if rect.inside h = true then changes (.shrink f) (slot n (.held rect) (some (rxOrdinal f)) r)
        else changes (.shrink f) (slot n (.held (h.bounding rect)) (some (rxOrdinal f)) (r.onLif fun l =>
          { l with counters := { l.counters with discarded := saturate16 l.counters.discarded } }))) ∧
    (∀ f, s.Accepts .release f → s.isOwn f = false → rxAuxSide f = s.stc.side →
      changes (.release f) (slot f.src.toNat .empty (some (rxOrdinal f)) (received .release f s))) ∧
    ∀ n, match (s.slotOf n).holds with
      | .heldPending _ p _ _ => changes (.slotWindowExpiry n) (slot n (.held p) (s.slotOf n).lastOrdinal s)
      | _ => exec (.slotWindowExpiry n) s = .next (settle s) ∧ RunKept s (settle s)

/-- R103 to R105: objections, at an observer and at the claimant. The model's choices in it: log entry 30. -/
def Obligations.ObjectVoidsOrComesLate : Prop :=
  ∀ (s : State) (f : RxFrame), s.Running → s.Accepts .object f → rxAuxSide f = s.stc.side →
    let changes (c : Instr) (v : State) : Prop :=
      (v.windowConflict = false → exec c s = .next (settle v) ∧ RunKept v (settle v)) ∧
      (v.windowConflict = true → ∃ t, exec c s = .next t ∧ t.space = v.space ∧ t.scu.held = s.scu.held ∧
        t.scu.pending = none ∧ t.scu.doubt = true ∧ t.rosters = v.rosters ∧ t.log = v.log ∧ t.jtb = s.jtb)
    let r := received .object f s
    let claimant := rxClaimant f
    let owner := rxOwner f
    (claimant ≠ s.own →
      match (s.slotOf claimant).holds with
      | .heldPending h _ o _ =>
        if o = rxOrdinal f then
          let voided : SlotHolds := match h with | some x => .held x | none => .empty
          changes (.object f) ((r.onMsq fun m => { m with spaceEvent := true }).onScu fun c =>
            { c with map := c.map.put claimant { holds := voided, lastOrdinal := (s.slotOf claimant).lastOrdinal } })
        else exec (.object f) s = .next (settle r) ∧ RunKept r (settle r)
      | _ => exec (.object f) s = .next (settle r) ∧ RunKept r (settle r)) ∧
    (claimant = s.own → s.pendingPlacing = false → (∀ c, s.scu.held = some c → c.placing = false) →
      let sl := s.slotOf owner
      let holds : SlotHolds := match sl.holds with
        | .empty => if (r.rosterOf owner).presence = .present then .held (rxRect f) else .frozen (some (rxRect f)) none
        | .held h => .held (h.bounding (rxRect f))
        | .heldPending (some h) p o d => .heldPending (some (h.bounding (rxRect f))) p o d
        | .heldPending none p o d => .heldPending (some (rxRect f)) p o d
        | .frozen (some h) p => .frozen (some (h.bounding (rxRect f))) p
        | .frozen none p => .frozen (some (rxRect f)) p
      ∃ t, exec (.object f) s = .next t ∧ t.scu.doubt = true ∧ t.scu.held = s.scu.held ∧
        t.scu.ordinal = s.scu.ordinal ∧ t.scu.lastGranted = s.scu.lastGranted ∧ t.rosters = r.rosters ∧
        t.space = (if s.stc.station = some owner then s.scu.map
          else s.scu.map.put owner { holds := holds, lastOrdinal := sl.lastOrdinal }) ∧
        (s.windowOrdinal = some (rxOrdinal f) → t.scu.pending = none ∧ t.lif.counters = r.lif.counters) ∧
        (s.windowOrdinal ≠ some (rxOrdinal f) → s.scu.lastGranted = some (rxOrdinal f) →
          t.lif.counters = { r.lif.counters with late := saturate16 r.lif.counters.late } ∧
          (s.AtWork → s.msq.motion = .travel → (∃ c, s.scu.held = some c ∧ c.kind = .travel) →
            t.msq.lastCommand = some { number := s.nextCommand, order := .stop } ∧ t.msq.motion = .travel)) ∧
        (s.windowOrdinal ≠ some (rxOrdinal f) → s.scu.lastGranted ≠ some (rxOrdinal f) →
          t.lif.counters = r.lif.counters))

/-- R111 and R112: a census request of the side. The model's choices in it: log entry 14. -/
def Obligations.CensusRequestVoidsAndAsks : Prop :=
  ∀ (s : State) (f : RxFrame), s.AtWork → s.msq.motion ≠ .offline → s.lif.silent = false → s.claimOnLane = false →
    s.claimWaits = false → s.Accepts .censusReq f → rxAuxSide f = s.stc.side →
    ∃ t, exec (.censusReq f) s = .next t ∧ t.scu.pending = none ∧ t.scu.replyQueued = true ∧
      t.claimState = s.claimState ∧ t.jtb = s.jtb ∧ t.rosters = (received .censusReq f s).rosters ∧
      t.space = s.scu.map.map (fun sl => { sl with holds := match sl.holds with
        | .heldPending (some h) _ _ _ => .held h
        | .heldPending none _ _ _ => .empty
        | h => h }) ∧
      (s.scu.replyQueued = false → s.lif.tx = none → TxFrame.censusReply ∈ t.lif.safety) ∧
      (s.isOwn f = true → s.scu.censusPending = true → t.scu.censusTimer = some 5000000 ∧ t.scu.repeatMark = false) ∧
      (s.isOwn f = false → t.scu.censusTimer = s.scu.censusTimer)

/-- R113 and R114, with R40 for the owners of notes: census replies. The model's choice in it: log entry 55 (which held block is
empty). -/
def Obligations.CensusReplyReplacesTheSlot : Prop :=
  ∀ (s : State) (f : RxFrame), s.Running → s.Accepts .censusReply f → rxAuxSide f = s.stc.side →
    let changes (c : Instr) (v : State) : Prop :=
      (v.windowConflict = false → exec c s = .next (settle v) ∧ RunKept v (settle v)) ∧
      (v.windowConflict = true → ∃ t, exec c s = .next t ∧ t.space = v.space ∧ t.scu.held = s.scu.held ∧
        t.scu.pending = none ∧ t.scu.doubt = true ∧ t.rosters = v.rosters ∧ t.log = v.log ∧ t.jtb = s.jtb)
    let r := received .censusReply f s
    let n := f.src.toNat
    let told := r.onMsq fun m => { m with spaceEvent := true }
    let own : Slot := {
      holds := (match rxReplyHeld f with | some h => .held h | none => .empty), lastOrdinal := some (rxOrdinal f) }
    (s.isOwn f = true → rxNotes f = [] →
      let u := told.onScu fun c => { c with replyQueued := false }
      exec (.censusReply f) s = .next (settle u) ∧ RunKept u (settle u)) ∧
    (s.isOwn f = false → rxNotes f = [] →
      changes (.censusReply f) (told.onScu fun c => { c with map := c.map.put n own })) ∧
    ∀ o rect e, s.isOwn f = false → rxNotes f = [(o, rect)] → o ≠ n → s.stc.station ≠ some o →
      r.stc.roster.at? o = some e →
      let e' : RosterEntry := { e with
        side := some s.stc.side, presence := if e.presence = .absent then .lost else e.presence }
      let sl := s.slotOf o
      let holds : SlotHolds := match sl.holds with
        | .empty => .frozen (some rect) none
        | .held h => if e.presence = .present then .held h else .frozen (some (h.bounding rect)) none
        | .heldPending h p i d => if e.presence = .present then .heldPending h p i d
          else .frozen (some (match h with | some x => x.bounding rect | none => rect)) none
        | .frozen h p => .frozen (some (match h with | some x => x.bounding rect | none => rect)) p
      changes (.censusReply f) ((told.onStc fun c => { c with roster := c.roster.put o e' }).onScu fun c =>
        { c with map := (c.map.put n own).put o { holds := holds, lastOrdinal := sl.lastOrdinal } })

/-- R111 and R116: the end of the head's own census, and the plan station's clearing of a frozen slot. -/
def Obligations.CensusEndAndClearFrozen : Prop :=
  (∀ s : State, s.AtWork → s.scu.censusTimer.isSome = true →
    (s.scu.repeatMark = false →
      let u := (s.onScu fun c => { c with
        censusTimer := none, censusPending := false, repeatMark := false, doubt := false }).onMsq fun m =>
          { m with spaceEvent := true }
      exec .censusTimerExpiry s = .next (settle u) ∧ WorkKept u (settle u)) ∧
    (s.scu.repeatMark = true → s.mayOffer = true →
      ∃ t, exec .censusTimerExpiry s = .next t ∧ t.scu.doubt = true ∧ t.scu.repeatMark = false ∧
        t.scu.censusTimer = none ∧ t.scu.censusPending = true ∧ (s.lif.tx = none → TxFrame.censusReq ∈ t.lif.safety))) ∧
  ∀ (s : State) (f : RxFrame), s.Running → s.Accepts .clearFrozen f →
    let changes (c : Instr) (v : State) : Prop :=
      (v.windowConflict = false → exec c s = .next (settle v) ∧ RunKept v (settle v)) ∧
      (v.windowConflict = true → ∃ t, exec c s = .next t ∧ t.space = v.space ∧ t.scu.held = s.scu.held ∧
        t.scu.pending = none ∧ t.scu.doubt = true ∧ t.rosters = v.rosters ∧ t.log = v.log ∧ t.jtb = s.jtb)
    let r := received .clearFrozen f s
    let n := rxFrozenStation f
    (n = 0 ∨ 8 < n → let u := r.onLif fun l => { l with
        counters := { l.counters with discarded := saturate16 l.counters.discarded } }
      exec (.clearFrozen f) s = .next (settle u) ∧ RunKept u (settle u)) ∧
    (1 ≤ n → n ≤ 8 →
      (s.stc.station = some n ∨ (∀ h p, (s.slotOf n).holds ≠ .frozen h p) →
        exec (.clearFrozen f) s = .next (settle r) ∧ RunKept r (settle r)) ∧
      (s.stc.station ≠ some n → ∀ h p, (s.slotOf n).holds = .frozen h p →
        changes (.clearFrozen f) ((r.onMsq fun m => { m with spaceEvent := true }).onScu fun c =>
          { c with map := c.map.put n { holds := .empty, lastOrdinal := none } })))

/-- R40 and R110: what a BEACON and a FAULT report of their sender, where it does not put the sender out (R82). The
model's choices in it: log entry 28. -/
def Obligations.BeaconsGiveStateAndOrdinal : Prop :=
  ∀ (s : State) (f : RxFrame), s.Running →
    (s.isOwn f = true →
      (s.Accepts .beacon f → let u := received .beacon f s
        exec (.beacon f) s = .next (settle u) ∧ RunKept u (settle u)) ∧
      (s.Accepts .fault f → let u := (received .fault f s).onFlu fun x => { x with
          awaitFault := x.awaitFault && !decide (rxFaultMode f = 1 ∧ x.acting = some (rxFaultCode f)) }
        exec (.fault f) s = .next (settle u) ∧ RunKept u (settle u))) ∧
    ∀ e, s.isOwn f = false → s.stc.roster.at? f.src.toNat = some e →
      let n := f.src.toNat
      let sl := s.slotOf n
      (s.Accepts .fault f → e.fence = some (.mode (rxFaultMode f)) ∨ rxFaultMode f ≤ 1 →
        let u := (received .fault f s).onStc fun c => { c with roster := c.roster.put n { e with
          presence := .present, silence := some 30000000, fence := some (.mode (rxFaultMode f)) } }
        exec (.fault f) s = .next (settle u) ∧ RunKept u (settle u)) ∧
      (s.Accepts .beacon f →
        let mode : FenceReport := if rxBeaconFence f = 7 then .noFence else .mode (rxBeaconFence f)
        e.fence = some mode ∨ (rxBeaconFence f ≠ 2 ∧ rxBeaconFence f ≠ 3) →
        let u := (received .beacon f s).onStc fun c => { c with roster := c.roster.put n { e with
          presence := .present, silence := some 30000000, side := some (rxBeaconSide f)
          motion := motionOfCode (rxBeaconMotion f), fence := some mode } }
        let v := u.onScu fun c => { c with map := c.map.put n { sl with lastOrdinal := some (rxBeaconOrdinal f) } }
        (rxBeaconSide f ≠ s.stc.side ∨ sl.lastOrdinal = some (rxBeaconOrdinal f) →
          exec (.beacon f) s = .next (settle u) ∧ RunKept u (settle u)) ∧
        (rxBeaconSide f = s.stc.side → sl.lastOrdinal = none →
          exec (.beacon f) s = .next (settle v) ∧ RunKept v (settle v)) ∧
        ∀ o, rxBeaconSide f = s.stc.side → sl.lastOrdinal = some o → o ≠ rxBeaconOrdinal f →
          let w := v.onScu fun c => { c with doubt := true, repeatMark := c.repeatMark || c.censusTimer.isSome }
          exec (.beacon f) s = .next (settle w) ∧ RunKept w (settle w))

/-- R39, R41, R42 and R115: stations that fall silent, or that report mode 2 or 3. The model's choices in it: log
entry 28. -/
def Obligations.StationsThatAreOutFreeze : Prop :=
  ∀ s : State, s.Running → s.rvu.current = none → s.rvu.next = none →
    let changes (c : Instr) (v : State) : Prop :=
      (v.windowConflict = false → exec c s = .next (settle v) ∧ RunKept v (settle v)) ∧
      (v.windowConflict = true → ∃ t, exec c s = .next t ∧ t.space = v.space ∧ t.scu.held = s.scu.held ∧
        t.scu.pending = none ∧ t.scu.doubt = true ∧ t.rosters = v.rosters ∧ t.log = v.log ∧ t.jtb = s.jtb)
    let frozen (n : Nat) (v : State) : State :=
      let sl := s.slotOf n
      let holds : SlotHolds := match sl.holds with
        | .held h => .frozen (some h) none
        | .heldPending h p _ _ => .frozen h (some p)
        | h => h
      (v.onMsq fun m => { m with spaceEvent := true }).onScu fun c =>
        { c with map := c.map.put n { holds := holds, lastOrdinal := sl.lastOrdinal } }
    (s.stc.station ≠ some 0 → s.stc.roster0.presence = .present → s.stc.roster0.silence.isSome = true →
      let u := s.onStc fun c => { c with
        roster0 := { c.roster0 with presence := .lost, silence := none }, planLoss := some 1000000000 }
      exec (.silenceTimerExpiry 0) s = .next (settle u) ∧ RunKept u (settle u)) ∧
    (∀ n, (s.rosterOf n).presence ≠ .present ∨ (s.rosterOf n).silence = none →
      exec (.silenceTimerExpiry n) s = .next (settle s) ∧ RunKept s (settle s)) ∧
    (∀ n e, s.stc.station ≠ some n → s.stc.roster.at? n = some e → e.presence = .present → e.silence.isSome = true →
      let u := s.onStc fun c => { c with roster := c.roster.put n { e with presence := .lost, silence := none } }
      (e.side ≠ some s.stc.side →
        exec (.silenceTimerExpiry n) s = .next (settle u) ∧ RunKept u (settle u)) ∧
      (e.side = some s.stc.side → changes (.silenceTimerExpiry n) (frozen n u))) ∧
    ∀ f e, s.Accepts .fault f → s.isOwn f = false → s.stc.roster.at? f.src.toNat = some e → 2 ≤ rxFaultMode f →
      e.fence ≠ some (.mode (rxFaultMode f)) → e.side = some s.stc.side →
      changes (.fault f) (frozen f.src.toNat ((received .fault f s).onStc fun c => { c with
        roster := c.roster.put f.src.toNat { e with
          presence := .present, silence := some 30000000, fence := some (.mode (rxFaultMode f)) } }))

/-- R82: partner loss, at a head with one membership. -/
def Obligations.PartnerLossEndsTheSet : Prop :=
  ∀ (s : State) (n : Nat) (e : RosterEntry) (m : Membership), s.AtWork → s.lif.silent = false → s.LiftsSafely →
    s.rvu.current = some m → s.rvu.next = none → s.stc.station ≠ some n → s.stc.roster.at? n = some e →
    e.presence = .present → e.silence.isSome = true → (e.side ≠ some s.stc.side ∨ s.scu.pending = none) →
    some n ∈ s.takersOf m →
    let lower : Prop := ∃ x ∈ (s.takersOf m).take m.role, x ≠ none ∧ x ≠ some n
    let down : Prop := s.msq.motion = .descend ∨ s.msq.motion = .landed ∨ s.msq.motion = .measure ∨ s.msq.motion = .hold
    ∃ t, exec (.silenceTimerExpiry n) s = .next t ∧ t.jtb = s.jtb ∧
      t.stc.roster = s.stc.roster.put n { e with presence := .lost, silence := none } ∧
      (lower → s.msq.motion.engaged = true → m.state ≠ .formed →
        t.rvu.current = some m ∧ t.msq.motion = s.msq.motion ∧ t.msq.lastCommand = s.msq.lastCommand) ∧
      (¬ lower → TxFrame.drop m.job .partnerLost n ∈ t.offered ∧
        (m.state = .taken → s.msq.motion.engaged = true →
          t.rvu.current = some m ∧ t.msq.lastCommand = s.msq.lastCommand) ∧
        (m.state ≠ .taken → t.rvu.current = none ∧
          (down → t.meu = Meu.powerOn ∧ t.msq.motion = .lift ∧
            t.msq.lastCommand = some { number := s.nextCommand, order := .move s.tipX s.tipY s.cfg.zt .lift })))

/-- R43 to R45 and R32: board sessions. The model's choices in it: log entry 27. -/
def Obligations.BoardSessionsEmptyTheTable : Prop :=
  ∀ (s : State) (f : RxFrame), s.Running →
    (∀ n, s.rvu.next = some n → ∃ m, s.rvu.current = some m ∧ m.job ≠ n.job) →
    let down : Prop := s.msq.motion = .descend ∨ s.msq.motion = .landed ∨ s.msq.motion = .measure ∨ s.msq.motion = .hold
    let lifted (t : State) : Prop := t.meu = Meu.powerOn ∧ t.msq.motion = .lift ∧
      t.msq.lastCommand = some { number := s.nextCommand, order := .move s.tipX s.tipY s.cfg.zt .lift }
    (s.Accepts .boardOut f →
      let u := (received .boardOut f s).onJtb fun t => { t with entries := [] }
      (s.msq.motion = .offline → exec (.boardOut f) s = .next (settle u) ∧ RunKept u (settle u)) ∧
      (s.msq.motion ≠ .offline → ∃ t, exec (.boardOut f) s = .next t ∧ t.jtb = u.jtb ∧ t.rvu.current = none ∧
        t.rvu.next = none ∧ t.boardActive = false ∧
        (s.AtWork → s.lif.silent = false → t.lif.post = s.lif.post ∧ t.lif.answer = s.lif.answer ∧
          (s.msq.motion = .parked → t.stc.board = .noBoard ∧ t.stc.changeDue = false ∧ (s.stc.station ≠ none → TxFrame.beacon ∈ t.offered)) ∧
          (s.msq.motion = .frozen ∨ s.msq.motion = .lift → t.msq.motion = s.msq.motion ∧
            t.stc.board = .changing ∧ t.stc.changeDue = true ∧ t.msq.lastCommand = s.msq.lastCommand) ∧
          (s.msq.motion = .travel → s.rvu.current ≠ none → t.msq.motion = .travel ∧ t.msq.abandonMark = true ∧
            t.stc.board = .changing ∧ t.stc.changeDue = true) ∧
          (down → s.rvu.current ≠ none → s.LiftsSafely →
            lifted t ∧ t.stc.board = .changing ∧ t.stc.changeDue = true)))) ∧
    (s.Accepts .boardIn f →
      let u := (received .boardIn f s).onJtb fun t => { t with entries := [] }
      let v := u.onStc fun c => { c with board := .active (rxBoard f) }
      (s.msq.motion = .offline → exec (.boardIn f) s = .next (settle u) ∧ RunKept u (settle u)) ∧
      (s.msq.motion ≠ .offline → s.boardActive = false ∨ s.rvu.current = none ∧ s.rvu.next = none →
        exec (.boardIn f) s = .next (settle v) ∧ RunKept v (settle v)) ∧
      (s.msq.motion ≠ .offline → s.boardActive = true → s.AtWork → s.LiftsSafely → s.rvu.current ≠ none → down →
        ∃ t, exec (.boardIn f) s = .next t ∧ t.jtb = u.jtb ∧ t.rvu.current = none ∧ t.rvu.next = none ∧
          t.stc.board = .active (rxBoard f) ∧ t.stc.changeDue = s.stc.changeDue ∧ lifted t))

/-- R46 to R48: a RESTART of the plan station, in the self-test of a power-on start too. The model's choices in it: log entries 11,
16 and 26. -/
def Obligations.RestartLiftsThenRejoins : Prop :=
  ∀ (s : State) (f : RxFrame) (prom : Option (List Byte)), s.stc.inReset = false → s.Accepts .restart f →
    let r := received .restart f s
    let rereads : Prop := s.msq.motion = .offline ∧ (s.stc.offlineReason = 0x10 ∨ s.stc.offlineReason = 0x11)
    (s.Running → s.stc.restart ≠ .noRestart →
      exec (.restart f prom) s = .next (settle r) ∧ RunKept r (settle r)) ∧
    (s.stc.restart = .noRestart →
      (s.msq.motion ≠ .joining → s.msq.motion ≠ .offline → s.tipZ < s.cfg.zt →
        ∃ t, exec (.restart f prom) s = .next t ∧ LiftBegun r t) ∧
      (s.msq.motion = .joining ∨ s.msq.motion = .offline ∨ s.cfg.zt ≤ s.tipZ → ¬ rereads →
        ∃ t, exec (.restart f prom) s = .next t ∧ Rejoined r t) ∧
      (rereads → readRecord prom = none →
        ∃ t, exec (.restart f prom) s = .next t ∧ Cleared r t ∧ t.msq.motion = .offline ∧ t.stc.offlineReason = 0x10 ∧
          t.stc.join = .failed ∧ t.stc.restart = .noRestart ∧ t.stc.config = none ∧ t.flu.record ≠ none ∧
          (∀ x, s.flu.record = some x → t.flu.record = some x)) ∧
      ∀ c, rereads → readRecord prom = some c →
        ∃ t, exec (.restart f prom) s = .next t ∧ Cleared r t ∧ t.msq.motion = .offline ∧ t.stc.config = some c ∧
          t.stc.selfTesting = true ∧ t.stc.restart = .selfTest ∧ t.faultState = s.faultState)

/-- R183 and R184: the end of the REPORT action as a lift completes, and the restart of a mode 1 fence, once its own FAULT and
DROP frames have been heard or their wait is over; R47 and R48: the ends of the lift phase. The model's choices in it: log
entries 11, 18 and 47. -/
def Obligations.RestartLiftEndsTheLift : Prop :=
  ∀ s : State, s.stc.inReset = false →
    (s.lifting = false → s.flu.fence = .restartWait → s.flu.restartWait.isSome = true → s.msq.motion ≠ .offline →
      (s.msq.motion ≠ .joining → s.tipZ < s.cfg.zt → ∃ t, exec .restartWaitExpiry s = .next t ∧ LiftBegun s t) ∧
      (s.msq.motion = .joining ∨ s.cfg.zt ≤ s.tipZ → ∃ t, exec .restartWaitExpiry s = .next t ∧ Rejoined s t)) ∧
    (s.Running → exec .restartWaitExpiry s = .next (settle s) ∧ RunKept s (settle s)) ∧
    (s.Running → exec .restartLiftTimeout s = .next (settle s) ∧ RunKept s (settle s)) ∧
    (s.lifting = true → s.msq.motion = .lift →
      (∀ r, r.fault = false → s.breaches r = false → s.completes r = true →
        ∃ t, exec (.driveReport r) s = .next t ∧
          Rejoined (s.onMsq fun m => { m with lastReport := some r }) t) ∧
      (s.stc.restartLift.isSome = true →
        ∃ t, exec .restartLiftTimeout s = .next t ∧ Cleared s t ∧ t.msq.motion = .offline ∧ t.stc.offlineReason = 0x07 ∧
          t.stc.join = .failed ∧ t.stc.restart = .noRestart ∧ t.stc.config = s.stc.config ∧
          (s.msq.driveReported = true → t.faultState = s.faultState) ∧
          (s.msq.driveReported = false → t.flu.count = saturate8 s.flu.count ∧
            t.flu.record = some (s.flu.record.getD { code := 0x07, motion := .lift, tipX := s.tipX, tipY := s.tipY,
                                                     job := s.currentJob, board := s.boardNumber
                                                     held := s.scu.held })))) ∧
    (∀ r m, s.lifting = false → s.lif.silent = false → s.msq.motion = .lift → s.flu.fence = .acting m → r.fault = false →
      s.breaches r = false → s.completes r = true →
      (m = 0 ∨ m = 1 ∧ (s.flu.awaitFault = true ∨ s.flu.awaitDrops ≠ [])) → ∃ t, exec (.driveReport r) s = .next t ∧ t.faultState = s.faultState ∧
        t.jtb = s.jtb ∧
        (m = 0 → t.flu.fence = .noFence ∧ t.flu.acting = none) ∧
        (m = 1 → t.flu.fence = .restartWait ∧ t.flu.restartWait = some 40000000)) ∧
    (s.lifting = false → s.halt = false → s.flu.fence = .restartWait → s.msq.motion ≠ .offline → s.msq.spaceEvent = false →
      s.scu.pending = none →
      let restarts (c : Instr) (r : State) : Prop := ∃ t, exec c s = .next t ∧
        (s.msq.motion ≠ .joining → s.tipZ < s.cfg.zt → LiftBegun r t) ∧
        (s.msq.motion = .joining ∨ s.cfg.zt ≤ s.tipZ → Rejoined r t)
      (∀ f, s.Accepts .fault f → s.isOwn f = true → s.flu.awaitFault = true →
        let meant : Prop := rxFaultMode f = 1 ∧ s.flu.acting = some (rxFaultCode f)
        (meant → s.flu.awaitDrops = [] → restarts (.fault f) (received .fault f s)) ∧
        (¬ meant ∨ s.flu.awaitDrops ≠ [] → ∃ t, exec (.fault f) s = .next t ∧ t.flu.fence = .restartWait ∧
          t.flu.awaitDrops = s.flu.awaitDrops ∧ (t.flu.awaitFault = true ↔ ¬ meant) ∧ t.jtb = s.jtb)) ∧
      ∀ f, s.Accepts .drop f → s.isOwn f = true → rxDropReason f = some .fault → s.entry? (rxJob f) = none →
        let left := s.flu.awaitDrops.filter fun j => j != rxJob f
        (s.flu.awaitFault = false → left = [] → restarts (.drop f) (received .drop f s)) ∧
        (s.flu.awaitFault = true ∨ left ≠ [] → ∃ t, exec (.drop f) s = .next t ∧ t.flu.fence = .restartWait ∧
          t.flu.awaitDrops = left ∧ t.flu.awaitFault = s.flu.awaitFault ∧ t.jtb = s.jtb))

/-- R42 and R38: the plan-loss timer and the beacon timer. The model's choices in it: log entries 8 and 20. -/
def Obligations.PlanLossAndBeaconTimers : Prop :=
  ∀ s : State, s.Running →
    (s.stc.planLoss = none → exec .planLossTimerExpiry s = .next (settle s) ∧ RunKept s (settle s)) ∧
    (s.stc.planLoss.isSome = true →
      let stopped := s.onStc fun c => { c with planLoss := none }
      let still : Prop := s.msq.motion = .parked ∨ s.msq.motion = .frozen ∨ s.msq.motion = .offline ∨ s.msq.motion = .joining
      (s.rvu.current = none → s.rvu.next = none →
        let u := if still then stopped else stopped.onMsq fun m => { m with parkRequest := true }
        exec .planLossTimerExpiry s = .next (settle u) ∧ RunKept u (settle u)) ∧
      ∀ m, s.rvu.current = some m → s.rvu.next = none → s.AtWork → s.lif.silent = false → s.LiftsSafely →
        ∃ t, exec .planLossTimerExpiry s = .next t ∧ TxFrame.drop m.job .planLost 0 ∈ t.offered ∧ t.rvu.current = none ∧
          t.jtb = s.jtb ∧ t.stc.planLoss = none ∧
          (s.msq.motion = .descend ∨ s.msq.motion = .landed ∨ s.msq.motion = .measure ∨ s.msq.motion = .hold →
            t.meu = Meu.powerOn ∧ t.msq.motion = .lift ∧ t.msq.parkRequest = true ∧
            t.msq.lastCommand = some { number := s.nextCommand, order := .move s.tipX s.tipY s.cfg.zt .lift })) ∧
    (s.stc.beaconTimer = none → exec .beaconTimerExpiry s = .next (settle s) ∧ RunKept s (settle s)) ∧
    (s.stc.beaconTimer.isSome = true → s.stc.station ≠ none →
      let timed := s.onStc fun c => { c with beaconTimer := some 10000000 }
      let u := timed.onLif fun l =>
        if l.held = [] ∧ l.work.length < 8 then
          { l with work := l.work ++ [.beacon], stallWork := if l.work = [] then some 20000000 else l.stallWork }
        else if TxFrame.beacon ∈ l.held then l
        else { l with held := l.held ++ [.beacon] }
      exec .beaconTimerExpiry s = .next (settle u) ∧ RunKept u (settle u))

/-- R194 with R25 and R181, and R171, R175 and R176: clearing the logs, and answering. -/
def Obligations.LogsClearAndQueriesAnswer : Prop :=
  ∀ (s : State) (f : RxFrame), s.Running → s.isOwn f = false →
    (s.Accepts .clearLog f →
      let u := ((received .clearLog f s).onLif fun l => { l with
          counters := { corrected := 0, spoiled := 0, broken := 0, collisions := 0, discarded := 0, late := 0 }
          checkLog := { entry := none, more := false } }).onFlu fun x => { x with
            record := none, second := false, count := 0, faultN := false }
      exec (.clearLog f) s = .next (settle u) ∧ RunKept u (settle u)) ∧
    (s.Accepts .query f →
      let r := received .query f s
      let item := rxItem f
      let sel := rxSelector f
      let taken : Prop := item ≤ 2 ∧ sel = 0 ∨ item = 3 ∧ sel ≤ 8 ∨ item = 4 ∧ sel ≤ 4
      let answer : TxFrame := if taken then .status item sel else .refused true 0x15 f.aux f.dst.toNat
      let able : Prop := s.stc.station ≠ none ∧ s.stc.join ≠ .notStarted ∧ s.stc.join ≠ .listen ∧ s.lif.silent = false
      (¬ able → exec (.query f) s = .next (settle r) ∧ RunKept r (settle r)) ∧
      (able → (∀ x, s.lif.tx = some x → x.place ≠ .answer ∨ x.detached = true) →
        let u := r.onLif fun l => { l with answer := some answer }
        exec (.query f) s = .next (settle u) ∧ RunKept u (settle u)) ∧
      ∀ x, able → s.lif.tx = some x → x.place = .answer → x.detached = false →
        let u := r.onLif fun l => { l with tx := some { x with replacement := some answer, withdrawn := false } }
        exec (.query f) s = .next (settle u) ∧ RunKept u (settle u))

/-- R122 for every REPORT, and R123, R129, R130, R135 and R137 for one that completes the last command (R121). The model's
choices in it: log entries 32 and 54. -/
def Obligations.ReportsCompleteTheMoves : Prop :=
  ∀ (s : State) (r : DriveReport), s.AtWork → r.fault = false → s.breaches r = false →
    let kept := (s.onStc fun c => { c with driveSeen := c.driveSeen || c.selfTesting }).onMsq fun m => { m with
      lastReport := some r, driveReported := false, breachReported := false
      driveSilence := if s.msq.motion = .offline then m.driveSilence else some 2000000 }
    let done : Prop := ∃ c, s.msq.lastCommand = some c ∧ r.inPosition = true ∧ r.number.toNat = c.number
    let x := r.x.toNat
    let y := r.y.toNat
    (¬ done → exec (.driveReport r) s = .next (settle kept) ∧ WorkKept kept (settle kept)) ∧
    (done → s.msq.motion = .lift → let u := kept.onMsq fun m =>
        { m with motion := .idle, spaceWait := none, spaceExpired := false, abandonMark := false }
      exec (.driveReport r) s = .next (settle u) ∧ WorkKept u (settle u)) ∧
    (∀ c, done → s.msq.motion = .landed ∨ s.msq.motion = .measure ∨ s.msq.motion = .hold → s.msq.lastCommand = some c →
      let u := if c.order = .stop then kept.onMsq fun m => { m with standing := some (x, y) } else kept
      exec (.driveReport r) s = .next (settle u) ∧ WorkKept u (settle u)) ∧
    (∀ h, done → s.msq.motion = .travel → s.lif.silent = false → s.scu.held = some h →
      (s.msq.abandonMark = true ∨ s.msq.lateStop = true ∨ ∃ g ∈ s.msq.grant, g.contains x y = true) →
      ∃ t, exec (.driveReport r) s = .next t ∧ t.msq.lastReport = some r ∧ t.msq.lateStop = false ∧
        t.msq.standing = some (x, y) ∧ t.scu.held = some (standingWithin s.cfg h x y) ∧ t.jtb = s.jtb ∧ t.flu = s.flu ∧
        (s.scu.replyQueued = false → s.lif.tx = none → s.msq.abandonMark = false → s.msq.lateStop = false →
          TxFrame.shrink (standingWithin s.cfg h x y).rect ∈ t.lif.safety) ∧
        (s.msq.abandonMark = false → s.msq.lateStop = false →
          t.msq.motion = .descend ∧ t.msq.descend = .approach ∧
          t.msq.lastCommand = some { number := s.nextCommand, order := .move x y s.cfg.zs .travel }) ∧
        (s.msq.abandonMark = false → s.msq.lateStop = true → s.scu.doubt = true → t.msq.motion = .waitSpace ∧
          t.msq.spaceWait = some (s.cfg.spaceWait * 1000000) ∧ t.msq.lastCommand = s.msq.lastCommand) ∧
        (s.msq.abandonMark = true → t.msq.abandonMark = false ∧ t.msq.lastCommand = s.msq.lastCommand ∧
          (s.boardActive = true → s.msq.parkRequest = false → s.msq.waiting = none →
            (∀ m, s.rvu.current = some m → m.state ≠ .formed) → t.msq.motion = .idle))) ∧
    (done → s.msq.motion = .parking → s.msq.park = .move → s.msq.lateStop = false → s.lif.silent = false →
      ∃ t, exec (.driveReport r) s = .next t ∧ t.msq.lastReport = some r ∧ t.scu.held = none ∧ t.msq.grant = none ∧
        t.msq.parkRequest = false ∧ t.jtb = s.jtb ∧ t.flu = s.flu ∧ t.stc.changeDue = false ∧
        (s.stc.changeDue = true → s.stc.station ≠ none → TxFrame.beacon ∈ t.offered) ∧
        (s.msq.waiting = none → (∀ m, s.rvu.current = some m → m.state ≠ .formed) →
          t.msq.motion = .parked ∧ (s.scu.replyQueued = false → s.lif.tx = none → TxFrame.release ∈ t.lif.safety)))

/-- R132 and R134: the phases of DESCEND. -/
def Obligations.DescentFollowsTheDrive : Prop :=
  ∀ (s : State) (r : DriveReport) (px py gx gy : Nat), s.AtWork → s.msq.motion = .descend → r.fault = false →
    s.breaches r = false → s.msq.standing = some (px, py) → s.msq.target = some (gx, gy) →
    let kept := (s.onStc fun c => { c with driveSeen := c.driveSeen || c.selfTesting }).onMsq fun m => { m with
      lastReport := some r, driveReported := false, breachReported := false
      driveSilence := if s.msq.motion = .offline then m.driveSilence else some 2000000 }
    let done : Prop := ∃ c, s.msq.lastCommand = some c ∧ r.inPosition = true ∧ r.number.toNat = c.number
    let allowed (x y : Nat) : Bool := match s.msq.grant, s.scu.held with
      | some g, some h => g.contains x y && h.region.contains x y
      | _, _ => false
    let goes (u : State) : Prop := exec (.driveReport r) s = .next (settle u) ∧ WorkKept u (settle u)
    let searching (x y : Nat) : State := kept.onMsq fun m => { m with
      descend := .search, standing := some (x, y)
      lastCommand := some { number := s.nextCommand, order := .move x y s.cfg.zo .search } }
    let ends (noContact : Bool) (order : DriveOrder) (m : Membership) : Prop :=
      ∃ t, exec (.driveReport r) s = .next t ∧ t.msq.motion = .landed ∧ t.rvu.next = s.rvu.next ∧
        t.rvu.current = some { m with state := .landed } ∧ t.flu = s.flu ∧ t.claimState = s.claimState ∧
        t.msq.lastCommand = some { number := s.nextCommand, order := order } ∧
        TxFrame.landed m.job m.role m.pass noContact ∈ t.offered
    done →
      (s.msq.descend = .approach → s.pins.contact = false → allowed px py = true → goes (searching px py)) ∧
      (∀ m, s.msq.descend = .approach → s.pins.contact = true → s.lif.silent = false → s.rvu.current = some m →
        ends false .stop m) ∧
      (∀ m, s.msq.descend = .search → s.pins.contact = false → s.lif.silent = false → s.rvu.current = some m →
        (r.x.toNat = px ∧ r.y.toNat = py ∨ allowed px py = true) → ends true (.move px py s.cfg.zs .lift) m) ∧
      (s.msq.descend = .search → s.pins.contact = true → goes kept) ∧
      (s.msq.descend = .rise → allowed (gx + s.msq.retouch) gy = true → goes (kept.onMsq fun m => { m with
        descend := .scrub
        lastCommand := some { number := s.nextCommand, order := .move (gx + s.msq.retouch) gy s.cfg.zs .search } })) ∧
      (s.msq.descend = .rise → allowed (gx + s.msq.retouch) gy = false → s.pins.contact = false →
        allowed px py = true → goes (searching px py)) ∧
      (s.msq.descend = .scrub → s.pins.contact = false → allowed r.x.toNat r.y.toNat = true →
        goes (searching r.x.toNat r.y.toNat))

/-- R131 to R133, R140 and R152: the contact input, where it is no COLLISION. -/
def Obligations.ContactEndsTheDescent : Prop :=
  ∀ s : State, s.AtWork →
    (s.pins.contact = true → exec .contactClosing s = .next s) ∧
    (s.pins.contact = false → exec .contactOpening s = .next s) ∧
    (∀ m, s.pins.contact = false → s.msq.motion = .descend → s.lif.silent = false → s.rvu.current = some m →
      ∃ t, exec .contactClosing s = .next t ∧ t.pins = { s.pins with contact := true } ∧ t.msq.motion = .landed ∧
        t.msq.lastCommand = some { number := s.nextCommand, order := .stop } ∧ t.rvu.next = s.rvu.next ∧
        t.rvu.current = some { m with state := .landed } ∧ TxFrame.landed m.job m.role m.pass false ∈ t.offered ∧
        t.claimState = s.claimState ∧ t.space = s.space ∧ t.jtb = s.jtb ∧ t.flu = s.flu ∧ t.meu = s.meu) ∧
    (s.pins.contact = false →
      s.msq.motion = .landed ∨ s.msq.motion = .measure ∨ s.msq.motion = .hold ∨ s.msq.motion = .offline →
      let u := (s.onPins fun p => { p with contact := true }).onStc fun c =>
        { c with contactSeen := c.contactSeen || c.selfTesting }
      exec .contactClosing s = .next (settle u) ∧ WorkKept u (settle u)) ∧
    (s.pins.contact = true →
      let u := s.onPins fun p => { p with contact := false }
      let v := u.onMeu fun x => { x with acc := { x.acc with lifted := true } }
      (s.msq.motion = .measure → exec .contactOpening s = .next (settle v) ∧ WorkKept v (settle v)) ∧
      (s.msq.motion ≠ .measure → exec .contactOpening s = .next (settle u) ∧ WorkKept u (settle u)))

/-- R125, R128 and R137: the idle-park delay and the space wait. -/
def Obligations.IdleAndSpaceTimersEndTheWait : Prop :=
  ∀ s : State, s.AtWork →
    let c := corridor s.cfg .travel s.tipX s.tipY s.cfg.parkX s.cfg.parkY
    let refused : Prop := s.scu.doubt = true ∨ s.scu.replyQueued = true ∨ s.scu.pending ≠ none ∨
      s.conflictsMap c.rect = true
    (s.msq.idleTimer = none ∨ s.msq.motion ≠ .idle →
      exec .idleParkTimerExpiry s = .next (settle s) ∧ WorkKept s (settle s)) ∧
    (s.msq.idleTimer ≠ none → s.msq.motion = .idle →
      (refused → let u := s.onMsq fun m => { m with motion := .parking, idleTimer := none, park := .wait }
        exec .idleParkTimerExpiry s = .next (settle u) ∧ WorkKept u (settle u)) ∧
      (¬ refused → s.lif.silent = false → ∃ t, exec .idleParkTimerExpiry s = .next t ∧ t.msq.motion = .parking ∧
        t.msq.park = .seek ∧ t.scu.pending = some { claim := c, stage := .queued } ∧ t.msq.lastCommand = s.msq.lastCommand ∧
        t.claimState = s.claimState ∧ t.jtb = s.jtb ∧
        (s.lif.tx = none → TxFrame.claim .travel c.rect ∈ t.lif.safety))) ∧
    (s.msq.spaceWait = none → exec .spaceWaitExpiry s = .next (settle s) ∧ WorkKept s (settle s)) ∧
    (s.msq.spaceWait ≠ none →
      (s.msq.motion = .claiming → let u := s.onMsq fun m => { m with spaceWait := none, spaceExpired := true }
        exec .spaceWaitExpiry s = .next (settle u) ∧ WorkKept u (settle u)) ∧
      (s.msq.motion ≠ .claiming → s.msq.motion ≠ .waitSpace → let u := s.onMsq fun m => { m with spaceWait := none }
        exec .spaceWaitExpiry s = .next (settle u) ∧ WorkKept u (settle u)) ∧
      ∀ m, s.msq.motion = .waitSpace → s.lif.silent = false → s.rvu.current = some m →
        ∃ t, exec .spaceWaitExpiry s = .next t ∧ TxFrame.drop m.job .space 0 ∈ t.offered ∧ t.jtb = s.jtb ∧
          t.rvu.current.map (·.job) = s.rvu.next.map (·.job) ∧ t.rvu.next = none ∧ t.claimState = s.claimState ∧
          (s.rvu.next = none → s.msq.waiting = none →
            (s.scu.held = none → t.msq.motion = .parked ∧ t.msq.grant = none) ∧
            (s.scu.held ≠ none → s.boardActive = true → s.msq.parkRequest = false → t.msq.motion = .idle)))

/-- R141 to R143, with R117, R124 and R166. The model's choice in it: log entry 49 (a HALT seen in FROZEN keeps a TAKEN membership,
as R142 has it, against R91). -/
def Obligations.HaltFreezesAndResumeFrees : Prop :=
  ∀ s : State, s.Running →
    let still : Prop := s.msq.motion = .parked ∨ s.msq.motion = .offline ∨ s.msq.motion = .joining ∨ s.msq.motion = .frozen
    let released := s.onPins fun p => { p with haltIn := false }
    (still → let u := (s.onPins fun p => { p with haltIn := true }).onMsq fun m => { m with resumeMark := false }
      exec .haltAsserted s = .next (settle u) ∧ RunKept u (settle u)) ∧
    (¬ still → ∃ t, exec .haltAsserted s = .next t ∧ t.pins = { s.pins with haltIn := true } ∧ t.msq.motion = .frozen ∧
      t.msq.frozen = .stopping ∧ t.msq.lastCommand = some { number := s.nextCommand, order := .stop } ∧
      t.rvu.current = none ∧ t.rvu.next = none ∧ t.meu = Meu.powerOn ∧ t.msq.waiting = none ∧ t.msq.idleTimer = none ∧
      t.msq.spaceWait = none ∧ t.msq.abandonMark = false ∧ t.msq.parkRequest = false ∧ t.msq.resumeMark = false ∧
      t.claimState = s.claimState ∧ t.jtb = s.jtb ∧ t.faultState = s.faultState ∧
      (∀ p, s.scu.pending = some p → p.stage = .queued → s.lif.tx = none → t.scu.pending = none ∧
        ∀ f ∈ t.lif.safety, isClaimFrame f = false)) ∧
    (exec .haltReleased s = .next (settle released) ∧ RunKept released (settle released)) ∧
    (∀ p, s.msq.motion = .parked → s.msq.waiting = some p → s.flu.haltDrive = false →
      (∀ m, s.rvu.current = some m → m.state ≠ .formed) →
      ∃ t, exec .haltReleased s = .next t ∧ t.msq.waiting = none ∧ t.msq.target = some p ∧ t.msq.retouch = 0 ∧
        (t.msq.motion = .claiming ∨ t.msq.motion = .waitSpace)) ∧
    ∀ f, s.Accepts .resume f →
      let r := received .resume f s
      let goes (u : State) : Prop := exec (.resume f) s = .next (settle u) ∧ RunKept u (settle u)
      let fenced : Prop := s.flu.fence = .silent ∨ s.flu.fence = .haltAll
      (s.halt = true → goes (r.onLif fun l =>
        { l with counters := { l.counters with discarded := saturate16 l.counters.discarded } })) ∧
      (s.halt = false → fenced ∨ s.msq.motion ≠ .frozen → goes r) ∧
      (s.halt = false → ¬ fenced → s.msq.motion = .frozen →
        (s.msq.frozen = .still → goes (r.onMsq fun m => { m with
          motion := .idle, resumeMark := false, spaceWait := none, spaceExpired := false, abandonMark := false })) ∧
        (s.msq.frozen ≠ .still → goes (r.onMsq fun m => { m with resumeMark := true })))

/-- R142: the phases of FROZEN after a HALT. -/
def Obligations.StopsEndInStill : Prop :=
  ∀ (s : State) (r : DriveReport) (c : DriveCommand), s.Running → s.lif.silent = false → s.msq.motion = .frozen →
    s.msq.resumeMark = false → r.fault = false → s.breaches r = false → s.msq.lastCommand = some c →
    r.inPosition = true → r.number.toNat = c.number →
    let x := r.x.toNat
    let y := r.y.toNat
    ∃ t, exec (.driveReport r) s = .next t ∧ t.msq.motion = .frozen ∧ t.msq.lastReport = some r ∧ t.jtb = s.jtb ∧
      t.faultState = s.faultState ∧ t.space = s.space ∧
      (s.msq.frozen ≠ .stopping → t.msq.frozen = .still ∧ t.msq.lastCommand = some c ∧ t.scu.held = s.scu.held) ∧
      (s.msq.frozen = .stopping → t.msq.standing = some (x, y) ∧
        t.scu.held = s.scu.held.map (fun h => standingWithin s.cfg h x y) ∧
        (s.cfg.zt ≤ r.z.toNat → t.msq.frozen = .still ∧ t.msq.lastCommand = some c) ∧
        (r.z.toNat < s.cfg.zt → t.msq.frozen = .lifting ∧
          t.msq.lastCommand = some { number := s.nextCommand, order := .move x y s.cfg.zt .lift }))

/-- R27 to R32 at the release of RESET_N, and the ranges of R30. The model's choices in it: log entries 26, 41 and 47 (the held
claim of the record). -/
def Obligations.StartReadsStrapsAndRecord : Prop :=
  (∀ (s : State) (st : BitVec 4) (side : Side) (prom : Option (List Byte)),
    ∃ t, exec (.resetNRelease st side prom) s = .next t ∧ t.outer = s.outer ∧ t.stc.inReset = false ∧ t.stc.side = side ∧
      t.lif = Lif.powerOn ∧ t.jtb = Jtb.powerOn ∧ t.rvu = Rvu.powerOn ∧ t.scu = Scu.powerOn ∧ t.meu = Meu.powerOn ∧
      t.msq = Msq.powerOn ∧ t.flu.fence = .noFence ∧
      (let n := st.toNat
       let started : Prop := 1 ≤ n ∧ n ≤ 8
       let stopped (code : Nat) : Prop := t.stc.join = .failed ∧ t.stc.offlineReason = code ∧ t.stc.selfTesting = false ∧
         t.stc.config = none ∧ t.stc.selfTest = .notRun ∧ t.flu.faultN = true ∧ t.flu.count = 1 ∧ t.flu.second = false ∧
         t.flu.record = some { code := code, motion := .offline, tipX := 0, tipY := 0, job := 0, board := 0
                               held := none }
       (¬ started → stopped 0x13 ∧ t.stc.station = none ∧ t.stc.beaconTimer = none) ∧
       (started → t.stc.station = some n ∧
         (readRecord prom = none → stopped 0x10 ∧ t.stc.beaconTimer = some 10000000) ∧
         ∀ c, readRecord prom = some c → t.stc.config = some c ∧ t.stc.selfTesting = true ∧ t.stc.join = .notStarted ∧
           t.stc.contactSeen = s.pins.contact ∧ t.stc.driveSeen = false ∧ t.flu.record = none))) ∧
  ∀ (prom : Option (List Byte)) (c : ConfigRecord), readRecord prom = some c →
    promByte prom 0 = 0x31#8 ∧ c.reachXmin < c.reachXmax ∧ c.reachXmax ≤ 60000 ∧ c.reachYmin < c.reachYmax ∧
      c.reachYmax ≤ 60000 ∧ c.zo < c.zs ∧ c.zs < c.zt ∧ c.exn ≤ 4000 ∧ c.exp ≤ 4000 ∧ c.eyn ≤ 4000 ∧ c.eyp ≤ 4000 ∧
      8 ≤ c.m ∧ c.m ≤ 1000 ∧ c.fenceMode ≤ 3 ∧ 10 ≤ c.takeWindow ∧ c.takeWindow ≤ 1000 ∧ 100 ≤ c.spaceWait ∧
      c.spaceWait ≤ 2000 ∧ c.idlePark ≤ 60 ∧ c.postBurst ≤ 200 ∧
      (promWord prom 32 = 0xFFFF → c.takeWindow = 100) ∧ (promWord prom 34 = 0xFFFF → c.spaceWait = 500) ∧
      (promByte prom 36 = 0xFF#8 → c.idlePark = 5)

/-- R31 and R33 to R36: the self-test's end and the listen timer. The model's choices in it: log entries 17 and 35. -/
def Obligations.SelfTestAndListenBeginTheJoin : Prop :=
  ∀ s : State, s.Running →
    let offline (code : Nat) (t : State) : Prop := t.msq.motion = .offline ∧ t.stc.join = .failed ∧
      t.stc.offlineReason = code ∧ t.flu.faultN = true ∧ t.flu.count = saturate8 s.flu.count ∧
      (t.flu.record.map (·.code)) = some ((s.flu.record.map (·.code)).getD code)
    (∀ (ok : Bool) (volts amps : List Int),
      (s.stc.selfTesting = false →
        exec (.selftestEnd ok volts amps) s = .next (settle s) ∧ RunKept s (settle s)) ∧
      (s.stc.selfTesting = true →
        let zero : Prop := volts.sum.natAbs ≤ 2000 * 16 ∧ amps.sum.natAbs ≤ 50 * 16
        let passes : Prop := ok = true ∧ s.stc.driveSeen = true ∧ s.stc.contactSeen = false ∧ zero
        ∃ t, exec (.selftestEnd ok volts amps) s = .next t ∧ t.jtb.entries = [] ∧ t.rvu.current = none ∧
          t.rvu.next = none ∧ t.lif.safety = [] ∧ t.lif.work = [] ∧ t.lif.post = [] ∧ t.stc.selfTesting = false ∧
          t.stc.config = s.stc.config ∧
          t.space = (if s.stc.restart = .selfTest
            then s.scu.map.map (fun sl => match sl.holds with | .frozen .. => sl | _ => Slot.empty)
            else Heads.all Slot.empty) ∧
          t.stc.selfTest = .done (!ok) (!s.stc.driveSeen) s.stc.contactSeen
            (!(decide (volts.sum.natAbs ≤ 2000 * 16) && decide (amps.sum.natAbs ≤ 50 * 16))) ∧
          (passes → t.msq.motion = .joining ∧ t.stc.join = .listen ∧ t.stc.listen = some 30000000 ∧
            t.scu.doubt = true ∧ t.msq.driveSilence = some 2000000 ∧ t.faultState = s.faultState) ∧
          (¬ passes → offline 0x11 t))) ∧
    (¬ (s.stc.join = .listen ∧ s.msq.motion = .joining) →
      exec .listenTimerExpiry s = .next (settle s) ∧ RunKept s (settle s)) ∧
    (s.stc.join = .listen → s.msq.motion = .joining →
      (4 ≤ s.sideCount → ∃ t, exec .listenTimerExpiry s = .next t ∧ offline 0x12 t) ∧
      (s.sideCount < 4 →
        let u := s.onStc fun c => { c with join := .census, listen := none, beaconTimer := some 10000000 }
        (s.scu.doubt = true ∨ s.scu.censusPending = true →
          exec .listenTimerExpiry s = .next (settle u) ∧ RunKept u (settle u)) ∧
          (s.scu.censusPending = false → s.lif.silent = false → s.lif.tx = none →
            ∃ t, exec .listenTimerExpiry s = .next t ∧ TxFrame.censusReq ∈ t.lif.safety ∧ t.scu.censusPending = true ∧
              t.stc.join = .census ∧ t.stc.beaconTimer = some 10000000 ∧ t.scu.doubt = s.scu.doubt)))

/-- R35 to R37, with R145 and R190: the end of a join; and R105 with R190 for the late objection to a placing claim that has been
granted. The model's choices in it: log entries 19, 30 (the ordinal before the test of the map), 35 and 47. -/
def Obligations.PlacingSettlesTheHead : Prop :=
  (∀ (s : State) (f : RxFrame) (c : Claim), s.AtWork → s.Accepts .object f → s.lif.silent = false → s.msq.motion ≠ .offline →
    rxAuxSide f = s.stc.side → rxClaimant f = s.own → s.scu.held = some c → c.kind = .standing → c.placing = true →
    s.windowOrdinal ≠ some (rxOrdinal f) → s.scu.lastGranted = some (rxOrdinal f) →
    let mode := max s.cfg.fenceMode 2
    let r := received .object f s
    let u := r.onScu fun x => { x with doubt := true }
    ∃ t, exec (.object f) s = .next t ∧ t.lif.counters = { r.lif.counters with late := saturate16 r.lif.counters.late } ∧
      t.faultState = (u.entered 0x04).faultState ∧
      Silenced mode (.fault 0x04 mode s.msq.motion s.currentJob) u t) ∧
  ∀ s : State, s.Running → s.msq.motion = .joining → s.rvu.current = none → s.rvu.next = none → s.msq.waiting = none →
    s.lif.silent = false → s.flu.fence = .noFence →
    let mode := max s.cfg.fenceMode 2
    let conflict (t : State) : Prop := t.stc.join = .complete ∧ t.msq.motion = .frozen ∧ t.msq.frozen = .still ∧
      t.lif.silent = true ∧ t.lif.safety = [] ∧ t.lif.post = [] ∧ t.lif.work = [.fault 0x04 mode .joining 0] ∧
      t.flu.count = saturate8 s.flu.count ∧ (t.flu.record.map (·.code)) = some ((s.flu.record.map (·.code)).getD 0x04) ∧
      t.flu.haltDrive = (s.flu.haltDrive || mode == 3) ∧
      t.flu.fence = (if mode = 3 ∨ s.flu.haltDrive = true then .haltAll else .silent)
    (s.stc.join = .census → s.scu.censusTimer.isSome = true → s.scu.repeatMark = false →
      let parked : Prop := s.cfg.parkX ≤ s.tipX + s.cfg.m ∧ s.tipX ≤ s.cfg.parkX + s.cfg.m ∧
        s.cfg.parkY ≤ s.tipY + s.cfg.m ∧ s.tipY ≤ s.cfg.parkY + s.cfg.m ∧ s.cfg.zt ≤ s.tipZ + s.cfg.m
      let claim : Claim := { corridor s.cfg .standing s.tipX s.tipY s.tipX s.tipY with placing := true }
      ∃ t, exec .censusTimerExpiry s = .next t ∧
        (4 ≤ s.sideCount → t.msq.motion = .offline ∧ t.stc.join = .failed ∧ t.stc.offlineReason = 0x12) ∧
        (s.sideCount < 4 → parked → t.msq.motion = .parked ∧ t.stc.join = .complete ∧ t.scu.held = none ∧
          t.scu.doubt = false ∧ t.lif.deafness = some 50000000) ∧
        (s.sideCount < 4 → ¬ parked → s.scu.pending = none → s.scu.replyQueued = false →
          (s.conflictsMap claim.rect = true → conflict t) ∧
          (s.conflictsMap claim.rect = false → t.stc.join = .placing ∧ t.scu.doubt = false ∧
            t.stc.placeAt = some (s.tipX, s.tipY, s.tipZ) ∧ t.scu.pending = some { claim := claim, stage := .queued } ∧
            (s.lif.tx = none → TxFrame.claim .standing claim.rect ∈ t.lif.safety)))) ∧
    (∀ p o w x y z, s.stc.join = .placing → s.scu.pending = some p → p.stage = .window o w →
      s.stc.placeAt = some (x, y, z) → p.claim.region.contains x y = true →
      ∃ t, exec .objectionWindowExpiry s = .next t ∧ t.stc.join = .complete ∧ t.scu.held = some p.claim ∧
        t.scu.lastGranted = some o ∧ t.msq.grant = some p.claim.region ∧ t.msq.standing = some (x, y) ∧
        t.lif.deafness = some 50000000 ∧ t.flu = s.flu ∧
        let lifts : Prop := t.msq.lastCommand = some { number := s.nextCommand, order := .move x y s.cfg.zt .lift }
        (s.halt = true → t.msq.motion = .frozen ∧
          (z < s.cfg.zt → t.msq.frozen = .lifting ∧ lifts) ∧
          (s.cfg.zt ≤ z → t.msq.frozen = .still ∧ t.msq.lastCommand = s.msq.lastCommand)) ∧
        (s.halt = false → z < s.cfg.zt → t.msq.motion = .lift ∧ lifts) ∧
        (s.halt = false → s.cfg.zt ≤ z → t.msq.lastCommand = s.msq.lastCommand ∧
          (s.boardActive = true → s.msq.parkRequest = false → t.msq.motion = .idle) ∧
          (s.boardActive = false → t.msq.motion = .parking))) ∧
    ∀ f, s.Accepts .object f → rxAuxSide f = s.stc.side → rxClaimant f = s.own → s.stc.join = .placing →
      s.windowOrdinal = some (rxOrdinal f) → s.pendingPlacing = true →
      ∃ t, exec (.object f) s = .next t ∧ conflict t ∧ t.scu.pending = none ∧ t.scu.doubt = true

/-- R1, R5 and R196, and the header and body layout of 10.1: decoding reads back what was sent. The model's choices in it: log entries
38 (R3: levels that begin no sync are LINE_NOISE) and 53 (the level the line reads). -/
def Obligations.FramesDecodeToTheirCommands : Prop :=
  (∀ (i : Instr) (k : Kind) (f : RxFrame), i.frame? = some (k, f) → i.wellFormed = true →
    (∀ g p, i = .restart g p → p = none) →
    let words := f.errors.foldl (fun ws e => ws.set e.1 e.2) (frameWords k f)
    commandOfWords words = some i ∧ ∀ first rest, commandOfLevels (lineLevels first words ++ rest) = i) ∧
  (∀ (first : Bool) (w : CodedWord),
    let levels := wordLevels first w
    levels.length = 2 * 34 ∧ readWord levels = some w ∧
    (∀ i, i < 5 → levels[i]? = some first) ∧ (∀ i, 5 ≤ i → i < 8 → levels[i]? = some (!first)) ∧
    ∀ n, n < 30 → levels[8 + 2 * n]? = some (w.getLsbD (29 - n)) ∧ levels[9 + 2 * n]? = some (!w.getLsbD (29 - n)) ∧
      readWord (levels.set (9 + 2 * n) (w.getLsbD (29 - n))) = none) ∧
  (∀ levels, startsSync levels = false → commandOfLevels levels = .lineNoise) ∧
  (∀ s : State, s.lif.tx = none → s.driven = none) ∧
  (∀ (s : State) (x : Tx), s.lif.tx = some x → ∃ levels, s.driven = some levels ∧
    levels.length = 2 * 34 * x.coded.length ∧ readWords x.coded.length levels = (x.coded, true) ∧
    (x.coded ≠ [] → levels[0]? = some (!Config.lineLevel x.draw)) ∧
    ∀ i, 0 < i → i < x.coded.length →
      ∃ b, levels[2 * 34 * i - 1]? = some b ∧ levels[2 * 34 * i]? = some (!b)) ∧
  ∀ d : DataWord,
    let bit (n : Nat) : CodedWord := BitVec.ofNat 30 (2 ^ n)
    decodeWord (encodeWord d) = .clean d ∧
    (∀ n, n < 30 → ∃ syn, decodeWord (encodeWord d ^^^ bit n) = .corrected d syn) ∧
    ∀ m n, m < 30 → n < 30 → m ≠ n → decodeWord (encodeWord d ^^^ bit m ^^^ bit n) = .uncorrectable

/-- Every safety condition holds of the state after reset. The model's choices in it: log entries 3 and 41. -/
def Obligations.ResetIsSafe : Prop := State.reset.Safe

/-- R165: when the stimulus may be driven, kept by every step from every state. -/
def Obligations.StimulusStaysSafe : Prop :=
  ∀ s : State, s.StimulusSafe → ∃ t, step s = .next t ∧ t.StimulusSafe

/-- R16, R181, R185 and R186, with the ranges of R11, R14, R25, R75 and R180, kept by every step; and every safety condition of
`State.Safe` together, the silent head's queues, the OFFLINE and the joining head and the part in reset among them. -/
def Obligations.StatusStaysConsistent : Prop :=
  (∀ s : State, s.FenceSafe → s.FaultSafe → s.CountersSafe → s.WorkQueueSafe →
    ∃ t, step s = .next t ∧ t.FenceSafe ∧ t.FaultSafe ∧ t.CountersSafe ∧ t.WorkQueueSafe) ∧
    ∀ s : State, s.Safe → ∃ t, step s = .next t ∧ t.Safe

/-- R54 and R69 of the job table, and R100 of the claim map, each kept by every step from every state. -/
def Obligations.TableAndMapStaySound : Prop :=
  (∀ s : State, s.TableSafe → ∃ t, step s = .next t ∧ t.TableSafe) ∧
    ∀ s : State, s.WindowSafe → ∃ t, step s = .next t ∧ t.WindowSafe

/-- R123 and R142 of every command that a step sends, and R27, R32 and R145 of the heads that send none. -/
def Obligations.CommandsStayInsideTheClaim : Prop :=
  ∀ s : State, ∃ t, step s = .next t ∧
    (t.msq.lastCommand ≠ s.msq.lastCommand → t.msq.motion ≠ .offline → t.msq.motion ≠ .joining →
      ∃ c ∈ t.msq.lastCommand, match c.order with
        | .stop => True
        | .move x y _ p =>
          ((p = .lift ∧ (x, y) = t.tip) ∨
            ∃ g ∈ t.msq.grant, ∃ h ∈ t.scu.held, g.contains x y = true ∧ h.region.contains x y = true) ∧
          (t.halt = true → p = .lift)) ∧
    ((s.msq.motion = .offline ∨ s.msq.motion = .joining) → (t.msq.motion = .offline ∨ t.msq.motion = .joining) →
      t.msq.lastCommand = s.msq.lastCommand ∨ t.msq.lastCommand = none)
end

