-- ==== Sys2Proof/Laws/State.lean ====
section
/-! SUPPORT. Every update of one block, field by field and view by view, so that no later proof unfolds a record update. -/

namespace Sys2Proof.Machine

variable {s : State}

/-! ## One block updated -/

@[simp] theorem State.onLif_lif (f : Lif → Lif) : (s.onLif f).lif = f s.lif := rfl
@[simp] theorem State.onLif_stc (f : Lif → Lif) : (s.onLif f).stc = s.stc := rfl
@[simp] theorem State.onLif_jtb (f : Lif → Lif) : (s.onLif f).jtb = s.jtb := rfl
@[simp] theorem State.onLif_rvu (f : Lif → Lif) : (s.onLif f).rvu = s.rvu := rfl
@[simp] theorem State.onLif_scu (f : Lif → Lif) : (s.onLif f).scu = s.scu := rfl
@[simp] theorem State.onLif_msq (f : Lif → Lif) : (s.onLif f).msq = s.msq := rfl
@[simp] theorem State.onLif_meu (f : Lif → Lif) : (s.onLif f).meu = s.meu := rfl
@[simp] theorem State.onLif_flu (f : Lif → Lif) : (s.onLif f).flu = s.flu := rfl
@[simp] theorem State.onLif_pins (f : Lif → Lif) : (s.onLif f).pins = s.pins := rfl
@[simp] theorem State.onLif_drawn (f : Lif → Lif) : (s.onLif f).drawn = s.drawn := rfl
@[simp] theorem State.onLif_pending (f : Lif → Lif) : (s.onLif f).pending = s.pending := rfl

@[simp] theorem State.onStc_lif (f : Stc → Stc) : (s.onStc f).lif = s.lif := rfl
@[simp] theorem State.onStc_stc (f : Stc → Stc) : (s.onStc f).stc = f s.stc := rfl
@[simp] theorem State.onStc_jtb (f : Stc → Stc) : (s.onStc f).jtb = s.jtb := rfl
@[simp] theorem State.onStc_rvu (f : Stc → Stc) : (s.onStc f).rvu = s.rvu := rfl
@[simp] theorem State.onStc_scu (f : Stc → Stc) : (s.onStc f).scu = s.scu := rfl
@[simp] theorem State.onStc_msq (f : Stc → Stc) : (s.onStc f).msq = s.msq := rfl
@[simp] theorem State.onStc_meu (f : Stc → Stc) : (s.onStc f).meu = s.meu := rfl
@[simp] theorem State.onStc_flu (f : Stc → Stc) : (s.onStc f).flu = s.flu := rfl
@[simp] theorem State.onStc_pins (f : Stc → Stc) : (s.onStc f).pins = s.pins := rfl
@[simp] theorem State.onStc_drawn (f : Stc → Stc) : (s.onStc f).drawn = s.drawn := rfl
@[simp] theorem State.onStc_pending (f : Stc → Stc) : (s.onStc f).pending = s.pending := rfl

@[simp] theorem State.onJtb_lif (f : Jtb → Jtb) : (s.onJtb f).lif = s.lif := rfl
@[simp] theorem State.onJtb_stc (f : Jtb → Jtb) : (s.onJtb f).stc = s.stc := rfl
@[simp] theorem State.onJtb_jtb (f : Jtb → Jtb) : (s.onJtb f).jtb = f s.jtb := rfl
@[simp] theorem State.onJtb_rvu (f : Jtb → Jtb) : (s.onJtb f).rvu = s.rvu := rfl
@[simp] theorem State.onJtb_scu (f : Jtb → Jtb) : (s.onJtb f).scu = s.scu := rfl
@[simp] theorem State.onJtb_msq (f : Jtb → Jtb) : (s.onJtb f).msq = s.msq := rfl
@[simp] theorem State.onJtb_meu (f : Jtb → Jtb) : (s.onJtb f).meu = s.meu := rfl
@[simp] theorem State.onJtb_flu (f : Jtb → Jtb) : (s.onJtb f).flu = s.flu := rfl
@[simp] theorem State.onJtb_pins (f : Jtb → Jtb) : (s.onJtb f).pins = s.pins := rfl
@[simp] theorem State.onJtb_drawn (f : Jtb → Jtb) : (s.onJtb f).drawn = s.drawn := rfl
@[simp] theorem State.onJtb_pending (f : Jtb → Jtb) : (s.onJtb f).pending = s.pending := rfl

@[simp] theorem State.onRvu_lif (f : Rvu → Rvu) : (s.onRvu f).lif = s.lif := rfl
@[simp] theorem State.onRvu_stc (f : Rvu → Rvu) : (s.onRvu f).stc = s.stc := rfl
@[simp] theorem State.onRvu_jtb (f : Rvu → Rvu) : (s.onRvu f).jtb = s.jtb := rfl
@[simp] theorem State.onRvu_rvu (f : Rvu → Rvu) : (s.onRvu f).rvu = f s.rvu := rfl
@[simp] theorem State.onRvu_scu (f : Rvu → Rvu) : (s.onRvu f).scu = s.scu := rfl
@[simp] theorem State.onRvu_msq (f : Rvu → Rvu) : (s.onRvu f).msq = s.msq := rfl
@[simp] theorem State.onRvu_meu (f : Rvu → Rvu) : (s.onRvu f).meu = s.meu := rfl
@[simp] theorem State.onRvu_flu (f : Rvu → Rvu) : (s.onRvu f).flu = s.flu := rfl
@[simp] theorem State.onRvu_pins (f : Rvu → Rvu) : (s.onRvu f).pins = s.pins := rfl
@[simp] theorem State.onRvu_drawn (f : Rvu → Rvu) : (s.onRvu f).drawn = s.drawn := rfl
@[simp] theorem State.onRvu_pending (f : Rvu → Rvu) : (s.onRvu f).pending = s.pending := rfl

@[simp] theorem State.onScu_lif (f : Scu → Scu) : (s.onScu f).lif = s.lif := rfl
@[simp] theorem State.onScu_stc (f : Scu → Scu) : (s.onScu f).stc = s.stc := rfl
@[simp] theorem State.onScu_jtb (f : Scu → Scu) : (s.onScu f).jtb = s.jtb := rfl
@[simp] theorem State.onScu_rvu (f : Scu → Scu) : (s.onScu f).rvu = s.rvu := rfl
@[simp] theorem State.onScu_scu (f : Scu → Scu) : (s.onScu f).scu = f s.scu := rfl
@[simp] theorem State.onScu_msq (f : Scu → Scu) : (s.onScu f).msq = s.msq := rfl
@[simp] theorem State.onScu_meu (f : Scu → Scu) : (s.onScu f).meu = s.meu := rfl
@[simp] theorem State.onScu_flu (f : Scu → Scu) : (s.onScu f).flu = s.flu := rfl
@[simp] theorem State.onScu_pins (f : Scu → Scu) : (s.onScu f).pins = s.pins := rfl
@[simp] theorem State.onScu_drawn (f : Scu → Scu) : (s.onScu f).drawn = s.drawn := rfl
@[simp] theorem State.onScu_pending (f : Scu → Scu) : (s.onScu f).pending = s.pending := rfl

@[simp] theorem State.onMsq_lif (f : Msq → Msq) : (s.onMsq f).lif = s.lif := rfl
@[simp] theorem State.onMsq_stc (f : Msq → Msq) : (s.onMsq f).stc = s.stc := rfl
@[simp] theorem State.onMsq_jtb (f : Msq → Msq) : (s.onMsq f).jtb = s.jtb := rfl
@[simp] theorem State.onMsq_rvu (f : Msq → Msq) : (s.onMsq f).rvu = s.rvu := rfl
@[simp] theorem State.onMsq_scu (f : Msq → Msq) : (s.onMsq f).scu = s.scu := rfl
@[simp] theorem State.onMsq_msq (f : Msq → Msq) : (s.onMsq f).msq = f s.msq := rfl
@[simp] theorem State.onMsq_meu (f : Msq → Msq) : (s.onMsq f).meu = s.meu := rfl
@[simp] theorem State.onMsq_flu (f : Msq → Msq) : (s.onMsq f).flu = s.flu := rfl
@[simp] theorem State.onMsq_pins (f : Msq → Msq) : (s.onMsq f).pins = s.pins := rfl
@[simp] theorem State.onMsq_drawn (f : Msq → Msq) : (s.onMsq f).drawn = s.drawn := rfl
@[simp] theorem State.onMsq_pending (f : Msq → Msq) : (s.onMsq f).pending = s.pending := rfl

@[simp] theorem State.onMeu_lif (f : Meu → Meu) : (s.onMeu f).lif = s.lif := rfl
@[simp] theorem State.onMeu_stc (f : Meu → Meu) : (s.onMeu f).stc = s.stc := rfl
@[simp] theorem State.onMeu_jtb (f : Meu → Meu) : (s.onMeu f).jtb = s.jtb := rfl
@[simp] theorem State.onMeu_rvu (f : Meu → Meu) : (s.onMeu f).rvu = s.rvu := rfl
@[simp] theorem State.onMeu_scu (f : Meu → Meu) : (s.onMeu f).scu = s.scu := rfl
@[simp] theorem State.onMeu_msq (f : Meu → Meu) : (s.onMeu f).msq = s.msq := rfl
@[simp] theorem State.onMeu_meu (f : Meu → Meu) : (s.onMeu f).meu = f s.meu := rfl
@[simp] theorem State.onMeu_flu (f : Meu → Meu) : (s.onMeu f).flu = s.flu := rfl
@[simp] theorem State.onMeu_pins (f : Meu → Meu) : (s.onMeu f).pins = s.pins := rfl
@[simp] theorem State.onMeu_drawn (f : Meu → Meu) : (s.onMeu f).drawn = s.drawn := rfl
@[simp] theorem State.onMeu_pending (f : Meu → Meu) : (s.onMeu f).pending = s.pending := rfl

@[simp] theorem State.onFlu_lif (f : Flu → Flu) : (s.onFlu f).lif = s.lif := rfl
@[simp] theorem State.onFlu_stc (f : Flu → Flu) : (s.onFlu f).stc = s.stc := rfl
@[simp] theorem State.onFlu_jtb (f : Flu → Flu) : (s.onFlu f).jtb = s.jtb := rfl
@[simp] theorem State.onFlu_rvu (f : Flu → Flu) : (s.onFlu f).rvu = s.rvu := rfl
@[simp] theorem State.onFlu_scu (f : Flu → Flu) : (s.onFlu f).scu = s.scu := rfl
@[simp] theorem State.onFlu_msq (f : Flu → Flu) : (s.onFlu f).msq = s.msq := rfl
@[simp] theorem State.onFlu_meu (f : Flu → Flu) : (s.onFlu f).meu = s.meu := rfl
@[simp] theorem State.onFlu_flu (f : Flu → Flu) : (s.onFlu f).flu = f s.flu := rfl
@[simp] theorem State.onFlu_pins (f : Flu → Flu) : (s.onFlu f).pins = s.pins := rfl
@[simp] theorem State.onFlu_drawn (f : Flu → Flu) : (s.onFlu f).drawn = s.drawn := rfl
@[simp] theorem State.onFlu_pending (f : Flu → Flu) : (s.onFlu f).pending = s.pending := rfl

@[simp] theorem State.onPins_lif (f : Pins → Pins) : (s.onPins f).lif = s.lif := rfl
@[simp] theorem State.onPins_stc (f : Pins → Pins) : (s.onPins f).stc = s.stc := rfl
@[simp] theorem State.onPins_jtb (f : Pins → Pins) : (s.onPins f).jtb = s.jtb := rfl
@[simp] theorem State.onPins_rvu (f : Pins → Pins) : (s.onPins f).rvu = s.rvu := rfl
@[simp] theorem State.onPins_scu (f : Pins → Pins) : (s.onPins f).scu = s.scu := rfl
@[simp] theorem State.onPins_msq (f : Pins → Pins) : (s.onPins f).msq = s.msq := rfl
@[simp] theorem State.onPins_meu (f : Pins → Pins) : (s.onPins f).meu = s.meu := rfl
@[simp] theorem State.onPins_flu (f : Pins → Pins) : (s.onPins f).flu = s.flu := rfl
@[simp] theorem State.onPins_pins (f : Pins → Pins) : (s.onPins f).pins = f s.pins := rfl
@[simp] theorem State.onPins_drawn (f : Pins → Pins) : (s.onPins f).drawn = s.drawn := rfl
@[simp] theorem State.onPins_pending (f : Pins → Pins) : (s.onPins f).pending = s.pending := rfl

/-! ## Views and updates -/

@[simp] theorem State.onLif_outer (f : Lif → Lif) : (s.onLif f).outer = s.outer := rfl
@[simp] theorem State.onStc_outer (f : Stc → Stc) : (s.onStc f).outer = s.outer := rfl
@[simp] theorem State.onJtb_outer (f : Jtb → Jtb) : (s.onJtb f).outer = s.outer := rfl
@[simp] theorem State.onRvu_outer (f : Rvu → Rvu) : (s.onRvu f).outer = s.outer := rfl
@[simp] theorem State.onScu_outer (f : Scu → Scu) : (s.onScu f).outer = s.outer := rfl
@[simp] theorem State.onMsq_outer (f : Msq → Msq) : (s.onMsq f).outer = s.outer := rfl
@[simp] theorem State.onMeu_outer (f : Meu → Meu) : (s.onMeu f).outer = s.outer := rfl
@[simp] theorem State.onFlu_outer (f : Flu → Flu) : (s.onFlu f).outer = s.outer := rfl

@[simp] theorem State.onLif_log {f : Lif → Lif} (h : ∀ x, (f x).counters = x.counters ∧ (f x).checkLog = x.checkLog ∧ (f x).trackers = x.trackers) : (s.onLif f).log = s.log := by
  simp [State.log, h]
@[simp] theorem State.onStc_log (f : Stc → Stc) : (s.onStc f).log = s.log := rfl
@[simp] theorem State.onJtb_log (f : Jtb → Jtb) : (s.onJtb f).log = s.log := rfl
@[simp] theorem State.onRvu_log (f : Rvu → Rvu) : (s.onRvu f).log = s.log := rfl
@[simp] theorem State.onScu_log (f : Scu → Scu) : (s.onScu f).log = s.log := rfl
@[simp] theorem State.onMsq_log (f : Msq → Msq) : (s.onMsq f).log = s.log := rfl
@[simp] theorem State.onMeu_log (f : Meu → Meu) : (s.onMeu f).log = s.log := rfl
@[simp] theorem State.onFlu_log (f : Flu → Flu) : (s.onFlu f).log = s.log := rfl
@[simp] theorem State.onPins_log (f : Pins → Pins) : (s.onPins f).log = s.log := rfl

@[simp] theorem State.onLif_identity (f : Lif → Lif) : (s.onLif f).identity = s.identity := rfl
@[simp] theorem State.onStc_identity {f : Stc → Stc} (h : ∀ x, (f x).inReset = x.inReset ∧ (f x).station = x.station ∧ (f x).side = x.side) : (s.onStc f).identity = s.identity := by
  simp [State.identity, h]
@[simp] theorem State.onJtb_identity (f : Jtb → Jtb) : (s.onJtb f).identity = s.identity := rfl
@[simp] theorem State.onRvu_identity (f : Rvu → Rvu) : (s.onRvu f).identity = s.identity := rfl
@[simp] theorem State.onScu_identity (f : Scu → Scu) : (s.onScu f).identity = s.identity := rfl
@[simp] theorem State.onMsq_identity (f : Msq → Msq) : (s.onMsq f).identity = s.identity := rfl
@[simp] theorem State.onMeu_identity (f : Meu → Meu) : (s.onMeu f).identity = s.identity := rfl
@[simp] theorem State.onFlu_identity (f : Flu → Flu) : (s.onFlu f).identity = s.identity := rfl
@[simp] theorem State.onPins_identity (f : Pins → Pins) : (s.onPins f).identity = s.identity := rfl

@[simp] theorem State.onLif_rosters (f : Lif → Lif) : (s.onLif f).rosters = s.rosters := rfl
@[simp] theorem State.onStc_rosters {f : Stc → Stc} (h : ∀ x, (f x).roster0 = x.roster0 ∧ (f x).roster = x.roster) : (s.onStc f).rosters = s.rosters := by
  simp [State.rosters, h]
@[simp] theorem State.onJtb_rosters (f : Jtb → Jtb) : (s.onJtb f).rosters = s.rosters := rfl
@[simp] theorem State.onRvu_rosters (f : Rvu → Rvu) : (s.onRvu f).rosters = s.rosters := rfl
@[simp] theorem State.onScu_rosters (f : Scu → Scu) : (s.onScu f).rosters = s.rosters := rfl
@[simp] theorem State.onMsq_rosters (f : Msq → Msq) : (s.onMsq f).rosters = s.rosters := rfl
@[simp] theorem State.onMeu_rosters (f : Meu → Meu) : (s.onMeu f).rosters = s.rosters := rfl
@[simp] theorem State.onFlu_rosters (f : Flu → Flu) : (s.onFlu f).rosters = s.rosters := rfl
@[simp] theorem State.onPins_rosters (f : Pins → Pins) : (s.onPins f).rosters = s.rosters := rfl

@[simp] theorem State.onLif_space (f : Lif → Lif) : (s.onLif f).space = s.space := rfl
@[simp] theorem State.onStc_space (f : Stc → Stc) : (s.onStc f).space = s.space := rfl
@[simp] theorem State.onJtb_space (f : Jtb → Jtb) : (s.onJtb f).space = s.space := rfl
@[simp] theorem State.onRvu_space (f : Rvu → Rvu) : (s.onRvu f).space = s.space := rfl
@[simp] theorem State.onScu_space {f : Scu → Scu} (h : ∀ x, (f x).map = x.map) : (s.onScu f).space = s.space := by
  simp [State.space, h]
@[simp] theorem State.onMsq_space (f : Msq → Msq) : (s.onMsq f).space = s.space := rfl
@[simp] theorem State.onMeu_space (f : Meu → Meu) : (s.onMeu f).space = s.space := rfl
@[simp] theorem State.onFlu_space (f : Flu → Flu) : (s.onFlu f).space = s.space := rfl
@[simp] theorem State.onPins_space (f : Pins → Pins) : (s.onPins f).space = s.space := rfl

@[simp] theorem State.onLif_claimState (f : Lif → Lif) : (s.onLif f).claimState = s.claimState := rfl
@[simp] theorem State.onStc_claimState (f : Stc → Stc) : (s.onStc f).claimState = s.claimState := rfl
@[simp] theorem State.onJtb_claimState (f : Jtb → Jtb) : (s.onJtb f).claimState = s.claimState := rfl
@[simp] theorem State.onRvu_claimState (f : Rvu → Rvu) : (s.onRvu f).claimState = s.claimState := rfl
@[simp] theorem State.onScu_claimState {f : Scu → Scu} (h : ∀ x, (f x).held = x.held ∧ (f x).ordinal = x.ordinal ∧ (f x).lastGranted = x.lastGranted ∧ (f x).doubt = x.doubt) : (s.onScu f).claimState = s.claimState := by
  simp [State.claimState, h]
@[simp] theorem State.onMsq_claimState (f : Msq → Msq) : (s.onMsq f).claimState = s.claimState := rfl
@[simp] theorem State.onMeu_claimState (f : Meu → Meu) : (s.onMeu f).claimState = s.claimState := rfl
@[simp] theorem State.onFlu_claimState (f : Flu → Flu) : (s.onFlu f).claimState = s.claimState := rfl
@[simp] theorem State.onPins_claimState (f : Pins → Pins) : (s.onPins f).claimState = s.claimState := rfl

@[simp] theorem State.onLif_driveState (f : Lif → Lif) : (s.onLif f).driveState = s.driveState := rfl
@[simp] theorem State.onStc_driveState (f : Stc → Stc) : (s.onStc f).driveState = s.driveState := rfl
@[simp] theorem State.onJtb_driveState (f : Jtb → Jtb) : (s.onJtb f).driveState = s.driveState := rfl
@[simp] theorem State.onRvu_driveState (f : Rvu → Rvu) : (s.onRvu f).driveState = s.driveState := rfl
@[simp] theorem State.onScu_driveState (f : Scu → Scu) : (s.onScu f).driveState = s.driveState := rfl
@[simp] theorem State.onMsq_driveState {f : Msq → Msq} (h : ∀ x, (f x).lastCommand = x.lastCommand ∧ (f x).lastReport = x.lastReport) : (s.onMsq f).driveState = s.driveState := by
  simp [State.driveState, h]
@[simp] theorem State.onMeu_driveState (f : Meu → Meu) : (s.onMeu f).driveState = s.driveState := rfl
@[simp] theorem State.onFlu_driveState (f : Flu → Flu) : (s.onFlu f).driveState = s.driveState := rfl
@[simp] theorem State.onPins_driveState (f : Pins → Pins) : (s.onPins f).driveState = s.driveState := rfl

@[simp] theorem State.onLif_faultState (f : Lif → Lif) : (s.onLif f).faultState = s.faultState := rfl
@[simp] theorem State.onStc_faultState (f : Stc → Stc) : (s.onStc f).faultState = s.faultState := rfl
@[simp] theorem State.onJtb_faultState (f : Jtb → Jtb) : (s.onJtb f).faultState = s.faultState := rfl
@[simp] theorem State.onRvu_faultState (f : Rvu → Rvu) : (s.onRvu f).faultState = s.faultState := rfl
@[simp] theorem State.onScu_faultState (f : Scu → Scu) : (s.onScu f).faultState = s.faultState := rfl
@[simp] theorem State.onMsq_faultState (f : Msq → Msq) : (s.onMsq f).faultState = s.faultState := rfl
@[simp] theorem State.onMeu_faultState (f : Meu → Meu) : (s.onMeu f).faultState = s.faultState := rfl
@[simp] theorem State.onFlu_faultState {f : Flu → Flu} (h : ∀ x, (f x).record = x.record ∧ (f x).second = x.second ∧ (f x).count = x.count ∧ (f x).faultN = x.faultN) : (s.onFlu f).faultState = s.faultState := by
  simp [State.faultState, h]
@[simp] theorem State.onPins_faultState (f : Pins → Pins) : (s.onPins f).faultState = s.faultState := rfl

@[simp] theorem State.onLif_fenceState {f : Lif → Lif} (h : ∀ x, (f x).silent = x.silent) : (s.onLif f).fenceState = s.fenceState := by
  simp [State.fenceState, h]
@[simp] theorem State.onStc_fenceState (f : Stc → Stc) : (s.onStc f).fenceState = s.fenceState := rfl
@[simp] theorem State.onJtb_fenceState (f : Jtb → Jtb) : (s.onJtb f).fenceState = s.fenceState := rfl
@[simp] theorem State.onRvu_fenceState (f : Rvu → Rvu) : (s.onRvu f).fenceState = s.fenceState := rfl
@[simp] theorem State.onScu_fenceState (f : Scu → Scu) : (s.onScu f).fenceState = s.fenceState := rfl
@[simp] theorem State.onMsq_fenceState (f : Msq → Msq) : (s.onMsq f).fenceState = s.fenceState := rfl
@[simp] theorem State.onMeu_fenceState (f : Meu → Meu) : (s.onMeu f).fenceState = s.fenceState := rfl
@[simp] theorem State.onFlu_fenceState {f : Flu → Flu} (h : ∀ x, (f x).fence = x.fence ∧ (f x).haltDrive = x.haltDrive) : (s.onFlu f).fenceState = s.fenceState := by
  simp [State.fenceState, h]
@[simp] theorem State.onPins_fenceState (f : Pins → Pins) : (s.onPins f).fenceState = s.fenceState := rfl

/-! ## Folds -/

/-- A view that no step of a fold changes is the same after the fold. -/
theorem foldl_view {α β : Type} (p : State → β) {g : State → α → State} (h : ∀ t a, p (g t a) = p t) (l : List α) :
    p (l.foldl g s) = p s := by
  induction l generalizing s with
  | nil => rfl
  | cons a l ih => exact (ih (s := g s a)).trans (h s a)

end Sys2Proof.Machine
end

