-- ==== Sys2Proof/Laws/Access.lean ====
section
/-! SUPPORT. What the operations of Machine/Access.lean leave alone: one lemma for each block and each view of the state that an
operation does not touch. -/

namespace Sys2Proof.Machine

open Sys2Proof

variable {s : State}

@[simp] theorem countDiscard_stc (s : State) : (countDiscard s).stc = s.stc := by
  dsimp only [countDiscard]
  (repeat' split) <;> first | rfl | simp

@[simp] theorem countDiscard_jtb (s : State) : (countDiscard s).jtb = s.jtb := by
  dsimp only [countDiscard]
  (repeat' split) <;> first | rfl | simp

@[simp] theorem countDiscard_rvu (s : State) : (countDiscard s).rvu = s.rvu := by
  dsimp only [countDiscard]
  (repeat' split) <;> first | rfl | simp

@[simp] theorem countDiscard_scu (s : State) : (countDiscard s).scu = s.scu := by
  dsimp only [countDiscard]
  (repeat' split) <;> first | rfl | simp

@[simp] theorem countDiscard_msq (s : State) : (countDiscard s).msq = s.msq := by
  dsimp only [countDiscard]
  (repeat' split) <;> first | rfl | simp

@[simp] theorem countDiscard_meu (s : State) : (countDiscard s).meu = s.meu := by
  dsimp only [countDiscard]
  (repeat' split) <;> first | rfl | simp

@[simp] theorem countDiscard_flu (s : State) : (countDiscard s).flu = s.flu := by
  dsimp only [countDiscard]
  (repeat' split) <;> first | rfl | simp

@[simp] theorem countDiscard_outer (s : State) : (countDiscard s).outer = s.outer := by
  dsimp only [countDiscard]
  (repeat' split) <;> first | rfl | simp

@[simp] theorem countDiscard_identity (s : State) : (countDiscard s).identity = s.identity := by
  dsimp only [countDiscard]
  (repeat' split) <;> first | rfl | simp

@[simp] theorem countDiscard_rosters (s : State) : (countDiscard s).rosters = s.rosters := by
  dsimp only [countDiscard]
  (repeat' split) <;> first | rfl | simp

@[simp] theorem countDiscard_space (s : State) : (countDiscard s).space = s.space := by
  dsimp only [countDiscard]
  (repeat' split) <;> first | rfl | simp

@[simp] theorem countDiscard_claimState (s : State) : (countDiscard s).claimState = s.claimState := by
  dsimp only [countDiscard]
  (repeat' split) <;> first | rfl | simp

@[simp] theorem countDiscard_driveState (s : State) : (countDiscard s).driveState = s.driveState := by
  dsimp only [countDiscard]
  (repeat' split) <;> first | rfl | simp

@[simp] theorem countDiscard_faultState (s : State) : (countDiscard s).faultState = s.faultState := by
  dsimp only [countDiscard]
  (repeat' split) <;> first | rfl | simp

@[simp] theorem countDiscard_fenceState (s : State) : (countDiscard s).fenceState = s.fenceState := by
  dsimp only [countDiscard]
  (repeat' split) <;> first | rfl | simp

@[simp] theorem updRoster_lif (n : Nat) (f : RosterEntry → RosterEntry) (s : State) : (updRoster n f s).lif = s.lif := by
  dsimp only [updRoster]
  (repeat' split) <;> first | rfl | simp

@[simp] theorem updRoster_jtb (n : Nat) (f : RosterEntry → RosterEntry) (s : State) : (updRoster n f s).jtb = s.jtb := by
  dsimp only [updRoster]
  (repeat' split) <;> first | rfl | simp

@[simp] theorem updRoster_rvu (n : Nat) (f : RosterEntry → RosterEntry) (s : State) : (updRoster n f s).rvu = s.rvu := by
  dsimp only [updRoster]
  (repeat' split) <;> first | rfl | simp

@[simp] theorem updRoster_scu (n : Nat) (f : RosterEntry → RosterEntry) (s : State) : (updRoster n f s).scu = s.scu := by
  dsimp only [updRoster]
  (repeat' split) <;> first | rfl | simp

@[simp] theorem updRoster_msq (n : Nat) (f : RosterEntry → RosterEntry) (s : State) : (updRoster n f s).msq = s.msq := by
  dsimp only [updRoster]
  (repeat' split) <;> first | rfl | simp

@[simp] theorem updRoster_meu (n : Nat) (f : RosterEntry → RosterEntry) (s : State) : (updRoster n f s).meu = s.meu := by
  dsimp only [updRoster]
  (repeat' split) <;> first | rfl | simp

@[simp] theorem updRoster_flu (n : Nat) (f : RosterEntry → RosterEntry) (s : State) : (updRoster n f s).flu = s.flu := by
  dsimp only [updRoster]
  (repeat' split) <;> first | rfl | simp

@[simp] theorem updRoster_outer (n : Nat) (f : RosterEntry → RosterEntry) (s : State) : (updRoster n f s).outer = s.outer := by
  dsimp only [updRoster]
  (repeat' split) <;> first | rfl | simp

@[simp] theorem updRoster_log (n : Nat) (f : RosterEntry → RosterEntry) (s : State) : (updRoster n f s).log = s.log := by
  dsimp only [updRoster]
  (repeat' split) <;> first | rfl | simp

@[simp] theorem updRoster_identity (n : Nat) (f : RosterEntry → RosterEntry) (s : State) : (updRoster n f s).identity = s.identity := by
  dsimp only [updRoster]
  (repeat' split) <;> first | rfl | simp

@[simp] theorem updRoster_space (n : Nat) (f : RosterEntry → RosterEntry) (s : State) : (updRoster n f s).space = s.space := by
  dsimp only [updRoster]
  (repeat' split) <;> first | rfl | simp

@[simp] theorem updRoster_claimState (n : Nat) (f : RosterEntry → RosterEntry) (s : State) : (updRoster n f s).claimState = s.claimState := by
  dsimp only [updRoster]
  (repeat' split) <;> first | rfl | simp

@[simp] theorem updRoster_driveState (n : Nat) (f : RosterEntry → RosterEntry) (s : State) : (updRoster n f s).driveState = s.driveState := by
  dsimp only [updRoster]
  (repeat' split) <;> first | rfl | simp

@[simp] theorem updRoster_faultState (n : Nat) (f : RosterEntry → RosterEntry) (s : State) : (updRoster n f s).faultState = s.faultState := by
  dsimp only [updRoster]
  (repeat' split) <;> first | rfl | simp

@[simp] theorem updRoster_fenceState (n : Nat) (f : RosterEntry → RosterEntry) (s : State) : (updRoster n f s).fenceState = s.fenceState := by
  dsimp only [updRoster]
  (repeat' split) <;> first | rfl | simp

@[simp] theorem putSlot_lif (n : Nat) (sl : Slot) (s : State) : (putSlot n sl s).lif = s.lif := by
  dsimp only [putSlot]
  (repeat' split) <;> first | rfl | simp

@[simp] theorem putSlot_stc (n : Nat) (sl : Slot) (s : State) : (putSlot n sl s).stc = s.stc := by
  dsimp only [putSlot]
  (repeat' split) <;> first | rfl | simp

@[simp] theorem putSlot_jtb (n : Nat) (sl : Slot) (s : State) : (putSlot n sl s).jtb = s.jtb := by
  dsimp only [putSlot]
  (repeat' split) <;> first | rfl | simp

@[simp] theorem putSlot_rvu (n : Nat) (sl : Slot) (s : State) : (putSlot n sl s).rvu = s.rvu := by
  dsimp only [putSlot]
  (repeat' split) <;> first | rfl | simp

@[simp] theorem putSlot_msq (n : Nat) (sl : Slot) (s : State) : (putSlot n sl s).msq = s.msq := by
  dsimp only [putSlot]
  (repeat' split) <;> first | rfl | simp

@[simp] theorem putSlot_meu (n : Nat) (sl : Slot) (s : State) : (putSlot n sl s).meu = s.meu := by
  dsimp only [putSlot]
  (repeat' split) <;> first | rfl | simp

@[simp] theorem putSlot_flu (n : Nat) (sl : Slot) (s : State) : (putSlot n sl s).flu = s.flu := by
  dsimp only [putSlot]
  (repeat' split) <;> first | rfl | simp

@[simp] theorem putSlot_outer (n : Nat) (sl : Slot) (s : State) : (putSlot n sl s).outer = s.outer := by
  dsimp only [putSlot]
  (repeat' split) <;> first | rfl | simp

@[simp] theorem putSlot_log (n : Nat) (sl : Slot) (s : State) : (putSlot n sl s).log = s.log := by
  dsimp only [putSlot]
  (repeat' split) <;> first | rfl | simp

@[simp] theorem putSlot_identity (n : Nat) (sl : Slot) (s : State) : (putSlot n sl s).identity = s.identity := by
  dsimp only [putSlot]
  (repeat' split) <;> first | rfl | simp

@[simp] theorem putSlot_rosters (n : Nat) (sl : Slot) (s : State) : (putSlot n sl s).rosters = s.rosters := by
  dsimp only [putSlot]
  (repeat' split) <;> first | rfl | simp

@[simp] theorem putSlot_claimState (n : Nat) (sl : Slot) (s : State) : (putSlot n sl s).claimState = s.claimState := by
  dsimp only [putSlot]
  (repeat' split) <;> first | rfl | simp

@[simp] theorem putSlot_driveState (n : Nat) (sl : Slot) (s : State) : (putSlot n sl s).driveState = s.driveState := by
  dsimp only [putSlot]
  (repeat' split) <;> first | rfl | simp

@[simp] theorem putSlot_faultState (n : Nat) (sl : Slot) (s : State) : (putSlot n sl s).faultState = s.faultState := by
  dsimp only [putSlot]
  (repeat' split) <;> first | rfl | simp

@[simp] theorem putSlot_fenceState (n : Nat) (sl : Slot) (s : State) : (putSlot n sl s).fenceState = s.fenceState := by
  dsimp only [putSlot]
  (repeat' split) <;> first | rfl | simp

@[simp] theorem updEntry_lif (job : Nat) (f : Entry → Entry) (s : State) : (updEntry job f s).lif = s.lif := by
  dsimp only [updEntry]
  (repeat' split) <;> first | rfl | simp

@[simp] theorem updEntry_stc (job : Nat) (f : Entry → Entry) (s : State) : (updEntry job f s).stc = s.stc := by
  dsimp only [updEntry]
  (repeat' split) <;> first | rfl | simp

@[simp] theorem updEntry_rvu (job : Nat) (f : Entry → Entry) (s : State) : (updEntry job f s).rvu = s.rvu := by
  dsimp only [updEntry]
  (repeat' split) <;> first | rfl | simp

@[simp] theorem updEntry_scu (job : Nat) (f : Entry → Entry) (s : State) : (updEntry job f s).scu = s.scu := by
  dsimp only [updEntry]
  (repeat' split) <;> first | rfl | simp

@[simp] theorem updEntry_msq (job : Nat) (f : Entry → Entry) (s : State) : (updEntry job f s).msq = s.msq := by
  dsimp only [updEntry]
  (repeat' split) <;> first | rfl | simp

@[simp] theorem updEntry_meu (job : Nat) (f : Entry → Entry) (s : State) : (updEntry job f s).meu = s.meu := by
  dsimp only [updEntry]
  (repeat' split) <;> first | rfl | simp

@[simp] theorem updEntry_flu (job : Nat) (f : Entry → Entry) (s : State) : (updEntry job f s).flu = s.flu := by
  dsimp only [updEntry]
  (repeat' split) <;> first | rfl | simp

@[simp] theorem updEntry_outer (job : Nat) (f : Entry → Entry) (s : State) : (updEntry job f s).outer = s.outer := by
  dsimp only [updEntry]
  (repeat' split) <;> first | rfl | simp

@[simp] theorem updEntry_log (job : Nat) (f : Entry → Entry) (s : State) : (updEntry job f s).log = s.log := by
  dsimp only [updEntry]
  (repeat' split) <;> first | rfl | simp

@[simp] theorem updEntry_identity (job : Nat) (f : Entry → Entry) (s : State) : (updEntry job f s).identity = s.identity := by
  dsimp only [updEntry]
  (repeat' split) <;> first | rfl | simp

@[simp] theorem updEntry_rosters (job : Nat) (f : Entry → Entry) (s : State) : (updEntry job f s).rosters = s.rosters := by
  dsimp only [updEntry]
  (repeat' split) <;> first | rfl | simp

@[simp] theorem updEntry_space (job : Nat) (f : Entry → Entry) (s : State) : (updEntry job f s).space = s.space := by
  dsimp only [updEntry]
  (repeat' split) <;> first | rfl | simp

@[simp] theorem updEntry_claimState (job : Nat) (f : Entry → Entry) (s : State) : (updEntry job f s).claimState = s.claimState := by
  dsimp only [updEntry]
  (repeat' split) <;> first | rfl | simp

@[simp] theorem updEntry_driveState (job : Nat) (f : Entry → Entry) (s : State) : (updEntry job f s).driveState = s.driveState := by
  dsimp only [updEntry]
  (repeat' split) <;> first | rfl | simp

@[simp] theorem updEntry_faultState (job : Nat) (f : Entry → Entry) (s : State) : (updEntry job f s).faultState = s.faultState := by
  dsimp only [updEntry]
  (repeat' split) <;> first | rfl | simp

@[simp] theorem updEntry_fenceState (job : Nat) (f : Entry → Entry) (s : State) : (updEntry job f s).fenceState = s.fenceState := by
  dsimp only [updEntry]
  (repeat' split) <;> first | rfl | simp

@[simp] theorem dropEntry_lif (job : Nat) (s : State) : (dropEntry job s).lif = s.lif := by
  dsimp only [dropEntry]
  (repeat' split) <;> first | rfl | simp

@[simp] theorem dropEntry_stc (job : Nat) (s : State) : (dropEntry job s).stc = s.stc := by
  dsimp only [dropEntry]
  (repeat' split) <;> first | rfl | simp

@[simp] theorem dropEntry_rvu (job : Nat) (s : State) : (dropEntry job s).rvu = s.rvu := by
  dsimp only [dropEntry]
  (repeat' split) <;> first | rfl | simp

@[simp] theorem dropEntry_scu (job : Nat) (s : State) : (dropEntry job s).scu = s.scu := by
  dsimp only [dropEntry]
  (repeat' split) <;> first | rfl | simp

@[simp] theorem dropEntry_msq (job : Nat) (s : State) : (dropEntry job s).msq = s.msq := by
  dsimp only [dropEntry]
  (repeat' split) <;> first | rfl | simp

@[simp] theorem dropEntry_meu (job : Nat) (s : State) : (dropEntry job s).meu = s.meu := by
  dsimp only [dropEntry]
  (repeat' split) <;> first | rfl | simp

@[simp] theorem dropEntry_flu (job : Nat) (s : State) : (dropEntry job s).flu = s.flu := by
  dsimp only [dropEntry]
  (repeat' split) <;> first | rfl | simp

@[simp] theorem dropEntry_outer (job : Nat) (s : State) : (dropEntry job s).outer = s.outer := by
  dsimp only [dropEntry]
  (repeat' split) <;> first | rfl | simp

@[simp] theorem dropEntry_log (job : Nat) (s : State) : (dropEntry job s).log = s.log := by
  dsimp only [dropEntry]
  (repeat' split) <;> first | rfl | simp

@[simp] theorem dropEntry_identity (job : Nat) (s : State) : (dropEntry job s).identity = s.identity := by
  dsimp only [dropEntry]
  (repeat' split) <;> first | rfl | simp

@[simp] theorem dropEntry_rosters (job : Nat) (s : State) : (dropEntry job s).rosters = s.rosters := by
  dsimp only [dropEntry]
  (repeat' split) <;> first | rfl | simp

@[simp] theorem dropEntry_space (job : Nat) (s : State) : (dropEntry job s).space = s.space := by
  dsimp only [dropEntry]
  (repeat' split) <;> first | rfl | simp

@[simp] theorem dropEntry_claimState (job : Nat) (s : State) : (dropEntry job s).claimState = s.claimState := by
  dsimp only [dropEntry]
  (repeat' split) <;> first | rfl | simp

@[simp] theorem dropEntry_driveState (job : Nat) (s : State) : (dropEntry job s).driveState = s.driveState := by
  dsimp only [dropEntry]
  (repeat' split) <;> first | rfl | simp

@[simp] theorem dropEntry_faultState (job : Nat) (s : State) : (dropEntry job s).faultState = s.faultState := by
  dsimp only [dropEntry]
  (repeat' split) <;> first | rfl | simp

@[simp] theorem dropEntry_fenceState (job : Nat) (s : State) : (dropEntry job s).fenceState = s.fenceState := by
  dsimp only [dropEntry]
  (repeat' split) <;> first | rfl | simp

@[simp] theorem updMember_lif (job : Nat) (f : Membership → Membership) (s : State) : (updMember job f s).lif = s.lif := by
  dsimp only [updMember]
  (repeat' split) <;> first | rfl | simp

@[simp] theorem updMember_stc (job : Nat) (f : Membership → Membership) (s : State) : (updMember job f s).stc = s.stc := by
  dsimp only [updMember]
  (repeat' split) <;> first | rfl | simp

@[simp] theorem updMember_jtb (job : Nat) (f : Membership → Membership) (s : State) : (updMember job f s).jtb = s.jtb := by
  dsimp only [updMember]
  (repeat' split) <;> first | rfl | simp

@[simp] theorem updMember_scu (job : Nat) (f : Membership → Membership) (s : State) : (updMember job f s).scu = s.scu := by
  dsimp only [updMember]
  (repeat' split) <;> first | rfl | simp

@[simp] theorem updMember_msq (job : Nat) (f : Membership → Membership) (s : State) : (updMember job f s).msq = s.msq := by
  dsimp only [updMember]
  (repeat' split) <;> first | rfl | simp

@[simp] theorem updMember_meu (job : Nat) (f : Membership → Membership) (s : State) : (updMember job f s).meu = s.meu := by
  dsimp only [updMember]
  (repeat' split) <;> first | rfl | simp

@[simp] theorem updMember_flu (job : Nat) (f : Membership → Membership) (s : State) : (updMember job f s).flu = s.flu := by
  dsimp only [updMember]
  (repeat' split) <;> first | rfl | simp

@[simp] theorem updMember_outer (job : Nat) (f : Membership → Membership) (s : State) : (updMember job f s).outer = s.outer := by
  dsimp only [updMember]
  (repeat' split) <;> first | rfl | simp

@[simp] theorem updMember_log (job : Nat) (f : Membership → Membership) (s : State) : (updMember job f s).log = s.log := by
  dsimp only [updMember]
  (repeat' split) <;> first | rfl | simp

@[simp] theorem updMember_identity (job : Nat) (f : Membership → Membership) (s : State) : (updMember job f s).identity = s.identity := by
  dsimp only [updMember]
  (repeat' split) <;> first | rfl | simp

@[simp] theorem updMember_rosters (job : Nat) (f : Membership → Membership) (s : State) : (updMember job f s).rosters = s.rosters := by
  dsimp only [updMember]
  (repeat' split) <;> first | rfl | simp

@[simp] theorem updMember_space (job : Nat) (f : Membership → Membership) (s : State) : (updMember job f s).space = s.space := by
  dsimp only [updMember]
  (repeat' split) <;> first | rfl | simp

@[simp] theorem updMember_claimState (job : Nat) (f : Membership → Membership) (s : State) : (updMember job f s).claimState = s.claimState := by
  dsimp only [updMember]
  (repeat' split) <;> first | rfl | simp

@[simp] theorem updMember_driveState (job : Nat) (f : Membership → Membership) (s : State) : (updMember job f s).driveState = s.driveState := by
  dsimp only [updMember]
  (repeat' split) <;> first | rfl | simp

@[simp] theorem updMember_faultState (job : Nat) (f : Membership → Membership) (s : State) : (updMember job f s).faultState = s.faultState := by
  dsimp only [updMember]
  (repeat' split) <;> first | rfl | simp

@[simp] theorem updMember_fenceState (job : Nat) (f : Membership → Membership) (s : State) : (updMember job f s).fenceState = s.fenceState := by
  dsimp only [updMember]
  (repeat' split) <;> first | rfl | simp

end Sys2Proof.Machine
end

