-- ==== Sys2Proof/Laws/Lane.lean ====
section
/-! SUPPORT. What the operations of Machine/Lane.lean leave alone: one lemma for each block and each view of the state that an
operation does not touch. -/

namespace Sys2Proof.Machine

open Sys2Proof

variable {s : State}

@[simp] theorem updTx_stc (f : Tx → Tx) (s : State) : (updTx f s).stc = s.stc := by
  dsimp only [updTx]
  (repeat' split) <;> first | rfl | simp

@[simp] theorem updTx_jtb (f : Tx → Tx) (s : State) : (updTx f s).jtb = s.jtb := by
  dsimp only [updTx]
  (repeat' split) <;> first | rfl | simp

@[simp] theorem updTx_rvu (f : Tx → Tx) (s : State) : (updTx f s).rvu = s.rvu := by
  dsimp only [updTx]
  (repeat' split) <;> first | rfl | simp

@[simp] theorem updTx_scu (f : Tx → Tx) (s : State) : (updTx f s).scu = s.scu := by
  dsimp only [updTx]
  (repeat' split) <;> first | rfl | simp

@[simp] theorem updTx_msq (f : Tx → Tx) (s : State) : (updTx f s).msq = s.msq := by
  dsimp only [updTx]
  (repeat' split) <;> first | rfl | simp

@[simp] theorem updTx_meu (f : Tx → Tx) (s : State) : (updTx f s).meu = s.meu := by
  dsimp only [updTx]
  (repeat' split) <;> first | rfl | simp

@[simp] theorem updTx_flu (f : Tx → Tx) (s : State) : (updTx f s).flu = s.flu := by
  dsimp only [updTx]
  (repeat' split) <;> first | rfl | simp

@[simp] theorem updTx_outer (f : Tx → Tx) (s : State) : (updTx f s).outer = s.outer := by
  dsimp only [updTx]
  (repeat' split) <;> first | rfl | simp

@[simp] theorem updTx_log (f : Tx → Tx) (s : State) : (updTx f s).log = s.log := by
  dsimp only [updTx]
  (repeat' split) <;> first | rfl | simp

@[simp] theorem updTx_identity (f : Tx → Tx) (s : State) : (updTx f s).identity = s.identity := by
  dsimp only [updTx]
  (repeat' split) <;> first | rfl | simp

@[simp] theorem updTx_rosters (f : Tx → Tx) (s : State) : (updTx f s).rosters = s.rosters := by
  dsimp only [updTx]
  (repeat' split) <;> first | rfl | simp

@[simp] theorem updTx_space (f : Tx → Tx) (s : State) : (updTx f s).space = s.space := by
  dsimp only [updTx]
  (repeat' split) <;> first | rfl | simp

@[simp] theorem updTx_claimState (f : Tx → Tx) (s : State) : (updTx f s).claimState = s.claimState := by
  dsimp only [updTx]
  (repeat' split) <;> first | rfl | simp

@[simp] theorem updTx_driveState (f : Tx → Tx) (s : State) : (updTx f s).driveState = s.driveState := by
  dsimp only [updTx]
  (repeat' split) <;> first | rfl | simp

@[simp] theorem updTx_faultState (f : Tx → Tx) (s : State) : (updTx f s).faultState = s.faultState := by
  dsimp only [updTx]
  (repeat' split) <;> first | rfl | simp

@[simp] theorem updTx_fenceState (f : Tx → Tx) (s : State) : (updTx f s).fenceState = s.fenceState := by
  dsimp only [updTx]
  (repeat' split) <;> first | rfl | simp

@[simp] theorem askReplacement_stc (f : TxFrame) (s : State) : (askReplacement f s).stc = s.stc := by
  dsimp only [askReplacement]
  (repeat' split) <;> first | rfl | simp

@[simp] theorem askReplacement_jtb (f : TxFrame) (s : State) : (askReplacement f s).jtb = s.jtb := by
  dsimp only [askReplacement]
  (repeat' split) <;> first | rfl | simp

@[simp] theorem askReplacement_rvu (f : TxFrame) (s : State) : (askReplacement f s).rvu = s.rvu := by
  dsimp only [askReplacement]
  (repeat' split) <;> first | rfl | simp

@[simp] theorem askReplacement_scu (f : TxFrame) (s : State) : (askReplacement f s).scu = s.scu := by
  dsimp only [askReplacement]
  (repeat' split) <;> first | rfl | simp

@[simp] theorem askReplacement_msq (f : TxFrame) (s : State) : (askReplacement f s).msq = s.msq := by
  dsimp only [askReplacement]
  (repeat' split) <;> first | rfl | simp

@[simp] theorem askReplacement_meu (f : TxFrame) (s : State) : (askReplacement f s).meu = s.meu := by
  dsimp only [askReplacement]
  (repeat' split) <;> first | rfl | simp

@[simp] theorem askReplacement_flu (f : TxFrame) (s : State) : (askReplacement f s).flu = s.flu := by
  dsimp only [askReplacement]
  (repeat' split) <;> first | rfl | simp

@[simp] theorem askReplacement_outer (f : TxFrame) (s : State) : (askReplacement f s).outer = s.outer := by
  dsimp only [askReplacement]
  (repeat' split) <;> first | rfl | simp

@[simp] theorem askReplacement_log (f : TxFrame) (s : State) : (askReplacement f s).log = s.log := by
  dsimp only [askReplacement]
  (repeat' split) <;> first | rfl | simp

@[simp] theorem askReplacement_identity (f : TxFrame) (s : State) : (askReplacement f s).identity = s.identity := by
  dsimp only [askReplacement]
  (repeat' split) <;> first | rfl | simp

@[simp] theorem askReplacement_rosters (f : TxFrame) (s : State) : (askReplacement f s).rosters = s.rosters := by
  dsimp only [askReplacement]
  (repeat' split) <;> first | rfl | simp

@[simp] theorem askReplacement_space (f : TxFrame) (s : State) : (askReplacement f s).space = s.space := by
  dsimp only [askReplacement]
  (repeat' split) <;> first | rfl | simp

@[simp] theorem askReplacement_claimState (f : TxFrame) (s : State) : (askReplacement f s).claimState = s.claimState := by
  dsimp only [askReplacement]
  (repeat' split) <;> first | rfl | simp

@[simp] theorem askReplacement_driveState (f : TxFrame) (s : State) : (askReplacement f s).driveState = s.driveState := by
  dsimp only [askReplacement]
  (repeat' split) <;> first | rfl | simp

@[simp] theorem askReplacement_faultState (f : TxFrame) (s : State) : (askReplacement f s).faultState = s.faultState := by
  dsimp only [askReplacement]
  (repeat' split) <;> first | rfl | simp

@[simp] theorem askReplacement_fenceState (f : TxFrame) (s : State) : (askReplacement f s).fenceState = s.fenceState := by
  dsimp only [askReplacement]
  (repeat' split) <;> first | rfl | simp

@[simp] theorem offerSafety_stc (f : TxFrame) (s : State) : (offerSafety f s).stc = s.stc := by
  dsimp only [offerSafety]
  (repeat' split) <;> first | rfl | simp

@[simp] theorem offerSafety_jtb (f : TxFrame) (s : State) : (offerSafety f s).jtb = s.jtb := by
  dsimp only [offerSafety]
  (repeat' split) <;> first | rfl | simp

@[simp] theorem offerSafety_rvu (f : TxFrame) (s : State) : (offerSafety f s).rvu = s.rvu := by
  dsimp only [offerSafety]
  (repeat' split) <;> first | rfl | simp

@[simp] theorem offerSafety_scu (f : TxFrame) (s : State) : (offerSafety f s).scu = s.scu := by
  dsimp only [offerSafety]
  (repeat' split) <;> first | rfl | simp

@[simp] theorem offerSafety_msq (f : TxFrame) (s : State) : (offerSafety f s).msq = s.msq := by
  dsimp only [offerSafety]
  (repeat' split) <;> first | rfl | simp

@[simp] theorem offerSafety_meu (f : TxFrame) (s : State) : (offerSafety f s).meu = s.meu := by
  dsimp only [offerSafety]
  (repeat' split) <;> first | rfl | simp

@[simp] theorem offerSafety_flu (f : TxFrame) (s : State) : (offerSafety f s).flu = s.flu := by
  dsimp only [offerSafety]
  (repeat' split) <;> first | rfl | simp

@[simp] theorem offerSafety_outer (f : TxFrame) (s : State) : (offerSafety f s).outer = s.outer := by
  dsimp only [offerSafety]
  (repeat' split) <;> first | rfl | simp

@[simp] theorem offerSafety_log (f : TxFrame) (s : State) : (offerSafety f s).log = s.log := by
  dsimp only [offerSafety]
  (repeat' split) <;> first | rfl | simp

@[simp] theorem offerSafety_identity (f : TxFrame) (s : State) : (offerSafety f s).identity = s.identity := by
  dsimp only [offerSafety]
  (repeat' split) <;> first | rfl | simp

@[simp] theorem offerSafety_rosters (f : TxFrame) (s : State) : (offerSafety f s).rosters = s.rosters := by
  dsimp only [offerSafety]
  (repeat' split) <;> first | rfl | simp

@[simp] theorem offerSafety_space (f : TxFrame) (s : State) : (offerSafety f s).space = s.space := by
  dsimp only [offerSafety]
  (repeat' split) <;> first | rfl | simp

@[simp] theorem offerSafety_claimState (f : TxFrame) (s : State) : (offerSafety f s).claimState = s.claimState := by
  dsimp only [offerSafety]
  (repeat' split) <;> first | rfl | simp

@[simp] theorem offerSafety_driveState (f : TxFrame) (s : State) : (offerSafety f s).driveState = s.driveState := by
  dsimp only [offerSafety]
  (repeat' split) <;> first | rfl | simp

@[simp] theorem offerSafety_faultState (f : TxFrame) (s : State) : (offerSafety f s).faultState = s.faultState := by
  dsimp only [offerSafety]
  (repeat' split) <;> first | rfl | simp

@[simp] theorem offerSafety_fenceState (f : TxFrame) (s : State) : (offerSafety f s).fenceState = s.fenceState := by
  dsimp only [offerSafety]
  (repeat' split) <;> first | rfl | simp

@[simp] theorem pushWork_stc (f : TxFrame) (s : State) : (pushWork f s).stc = s.stc := by
  dsimp only [pushWork]
  (repeat' split) <;> first | rfl | simp

@[simp] theorem pushWork_jtb (f : TxFrame) (s : State) : (pushWork f s).jtb = s.jtb := by
  dsimp only [pushWork]
  (repeat' split) <;> first | rfl | simp

@[simp] theorem pushWork_rvu (f : TxFrame) (s : State) : (pushWork f s).rvu = s.rvu := by
  dsimp only [pushWork]
  (repeat' split) <;> first | rfl | simp

@[simp] theorem pushWork_scu (f : TxFrame) (s : State) : (pushWork f s).scu = s.scu := by
  dsimp only [pushWork]
  (repeat' split) <;> first | rfl | simp

@[simp] theorem pushWork_msq (f : TxFrame) (s : State) : (pushWork f s).msq = s.msq := by
  dsimp only [pushWork]
  (repeat' split) <;> first | rfl | simp

@[simp] theorem pushWork_meu (f : TxFrame) (s : State) : (pushWork f s).meu = s.meu := by
  dsimp only [pushWork]
  (repeat' split) <;> first | rfl | simp

@[simp] theorem pushWork_flu (f : TxFrame) (s : State) : (pushWork f s).flu = s.flu := by
  dsimp only [pushWork]
  (repeat' split) <;> first | rfl | simp

@[simp] theorem pushWork_outer (f : TxFrame) (s : State) : (pushWork f s).outer = s.outer := by
  dsimp only [pushWork]
  (repeat' split) <;> first | rfl | simp

@[simp] theorem pushWork_log (f : TxFrame) (s : State) : (pushWork f s).log = s.log := by
  dsimp only [pushWork]
  (repeat' split) <;> first | rfl | simp

@[simp] theorem pushWork_identity (f : TxFrame) (s : State) : (pushWork f s).identity = s.identity := by
  dsimp only [pushWork]
  (repeat' split) <;> first | rfl | simp

@[simp] theorem pushWork_rosters (f : TxFrame) (s : State) : (pushWork f s).rosters = s.rosters := by
  dsimp only [pushWork]
  (repeat' split) <;> first | rfl | simp

@[simp] theorem pushWork_space (f : TxFrame) (s : State) : (pushWork f s).space = s.space := by
  dsimp only [pushWork]
  (repeat' split) <;> first | rfl | simp

@[simp] theorem pushWork_claimState (f : TxFrame) (s : State) : (pushWork f s).claimState = s.claimState := by
  dsimp only [pushWork]
  (repeat' split) <;> first | rfl | simp

@[simp] theorem pushWork_driveState (f : TxFrame) (s : State) : (pushWork f s).driveState = s.driveState := by
  dsimp only [pushWork]
  (repeat' split) <;> first | rfl | simp

@[simp] theorem pushWork_faultState (f : TxFrame) (s : State) : (pushWork f s).faultState = s.faultState := by
  dsimp only [pushWork]
  (repeat' split) <;> first | rfl | simp

@[simp] theorem pushWork_fenceState (f : TxFrame) (s : State) : (pushWork f s).fenceState = s.fenceState := by
  dsimp only [pushWork]
  (repeat' split) <;> first | rfl | simp

@[simp] theorem offerWork_stc (f : TxFrame) (s : State) : (offerWork f s).stc = s.stc := by
  dsimp only [offerWork]
  (repeat' split) <;> first | rfl | simp

@[simp] theorem offerWork_jtb (f : TxFrame) (s : State) : (offerWork f s).jtb = s.jtb := by
  dsimp only [offerWork]
  (repeat' split) <;> first | rfl | simp

@[simp] theorem offerWork_rvu (f : TxFrame) (s : State) : (offerWork f s).rvu = s.rvu := by
  dsimp only [offerWork]
  (repeat' split) <;> first | rfl | simp

@[simp] theorem offerWork_scu (f : TxFrame) (s : State) : (offerWork f s).scu = s.scu := by
  dsimp only [offerWork]
  (repeat' split) <;> first | rfl | simp

@[simp] theorem offerWork_msq (f : TxFrame) (s : State) : (offerWork f s).msq = s.msq := by
  dsimp only [offerWork]
  (repeat' split) <;> first | rfl | simp

@[simp] theorem offerWork_meu (f : TxFrame) (s : State) : (offerWork f s).meu = s.meu := by
  dsimp only [offerWork]
  (repeat' split) <;> first | rfl | simp

@[simp] theorem offerWork_flu (f : TxFrame) (s : State) : (offerWork f s).flu = s.flu := by
  dsimp only [offerWork]
  (repeat' split) <;> first | rfl | simp

@[simp] theorem offerWork_outer (f : TxFrame) (s : State) : (offerWork f s).outer = s.outer := by
  dsimp only [offerWork]
  (repeat' split) <;> first | rfl | simp

@[simp] theorem offerWork_log (f : TxFrame) (s : State) : (offerWork f s).log = s.log := by
  dsimp only [offerWork]
  (repeat' split) <;> first | rfl | simp

@[simp] theorem offerWork_identity (f : TxFrame) (s : State) : (offerWork f s).identity = s.identity := by
  dsimp only [offerWork]
  (repeat' split) <;> first | rfl | simp

@[simp] theorem offerWork_rosters (f : TxFrame) (s : State) : (offerWork f s).rosters = s.rosters := by
  dsimp only [offerWork]
  (repeat' split) <;> first | rfl | simp

@[simp] theorem offerWork_space (f : TxFrame) (s : State) : (offerWork f s).space = s.space := by
  dsimp only [offerWork]
  (repeat' split) <;> first | rfl | simp

@[simp] theorem offerWork_claimState (f : TxFrame) (s : State) : (offerWork f s).claimState = s.claimState := by
  dsimp only [offerWork]
  (repeat' split) <;> first | rfl | simp

@[simp] theorem offerWork_driveState (f : TxFrame) (s : State) : (offerWork f s).driveState = s.driveState := by
  dsimp only [offerWork]
  (repeat' split) <;> first | rfl | simp

@[simp] theorem offerWork_faultState (f : TxFrame) (s : State) : (offerWork f s).faultState = s.faultState := by
  dsimp only [offerWork]
  (repeat' split) <;> first | rfl | simp

@[simp] theorem offerWork_fenceState (f : TxFrame) (s : State) : (offerWork f s).fenceState = s.fenceState := by
  dsimp only [offerWork]
  (repeat' split) <;> first | rfl | simp

@[simp] theorem postResult_stc (r : ResultRecord) (s : State) : (postResult r s).stc = s.stc := by
  dsimp only [postResult]
  (repeat' split) <;> first | rfl | simp

@[simp] theorem postResult_jtb (r : ResultRecord) (s : State) : (postResult r s).jtb = s.jtb := by
  dsimp only [postResult]
  (repeat' split) <;> first | rfl | simp

@[simp] theorem postResult_rvu (r : ResultRecord) (s : State) : (postResult r s).rvu = s.rvu := by
  dsimp only [postResult]
  (repeat' split) <;> first | rfl | simp

@[simp] theorem postResult_scu (r : ResultRecord) (s : State) : (postResult r s).scu = s.scu := by
  dsimp only [postResult]
  (repeat' split) <;> first | rfl | simp

@[simp] theorem postResult_msq (r : ResultRecord) (s : State) : (postResult r s).msq = s.msq := by
  dsimp only [postResult]
  (repeat' split) <;> first | rfl | simp

@[simp] theorem postResult_meu (r : ResultRecord) (s : State) : (postResult r s).meu = s.meu := by
  dsimp only [postResult]
  (repeat' split) <;> first | rfl | simp

@[simp] theorem postResult_flu (r : ResultRecord) (s : State) : (postResult r s).flu = s.flu := by
  dsimp only [postResult]
  (repeat' split) <;> first | rfl | simp

@[simp] theorem postResult_outer (r : ResultRecord) (s : State) : (postResult r s).outer = s.outer := by
  dsimp only [postResult]
  (repeat' split) <;> first | rfl | simp

@[simp] theorem postResult_log (r : ResultRecord) (s : State) : (postResult r s).log = s.log := by
  dsimp only [postResult]
  (repeat' split) <;> first | rfl | simp

@[simp] theorem postResult_identity (r : ResultRecord) (s : State) : (postResult r s).identity = s.identity := by
  dsimp only [postResult]
  (repeat' split) <;> first | rfl | simp

@[simp] theorem postResult_rosters (r : ResultRecord) (s : State) : (postResult r s).rosters = s.rosters := by
  dsimp only [postResult]
  (repeat' split) <;> first | rfl | simp

@[simp] theorem postResult_space (r : ResultRecord) (s : State) : (postResult r s).space = s.space := by
  dsimp only [postResult]
  (repeat' split) <;> first | rfl | simp

@[simp] theorem postResult_claimState (r : ResultRecord) (s : State) : (postResult r s).claimState = s.claimState := by
  dsimp only [postResult]
  (repeat' split) <;> first | rfl | simp

@[simp] theorem postResult_driveState (r : ResultRecord) (s : State) : (postResult r s).driveState = s.driveState := by
  dsimp only [postResult]
  (repeat' split) <;> first | rfl | simp

@[simp] theorem postResult_faultState (r : ResultRecord) (s : State) : (postResult r s).faultState = s.faultState := by
  dsimp only [postResult]
  (repeat' split) <;> first | rfl | simp

@[simp] theorem postResult_fenceState (r : ResultRecord) (s : State) : (postResult r s).fenceState = s.fenceState := by
  dsimp only [postResult]
  (repeat' split) <;> first | rfl | simp

@[simp] theorem placeAnswer_stc (f : TxFrame) (s : State) : (placeAnswer f s).stc = s.stc := by
  dsimp only [placeAnswer]
  (repeat' split) <;> first | rfl | simp

@[simp] theorem placeAnswer_jtb (f : TxFrame) (s : State) : (placeAnswer f s).jtb = s.jtb := by
  dsimp only [placeAnswer]
  (repeat' split) <;> first | rfl | simp

@[simp] theorem placeAnswer_rvu (f : TxFrame) (s : State) : (placeAnswer f s).rvu = s.rvu := by
  dsimp only [placeAnswer]
  (repeat' split) <;> first | rfl | simp

@[simp] theorem placeAnswer_scu (f : TxFrame) (s : State) : (placeAnswer f s).scu = s.scu := by
  dsimp only [placeAnswer]
  (repeat' split) <;> first | rfl | simp

@[simp] theorem placeAnswer_msq (f : TxFrame) (s : State) : (placeAnswer f s).msq = s.msq := by
  dsimp only [placeAnswer]
  (repeat' split) <;> first | rfl | simp

@[simp] theorem placeAnswer_meu (f : TxFrame) (s : State) : (placeAnswer f s).meu = s.meu := by
  dsimp only [placeAnswer]
  (repeat' split) <;> first | rfl | simp

@[simp] theorem placeAnswer_flu (f : TxFrame) (s : State) : (placeAnswer f s).flu = s.flu := by
  dsimp only [placeAnswer]
  (repeat' split) <;> first | rfl | simp

@[simp] theorem placeAnswer_outer (f : TxFrame) (s : State) : (placeAnswer f s).outer = s.outer := by
  dsimp only [placeAnswer]
  (repeat' split) <;> first | rfl | simp

@[simp] theorem placeAnswer_log (f : TxFrame) (s : State) : (placeAnswer f s).log = s.log := by
  dsimp only [placeAnswer]
  (repeat' split) <;> first | rfl | simp

@[simp] theorem placeAnswer_identity (f : TxFrame) (s : State) : (placeAnswer f s).identity = s.identity := by
  dsimp only [placeAnswer]
  (repeat' split) <;> first | rfl | simp

@[simp] theorem placeAnswer_rosters (f : TxFrame) (s : State) : (placeAnswer f s).rosters = s.rosters := by
  dsimp only [placeAnswer]
  (repeat' split) <;> first | rfl | simp

@[simp] theorem placeAnswer_space (f : TxFrame) (s : State) : (placeAnswer f s).space = s.space := by
  dsimp only [placeAnswer]
  (repeat' split) <;> first | rfl | simp

@[simp] theorem placeAnswer_claimState (f : TxFrame) (s : State) : (placeAnswer f s).claimState = s.claimState := by
  dsimp only [placeAnswer]
  (repeat' split) <;> first | rfl | simp

@[simp] theorem placeAnswer_driveState (f : TxFrame) (s : State) : (placeAnswer f s).driveState = s.driveState := by
  dsimp only [placeAnswer]
  (repeat' split) <;> first | rfl | simp

@[simp] theorem placeAnswer_faultState (f : TxFrame) (s : State) : (placeAnswer f s).faultState = s.faultState := by
  dsimp only [placeAnswer]
  (repeat' split) <;> first | rfl | simp

@[simp] theorem placeAnswer_fenceState (f : TxFrame) (s : State) : (placeAnswer f s).fenceState = s.fenceState := by
  dsimp only [placeAnswer]
  (repeat' split) <;> first | rfl | simp

@[simp] theorem emptyQueues_stc (s : State) : (emptyQueues s).stc = s.stc := by
  dsimp only [emptyQueues]
  (repeat' split) <;> first | rfl | simp

@[simp] theorem emptyQueues_jtb (s : State) : (emptyQueues s).jtb = s.jtb := by
  dsimp only [emptyQueues]
  (repeat' split) <;> first | rfl | simp

@[simp] theorem emptyQueues_rvu (s : State) : (emptyQueues s).rvu = s.rvu := by
  dsimp only [emptyQueues]
  (repeat' split) <;> first | rfl | simp

@[simp] theorem emptyQueues_scu (s : State) : (emptyQueues s).scu = s.scu := by
  dsimp only [emptyQueues]
  (repeat' split) <;> first | rfl | simp

@[simp] theorem emptyQueues_msq (s : State) : (emptyQueues s).msq = s.msq := by
  dsimp only [emptyQueues]
  (repeat' split) <;> first | rfl | simp

@[simp] theorem emptyQueues_meu (s : State) : (emptyQueues s).meu = s.meu := by
  dsimp only [emptyQueues]
  (repeat' split) <;> first | rfl | simp

@[simp] theorem emptyQueues_flu (s : State) : (emptyQueues s).flu = s.flu := by
  dsimp only [emptyQueues]
  (repeat' split) <;> first | rfl | simp

@[simp] theorem emptyQueues_outer (s : State) : (emptyQueues s).outer = s.outer := by
  dsimp only [emptyQueues]
  (repeat' split) <;> first | rfl | simp

@[simp] theorem emptyQueues_log (s : State) : (emptyQueues s).log = s.log := by
  dsimp only [emptyQueues]
  (repeat' split) <;> first | rfl | simp

@[simp] theorem emptyQueues_identity (s : State) : (emptyQueues s).identity = s.identity := by
  dsimp only [emptyQueues]
  (repeat' split) <;> first | rfl | simp

@[simp] theorem emptyQueues_rosters (s : State) : (emptyQueues s).rosters = s.rosters := by
  dsimp only [emptyQueues]
  (repeat' split) <;> first | rfl | simp

@[simp] theorem emptyQueues_space (s : State) : (emptyQueues s).space = s.space := by
  dsimp only [emptyQueues]
  (repeat' split) <;> first | rfl | simp

@[simp] theorem emptyQueues_claimState (s : State) : (emptyQueues s).claimState = s.claimState := by
  dsimp only [emptyQueues]
  (repeat' split) <;> first | rfl | simp

@[simp] theorem emptyQueues_driveState (s : State) : (emptyQueues s).driveState = s.driveState := by
  dsimp only [emptyQueues]
  (repeat' split) <;> first | rfl | simp

@[simp] theorem emptyQueues_faultState (s : State) : (emptyQueues s).faultState = s.faultState := by
  dsimp only [emptyQueues]
  (repeat' split) <;> first | rfl | simp

@[simp] theorem emptyQueues_fenceState (s : State) : (emptyQueues s).fenceState = s.fenceState := by
  dsimp only [emptyQueues]
  (repeat' split) <;> first | rfl | simp

@[simp] theorem lifSilence_stc (f : TxFrame) (s : State) : (lifSilence f s).stc = s.stc := by
  dsimp only [lifSilence]
  (repeat' split) <;> first | rfl | simp

@[simp] theorem lifSilence_jtb (f : TxFrame) (s : State) : (lifSilence f s).jtb = s.jtb := by
  dsimp only [lifSilence]
  (repeat' split) <;> first | rfl | simp

@[simp] theorem lifSilence_rvu (f : TxFrame) (s : State) : (lifSilence f s).rvu = s.rvu := by
  dsimp only [lifSilence]
  (repeat' split) <;> first | rfl | simp

@[simp] theorem lifSilence_scu (f : TxFrame) (s : State) : (lifSilence f s).scu = s.scu := by
  dsimp only [lifSilence]
  (repeat' split) <;> first | rfl | simp

@[simp] theorem lifSilence_msq (f : TxFrame) (s : State) : (lifSilence f s).msq = s.msq := by
  dsimp only [lifSilence]
  (repeat' split) <;> first | rfl | simp

@[simp] theorem lifSilence_meu (f : TxFrame) (s : State) : (lifSilence f s).meu = s.meu := by
  dsimp only [lifSilence]
  (repeat' split) <;> first | rfl | simp

@[simp] theorem lifSilence_flu (f : TxFrame) (s : State) : (lifSilence f s).flu = s.flu := by
  dsimp only [lifSilence]
  (repeat' split) <;> first | rfl | simp

@[simp] theorem lifSilence_outer (f : TxFrame) (s : State) : (lifSilence f s).outer = s.outer := by
  dsimp only [lifSilence]
  (repeat' split) <;> first | rfl | simp

@[simp] theorem lifSilence_log (f : TxFrame) (s : State) : (lifSilence f s).log = s.log := by
  dsimp only [lifSilence]
  (repeat' split) <;> first | rfl | simp

@[simp] theorem lifSilence_identity (f : TxFrame) (s : State) : (lifSilence f s).identity = s.identity := by
  dsimp only [lifSilence]
  (repeat' split) <;> first | rfl | simp

@[simp] theorem lifSilence_rosters (f : TxFrame) (s : State) : (lifSilence f s).rosters = s.rosters := by
  dsimp only [lifSilence]
  (repeat' split) <;> first | rfl | simp

@[simp] theorem lifSilence_space (f : TxFrame) (s : State) : (lifSilence f s).space = s.space := by
  dsimp only [lifSilence]
  (repeat' split) <;> first | rfl | simp

@[simp] theorem lifSilence_claimState (f : TxFrame) (s : State) : (lifSilence f s).claimState = s.claimState := by
  dsimp only [lifSilence]
  (repeat' split) <;> first | rfl | simp

@[simp] theorem lifSilence_driveState (f : TxFrame) (s : State) : (lifSilence f s).driveState = s.driveState := by
  dsimp only [lifSilence]
  (repeat' split) <;> first | rfl | simp

@[simp] theorem lifSilence_faultState (f : TxFrame) (s : State) : (lifSilence f s).faultState = s.faultState := by
  dsimp only [lifSilence]
  (repeat' split) <;> first | rfl | simp

@[simp] theorem regap_stc (s : State) : (regap s).stc = s.stc := by
  dsimp only [regap]
  (repeat' split) <;> first | rfl | simp

@[simp] theorem regap_jtb (s : State) : (regap s).jtb = s.jtb := by
  dsimp only [regap]
  (repeat' split) <;> first | rfl | simp

@[simp] theorem regap_rvu (s : State) : (regap s).rvu = s.rvu := by
  dsimp only [regap]
  (repeat' split) <;> first | rfl | simp

@[simp] theorem regap_scu (s : State) : (regap s).scu = s.scu := by
  dsimp only [regap]
  (repeat' split) <;> first | rfl | simp

@[simp] theorem regap_msq (s : State) : (regap s).msq = s.msq := by
  dsimp only [regap]
  (repeat' split) <;> first | rfl | simp

@[simp] theorem regap_meu (s : State) : (regap s).meu = s.meu := by
  dsimp only [regap]
  (repeat' split) <;> first | rfl | simp

@[simp] theorem regap_flu (s : State) : (regap s).flu = s.flu := by
  dsimp only [regap]
  (repeat' split) <;> first | rfl | simp

@[simp] theorem regap_outer (s : State) : (regap s).outer = s.outer := by
  dsimp only [regap]
  (repeat' split) <;> first | rfl | simp

@[simp] theorem regap_log (s : State) : (regap s).log = s.log := by
  dsimp only [regap]
  (repeat' split) <;> first | rfl | simp

@[simp] theorem regap_identity (s : State) : (regap s).identity = s.identity := by
  dsimp only [regap]
  (repeat' split) <;> first | rfl | simp

@[simp] theorem regap_rosters (s : State) : (regap s).rosters = s.rosters := by
  dsimp only [regap]
  (repeat' split) <;> first | rfl | simp

@[simp] theorem regap_space (s : State) : (regap s).space = s.space := by
  dsimp only [regap]
  (repeat' split) <;> first | rfl | simp

@[simp] theorem regap_claimState (s : State) : (regap s).claimState = s.claimState := by
  dsimp only [regap]
  (repeat' split) <;> first | rfl | simp

@[simp] theorem regap_driveState (s : State) : (regap s).driveState = s.driveState := by
  dsimp only [regap]
  (repeat' split) <;> first | rfl | simp

@[simp] theorem regap_faultState (s : State) : (regap s).faultState = s.faultState := by
  dsimp only [regap]
  (repeat' split) <;> first | rfl | simp

@[simp] theorem regap_fenceState (s : State) : (regap s).fenceState = s.fenceState := by
  dsimp only [regap]
  (repeat' split) <;> first | rfl | simp

@[simp] theorem startTx_stc (place : Place) (f : TxFrame) (burstAt : Nat) (s : State) : (startTx place f burstAt s).stc = s.stc := by
  dsimp only [startTx]
  (repeat' split) <;> first | rfl | simp

@[simp] theorem startTx_jtb (place : Place) (f : TxFrame) (burstAt : Nat) (s : State) : (startTx place f burstAt s).jtb = s.jtb := by
  dsimp only [startTx]
  (repeat' split) <;> first | rfl | simp

@[simp] theorem startTx_rvu (place : Place) (f : TxFrame) (burstAt : Nat) (s : State) : (startTx place f burstAt s).rvu = s.rvu := by
  dsimp only [startTx]
  (repeat' split) <;> first | rfl | simp

@[simp] theorem startTx_scu (place : Place) (f : TxFrame) (burstAt : Nat) (s : State) : (startTx place f burstAt s).scu = s.scu := by
  dsimp only [startTx]
  (repeat' split) <;> first | rfl | simp

@[simp] theorem startTx_msq (place : Place) (f : TxFrame) (burstAt : Nat) (s : State) : (startTx place f burstAt s).msq = s.msq := by
  dsimp only [startTx]
  (repeat' split) <;> first | rfl | simp

@[simp] theorem startTx_meu (place : Place) (f : TxFrame) (burstAt : Nat) (s : State) : (startTx place f burstAt s).meu = s.meu := by
  dsimp only [startTx]
  (repeat' split) <;> first | rfl | simp

@[simp] theorem startTx_flu (place : Place) (f : TxFrame) (burstAt : Nat) (s : State) : (startTx place f burstAt s).flu = s.flu := by
  dsimp only [startTx]
  (repeat' split) <;> first | rfl | simp

@[simp] theorem startTx_pins (place : Place) (f : TxFrame) (burstAt : Nat) (s : State) : (startTx place f burstAt s).pins = s.pins := by
  dsimp only [startTx]
  (repeat' split) <;> first | rfl | simp

@[simp] theorem startTx_pending (place : Place) (f : TxFrame) (burstAt : Nat) (s : State) : (startTx place f burstAt s).pending = s.pending := by
  dsimp only [startTx]
  (repeat' split) <;> first | rfl | simp

@[simp] theorem startTx_log (place : Place) (f : TxFrame) (burstAt : Nat) (s : State) : (startTx place f burstAt s).log = s.log := by
  dsimp only [startTx]
  (repeat' split) <;> first | rfl | simp

@[simp] theorem startTx_identity (place : Place) (f : TxFrame) (burstAt : Nat) (s : State) : (startTx place f burstAt s).identity = s.identity := by
  dsimp only [startTx]
  (repeat' split) <;> first | rfl | simp

@[simp] theorem startTx_rosters (place : Place) (f : TxFrame) (burstAt : Nat) (s : State) : (startTx place f burstAt s).rosters = s.rosters := by
  dsimp only [startTx]
  (repeat' split) <;> first | rfl | simp

@[simp] theorem startTx_space (place : Place) (f : TxFrame) (burstAt : Nat) (s : State) : (startTx place f burstAt s).space = s.space := by
  dsimp only [startTx]
  (repeat' split) <;> first | rfl | simp

@[simp] theorem startTx_claimState (place : Place) (f : TxFrame) (burstAt : Nat) (s : State) : (startTx place f burstAt s).claimState = s.claimState := by
  dsimp only [startTx]
  (repeat' split) <;> first | rfl | simp

@[simp] theorem startTx_driveState (place : Place) (f : TxFrame) (burstAt : Nat) (s : State) : (startTx place f burstAt s).driveState = s.driveState := by
  dsimp only [startTx]
  (repeat' split) <;> first | rfl | simp

@[simp] theorem startTx_faultState (place : Place) (f : TxFrame) (burstAt : Nat) (s : State) : (startTx place f burstAt s).faultState = s.faultState := by
  dsimp only [startTx]
  (repeat' split) <;> first | rfl | simp

@[simp] theorem startTx_fenceState (place : Place) (f : TxFrame) (burstAt : Nat) (s : State) : (startTx place f burstAt s).fenceState = s.fenceState := by
  dsimp only [startTx]
  (repeat' split) <;> first | rfl | simp

@[simp] theorem leavePlace_stc (p : Place) (s : State) : (leavePlace p s).stc = s.stc := by
  dsimp only [leavePlace]
  (repeat' split) <;> first | rfl | simp

@[simp] theorem leavePlace_jtb (p : Place) (s : State) : (leavePlace p s).jtb = s.jtb := by
  dsimp only [leavePlace]
  (repeat' split) <;> first | rfl | simp

@[simp] theorem leavePlace_rvu (p : Place) (s : State) : (leavePlace p s).rvu = s.rvu := by
  dsimp only [leavePlace]
  (repeat' split) <;> first | rfl | simp

@[simp] theorem leavePlace_scu (p : Place) (s : State) : (leavePlace p s).scu = s.scu := by
  dsimp only [leavePlace]
  (repeat' split) <;> first | rfl | simp

@[simp] theorem leavePlace_msq (p : Place) (s : State) : (leavePlace p s).msq = s.msq := by
  dsimp only [leavePlace]
  (repeat' split) <;> first | rfl | simp

@[simp] theorem leavePlace_meu (p : Place) (s : State) : (leavePlace p s).meu = s.meu := by
  dsimp only [leavePlace]
  (repeat' split) <;> first | rfl | simp

@[simp] theorem leavePlace_flu (p : Place) (s : State) : (leavePlace p s).flu = s.flu := by
  dsimp only [leavePlace]
  (repeat' split) <;> first | rfl | simp

@[simp] theorem leavePlace_outer (p : Place) (s : State) : (leavePlace p s).outer = s.outer := by
  dsimp only [leavePlace]
  (repeat' split) <;> first | rfl | simp

@[simp] theorem leavePlace_log (p : Place) (s : State) : (leavePlace p s).log = s.log := by
  dsimp only [leavePlace]
  (repeat' split) <;> first | rfl | simp

@[simp] theorem leavePlace_identity (p : Place) (s : State) : (leavePlace p s).identity = s.identity := by
  dsimp only [leavePlace]
  (repeat' split) <;> first | rfl | simp

@[simp] theorem leavePlace_rosters (p : Place) (s : State) : (leavePlace p s).rosters = s.rosters := by
  dsimp only [leavePlace]
  (repeat' split) <;> first | rfl | simp

@[simp] theorem leavePlace_space (p : Place) (s : State) : (leavePlace p s).space = s.space := by
  dsimp only [leavePlace]
  (repeat' split) <;> first | rfl | simp

@[simp] theorem leavePlace_claimState (p : Place) (s : State) : (leavePlace p s).claimState = s.claimState := by
  dsimp only [leavePlace]
  (repeat' split) <;> first | rfl | simp

@[simp] theorem leavePlace_driveState (p : Place) (s : State) : (leavePlace p s).driveState = s.driveState := by
  dsimp only [leavePlace]
  (repeat' split) <;> first | rfl | simp

@[simp] theorem leavePlace_faultState (p : Place) (s : State) : (leavePlace p s).faultState = s.faultState := by
  dsimp only [leavePlace]
  (repeat' split) <;> first | rfl | simp

@[simp] theorem leavePlace_fenceState (p : Place) (s : State) : (leavePlace p s).fenceState = s.fenceState := by
  dsimp only [leavePlace]
  (repeat' split) <;> first | rfl | simp

@[simp] theorem replaceHead_stc (p : Place) (f : TxFrame) (s : State) : (replaceHead p f s).stc = s.stc := by
  dsimp only [replaceHead]
  (repeat' split) <;> first | rfl | simp

@[simp] theorem replaceHead_jtb (p : Place) (f : TxFrame) (s : State) : (replaceHead p f s).jtb = s.jtb := by
  dsimp only [replaceHead]
  (repeat' split) <;> first | rfl | simp

@[simp] theorem replaceHead_rvu (p : Place) (f : TxFrame) (s : State) : (replaceHead p f s).rvu = s.rvu := by
  dsimp only [replaceHead]
  (repeat' split) <;> first | rfl | simp

@[simp] theorem replaceHead_scu (p : Place) (f : TxFrame) (s : State) : (replaceHead p f s).scu = s.scu := by
  dsimp only [replaceHead]
  (repeat' split) <;> first | rfl | simp

@[simp] theorem replaceHead_msq (p : Place) (f : TxFrame) (s : State) : (replaceHead p f s).msq = s.msq := by
  dsimp only [replaceHead]
  (repeat' split) <;> first | rfl | simp

@[simp] theorem replaceHead_meu (p : Place) (f : TxFrame) (s : State) : (replaceHead p f s).meu = s.meu := by
  dsimp only [replaceHead]
  (repeat' split) <;> first | rfl | simp

@[simp] theorem replaceHead_flu (p : Place) (f : TxFrame) (s : State) : (replaceHead p f s).flu = s.flu := by
  dsimp only [replaceHead]
  (repeat' split) <;> first | rfl | simp

@[simp] theorem replaceHead_outer (p : Place) (f : TxFrame) (s : State) : (replaceHead p f s).outer = s.outer := by
  dsimp only [replaceHead]
  (repeat' split) <;> first | rfl | simp

@[simp] theorem replaceHead_log (p : Place) (f : TxFrame) (s : State) : (replaceHead p f s).log = s.log := by
  dsimp only [replaceHead]
  (repeat' split) <;> first | rfl | simp

@[simp] theorem replaceHead_identity (p : Place) (f : TxFrame) (s : State) : (replaceHead p f s).identity = s.identity := by
  dsimp only [replaceHead]
  (repeat' split) <;> first | rfl | simp

@[simp] theorem replaceHead_rosters (p : Place) (f : TxFrame) (s : State) : (replaceHead p f s).rosters = s.rosters := by
  dsimp only [replaceHead]
  (repeat' split) <;> first | rfl | simp

@[simp] theorem replaceHead_space (p : Place) (f : TxFrame) (s : State) : (replaceHead p f s).space = s.space := by
  dsimp only [replaceHead]
  (repeat' split) <;> first | rfl | simp

@[simp] theorem replaceHead_claimState (p : Place) (f : TxFrame) (s : State) : (replaceHead p f s).claimState = s.claimState := by
  dsimp only [replaceHead]
  (repeat' split) <;> first | rfl | simp

@[simp] theorem replaceHead_driveState (p : Place) (f : TxFrame) (s : State) : (replaceHead p f s).driveState = s.driveState := by
  dsimp only [replaceHead]
  (repeat' split) <;> first | rfl | simp

@[simp] theorem replaceHead_faultState (p : Place) (f : TxFrame) (s : State) : (replaceHead p f s).faultState = s.faultState := by
  dsimp only [replaceHead]
  (repeat' split) <;> first | rfl | simp

@[simp] theorem replaceHead_fenceState (p : Place) (f : TxFrame) (s : State) : (replaceHead p f s).fenceState = s.fenceState := by
  dsimp only [replaceHead]
  (repeat' split) <;> first | rfl | simp

@[simp] theorem enterReplacement_stc (p : Place) (f : TxFrame) (s : State) : (enterReplacement p f s).stc = s.stc := by
  dsimp only [enterReplacement]
  (repeat' split) <;> first | rfl | simp

@[simp] theorem enterReplacement_jtb (p : Place) (f : TxFrame) (s : State) : (enterReplacement p f s).jtb = s.jtb := by
  dsimp only [enterReplacement]
  (repeat' split) <;> first | rfl | simp

@[simp] theorem enterReplacement_rvu (p : Place) (f : TxFrame) (s : State) : (enterReplacement p f s).rvu = s.rvu := by
  dsimp only [enterReplacement]
  (repeat' split) <;> first | rfl | simp

@[simp] theorem enterReplacement_scu (p : Place) (f : TxFrame) (s : State) : (enterReplacement p f s).scu = s.scu := by
  dsimp only [enterReplacement]
  (repeat' split) <;> first | rfl | simp

@[simp] theorem enterReplacement_msq (p : Place) (f : TxFrame) (s : State) : (enterReplacement p f s).msq = s.msq := by
  dsimp only [enterReplacement]
  (repeat' split) <;> first | rfl | simp

@[simp] theorem enterReplacement_meu (p : Place) (f : TxFrame) (s : State) : (enterReplacement p f s).meu = s.meu := by
  dsimp only [enterReplacement]
  (repeat' split) <;> first | rfl | simp

@[simp] theorem enterReplacement_flu (p : Place) (f : TxFrame) (s : State) : (enterReplacement p f s).flu = s.flu := by
  dsimp only [enterReplacement]
  (repeat' split) <;> first | rfl | simp

@[simp] theorem enterReplacement_outer (p : Place) (f : TxFrame) (s : State) : (enterReplacement p f s).outer = s.outer := by
  dsimp only [enterReplacement]
  (repeat' split) <;> first | rfl | simp

@[simp] theorem enterReplacement_log (p : Place) (f : TxFrame) (s : State) : (enterReplacement p f s).log = s.log := by
  dsimp only [enterReplacement]
  (repeat' split) <;> first | rfl | simp

@[simp] theorem enterReplacement_identity (p : Place) (f : TxFrame) (s : State) : (enterReplacement p f s).identity = s.identity := by
  dsimp only [enterReplacement]
  (repeat' split) <;> first | rfl | simp

@[simp] theorem enterReplacement_rosters (p : Place) (f : TxFrame) (s : State) : (enterReplacement p f s).rosters = s.rosters := by
  dsimp only [enterReplacement]
  (repeat' split) <;> first | rfl | simp

@[simp] theorem enterReplacement_space (p : Place) (f : TxFrame) (s : State) : (enterReplacement p f s).space = s.space := by
  dsimp only [enterReplacement]
  (repeat' split) <;> first | rfl | simp

@[simp] theorem enterReplacement_claimState (p : Place) (f : TxFrame) (s : State) : (enterReplacement p f s).claimState = s.claimState := by
  dsimp only [enterReplacement]
  (repeat' split) <;> first | rfl | simp

@[simp] theorem enterReplacement_driveState (p : Place) (f : TxFrame) (s : State) : (enterReplacement p f s).driveState = s.driveState := by
  dsimp only [enterReplacement]
  (repeat' split) <;> first | rfl | simp

@[simp] theorem enterReplacement_faultState (p : Place) (f : TxFrame) (s : State) : (enterReplacement p f s).faultState = s.faultState := by
  dsimp only [enterReplacement]
  (repeat' split) <;> first | rfl | simp

@[simp] theorem enterReplacement_fenceState (p : Place) (f : TxFrame) (s : State) : (enterReplacement p f s).fenceState = s.fenceState := by
  dsimp only [enterReplacement]
  (repeat' split) <;> first | rfl | simp

@[simp] theorem logCorrected_stc (position : Nat) (kind : Nat) (source : Nat) (syndrome : Nat) (s : State) : (logCorrected position kind source syndrome s).stc = s.stc := by
  dsimp only [logCorrected]
  (repeat' split) <;> first | rfl | simp

@[simp] theorem logCorrected_jtb (position : Nat) (kind : Nat) (source : Nat) (syndrome : Nat) (s : State) : (logCorrected position kind source syndrome s).jtb = s.jtb := by
  dsimp only [logCorrected]
  (repeat' split) <;> first | rfl | simp

@[simp] theorem logCorrected_rvu (position : Nat) (kind : Nat) (source : Nat) (syndrome : Nat) (s : State) : (logCorrected position kind source syndrome s).rvu = s.rvu := by
  dsimp only [logCorrected]
  (repeat' split) <;> first | rfl | simp

@[simp] theorem logCorrected_scu (position : Nat) (kind : Nat) (source : Nat) (syndrome : Nat) (s : State) : (logCorrected position kind source syndrome s).scu = s.scu := by
  dsimp only [logCorrected]
  (repeat' split) <;> first | rfl | simp

@[simp] theorem logCorrected_msq (position : Nat) (kind : Nat) (source : Nat) (syndrome : Nat) (s : State) : (logCorrected position kind source syndrome s).msq = s.msq := by
  dsimp only [logCorrected]
  (repeat' split) <;> first | rfl | simp

@[simp] theorem logCorrected_meu (position : Nat) (kind : Nat) (source : Nat) (syndrome : Nat) (s : State) : (logCorrected position kind source syndrome s).meu = s.meu := by
  dsimp only [logCorrected]
  (repeat' split) <;> first | rfl | simp

@[simp] theorem logCorrected_flu (position : Nat) (kind : Nat) (source : Nat) (syndrome : Nat) (s : State) : (logCorrected position kind source syndrome s).flu = s.flu := by
  dsimp only [logCorrected]
  (repeat' split) <;> first | rfl | simp

@[simp] theorem logCorrected_outer (position : Nat) (kind : Nat) (source : Nat) (syndrome : Nat) (s : State) : (logCorrected position kind source syndrome s).outer = s.outer := by
  dsimp only [logCorrected]
  (repeat' split) <;> first | rfl | simp

@[simp] theorem logCorrected_identity (position : Nat) (kind : Nat) (source : Nat) (syndrome : Nat) (s : State) : (logCorrected position kind source syndrome s).identity = s.identity := by
  dsimp only [logCorrected]
  (repeat' split) <;> first | rfl | simp

@[simp] theorem logCorrected_rosters (position : Nat) (kind : Nat) (source : Nat) (syndrome : Nat) (s : State) : (logCorrected position kind source syndrome s).rosters = s.rosters := by
  dsimp only [logCorrected]
  (repeat' split) <;> first | rfl | simp

@[simp] theorem logCorrected_space (position : Nat) (kind : Nat) (source : Nat) (syndrome : Nat) (s : State) : (logCorrected position kind source syndrome s).space = s.space := by
  dsimp only [logCorrected]
  (repeat' split) <;> first | rfl | simp

@[simp] theorem logCorrected_claimState (position : Nat) (kind : Nat) (source : Nat) (syndrome : Nat) (s : State) : (logCorrected position kind source syndrome s).claimState = s.claimState := by
  dsimp only [logCorrected]
  (repeat' split) <;> first | rfl | simp

@[simp] theorem logCorrected_driveState (position : Nat) (kind : Nat) (source : Nat) (syndrome : Nat) (s : State) : (logCorrected position kind source syndrome s).driveState = s.driveState := by
  dsimp only [logCorrected]
  (repeat' split) <;> first | rfl | simp

@[simp] theorem logCorrected_faultState (position : Nat) (kind : Nat) (source : Nat) (syndrome : Nat) (s : State) : (logCorrected position kind source syndrome s).faultState = s.faultState := by
  dsimp only [logCorrected]
  (repeat' split) <;> first | rfl | simp

@[simp] theorem logCorrected_fenceState (position : Nat) (kind : Nat) (source : Nat) (syndrome : Nat) (s : State) : (logCorrected position kind source syndrome s).fenceState = s.fenceState := by
  dsimp only [logCorrected]
  (repeat' split) <;> first | rfl | simp

@[simp] theorem decodeInto_stc (kind : Nat) (source : Nat) (position : Nat) (w : CodedWord) (s : State) : (decodeInto kind source position w s).stc = s.stc := by
  dsimp only [decodeInto]
  (repeat' split) <;> first | rfl | simp

@[simp] theorem decodeInto_jtb (kind : Nat) (source : Nat) (position : Nat) (w : CodedWord) (s : State) : (decodeInto kind source position w s).jtb = s.jtb := by
  dsimp only [decodeInto]
  (repeat' split) <;> first | rfl | simp

@[simp] theorem decodeInto_rvu (kind : Nat) (source : Nat) (position : Nat) (w : CodedWord) (s : State) : (decodeInto kind source position w s).rvu = s.rvu := by
  dsimp only [decodeInto]
  (repeat' split) <;> first | rfl | simp

@[simp] theorem decodeInto_scu (kind : Nat) (source : Nat) (position : Nat) (w : CodedWord) (s : State) : (decodeInto kind source position w s).scu = s.scu := by
  dsimp only [decodeInto]
  (repeat' split) <;> first | rfl | simp

@[simp] theorem decodeInto_msq (kind : Nat) (source : Nat) (position : Nat) (w : CodedWord) (s : State) : (decodeInto kind source position w s).msq = s.msq := by
  dsimp only [decodeInto]
  (repeat' split) <;> first | rfl | simp

@[simp] theorem decodeInto_meu (kind : Nat) (source : Nat) (position : Nat) (w : CodedWord) (s : State) : (decodeInto kind source position w s).meu = s.meu := by
  dsimp only [decodeInto]
  (repeat' split) <;> first | rfl | simp

@[simp] theorem decodeInto_flu (kind : Nat) (source : Nat) (position : Nat) (w : CodedWord) (s : State) : (decodeInto kind source position w s).flu = s.flu := by
  dsimp only [decodeInto]
  (repeat' split) <;> first | rfl | simp

@[simp] theorem decodeInto_outer (kind : Nat) (source : Nat) (position : Nat) (w : CodedWord) (s : State) : (decodeInto kind source position w s).outer = s.outer := by
  dsimp only [decodeInto]
  (repeat' split) <;> first | rfl | simp

@[simp] theorem decodeInto_identity (kind : Nat) (source : Nat) (position : Nat) (w : CodedWord) (s : State) : (decodeInto kind source position w s).identity = s.identity := by
  dsimp only [decodeInto]
  (repeat' split) <;> first | rfl | simp

@[simp] theorem decodeInto_rosters (kind : Nat) (source : Nat) (position : Nat) (w : CodedWord) (s : State) : (decodeInto kind source position w s).rosters = s.rosters := by
  dsimp only [decodeInto]
  (repeat' split) <;> first | rfl | simp

@[simp] theorem decodeInto_space (kind : Nat) (source : Nat) (position : Nat) (w : CodedWord) (s : State) : (decodeInto kind source position w s).space = s.space := by
  dsimp only [decodeInto]
  (repeat' split) <;> first | rfl | simp

@[simp] theorem decodeInto_claimState (kind : Nat) (source : Nat) (position : Nat) (w : CodedWord) (s : State) : (decodeInto kind source position w s).claimState = s.claimState := by
  dsimp only [decodeInto]
  (repeat' split) <;> first | rfl | simp

@[simp] theorem decodeInto_driveState (kind : Nat) (source : Nat) (position : Nat) (w : CodedWord) (s : State) : (decodeInto kind source position w s).driveState = s.driveState := by
  dsimp only [decodeInto]
  (repeat' split) <;> first | rfl | simp

@[simp] theorem decodeInto_faultState (kind : Nat) (source : Nat) (position : Nat) (w : CodedWord) (s : State) : (decodeInto kind source position w s).faultState = s.faultState := by
  dsimp only [decodeInto]
  (repeat' split) <;> first | rfl | simp

@[simp] theorem decodeInto_fenceState (kind : Nat) (source : Nat) (position : Nat) (w : CodedWord) (s : State) : (decodeInto kind source position w s).fenceState = s.fenceState := by
  dsimp only [decodeInto]
  (repeat' split) <;> first | rfl | simp

@[simp] theorem logErrors_stc (k : Kind) (f : RxFrame) (s : State) : (logErrors k f s).stc = s.stc := foldl_view (·.stc) (fun t a => by simp) _

@[simp] theorem logErrors_jtb (k : Kind) (f : RxFrame) (s : State) : (logErrors k f s).jtb = s.jtb := foldl_view (·.jtb) (fun t a => by simp) _

@[simp] theorem logErrors_rvu (k : Kind) (f : RxFrame) (s : State) : (logErrors k f s).rvu = s.rvu := foldl_view (·.rvu) (fun t a => by simp) _

@[simp] theorem logErrors_scu (k : Kind) (f : RxFrame) (s : State) : (logErrors k f s).scu = s.scu := foldl_view (·.scu) (fun t a => by simp) _

@[simp] theorem logErrors_msq (k : Kind) (f : RxFrame) (s : State) : (logErrors k f s).msq = s.msq := foldl_view (·.msq) (fun t a => by simp) _

@[simp] theorem logErrors_meu (k : Kind) (f : RxFrame) (s : State) : (logErrors k f s).meu = s.meu := foldl_view (·.meu) (fun t a => by simp) _

@[simp] theorem logErrors_flu (k : Kind) (f : RxFrame) (s : State) : (logErrors k f s).flu = s.flu := foldl_view (·.flu) (fun t a => by simp) _

@[simp] theorem logErrors_outer (k : Kind) (f : RxFrame) (s : State) : (logErrors k f s).outer = s.outer := foldl_view (·.outer) (fun t a => by simp) _

@[simp] theorem logErrors_identity (k : Kind) (f : RxFrame) (s : State) : (logErrors k f s).identity = s.identity := foldl_view (·.identity) (fun t a => by simp) _

@[simp] theorem logErrors_rosters (k : Kind) (f : RxFrame) (s : State) : (logErrors k f s).rosters = s.rosters := foldl_view (·.rosters) (fun t a => by simp) _

@[simp] theorem logErrors_space (k : Kind) (f : RxFrame) (s : State) : (logErrors k f s).space = s.space := foldl_view (·.space) (fun t a => by simp) _

@[simp] theorem logErrors_claimState (k : Kind) (f : RxFrame) (s : State) : (logErrors k f s).claimState = s.claimState := foldl_view (·.claimState) (fun t a => by simp) _

@[simp] theorem logErrors_driveState (k : Kind) (f : RxFrame) (s : State) : (logErrors k f s).driveState = s.driveState := foldl_view (·.driveState) (fun t a => by simp) _

@[simp] theorem logErrors_faultState (k : Kind) (f : RxFrame) (s : State) : (logErrors k f s).faultState = s.faultState := foldl_view (·.faultState) (fun t a => by simp) _

@[simp] theorem logErrors_fenceState (k : Kind) (f : RxFrame) (s : State) : (logErrors k f s).fenceState = s.fenceState := foldl_view (·.fenceState) (fun t a => by simp) _

@[simp] theorem decodeFollowing_stc (kind source i : Nat) (ws : List CodedWord) (s : State) : (decodeFollowing kind source i ws s).stc = s.stc := by
  induction ws generalizing i s with
  | nil => rfl
  | cons w ws ih => simp only [decodeFollowing]; split <;> simp [ih]

@[simp] theorem decodeFollowing_jtb (kind source i : Nat) (ws : List CodedWord) (s : State) : (decodeFollowing kind source i ws s).jtb = s.jtb := by
  induction ws generalizing i s with
  | nil => rfl
  | cons w ws ih => simp only [decodeFollowing]; split <;> simp [ih]

@[simp] theorem decodeFollowing_rvu (kind source i : Nat) (ws : List CodedWord) (s : State) : (decodeFollowing kind source i ws s).rvu = s.rvu := by
  induction ws generalizing i s with
  | nil => rfl
  | cons w ws ih => simp only [decodeFollowing]; split <;> simp [ih]

@[simp] theorem decodeFollowing_scu (kind source i : Nat) (ws : List CodedWord) (s : State) : (decodeFollowing kind source i ws s).scu = s.scu := by
  induction ws generalizing i s with
  | nil => rfl
  | cons w ws ih => simp only [decodeFollowing]; split <;> simp [ih]

@[simp] theorem decodeFollowing_msq (kind source i : Nat) (ws : List CodedWord) (s : State) : (decodeFollowing kind source i ws s).msq = s.msq := by
  induction ws generalizing i s with
  | nil => rfl
  | cons w ws ih => simp only [decodeFollowing]; split <;> simp [ih]

@[simp] theorem decodeFollowing_meu (kind source i : Nat) (ws : List CodedWord) (s : State) : (decodeFollowing kind source i ws s).meu = s.meu := by
  induction ws generalizing i s with
  | nil => rfl
  | cons w ws ih => simp only [decodeFollowing]; split <;> simp [ih]

@[simp] theorem decodeFollowing_flu (kind source i : Nat) (ws : List CodedWord) (s : State) : (decodeFollowing kind source i ws s).flu = s.flu := by
  induction ws generalizing i s with
  | nil => rfl
  | cons w ws ih => simp only [decodeFollowing]; split <;> simp [ih]

@[simp] theorem decodeFollowing_outer (kind source i : Nat) (ws : List CodedWord) (s : State) : (decodeFollowing kind source i ws s).outer = s.outer := by
  induction ws generalizing i s with
  | nil => rfl
  | cons w ws ih => simp only [decodeFollowing]; split <;> simp [ih]

@[simp] theorem decodeFollowing_identity (kind source i : Nat) (ws : List CodedWord) (s : State) : (decodeFollowing kind source i ws s).identity = s.identity := by
  induction ws generalizing i s with
  | nil => rfl
  | cons w ws ih => simp only [decodeFollowing]; split <;> simp [ih]

@[simp] theorem decodeFollowing_rosters (kind source i : Nat) (ws : List CodedWord) (s : State) : (decodeFollowing kind source i ws s).rosters = s.rosters := by
  induction ws generalizing i s with
  | nil => rfl
  | cons w ws ih => simp only [decodeFollowing]; split <;> simp [ih]

@[simp] theorem decodeFollowing_space (kind source i : Nat) (ws : List CodedWord) (s : State) : (decodeFollowing kind source i ws s).space = s.space := by
  induction ws generalizing i s with
  | nil => rfl
  | cons w ws ih => simp only [decodeFollowing]; split <;> simp [ih]

@[simp] theorem decodeFollowing_claimState (kind source i : Nat) (ws : List CodedWord) (s : State) : (decodeFollowing kind source i ws s).claimState = s.claimState := by
  induction ws generalizing i s with
  | nil => rfl
  | cons w ws ih => simp only [decodeFollowing]; split <;> simp [ih]

@[simp] theorem decodeFollowing_driveState (kind source i : Nat) (ws : List CodedWord) (s : State) : (decodeFollowing kind source i ws s).driveState = s.driveState := by
  induction ws generalizing i s with
  | nil => rfl
  | cons w ws ih => simp only [decodeFollowing]; split <;> simp [ih]

@[simp] theorem decodeFollowing_faultState (kind source i : Nat) (ws : List CodedWord) (s : State) : (decodeFollowing kind source i ws s).faultState = s.faultState := by
  induction ws generalizing i s with
  | nil => rfl
  | cons w ws ih => simp only [decodeFollowing]; split <;> simp [ih]

@[simp] theorem decodeFollowing_fenceState (kind source i : Nat) (ws : List CodedWord) (s : State) : (decodeFollowing kind source i ws s).fenceState = s.fenceState := by
  induction ws generalizing i s with
  | nil => rfl
  | cons w ws ih => simp only [decodeFollowing]; split <;> simp [ih]

@[simp] theorem decodeWords_stc (ws : List CodedWord) (s : State) : (decodeWords ws s).stc = s.stc := by
  dsimp only [decodeWords]
  (repeat' split) <;> first | rfl | simp

@[simp] theorem decodeWords_jtb (ws : List CodedWord) (s : State) : (decodeWords ws s).jtb = s.jtb := by
  dsimp only [decodeWords]
  (repeat' split) <;> first | rfl | simp

@[simp] theorem decodeWords_rvu (ws : List CodedWord) (s : State) : (decodeWords ws s).rvu = s.rvu := by
  dsimp only [decodeWords]
  (repeat' split) <;> first | rfl | simp

@[simp] theorem decodeWords_scu (ws : List CodedWord) (s : State) : (decodeWords ws s).scu = s.scu := by
  dsimp only [decodeWords]
  (repeat' split) <;> first | rfl | simp

@[simp] theorem decodeWords_msq (ws : List CodedWord) (s : State) : (decodeWords ws s).msq = s.msq := by
  dsimp only [decodeWords]
  (repeat' split) <;> first | rfl | simp

@[simp] theorem decodeWords_meu (ws : List CodedWord) (s : State) : (decodeWords ws s).meu = s.meu := by
  dsimp only [decodeWords]
  (repeat' split) <;> first | rfl | simp

@[simp] theorem decodeWords_flu (ws : List CodedWord) (s : State) : (decodeWords ws s).flu = s.flu := by
  dsimp only [decodeWords]
  (repeat' split) <;> first | rfl | simp

@[simp] theorem decodeWords_outer (ws : List CodedWord) (s : State) : (decodeWords ws s).outer = s.outer := by
  dsimp only [decodeWords]
  (repeat' split) <;> first | rfl | simp

@[simp] theorem decodeWords_identity (ws : List CodedWord) (s : State) : (decodeWords ws s).identity = s.identity := by
  dsimp only [decodeWords]
  (repeat' split) <;> first | rfl | simp

@[simp] theorem decodeWords_rosters (ws : List CodedWord) (s : State) : (decodeWords ws s).rosters = s.rosters := by
  dsimp only [decodeWords]
  (repeat' split) <;> first | rfl | simp

@[simp] theorem decodeWords_space (ws : List CodedWord) (s : State) : (decodeWords ws s).space = s.space := by
  dsimp only [decodeWords]
  (repeat' split) <;> first | rfl | simp

@[simp] theorem decodeWords_claimState (ws : List CodedWord) (s : State) : (decodeWords ws s).claimState = s.claimState := by
  dsimp only [decodeWords]
  (repeat' split) <;> first | rfl | simp

@[simp] theorem decodeWords_driveState (ws : List CodedWord) (s : State) : (decodeWords ws s).driveState = s.driveState := by
  dsimp only [decodeWords]
  (repeat' split) <;> first | rfl | simp

@[simp] theorem decodeWords_faultState (ws : List CodedWord) (s : State) : (decodeWords ws s).faultState = s.faultState := by
  dsimp only [decodeWords]
  (repeat' split) <;> first | rfl | simp

@[simp] theorem decodeWords_fenceState (ws : List CodedWord) (s : State) : (decodeWords ws s).fenceState = s.fenceState := by
  dsimp only [decodeWords]
  (repeat' split) <;> first | rfl | simp

end Sys2Proof.Machine
end

