-- ==== Sys2Proof/Laws/Head.lean ====
section
/-! SUPPORT. What the operations of Machine/Head.lean leave alone: one lemma for each block and each view of the state that an
operation does not touch. -/

namespace Sys2Proof.Machine

open Sys2Proof

variable {s : State}

@[simp] theorem recordFault_lif (code : Nat) (s : State) : (recordFault code s).lif = s.lif := by
  dsimp only [recordFault]
  (repeat' split) <;> first | rfl | simp

@[simp] theorem recordFault_stc (code : Nat) (s : State) : (recordFault code s).stc = s.stc := by
  dsimp only [recordFault]
  (repeat' split) <;> first | rfl | simp

@[simp] theorem recordFault_jtb (code : Nat) (s : State) : (recordFault code s).jtb = s.jtb := by
  dsimp only [recordFault]
  (repeat' split) <;> first | rfl | simp

@[simp] theorem recordFault_rvu (code : Nat) (s : State) : (recordFault code s).rvu = s.rvu := by
  dsimp only [recordFault]
  (repeat' split) <;> first | rfl | simp

@[simp] theorem recordFault_scu (code : Nat) (s : State) : (recordFault code s).scu = s.scu := by
  dsimp only [recordFault]
  (repeat' split) <;> first | rfl | simp

@[simp] theorem recordFault_msq (code : Nat) (s : State) : (recordFault code s).msq = s.msq := by
  dsimp only [recordFault]
  (repeat' split) <;> first | rfl | simp

@[simp] theorem recordFault_meu (code : Nat) (s : State) : (recordFault code s).meu = s.meu := by
  dsimp only [recordFault]
  (repeat' split) <;> first | rfl | simp

@[simp] theorem recordFault_outer (code : Nat) (s : State) : (recordFault code s).outer = s.outer := by
  dsimp only [recordFault]
  (repeat' split) <;> first | rfl | simp

@[simp] theorem recordFault_log (code : Nat) (s : State) : (recordFault code s).log = s.log := by
  dsimp only [recordFault]
  (repeat' split) <;> first | rfl | simp

@[simp] theorem recordFault_identity (code : Nat) (s : State) : (recordFault code s).identity = s.identity := by
  dsimp only [recordFault]
  (repeat' split) <;> first | rfl | simp

@[simp] theorem recordFault_rosters (code : Nat) (s : State) : (recordFault code s).rosters = s.rosters := by
  dsimp only [recordFault]
  (repeat' split) <;> first | rfl | simp

@[simp] theorem recordFault_space (code : Nat) (s : State) : (recordFault code s).space = s.space := by
  dsimp only [recordFault]
  (repeat' split) <;> first | rfl | simp

@[simp] theorem recordFault_claimState (code : Nat) (s : State) : (recordFault code s).claimState = s.claimState := by
  dsimp only [recordFault]
  (repeat' split) <;> first | rfl | simp

@[simp] theorem recordFault_driveState (code : Nat) (s : State) : (recordFault code s).driveState = s.driveState := by
  dsimp only [recordFault]
  (repeat' split) <;> first | rfl | simp

@[simp] theorem recordFault_fenceState (code : Nat) (s : State) : (recordFault code s).fenceState = s.fenceState := by
  dsimp only [recordFault]
  (repeat' split) <;> first | rfl | simp

@[simp] theorem meuAbort_lif (s : State) : (meuAbort s).lif = s.lif := by
  dsimp only [meuAbort]
  (repeat' split) <;> first | rfl | simp

@[simp] theorem meuAbort_stc (s : State) : (meuAbort s).stc = s.stc := by
  dsimp only [meuAbort]
  (repeat' split) <;> first | rfl | simp

@[simp] theorem meuAbort_jtb (s : State) : (meuAbort s).jtb = s.jtb := by
  dsimp only [meuAbort]
  (repeat' split) <;> first | rfl | simp

@[simp] theorem meuAbort_scu (s : State) : (meuAbort s).scu = s.scu := by
  dsimp only [meuAbort]
  (repeat' split) <;> first | rfl | simp

@[simp] theorem meuAbort_msq (s : State) : (meuAbort s).msq = s.msq := by
  dsimp only [meuAbort]
  (repeat' split) <;> first | rfl | simp

@[simp] theorem meuAbort_flu (s : State) : (meuAbort s).flu = s.flu := by
  dsimp only [meuAbort]
  (repeat' split) <;> first | rfl | simp

@[simp] theorem meuAbort_outer (s : State) : (meuAbort s).outer = s.outer := by
  dsimp only [meuAbort]
  (repeat' split) <;> first | rfl | simp

@[simp] theorem meuAbort_log (s : State) : (meuAbort s).log = s.log := by
  dsimp only [meuAbort]
  (repeat' split) <;> first | rfl | simp

@[simp] theorem meuAbort_identity (s : State) : (meuAbort s).identity = s.identity := by
  dsimp only [meuAbort]
  (repeat' split) <;> first | rfl | simp

@[simp] theorem meuAbort_rosters (s : State) : (meuAbort s).rosters = s.rosters := by
  dsimp only [meuAbort]
  (repeat' split) <;> first | rfl | simp

@[simp] theorem meuAbort_space (s : State) : (meuAbort s).space = s.space := by
  dsimp only [meuAbort]
  (repeat' split) <;> first | rfl | simp

@[simp] theorem meuAbort_claimState (s : State) : (meuAbort s).claimState = s.claimState := by
  dsimp only [meuAbort]
  (repeat' split) <;> first | rfl | simp

@[simp] theorem meuAbort_driveState (s : State) : (meuAbort s).driveState = s.driveState := by
  dsimp only [meuAbort]
  (repeat' split) <;> first | rfl | simp

@[simp] theorem meuAbort_faultState (s : State) : (meuAbort s).faultState = s.faultState := by
  dsimp only [meuAbort]
  (repeat' split) <;> first | rfl | simp

@[simp] theorem meuAbort_fenceState (s : State) : (meuAbort s).fenceState = s.fenceState := by
  dsimp only [meuAbort]
  (repeat' split) <;> first | rfl | simp

@[simp] theorem endMember_stc (job : Nat) (s : State) : (endMember job s).stc = s.stc := by
  dsimp only [endMember]
  (repeat' split) <;> first | rfl | simp

@[simp] theorem endMember_jtb (job : Nat) (s : State) : (endMember job s).jtb = s.jtb := by
  dsimp only [endMember]
  (repeat' split) <;> first | rfl | simp

@[simp] theorem endMember_scu (job : Nat) (s : State) : (endMember job s).scu = s.scu := by
  dsimp only [endMember]
  (repeat' split) <;> first | rfl | simp

@[simp] theorem endMember_msq (job : Nat) (s : State) : (endMember job s).msq = s.msq := by
  dsimp only [endMember]
  (repeat' split) <;> first | rfl | simp

@[simp] theorem endMember_meu (job : Nat) (s : State) : (endMember job s).meu = s.meu := by
  dsimp only [endMember]
  (repeat' split) <;> first | rfl | simp

@[simp] theorem endMember_flu (job : Nat) (s : State) : (endMember job s).flu = s.flu := by
  dsimp only [endMember]
  (repeat' split) <;> first | rfl | simp

@[simp] theorem endMember_outer (job : Nat) (s : State) : (endMember job s).outer = s.outer := by
  dsimp only [endMember]
  (repeat' split) <;> first | rfl | simp

@[simp] theorem endMember_log (job : Nat) (s : State) : (endMember job s).log = s.log := by
  dsimp only [endMember]
  (repeat' split) <;> first | rfl | simp

@[simp] theorem endMember_identity (job : Nat) (s : State) : (endMember job s).identity = s.identity := by
  dsimp only [endMember]
  (repeat' split) <;> first | rfl | simp

@[simp] theorem endMember_rosters (job : Nat) (s : State) : (endMember job s).rosters = s.rosters := by
  dsimp only [endMember]
  (repeat' split) <;> first | rfl | simp

@[simp] theorem endMember_space (job : Nat) (s : State) : (endMember job s).space = s.space := by
  dsimp only [endMember]
  (repeat' split) <;> first | rfl | simp

@[simp] theorem endMember_claimState (job : Nat) (s : State) : (endMember job s).claimState = s.claimState := by
  dsimp only [endMember]
  (repeat' split) <;> first | rfl | simp

@[simp] theorem endMember_driveState (job : Nat) (s : State) : (endMember job s).driveState = s.driveState := by
  dsimp only [endMember]
  (repeat' split) <;> first | rfl | simp

@[simp] theorem endMember_faultState (job : Nat) (s : State) : (endMember job s).faultState = s.faultState := by
  dsimp only [endMember]
  (repeat' split) <;> first | rfl | simp

@[simp] theorem endMember_fenceState (job : Nat) (s : State) : (endMember job s).fenceState = s.fenceState := by
  dsimp only [endMember]
  (repeat' split) <;> first | rfl | simp

@[simp] theorem releaseReadings_stc (s : State) : (releaseReadings s).stc = s.stc := by
  dsimp only [releaseReadings]
  (repeat' split) <;> first | rfl | simp

@[simp] theorem releaseReadings_jtb (s : State) : (releaseReadings s).jtb = s.jtb := by
  dsimp only [releaseReadings]
  (repeat' split) <;> first | rfl | simp

@[simp] theorem releaseReadings_rvu (s : State) : (releaseReadings s).rvu = s.rvu := by
  dsimp only [releaseReadings]
  (repeat' split) <;> first | rfl | simp

@[simp] theorem releaseReadings_scu (s : State) : (releaseReadings s).scu = s.scu := by
  dsimp only [releaseReadings]
  (repeat' split) <;> first | rfl | simp

@[simp] theorem releaseReadings_msq (s : State) : (releaseReadings s).msq = s.msq := by
  dsimp only [releaseReadings]
  (repeat' split) <;> first | rfl | simp

@[simp] theorem releaseReadings_meu (s : State) : (releaseReadings s).meu = s.meu := by
  dsimp only [releaseReadings]
  (repeat' split) <;> first | rfl | simp

@[simp] theorem releaseReadings_flu (s : State) : (releaseReadings s).flu = s.flu := by
  dsimp only [releaseReadings]
  (repeat' split) <;> first | rfl | simp

@[simp] theorem releaseReadings_outer (s : State) : (releaseReadings s).outer = s.outer := by
  dsimp only [releaseReadings]
  (repeat' split) <;> first | rfl | simp

@[simp] theorem releaseReadings_log (s : State) : (releaseReadings s).log = s.log := by
  dsimp only [releaseReadings]
  (repeat' split) <;> first | rfl | simp

@[simp] theorem releaseReadings_identity (s : State) : (releaseReadings s).identity = s.identity := by
  dsimp only [releaseReadings]
  (repeat' split) <;> first | rfl | simp

@[simp] theorem releaseReadings_rosters (s : State) : (releaseReadings s).rosters = s.rosters := by
  dsimp only [releaseReadings]
  (repeat' split) <;> first | rfl | simp

@[simp] theorem releaseReadings_space (s : State) : (releaseReadings s).space = s.space := by
  dsimp only [releaseReadings]
  (repeat' split) <;> first | rfl | simp

@[simp] theorem releaseReadings_claimState (s : State) : (releaseReadings s).claimState = s.claimState := by
  dsimp only [releaseReadings]
  (repeat' split) <;> first | rfl | simp

@[simp] theorem releaseReadings_driveState (s : State) : (releaseReadings s).driveState = s.driveState := by
  dsimp only [releaseReadings]
  (repeat' split) <;> first | rfl | simp

@[simp] theorem releaseReadings_faultState (s : State) : (releaseReadings s).faultState = s.faultState := by
  dsimp only [releaseReadings]
  (repeat' split) <;> first | rfl | simp

@[simp] theorem releaseReadings_fenceState (s : State) : (releaseReadings s).fenceState = s.fenceState := by
  dsimp only [releaseReadings]
  (repeat' split) <;> first | rfl | simp

@[simp] theorem endMembers_stc (s : State) : (endMembers s).stc = s.stc := by
  dsimp only [endMembers]
  (repeat' split) <;> first | rfl | simp

@[simp] theorem endMembers_jtb (s : State) : (endMembers s).jtb = s.jtb := by
  dsimp only [endMembers]
  (repeat' split) <;> first | rfl | simp

@[simp] theorem endMembers_scu (s : State) : (endMembers s).scu = s.scu := by
  dsimp only [endMembers]
  (repeat' split) <;> first | rfl | simp

@[simp] theorem endMembers_msq (s : State) : (endMembers s).msq = s.msq := by
  dsimp only [endMembers]
  (repeat' split) <;> first | rfl | simp

@[simp] theorem endMembers_meu (s : State) : (endMembers s).meu = s.meu := by
  dsimp only [endMembers]
  (repeat' split) <;> first | rfl | simp

@[simp] theorem endMembers_flu (s : State) : (endMembers s).flu = s.flu := by
  dsimp only [endMembers]
  (repeat' split) <;> first | rfl | simp

@[simp] theorem endMembers_outer (s : State) : (endMembers s).outer = s.outer := by
  dsimp only [endMembers]
  (repeat' split) <;> first | rfl | simp

@[simp] theorem endMembers_log (s : State) : (endMembers s).log = s.log := by
  dsimp only [endMembers]
  (repeat' split) <;> first | rfl | simp

@[simp] theorem endMembers_identity (s : State) : (endMembers s).identity = s.identity := by
  dsimp only [endMembers]
  (repeat' split) <;> first | rfl | simp

@[simp] theorem endMembers_rosters (s : State) : (endMembers s).rosters = s.rosters := by
  dsimp only [endMembers]
  (repeat' split) <;> first | rfl | simp

@[simp] theorem endMembers_space (s : State) : (endMembers s).space = s.space := by
  dsimp only [endMembers]
  (repeat' split) <;> first | rfl | simp

@[simp] theorem endMembers_claimState (s : State) : (endMembers s).claimState = s.claimState := by
  dsimp only [endMembers]
  (repeat' split) <;> first | rfl | simp

@[simp] theorem endMembers_driveState (s : State) : (endMembers s).driveState = s.driveState := by
  dsimp only [endMembers]
  (repeat' split) <;> first | rfl | simp

@[simp] theorem endMembers_faultState (s : State) : (endMembers s).faultState = s.faultState := by
  dsimp only [endMembers]
  (repeat' split) <;> first | rfl | simp

@[simp] theorem endMembers_fenceState (s : State) : (endMembers s).fenceState = s.fenceState := by
  dsimp only [endMembers]
  (repeat' split) <;> first | rfl | simp

@[simp] theorem offerBeacon_stc (s : State) : (offerBeacon s).stc = s.stc := by
  dsimp only [offerBeacon]
  (repeat' split) <;> first | rfl | simp

@[simp] theorem offerBeacon_jtb (s : State) : (offerBeacon s).jtb = s.jtb := by
  dsimp only [offerBeacon]
  (repeat' split) <;> first | rfl | simp

@[simp] theorem offerBeacon_rvu (s : State) : (offerBeacon s).rvu = s.rvu := by
  dsimp only [offerBeacon]
  (repeat' split) <;> first | rfl | simp

@[simp] theorem offerBeacon_scu (s : State) : (offerBeacon s).scu = s.scu := by
  dsimp only [offerBeacon]
  (repeat' split) <;> first | rfl | simp

@[simp] theorem offerBeacon_msq (s : State) : (offerBeacon s).msq = s.msq := by
  dsimp only [offerBeacon]
  (repeat' split) <;> first | rfl | simp

@[simp] theorem offerBeacon_meu (s : State) : (offerBeacon s).meu = s.meu := by
  dsimp only [offerBeacon]
  (repeat' split) <;> first | rfl | simp

@[simp] theorem offerBeacon_flu (s : State) : (offerBeacon s).flu = s.flu := by
  dsimp only [offerBeacon]
  (repeat' split) <;> first | rfl | simp

@[simp] theorem offerBeacon_outer (s : State) : (offerBeacon s).outer = s.outer := by
  dsimp only [offerBeacon]
  (repeat' split) <;> first | rfl | simp

@[simp] theorem offerBeacon_log (s : State) : (offerBeacon s).log = s.log := by
  dsimp only [offerBeacon]
  (repeat' split) <;> first | rfl | simp

@[simp] theorem offerBeacon_identity (s : State) : (offerBeacon s).identity = s.identity := by
  dsimp only [offerBeacon]
  (repeat' split) <;> first | rfl | simp

@[simp] theorem offerBeacon_rosters (s : State) : (offerBeacon s).rosters = s.rosters := by
  dsimp only [offerBeacon]
  (repeat' split) <;> first | rfl | simp

@[simp] theorem offerBeacon_space (s : State) : (offerBeacon s).space = s.space := by
  dsimp only [offerBeacon]
  (repeat' split) <;> first | rfl | simp

@[simp] theorem offerBeacon_claimState (s : State) : (offerBeacon s).claimState = s.claimState := by
  dsimp only [offerBeacon]
  (repeat' split) <;> first | rfl | simp

@[simp] theorem offerBeacon_driveState (s : State) : (offerBeacon s).driveState = s.driveState := by
  dsimp only [offerBeacon]
  (repeat' split) <;> first | rfl | simp

@[simp] theorem offerBeacon_faultState (s : State) : (offerBeacon s).faultState = s.faultState := by
  dsimp only [offerBeacon]
  (repeat' split) <;> first | rfl | simp

@[simp] theorem offerBeacon_fenceState (s : State) : (offerBeacon s).fenceState = s.fenceState := by
  dsimp only [offerBeacon]
  (repeat' split) <;> first | rfl | simp

@[simp] theorem changeBeacon_jtb (s : State) : (changeBeacon s).jtb = s.jtb := by
  dsimp only [changeBeacon]
  (repeat' split) <;> first | rfl | simp

@[simp] theorem changeBeacon_rvu (s : State) : (changeBeacon s).rvu = s.rvu := by
  dsimp only [changeBeacon]
  (repeat' split) <;> first | rfl | simp

@[simp] theorem changeBeacon_scu (s : State) : (changeBeacon s).scu = s.scu := by
  dsimp only [changeBeacon]
  (repeat' split) <;> first | rfl | simp

@[simp] theorem changeBeacon_msq (s : State) : (changeBeacon s).msq = s.msq := by
  dsimp only [changeBeacon]
  (repeat' split) <;> first | rfl | simp

@[simp] theorem changeBeacon_meu (s : State) : (changeBeacon s).meu = s.meu := by
  dsimp only [changeBeacon]
  (repeat' split) <;> first | rfl | simp

@[simp] theorem changeBeacon_flu (s : State) : (changeBeacon s).flu = s.flu := by
  dsimp only [changeBeacon]
  (repeat' split) <;> first | rfl | simp

@[simp] theorem changeBeacon_outer (s : State) : (changeBeacon s).outer = s.outer := by
  dsimp only [changeBeacon]
  (repeat' split) <;> first | rfl | simp

@[simp] theorem changeBeacon_log (s : State) : (changeBeacon s).log = s.log := by
  dsimp only [changeBeacon]
  (repeat' split) <;> first | rfl | simp

@[simp] theorem changeBeacon_identity (s : State) : (changeBeacon s).identity = s.identity := by
  dsimp only [changeBeacon]
  (repeat' split) <;> first | rfl | simp

@[simp] theorem changeBeacon_rosters (s : State) : (changeBeacon s).rosters = s.rosters := by
  dsimp only [changeBeacon]
  (repeat' split) <;> first | rfl | simp

@[simp] theorem changeBeacon_space (s : State) : (changeBeacon s).space = s.space := by
  dsimp only [changeBeacon]
  (repeat' split) <;> first | rfl | simp

@[simp] theorem changeBeacon_claimState (s : State) : (changeBeacon s).claimState = s.claimState := by
  dsimp only [changeBeacon]
  (repeat' split) <;> first | rfl | simp

@[simp] theorem changeBeacon_driveState (s : State) : (changeBeacon s).driveState = s.driveState := by
  dsimp only [changeBeacon]
  (repeat' split) <;> first | rfl | simp

@[simp] theorem changeBeacon_faultState (s : State) : (changeBeacon s).faultState = s.faultState := by
  dsimp only [changeBeacon]
  (repeat' split) <;> first | rfl | simp

@[simp] theorem changeBeacon_fenceState (s : State) : (changeBeacon s).fenceState = s.fenceState := by
  dsimp only [changeBeacon]
  (repeat' split) <;> first | rfl | simp

@[simp] theorem enterParked_jtb (s : State) : (enterParked s).jtb = s.jtb := by
  dsimp only [enterParked]
  (repeat' split) <;> first | rfl | simp

@[simp] theorem enterParked_rvu (s : State) : (enterParked s).rvu = s.rvu := by
  dsimp only [enterParked]
  (repeat' split) <;> first | rfl | simp

@[simp] theorem enterParked_scu (s : State) : (enterParked s).scu = s.scu := by
  dsimp only [enterParked]
  (repeat' split) <;> first | rfl | simp

@[simp] theorem enterParked_meu (s : State) : (enterParked s).meu = s.meu := by
  dsimp only [enterParked]
  (repeat' split) <;> first | rfl | simp

@[simp] theorem enterParked_flu (s : State) : (enterParked s).flu = s.flu := by
  dsimp only [enterParked]
  (repeat' split) <;> first | rfl | simp

@[simp] theorem enterParked_outer (s : State) : (enterParked s).outer = s.outer := by
  dsimp only [enterParked]
  (repeat' split) <;> first | rfl | simp

@[simp] theorem enterParked_log (s : State) : (enterParked s).log = s.log := by
  dsimp only [enterParked]
  (repeat' split) <;> first | rfl | simp

@[simp] theorem enterParked_identity (s : State) : (enterParked s).identity = s.identity := by
  dsimp only [enterParked]
  (repeat' split) <;> first | rfl | simp

@[simp] theorem enterParked_rosters (s : State) : (enterParked s).rosters = s.rosters := by
  dsimp only [enterParked]
  (repeat' split) <;> first | rfl | simp

@[simp] theorem enterParked_space (s : State) : (enterParked s).space = s.space := by
  dsimp only [enterParked]
  (repeat' split) <;> first | rfl | simp

@[simp] theorem enterParked_claimState (s : State) : (enterParked s).claimState = s.claimState := by
  dsimp only [enterParked]
  (repeat' split) <;> first | rfl | simp

@[simp] theorem enterParked_driveState (s : State) : (enterParked s).driveState = s.driveState := by
  dsimp only [enterParked]
  (repeat' split) <;> first | rfl | simp

@[simp] theorem enterParked_faultState (s : State) : (enterParked s).faultState = s.faultState := by
  dsimp only [enterParked]
  (repeat' split) <;> first | rfl | simp

@[simp] theorem enterParked_fenceState (s : State) : (enterParked s).fenceState = s.fenceState := by
  dsimp only [enterParked]
  (repeat' split) <;> first | rfl | simp

@[simp] theorem enterIdle_lif (s : State) : (enterIdle s).lif = s.lif := by
  dsimp only [enterIdle]
  (repeat' split) <;> first | rfl | simp

@[simp] theorem enterIdle_stc (s : State) : (enterIdle s).stc = s.stc := by
  dsimp only [enterIdle]
  (repeat' split) <;> first | rfl | simp

@[simp] theorem enterIdle_jtb (s : State) : (enterIdle s).jtb = s.jtb := by
  dsimp only [enterIdle]
  (repeat' split) <;> first | rfl | simp

@[simp] theorem enterIdle_rvu (s : State) : (enterIdle s).rvu = s.rvu := by
  dsimp only [enterIdle]
  (repeat' split) <;> first | rfl | simp

@[simp] theorem enterIdle_scu (s : State) : (enterIdle s).scu = s.scu := by
  dsimp only [enterIdle]
  (repeat' split) <;> first | rfl | simp

@[simp] theorem enterIdle_meu (s : State) : (enterIdle s).meu = s.meu := by
  dsimp only [enterIdle]
  (repeat' split) <;> first | rfl | simp

@[simp] theorem enterIdle_flu (s : State) : (enterIdle s).flu = s.flu := by
  dsimp only [enterIdle]
  (repeat' split) <;> first | rfl | simp

@[simp] theorem enterIdle_outer (s : State) : (enterIdle s).outer = s.outer := by
  dsimp only [enterIdle]
  (repeat' split) <;> first | rfl | simp

@[simp] theorem enterIdle_log (s : State) : (enterIdle s).log = s.log := by
  dsimp only [enterIdle]
  (repeat' split) <;> first | rfl | simp

@[simp] theorem enterIdle_identity (s : State) : (enterIdle s).identity = s.identity := by
  dsimp only [enterIdle]
  (repeat' split) <;> first | rfl | simp

@[simp] theorem enterIdle_rosters (s : State) : (enterIdle s).rosters = s.rosters := by
  dsimp only [enterIdle]
  (repeat' split) <;> first | rfl | simp

@[simp] theorem enterIdle_space (s : State) : (enterIdle s).space = s.space := by
  dsimp only [enterIdle]
  (repeat' split) <;> first | rfl | simp

@[simp] theorem enterIdle_claimState (s : State) : (enterIdle s).claimState = s.claimState := by
  dsimp only [enterIdle]
  (repeat' split) <;> first | rfl | simp

@[simp] theorem enterIdle_driveState (s : State) : (enterIdle s).driveState = s.driveState := by
  dsimp only [enterIdle]
  (repeat' split) <;> first | rfl | simp

@[simp] theorem enterIdle_faultState (s : State) : (enterIdle s).faultState = s.faultState := by
  dsimp only [enterIdle]
  (repeat' split) <;> first | rfl | simp

@[simp] theorem enterIdle_fenceState (s : State) : (enterIdle s).fenceState = s.fenceState := by
  dsimp only [enterIdle]
  (repeat' split) <;> first | rfl | simp

@[simp] theorem idleOrParked_jtb (s : State) : (idleOrParked s).jtb = s.jtb := by
  dsimp only [idleOrParked]
  (repeat' split) <;> first | rfl | simp

@[simp] theorem idleOrParked_rvu (s : State) : (idleOrParked s).rvu = s.rvu := by
  dsimp only [idleOrParked]
  (repeat' split) <;> first | rfl | simp

@[simp] theorem idleOrParked_scu (s : State) : (idleOrParked s).scu = s.scu := by
  dsimp only [idleOrParked]
  (repeat' split) <;> first | rfl | simp

@[simp] theorem idleOrParked_meu (s : State) : (idleOrParked s).meu = s.meu := by
  dsimp only [idleOrParked]
  (repeat' split) <;> first | rfl | simp

@[simp] theorem idleOrParked_flu (s : State) : (idleOrParked s).flu = s.flu := by
  dsimp only [idleOrParked]
  (repeat' split) <;> first | rfl | simp

@[simp] theorem idleOrParked_outer (s : State) : (idleOrParked s).outer = s.outer := by
  dsimp only [idleOrParked]
  (repeat' split) <;> first | rfl | simp

@[simp] theorem idleOrParked_log (s : State) : (idleOrParked s).log = s.log := by
  dsimp only [idleOrParked]
  (repeat' split) <;> first | rfl | simp

@[simp] theorem idleOrParked_identity (s : State) : (idleOrParked s).identity = s.identity := by
  dsimp only [idleOrParked]
  (repeat' split) <;> first | rfl | simp

@[simp] theorem idleOrParked_rosters (s : State) : (idleOrParked s).rosters = s.rosters := by
  dsimp only [idleOrParked]
  (repeat' split) <;> first | rfl | simp

@[simp] theorem idleOrParked_space (s : State) : (idleOrParked s).space = s.space := by
  dsimp only [idleOrParked]
  (repeat' split) <;> first | rfl | simp

@[simp] theorem idleOrParked_claimState (s : State) : (idleOrParked s).claimState = s.claimState := by
  dsimp only [idleOrParked]
  (repeat' split) <;> first | rfl | simp

@[simp] theorem idleOrParked_driveState (s : State) : (idleOrParked s).driveState = s.driveState := by
  dsimp only [idleOrParked]
  (repeat' split) <;> first | rfl | simp

@[simp] theorem idleOrParked_faultState (s : State) : (idleOrParked s).faultState = s.faultState := by
  dsimp only [idleOrParked]
  (repeat' split) <;> first | rfl | simp

@[simp] theorem idleOrParked_fenceState (s : State) : (idleOrParked s).fenceState = s.fenceState := by
  dsimp only [idleOrParked]
  (repeat' split) <;> first | rfl | simp

@[simp] theorem startSpaceWait_lif (s : State) : (startSpaceWait s).lif = s.lif := by
  dsimp only [startSpaceWait]
  (repeat' split) <;> first | rfl | simp

@[simp] theorem startSpaceWait_stc (s : State) : (startSpaceWait s).stc = s.stc := by
  dsimp only [startSpaceWait]
  (repeat' split) <;> first | rfl | simp

@[simp] theorem startSpaceWait_jtb (s : State) : (startSpaceWait s).jtb = s.jtb := by
  dsimp only [startSpaceWait]
  (repeat' split) <;> first | rfl | simp

@[simp] theorem startSpaceWait_rvu (s : State) : (startSpaceWait s).rvu = s.rvu := by
  dsimp only [startSpaceWait]
  (repeat' split) <;> first | rfl | simp

@[simp] theorem startSpaceWait_scu (s : State) : (startSpaceWait s).scu = s.scu := by
  dsimp only [startSpaceWait]
  (repeat' split) <;> first | rfl | simp

@[simp] theorem startSpaceWait_meu (s : State) : (startSpaceWait s).meu = s.meu := by
  dsimp only [startSpaceWait]
  (repeat' split) <;> first | rfl | simp

@[simp] theorem startSpaceWait_flu (s : State) : (startSpaceWait s).flu = s.flu := by
  dsimp only [startSpaceWait]
  (repeat' split) <;> first | rfl | simp

@[simp] theorem startSpaceWait_outer (s : State) : (startSpaceWait s).outer = s.outer := by
  dsimp only [startSpaceWait]
  (repeat' split) <;> first | rfl | simp

@[simp] theorem startSpaceWait_log (s : State) : (startSpaceWait s).log = s.log := by
  dsimp only [startSpaceWait]
  (repeat' split) <;> first | rfl | simp

@[simp] theorem startSpaceWait_identity (s : State) : (startSpaceWait s).identity = s.identity := by
  dsimp only [startSpaceWait]
  (repeat' split) <;> first | rfl | simp

@[simp] theorem startSpaceWait_rosters (s : State) : (startSpaceWait s).rosters = s.rosters := by
  dsimp only [startSpaceWait]
  (repeat' split) <;> first | rfl | simp

@[simp] theorem startSpaceWait_space (s : State) : (startSpaceWait s).space = s.space := by
  dsimp only [startSpaceWait]
  (repeat' split) <;> first | rfl | simp

@[simp] theorem startSpaceWait_claimState (s : State) : (startSpaceWait s).claimState = s.claimState := by
  dsimp only [startSpaceWait]
  (repeat' split) <;> first | rfl | simp

@[simp] theorem startSpaceWait_driveState (s : State) : (startSpaceWait s).driveState = s.driveState := by
  dsimp only [startSpaceWait]
  (repeat' split) <;> first | rfl | simp

@[simp] theorem startSpaceWait_faultState (s : State) : (startSpaceWait s).faultState = s.faultState := by
  dsimp only [startSpaceWait]
  (repeat' split) <;> first | rfl | simp

@[simp] theorem startSpaceWait_fenceState (s : State) : (startSpaceWait s).fenceState = s.fenceState := by
  dsimp only [startSpaceWait]
  (repeat' split) <;> first | rfl | simp

@[simp] theorem enterWaitSpace_lif (s : State) : (enterWaitSpace s).lif = s.lif := by
  dsimp only [enterWaitSpace]
  (repeat' split) <;> first | rfl | simp

@[simp] theorem enterWaitSpace_stc (s : State) : (enterWaitSpace s).stc = s.stc := by
  dsimp only [enterWaitSpace]
  (repeat' split) <;> first | rfl | simp

@[simp] theorem enterWaitSpace_jtb (s : State) : (enterWaitSpace s).jtb = s.jtb := by
  dsimp only [enterWaitSpace]
  (repeat' split) <;> first | rfl | simp

@[simp] theorem enterWaitSpace_rvu (s : State) : (enterWaitSpace s).rvu = s.rvu := by
  dsimp only [enterWaitSpace]
  (repeat' split) <;> first | rfl | simp

@[simp] theorem enterWaitSpace_scu (s : State) : (enterWaitSpace s).scu = s.scu := by
  dsimp only [enterWaitSpace]
  (repeat' split) <;> first | rfl | simp

@[simp] theorem enterWaitSpace_meu (s : State) : (enterWaitSpace s).meu = s.meu := by
  dsimp only [enterWaitSpace]
  (repeat' split) <;> first | rfl | simp

@[simp] theorem enterWaitSpace_flu (s : State) : (enterWaitSpace s).flu = s.flu := by
  dsimp only [enterWaitSpace]
  (repeat' split) <;> first | rfl | simp

@[simp] theorem enterWaitSpace_outer (s : State) : (enterWaitSpace s).outer = s.outer := by
  dsimp only [enterWaitSpace]
  (repeat' split) <;> first | rfl | simp

@[simp] theorem enterWaitSpace_log (s : State) : (enterWaitSpace s).log = s.log := by
  dsimp only [enterWaitSpace]
  (repeat' split) <;> first | rfl | simp

@[simp] theorem enterWaitSpace_identity (s : State) : (enterWaitSpace s).identity = s.identity := by
  dsimp only [enterWaitSpace]
  (repeat' split) <;> first | rfl | simp

@[simp] theorem enterWaitSpace_rosters (s : State) : (enterWaitSpace s).rosters = s.rosters := by
  dsimp only [enterWaitSpace]
  (repeat' split) <;> first | rfl | simp

@[simp] theorem enterWaitSpace_space (s : State) : (enterWaitSpace s).space = s.space := by
  dsimp only [enterWaitSpace]
  (repeat' split) <;> first | rfl | simp

@[simp] theorem enterWaitSpace_claimState (s : State) : (enterWaitSpace s).claimState = s.claimState := by
  dsimp only [enterWaitSpace]
  (repeat' split) <;> first | rfl | simp

@[simp] theorem enterWaitSpace_driveState (s : State) : (enterWaitSpace s).driveState = s.driveState := by
  dsimp only [enterWaitSpace]
  (repeat' split) <;> first | rfl | simp

@[simp] theorem enterWaitSpace_faultState (s : State) : (enterWaitSpace s).faultState = s.faultState := by
  dsimp only [enterWaitSpace]
  (repeat' split) <;> first | rfl | simp

@[simp] theorem enterWaitSpace_fenceState (s : State) : (enterWaitSpace s).fenceState = s.fenceState := by
  dsimp only [enterWaitSpace]
  (repeat' split) <;> first | rfl | simp

@[simp] theorem spaceDrop_jtb (s : State) : (spaceDrop s).jtb = s.jtb := by
  dsimp only [spaceDrop]
  (repeat' split) <;> first | rfl | simp

@[simp] theorem spaceDrop_scu (s : State) : (spaceDrop s).scu = s.scu := by
  dsimp only [spaceDrop]
  (repeat' split) <;> first | rfl | simp

@[simp] theorem spaceDrop_meu (s : State) : (spaceDrop s).meu = s.meu := by
  dsimp only [spaceDrop]
  (repeat' split) <;> first | rfl | simp

@[simp] theorem spaceDrop_flu (s : State) : (spaceDrop s).flu = s.flu := by
  dsimp only [spaceDrop]
  (repeat' split) <;> first | rfl | simp

@[simp] theorem spaceDrop_outer (s : State) : (spaceDrop s).outer = s.outer := by
  dsimp only [spaceDrop]
  (repeat' split) <;> first | rfl | simp

@[simp] theorem spaceDrop_log (s : State) : (spaceDrop s).log = s.log := by
  dsimp only [spaceDrop]
  (repeat' split) <;> first | rfl | simp

@[simp] theorem spaceDrop_identity (s : State) : (spaceDrop s).identity = s.identity := by
  dsimp only [spaceDrop]
  (repeat' split) <;> first | rfl | simp

@[simp] theorem spaceDrop_rosters (s : State) : (spaceDrop s).rosters = s.rosters := by
  dsimp only [spaceDrop]
  (repeat' split) <;> first | rfl | simp

@[simp] theorem spaceDrop_space (s : State) : (spaceDrop s).space = s.space := by
  dsimp only [spaceDrop]
  (repeat' split) <;> first | rfl | simp

@[simp] theorem spaceDrop_claimState (s : State) : (spaceDrop s).claimState = s.claimState := by
  dsimp only [spaceDrop]
  (repeat' split) <;> first | rfl | simp

@[simp] theorem spaceDrop_driveState (s : State) : (spaceDrop s).driveState = s.driveState := by
  dsimp only [spaceDrop]
  (repeat' split) <;> first | rfl | simp

@[simp] theorem spaceDrop_faultState (s : State) : (spaceDrop s).faultState = s.faultState := by
  dsimp only [spaceDrop]
  (repeat' split) <;> first | rfl | simp

@[simp] theorem spaceDrop_fenceState (s : State) : (spaceDrop s).fenceState = s.fenceState := by
  dsimp only [spaceDrop]
  (repeat' split) <;> first | rfl | simp

@[simp] theorem reportVoid_jtb (s : State) : (reportVoid s).jtb = s.jtb := by
  dsimp only [reportVoid]
  (repeat' split) <;> first | rfl | simp

@[simp] theorem reportVoid_scu (s : State) : (reportVoid s).scu = s.scu := by
  dsimp only [reportVoid]
  (repeat' split) <;> first | rfl | simp

@[simp] theorem reportVoid_meu (s : State) : (reportVoid s).meu = s.meu := by
  dsimp only [reportVoid]
  (repeat' split) <;> first | rfl | simp

@[simp] theorem reportVoid_flu (s : State) : (reportVoid s).flu = s.flu := by
  dsimp only [reportVoid]
  (repeat' split) <;> first | rfl | simp

@[simp] theorem reportVoid_outer (s : State) : (reportVoid s).outer = s.outer := by
  dsimp only [reportVoid]
  (repeat' split) <;> first | rfl | simp

@[simp] theorem reportVoid_log (s : State) : (reportVoid s).log = s.log := by
  dsimp only [reportVoid]
  (repeat' split) <;> first | rfl | simp

@[simp] theorem reportVoid_identity (s : State) : (reportVoid s).identity = s.identity := by
  dsimp only [reportVoid]
  (repeat' split) <;> first | rfl | simp

@[simp] theorem reportVoid_rosters (s : State) : (reportVoid s).rosters = s.rosters := by
  dsimp only [reportVoid]
  (repeat' split) <;> first | rfl | simp

@[simp] theorem reportVoid_space (s : State) : (reportVoid s).space = s.space := by
  dsimp only [reportVoid]
  (repeat' split) <;> first | rfl | simp

@[simp] theorem reportVoid_claimState (s : State) : (reportVoid s).claimState = s.claimState := by
  dsimp only [reportVoid]
  (repeat' split) <;> first | rfl | simp

@[simp] theorem reportVoid_driveState (s : State) : (reportVoid s).driveState = s.driveState := by
  dsimp only [reportVoid]
  (repeat' split) <;> first | rfl | simp

@[simp] theorem reportVoid_faultState (s : State) : (reportVoid s).faultState = s.faultState := by
  dsimp only [reportVoid]
  (repeat' split) <;> first | rfl | simp

@[simp] theorem reportVoid_fenceState (s : State) : (reportVoid s).fenceState = s.fenceState := by
  dsimp only [reportVoid]
  (repeat' split) <;> first | rfl | simp

@[simp] theorem setHeld_lif (q : Option Claim) (s : State) : (setHeld q s).lif = s.lif := by
  dsimp only [setHeld]
  (repeat' split) <;> first | rfl | simp

@[simp] theorem setHeld_stc (q : Option Claim) (s : State) : (setHeld q s).stc = s.stc := by
  dsimp only [setHeld]
  (repeat' split) <;> first | rfl | simp

@[simp] theorem setHeld_jtb (q : Option Claim) (s : State) : (setHeld q s).jtb = s.jtb := by
  dsimp only [setHeld]
  (repeat' split) <;> first | rfl | simp

@[simp] theorem setHeld_rvu (q : Option Claim) (s : State) : (setHeld q s).rvu = s.rvu := by
  dsimp only [setHeld]
  (repeat' split) <;> first | rfl | simp

@[simp] theorem setHeld_meu (q : Option Claim) (s : State) : (setHeld q s).meu = s.meu := by
  dsimp only [setHeld]
  (repeat' split) <;> first | rfl | simp

@[simp] theorem setHeld_flu (q : Option Claim) (s : State) : (setHeld q s).flu = s.flu := by
  dsimp only [setHeld]
  (repeat' split) <;> first | rfl | simp

@[simp] theorem setHeld_outer (q : Option Claim) (s : State) : (setHeld q s).outer = s.outer := by
  dsimp only [setHeld]
  (repeat' split) <;> first | rfl | simp

@[simp] theorem setHeld_log (q : Option Claim) (s : State) : (setHeld q s).log = s.log := by
  dsimp only [setHeld]
  (repeat' split) <;> first | rfl | simp

@[simp] theorem setHeld_identity (q : Option Claim) (s : State) : (setHeld q s).identity = s.identity := by
  dsimp only [setHeld]
  (repeat' split) <;> first | rfl | simp

@[simp] theorem setHeld_rosters (q : Option Claim) (s : State) : (setHeld q s).rosters = s.rosters := by
  dsimp only [setHeld]
  (repeat' split) <;> first | rfl | simp

@[simp] theorem setHeld_space (q : Option Claim) (s : State) : (setHeld q s).space = s.space := by
  dsimp only [setHeld]
  (repeat' split) <;> first | rfl | simp

@[simp] theorem setHeld_driveState (q : Option Claim) (s : State) : (setHeld q s).driveState = s.driveState := by
  dsimp only [setHeld]
  (repeat' split) <;> first | rfl | simp

@[simp] theorem setHeld_faultState (q : Option Claim) (s : State) : (setHeld q s).faultState = s.faultState := by
  dsimp only [setHeld]
  (repeat' split) <;> first | rfl | simp

@[simp] theorem setHeld_fenceState (q : Option Claim) (s : State) : (setHeld q s).fenceState = s.fenceState := by
  dsimp only [setHeld]
  (repeat' split) <;> first | rfl | simp

@[simp] theorem filterSafety_stc (keep : TxFrame → Bool) (s : State) : (filterSafety keep s).stc = s.stc := by
  dsimp only [filterSafety]
  (repeat' split) <;> first | rfl | simp

@[simp] theorem filterSafety_jtb (keep : TxFrame → Bool) (s : State) : (filterSafety keep s).jtb = s.jtb := by
  dsimp only [filterSafety]
  (repeat' split) <;> first | rfl | simp

@[simp] theorem filterSafety_rvu (keep : TxFrame → Bool) (s : State) : (filterSafety keep s).rvu = s.rvu := by
  dsimp only [filterSafety]
  (repeat' split) <;> first | rfl | simp

@[simp] theorem filterSafety_scu (keep : TxFrame → Bool) (s : State) : (filterSafety keep s).scu = s.scu := by
  dsimp only [filterSafety]
  (repeat' split) <;> first | rfl | simp

@[simp] theorem filterSafety_msq (keep : TxFrame → Bool) (s : State) : (filterSafety keep s).msq = s.msq := by
  dsimp only [filterSafety]
  (repeat' split) <;> first | rfl | simp

@[simp] theorem filterSafety_meu (keep : TxFrame → Bool) (s : State) : (filterSafety keep s).meu = s.meu := by
  dsimp only [filterSafety]
  (repeat' split) <;> first | rfl | simp

@[simp] theorem filterSafety_flu (keep : TxFrame → Bool) (s : State) : (filterSafety keep s).flu = s.flu := by
  dsimp only [filterSafety]
  (repeat' split) <;> first | rfl | simp

@[simp] theorem filterSafety_outer (keep : TxFrame → Bool) (s : State) : (filterSafety keep s).outer = s.outer := by
  dsimp only [filterSafety]
  (repeat' split) <;> first | rfl | simp

@[simp] theorem filterSafety_log (keep : TxFrame → Bool) (s : State) : (filterSafety keep s).log = s.log := by
  dsimp only [filterSafety]
  (repeat' split) <;> first | rfl | simp

@[simp] theorem filterSafety_identity (keep : TxFrame → Bool) (s : State) : (filterSafety keep s).identity = s.identity := by
  dsimp only [filterSafety]
  (repeat' split) <;> first | rfl | simp

@[simp] theorem filterSafety_rosters (keep : TxFrame → Bool) (s : State) : (filterSafety keep s).rosters = s.rosters := by
  dsimp only [filterSafety]
  (repeat' split) <;> first | rfl | simp

@[simp] theorem filterSafety_space (keep : TxFrame → Bool) (s : State) : (filterSafety keep s).space = s.space := by
  dsimp only [filterSafety]
  (repeat' split) <;> first | rfl | simp

@[simp] theorem filterSafety_claimState (keep : TxFrame → Bool) (s : State) : (filterSafety keep s).claimState = s.claimState := by
  dsimp only [filterSafety]
  (repeat' split) <;> first | rfl | simp

@[simp] theorem filterSafety_driveState (keep : TxFrame → Bool) (s : State) : (filterSafety keep s).driveState = s.driveState := by
  dsimp only [filterSafety]
  (repeat' split) <;> first | rfl | simp

@[simp] theorem filterSafety_faultState (keep : TxFrame → Bool) (s : State) : (filterSafety keep s).faultState = s.faultState := by
  dsimp only [filterSafety]
  (repeat' split) <;> first | rfl | simp

@[simp] theorem filterSafety_fenceState (keep : TxFrame → Bool) (s : State) : (filterSafety keep s).fenceState = s.fenceState := by
  dsimp only [filterSafety]
  (repeat' split) <;> first | rfl | simp

@[simp] theorem withdrawClaim_stc (s : State) : (withdrawClaim s).stc = s.stc := by
  dsimp only [withdrawClaim]
  (repeat' split) <;> first | rfl | simp

@[simp] theorem withdrawClaim_jtb (s : State) : (withdrawClaim s).jtb = s.jtb := by
  dsimp only [withdrawClaim]
  (repeat' split) <;> first | rfl | simp

@[simp] theorem withdrawClaim_rvu (s : State) : (withdrawClaim s).rvu = s.rvu := by
  dsimp only [withdrawClaim]
  (repeat' split) <;> first | rfl | simp

@[simp] theorem withdrawClaim_msq (s : State) : (withdrawClaim s).msq = s.msq := by
  dsimp only [withdrawClaim]
  (repeat' split) <;> first | rfl | simp

@[simp] theorem withdrawClaim_meu (s : State) : (withdrawClaim s).meu = s.meu := by
  dsimp only [withdrawClaim]
  (repeat' split) <;> first | rfl | simp

@[simp] theorem withdrawClaim_flu (s : State) : (withdrawClaim s).flu = s.flu := by
  dsimp only [withdrawClaim]
  (repeat' split) <;> first | rfl | simp

@[simp] theorem withdrawClaim_outer (s : State) : (withdrawClaim s).outer = s.outer := by
  dsimp only [withdrawClaim]
  (repeat' split) <;> first | rfl | simp

@[simp] theorem withdrawClaim_log (s : State) : (withdrawClaim s).log = s.log := by
  dsimp only [withdrawClaim]
  (repeat' split) <;> first | rfl | simp

@[simp] theorem withdrawClaim_identity (s : State) : (withdrawClaim s).identity = s.identity := by
  dsimp only [withdrawClaim]
  (repeat' split) <;> first | rfl | simp

@[simp] theorem withdrawClaim_rosters (s : State) : (withdrawClaim s).rosters = s.rosters := by
  dsimp only [withdrawClaim]
  (repeat' split) <;> first | rfl | simp

@[simp] theorem withdrawClaim_space (s : State) : (withdrawClaim s).space = s.space := by
  dsimp only [withdrawClaim]
  (repeat' split) <;> first | rfl | simp

@[simp] theorem withdrawClaim_claimState (s : State) : (withdrawClaim s).claimState = s.claimState := by
  dsimp only [withdrawClaim]
  (repeat' split) <;> first | rfl | simp

@[simp] theorem withdrawClaim_driveState (s : State) : (withdrawClaim s).driveState = s.driveState := by
  dsimp only [withdrawClaim]
  (repeat' split) <;> first | rfl | simp

@[simp] theorem withdrawClaim_faultState (s : State) : (withdrawClaim s).faultState = s.faultState := by
  dsimp only [withdrawClaim]
  (repeat' split) <;> first | rfl | simp

@[simp] theorem withdrawClaim_fenceState (s : State) : (withdrawClaim s).fenceState = s.fenceState := by
  dsimp only [withdrawClaim]
  (repeat' split) <;> first | rfl | simp

@[simp] theorem withdrawAndReport_jtb (s : State) : (withdrawAndReport s).jtb = s.jtb := by
  dsimp only [withdrawAndReport]
  (repeat' split) <;> first | rfl | simp

@[simp] theorem withdrawAndReport_meu (s : State) : (withdrawAndReport s).meu = s.meu := by
  dsimp only [withdrawAndReport]
  (repeat' split) <;> first | rfl | simp

@[simp] theorem withdrawAndReport_flu (s : State) : (withdrawAndReport s).flu = s.flu := by
  dsimp only [withdrawAndReport]
  (repeat' split) <;> first | rfl | simp

@[simp] theorem withdrawAndReport_outer (s : State) : (withdrawAndReport s).outer = s.outer := by
  dsimp only [withdrawAndReport]
  (repeat' split) <;> first | rfl | simp

@[simp] theorem withdrawAndReport_log (s : State) : (withdrawAndReport s).log = s.log := by
  dsimp only [withdrawAndReport]
  (repeat' split) <;> first | rfl | simp

@[simp] theorem withdrawAndReport_identity (s : State) : (withdrawAndReport s).identity = s.identity := by
  dsimp only [withdrawAndReport]
  (repeat' split) <;> first | rfl | simp

@[simp] theorem withdrawAndReport_rosters (s : State) : (withdrawAndReport s).rosters = s.rosters := by
  dsimp only [withdrawAndReport]
  (repeat' split) <;> first | rfl | simp

@[simp] theorem withdrawAndReport_space (s : State) : (withdrawAndReport s).space = s.space := by
  dsimp only [withdrawAndReport]
  (repeat' split) <;> first | rfl | simp

@[simp] theorem withdrawAndReport_claimState (s : State) : (withdrawAndReport s).claimState = s.claimState := by
  dsimp only [withdrawAndReport]
  (repeat' split) <;> first | rfl | simp

@[simp] theorem withdrawAndReport_driveState (s : State) : (withdrawAndReport s).driveState = s.driveState := by
  dsimp only [withdrawAndReport]
  (repeat' split) <;> first | rfl | simp

@[simp] theorem withdrawAndReport_faultState (s : State) : (withdrawAndReport s).faultState = s.faultState := by
  dsimp only [withdrawAndReport]
  (repeat' split) <;> first | rfl | simp

@[simp] theorem withdrawAndReport_fenceState (s : State) : (withdrawAndReport s).fenceState = s.fenceState := by
  dsimp only [withdrawAndReport]
  (repeat' split) <;> first | rfl | simp

@[simp] theorem endPending_jtb (s : State) : (endPending s).jtb = s.jtb := by
  dsimp only [endPending]
  (repeat' split) <;> first | rfl | simp

@[simp] theorem endPending_meu (s : State) : (endPending s).meu = s.meu := by
  dsimp only [endPending]
  (repeat' split) <;> first | rfl | simp

@[simp] theorem endPending_flu (s : State) : (endPending s).flu = s.flu := by
  dsimp only [endPending]
  (repeat' split) <;> first | rfl | simp

@[simp] theorem endPending_outer (s : State) : (endPending s).outer = s.outer := by
  dsimp only [endPending]
  (repeat' split) <;> first | rfl | simp

@[simp] theorem endPending_log (s : State) : (endPending s).log = s.log := by
  dsimp only [endPending]
  (repeat' split) <;> first | rfl | simp

@[simp] theorem endPending_identity (s : State) : (endPending s).identity = s.identity := by
  dsimp only [endPending]
  (repeat' split) <;> first | rfl | simp

@[simp] theorem endPending_rosters (s : State) : (endPending s).rosters = s.rosters := by
  dsimp only [endPending]
  (repeat' split) <;> first | rfl | simp

@[simp] theorem endPending_space (s : State) : (endPending s).space = s.space := by
  dsimp only [endPending]
  (repeat' split) <;> first | rfl | simp

@[simp] theorem endPending_claimState (s : State) : (endPending s).claimState = s.claimState := by
  dsimp only [endPending]
  (repeat' split) <;> first | rfl | simp

@[simp] theorem endPending_driveState (s : State) : (endPending s).driveState = s.driveState := by
  dsimp only [endPending]
  (repeat' split) <;> first | rfl | simp

@[simp] theorem endPending_faultState (s : State) : (endPending s).faultState = s.faultState := by
  dsimp only [endPending]
  (repeat' split) <;> first | rfl | simp

@[simp] theorem endPending_fenceState (s : State) : (endPending s).fenceState = s.fenceState := by
  dsimp only [endPending]
  (repeat' split) <;> first | rfl | simp

@[simp] theorem takeRelease_jtb (s : State) : (takeRelease s).jtb = s.jtb := by
  dsimp only [takeRelease]
  (repeat' split) <;> first | rfl | simp

@[simp] theorem takeRelease_meu (s : State) : (takeRelease s).meu = s.meu := by
  dsimp only [takeRelease]
  (repeat' split) <;> first | rfl | simp

@[simp] theorem takeRelease_flu (s : State) : (takeRelease s).flu = s.flu := by
  dsimp only [takeRelease]
  (repeat' split) <;> first | rfl | simp

@[simp] theorem takeRelease_outer (s : State) : (takeRelease s).outer = s.outer := by
  dsimp only [takeRelease]
  (repeat' split) <;> first | rfl | simp

@[simp] theorem takeRelease_log (s : State) : (takeRelease s).log = s.log := by
  dsimp only [takeRelease]
  (repeat' split) <;> first | rfl | simp

@[simp] theorem takeRelease_identity (s : State) : (takeRelease s).identity = s.identity := by
  dsimp only [takeRelease]
  (repeat' split) <;> first | rfl | simp

@[simp] theorem takeRelease_rosters (s : State) : (takeRelease s).rosters = s.rosters := by
  dsimp only [takeRelease]
  (repeat' split) <;> first | rfl | simp

@[simp] theorem takeRelease_space (s : State) : (takeRelease s).space = s.space := by
  dsimp only [takeRelease]
  (repeat' split) <;> first | rfl | simp

@[simp] theorem takeRelease_driveState (s : State) : (takeRelease s).driveState = s.driveState := by
  dsimp only [takeRelease]
  (repeat' split) <;> first | rfl | simp

@[simp] theorem takeRelease_faultState (s : State) : (takeRelease s).faultState = s.faultState := by
  dsimp only [takeRelease]
  (repeat' split) <;> first | rfl | simp

@[simp] theorem takeRelease_fenceState (s : State) : (takeRelease s).fenceState = s.fenceState := by
  dsimp only [takeRelease]
  (repeat' split) <;> first | rfl | simp

@[simp] theorem takeShrink_jtb (x : Nat) (y : Nat) (s : State) : (takeShrink x y s).jtb = s.jtb := by
  dsimp only [takeShrink]
  (repeat' split) <;> first | rfl | simp

@[simp] theorem takeShrink_meu (x : Nat) (y : Nat) (s : State) : (takeShrink x y s).meu = s.meu := by
  dsimp only [takeShrink]
  (repeat' split) <;> first | rfl | simp

@[simp] theorem takeShrink_flu (x : Nat) (y : Nat) (s : State) : (takeShrink x y s).flu = s.flu := by
  dsimp only [takeShrink]
  (repeat' split) <;> first | rfl | simp

@[simp] theorem takeShrink_outer (x : Nat) (y : Nat) (s : State) : (takeShrink x y s).outer = s.outer := by
  dsimp only [takeShrink]
  (repeat' split) <;> first | rfl | simp

@[simp] theorem takeShrink_log (x : Nat) (y : Nat) (s : State) : (takeShrink x y s).log = s.log := by
  dsimp only [takeShrink]
  (repeat' split) <;> first | rfl | simp

@[simp] theorem takeShrink_identity (x : Nat) (y : Nat) (s : State) : (takeShrink x y s).identity = s.identity := by
  dsimp only [takeShrink]
  (repeat' split) <;> first | rfl | simp

@[simp] theorem takeShrink_rosters (x : Nat) (y : Nat) (s : State) : (takeShrink x y s).rosters = s.rosters := by
  dsimp only [takeShrink]
  (repeat' split) <;> first | rfl | simp

@[simp] theorem takeShrink_space (x : Nat) (y : Nat) (s : State) : (takeShrink x y s).space = s.space := by
  dsimp only [takeShrink]
  (repeat' split) <;> first | rfl | simp

@[simp] theorem takeShrink_driveState (x : Nat) (y : Nat) (s : State) : (takeShrink x y s).driveState = s.driveState := by
  dsimp only [takeShrink]
  (repeat' split) <;> first | rfl | simp

@[simp] theorem takeShrink_faultState (x : Nat) (y : Nat) (s : State) : (takeShrink x y s).faultState = s.faultState := by
  dsimp only [takeShrink]
  (repeat' split) <;> first | rfl | simp

@[simp] theorem takeShrink_fenceState (x : Nat) (y : Nat) (s : State) : (takeShrink x y s).fenceState = s.fenceState := by
  dsimp only [takeShrink]
  (repeat' split) <;> first | rfl | simp

@[simp] theorem setDoubt_lif (s : State) : (setDoubt s).lif = s.lif := by
  dsimp only [setDoubt]
  (repeat' split) <;> first | rfl | simp

@[simp] theorem setDoubt_stc (s : State) : (setDoubt s).stc = s.stc := by
  dsimp only [setDoubt]
  (repeat' split) <;> first | rfl | simp

@[simp] theorem setDoubt_jtb (s : State) : (setDoubt s).jtb = s.jtb := by
  dsimp only [setDoubt]
  (repeat' split) <;> first | rfl | simp

@[simp] theorem setDoubt_rvu (s : State) : (setDoubt s).rvu = s.rvu := by
  dsimp only [setDoubt]
  (repeat' split) <;> first | rfl | simp

@[simp] theorem setDoubt_msq (s : State) : (setDoubt s).msq = s.msq := by
  dsimp only [setDoubt]
  (repeat' split) <;> first | rfl | simp

@[simp] theorem setDoubt_meu (s : State) : (setDoubt s).meu = s.meu := by
  dsimp only [setDoubt]
  (repeat' split) <;> first | rfl | simp

@[simp] theorem setDoubt_flu (s : State) : (setDoubt s).flu = s.flu := by
  dsimp only [setDoubt]
  (repeat' split) <;> first | rfl | simp

@[simp] theorem setDoubt_outer (s : State) : (setDoubt s).outer = s.outer := by
  dsimp only [setDoubt]
  (repeat' split) <;> first | rfl | simp

@[simp] theorem setDoubt_log (s : State) : (setDoubt s).log = s.log := by
  dsimp only [setDoubt]
  (repeat' split) <;> first | rfl | simp

@[simp] theorem setDoubt_identity (s : State) : (setDoubt s).identity = s.identity := by
  dsimp only [setDoubt]
  (repeat' split) <;> first | rfl | simp

@[simp] theorem setDoubt_rosters (s : State) : (setDoubt s).rosters = s.rosters := by
  dsimp only [setDoubt]
  (repeat' split) <;> first | rfl | simp

@[simp] theorem setDoubt_space (s : State) : (setDoubt s).space = s.space := by
  dsimp only [setDoubt]
  (repeat' split) <;> first | rfl | simp

@[simp] theorem setDoubt_driveState (s : State) : (setDoubt s).driveState = s.driveState := by
  dsimp only [setDoubt]
  (repeat' split) <;> first | rfl | simp

@[simp] theorem setDoubt_faultState (s : State) : (setDoubt s).faultState = s.faultState := by
  dsimp only [setDoubt]
  (repeat' split) <;> first | rfl | simp

@[simp] theorem setDoubt_fenceState (s : State) : (setDoubt s).fenceState = s.fenceState := by
  dsimp only [setDoubt]
  (repeat' split) <;> first | rfl | simp

@[simp] theorem selfVoid_jtb (s : State) : (selfVoid s).jtb = s.jtb := by
  dsimp only [selfVoid]
  (repeat' split) <;> first | rfl | simp

@[simp] theorem selfVoid_meu (s : State) : (selfVoid s).meu = s.meu := by
  dsimp only [selfVoid]
  (repeat' split) <;> first | rfl | simp

@[simp] theorem selfVoid_flu (s : State) : (selfVoid s).flu = s.flu := by
  dsimp only [selfVoid]
  (repeat' split) <;> first | rfl | simp

@[simp] theorem selfVoid_outer (s : State) : (selfVoid s).outer = s.outer := by
  dsimp only [selfVoid]
  (repeat' split) <;> first | rfl | simp

@[simp] theorem selfVoid_log (s : State) : (selfVoid s).log = s.log := by
  dsimp only [selfVoid]
  (repeat' split) <;> first | rfl | simp

@[simp] theorem selfVoid_identity (s : State) : (selfVoid s).identity = s.identity := by
  dsimp only [selfVoid]
  (repeat' split) <;> first | rfl | simp

@[simp] theorem selfVoid_rosters (s : State) : (selfVoid s).rosters = s.rosters := by
  dsimp only [selfVoid]
  (repeat' split) <;> first | rfl | simp

@[simp] theorem selfVoid_space (s : State) : (selfVoid s).space = s.space := by
  dsimp only [selfVoid]
  (repeat' split) <;> first | rfl | simp

@[simp] theorem selfVoid_driveState (s : State) : (selfVoid s).driveState = s.driveState := by
  dsimp only [selfVoid]
  (repeat' split) <;> first | rfl | simp

@[simp] theorem selfVoid_faultState (s : State) : (selfVoid s).faultState = s.faultState := by
  dsimp only [selfVoid]
  (repeat' split) <;> first | rfl | simp

@[simp] theorem selfVoid_fenceState (s : State) : (selfVoid s).fenceState = s.fenceState := by
  dsimp only [selfVoid]
  (repeat' split) <;> first | rfl | simp

@[simp] theorem mapChanged_jtb (s : State) : (mapChanged s).jtb = s.jtb := by
  dsimp only [mapChanged]
  (repeat' split) <;> first | rfl | simp

@[simp] theorem mapChanged_meu (s : State) : (mapChanged s).meu = s.meu := by
  dsimp only [mapChanged]
  (repeat' split) <;> first | rfl | simp

@[simp] theorem mapChanged_flu (s : State) : (mapChanged s).flu = s.flu := by
  dsimp only [mapChanged]
  (repeat' split) <;> first | rfl | simp

@[simp] theorem mapChanged_outer (s : State) : (mapChanged s).outer = s.outer := by
  dsimp only [mapChanged]
  (repeat' split) <;> first | rfl | simp

@[simp] theorem mapChanged_log (s : State) : (mapChanged s).log = s.log := by
  dsimp only [mapChanged]
  (repeat' split) <;> first | rfl | simp

@[simp] theorem mapChanged_identity (s : State) : (mapChanged s).identity = s.identity := by
  dsimp only [mapChanged]
  (repeat' split) <;> first | rfl | simp

@[simp] theorem mapChanged_rosters (s : State) : (mapChanged s).rosters = s.rosters := by
  dsimp only [mapChanged]
  (repeat' split) <;> first | rfl | simp

@[simp] theorem mapChanged_space (s : State) : (mapChanged s).space = s.space := by
  dsimp only [mapChanged]
  (repeat' split) <;> first | rfl | simp

@[simp] theorem mapChanged_driveState (s : State) : (mapChanged s).driveState = s.driveState := by
  dsimp only [mapChanged]
  (repeat' split) <;> first | rfl | simp

@[simp] theorem mapChanged_faultState (s : State) : (mapChanged s).faultState = s.faultState := by
  dsimp only [mapChanged]
  (repeat' split) <;> first | rfl | simp

@[simp] theorem mapChanged_fenceState (s : State) : (mapChanged s).fenceState = s.fenceState := by
  dsimp only [mapChanged]
  (repeat' split) <;> first | rfl | simp

@[simp] theorem goOffline_jtb (code : Nat) (s : State) : (goOffline code s).jtb = s.jtb := by
  dsimp only [goOffline]
  (repeat' split) <;> first | rfl | simp

@[simp] theorem goOffline_rvu (code : Nat) (s : State) : (goOffline code s).rvu = s.rvu := by
  dsimp only [goOffline]
  (repeat' split) <;> first | rfl | simp

@[simp] theorem goOffline_meu (code : Nat) (s : State) : (goOffline code s).meu = s.meu := by
  dsimp only [goOffline]
  (repeat' split) <;> first | rfl | simp

@[simp] theorem goOffline_flu (code : Nat) (s : State) : (goOffline code s).flu = s.flu := by
  dsimp only [goOffline]
  (repeat' split) <;> first | rfl | simp

@[simp] theorem goOffline_outer (code : Nat) (s : State) : (goOffline code s).outer = s.outer := by
  dsimp only [goOffline]
  (repeat' split) <;> first | rfl | simp

@[simp] theorem goOffline_log (code : Nat) (s : State) : (goOffline code s).log = s.log := by
  dsimp only [goOffline]
  (repeat' split) <;> first | rfl | simp

@[simp] theorem goOffline_identity (code : Nat) (s : State) : (goOffline code s).identity = s.identity := by
  dsimp only [goOffline]
  (repeat' split) <;> first | rfl | simp

@[simp] theorem goOffline_rosters (code : Nat) (s : State) : (goOffline code s).rosters = s.rosters := by
  dsimp only [goOffline]
  (repeat' split) <;> first | rfl | simp

@[simp] theorem goOffline_space (code : Nat) (s : State) : (goOffline code s).space = s.space := by
  dsimp only [goOffline]
  (repeat' split) <;> first | rfl | simp

@[simp] theorem goOffline_driveState (code : Nat) (s : State) : (goOffline code s).driveState = s.driveState := by
  dsimp only [goOffline]
  (repeat' split) <;> first | rfl | simp

@[simp] theorem goOffline_faultState (code : Nat) (s : State) : (goOffline code s).faultState = s.faultState := by
  dsimp only [goOffline]
  (repeat' split) <;> first | rfl | simp

@[simp] theorem goOffline_fenceState (code : Nat) (s : State) : (goOffline code s).fenceState = s.fenceState := by
  dsimp only [goOffline]
  (repeat' split) <;> first | rfl | simp

@[simp] theorem startFault_jtb (code : Nat) (s : State) : (startFault code s).jtb = s.jtb := by
  dsimp only [startFault]
  (repeat' split) <;> first | rfl | simp

@[simp] theorem startFault_rvu (code : Nat) (s : State) : (startFault code s).rvu = s.rvu := by
  dsimp only [startFault]
  (repeat' split) <;> first | rfl | simp

@[simp] theorem startFault_meu (code : Nat) (s : State) : (startFault code s).meu = s.meu := by
  dsimp only [startFault]
  (repeat' split) <;> first | rfl | simp

@[simp] theorem startFault_outer (code : Nat) (s : State) : (startFault code s).outer = s.outer := by
  dsimp only [startFault]
  (repeat' split) <;> first | rfl | simp

@[simp] theorem startFault_log (code : Nat) (s : State) : (startFault code s).log = s.log := by
  dsimp only [startFault]
  (repeat' split) <;> first | rfl | simp

@[simp] theorem startFault_identity (code : Nat) (s : State) : (startFault code s).identity = s.identity := by
  dsimp only [startFault]
  (repeat' split) <;> first | rfl | simp

@[simp] theorem startFault_rosters (code : Nat) (s : State) : (startFault code s).rosters = s.rosters := by
  dsimp only [startFault]
  (repeat' split) <;> first | rfl | simp

@[simp] theorem startFault_space (code : Nat) (s : State) : (startFault code s).space = s.space := by
  dsimp only [startFault]
  (repeat' split) <;> first | rfl | simp

@[simp] theorem startFault_driveState (code : Nat) (s : State) : (startFault code s).driveState = s.driveState := by
  dsimp only [startFault]
  (repeat' split) <;> first | rfl | simp

@[simp] theorem startFault_fenceState (code : Nat) (s : State) : (startFault code s).fenceState = s.fenceState := by
  dsimp only [startFault]
  (repeat' split) <;> first | rfl | simp

@[simp] theorem sendCommand_lif (o : DriveOrder) (s : State) : (sendCommand o s).lif = s.lif := by
  dsimp only [sendCommand]
  (repeat' split) <;> first | rfl | simp

@[simp] theorem sendCommand_stc (o : DriveOrder) (s : State) : (sendCommand o s).stc = s.stc := by
  dsimp only [sendCommand]
  (repeat' split) <;> first | rfl | simp

@[simp] theorem sendCommand_jtb (o : DriveOrder) (s : State) : (sendCommand o s).jtb = s.jtb := by
  dsimp only [sendCommand]
  (repeat' split) <;> first | rfl | simp

@[simp] theorem sendCommand_rvu (o : DriveOrder) (s : State) : (sendCommand o s).rvu = s.rvu := by
  dsimp only [sendCommand]
  (repeat' split) <;> first | rfl | simp

@[simp] theorem sendCommand_scu (o : DriveOrder) (s : State) : (sendCommand o s).scu = s.scu := by
  dsimp only [sendCommand]
  (repeat' split) <;> first | rfl | simp

@[simp] theorem sendCommand_meu (o : DriveOrder) (s : State) : (sendCommand o s).meu = s.meu := by
  dsimp only [sendCommand]
  (repeat' split) <;> first | rfl | simp

@[simp] theorem sendCommand_flu (o : DriveOrder) (s : State) : (sendCommand o s).flu = s.flu := by
  dsimp only [sendCommand]
  (repeat' split) <;> first | rfl | simp

@[simp] theorem sendCommand_outer (o : DriveOrder) (s : State) : (sendCommand o s).outer = s.outer := by
  dsimp only [sendCommand]
  (repeat' split) <;> first | rfl | simp

@[simp] theorem sendCommand_log (o : DriveOrder) (s : State) : (sendCommand o s).log = s.log := by
  dsimp only [sendCommand]
  (repeat' split) <;> first | rfl | simp

@[simp] theorem sendCommand_identity (o : DriveOrder) (s : State) : (sendCommand o s).identity = s.identity := by
  dsimp only [sendCommand]
  (repeat' split) <;> first | rfl | simp

@[simp] theorem sendCommand_rosters (o : DriveOrder) (s : State) : (sendCommand o s).rosters = s.rosters := by
  dsimp only [sendCommand]
  (repeat' split) <;> first | rfl | simp

@[simp] theorem sendCommand_space (o : DriveOrder) (s : State) : (sendCommand o s).space = s.space := by
  dsimp only [sendCommand]
  (repeat' split) <;> first | rfl | simp

@[simp] theorem sendCommand_claimState (o : DriveOrder) (s : State) : (sendCommand o s).claimState = s.claimState := by
  dsimp only [sendCommand]
  (repeat' split) <;> first | rfl | simp

@[simp] theorem sendCommand_faultState (o : DriveOrder) (s : State) : (sendCommand o s).faultState = s.faultState := by
  dsimp only [sendCommand]
  (repeat' split) <;> first | rfl | simp

@[simp] theorem sendCommand_fenceState (o : DriveOrder) (s : State) : (sendCommand o s).fenceState = s.fenceState := by
  dsimp only [sendCommand]
  (repeat' split) <;> first | rfl | simp

@[simp] theorem freeze_lif (s : State) : (freeze s).lif = s.lif := by
  dsimp only [freeze]
  (repeat' split) <;> first | rfl | simp

@[simp] theorem freeze_stc (s : State) : (freeze s).stc = s.stc := by
  dsimp only [freeze]
  (repeat' split) <;> first | rfl | simp

@[simp] theorem freeze_jtb (s : State) : (freeze s).jtb = s.jtb := by
  dsimp only [freeze]
  (repeat' split) <;> first | rfl | simp

@[simp] theorem freeze_rvu (s : State) : (freeze s).rvu = s.rvu := by
  dsimp only [freeze]
  (repeat' split) <;> first | rfl | simp

@[simp] theorem freeze_scu (s : State) : (freeze s).scu = s.scu := by
  dsimp only [freeze]
  (repeat' split) <;> first | rfl | simp

@[simp] theorem freeze_meu (s : State) : (freeze s).meu = s.meu := by
  dsimp only [freeze]
  (repeat' split) <;> first | rfl | simp

@[simp] theorem freeze_flu (s : State) : (freeze s).flu = s.flu := by
  dsimp only [freeze]
  (repeat' split) <;> first | rfl | simp

@[simp] theorem freeze_outer (s : State) : (freeze s).outer = s.outer := by
  dsimp only [freeze]
  (repeat' split) <;> first | rfl | simp

@[simp] theorem freeze_log (s : State) : (freeze s).log = s.log := by
  dsimp only [freeze]
  (repeat' split) <;> first | rfl | simp

@[simp] theorem freeze_identity (s : State) : (freeze s).identity = s.identity := by
  dsimp only [freeze]
  (repeat' split) <;> first | rfl | simp

@[simp] theorem freeze_rosters (s : State) : (freeze s).rosters = s.rosters := by
  dsimp only [freeze]
  (repeat' split) <;> first | rfl | simp

@[simp] theorem freeze_space (s : State) : (freeze s).space = s.space := by
  dsimp only [freeze]
  (repeat' split) <;> first | rfl | simp

@[simp] theorem freeze_claimState (s : State) : (freeze s).claimState = s.claimState := by
  dsimp only [freeze]
  (repeat' split) <;> first | rfl | simp

@[simp] theorem freeze_faultState (s : State) : (freeze s).faultState = s.faultState := by
  dsimp only [freeze]
  (repeat' split) <;> first | rfl | simp

@[simp] theorem freeze_fenceState (s : State) : (freeze s).fenceState = s.fenceState := by
  dsimp only [freeze]
  (repeat' split) <;> first | rfl | simp

@[simp] theorem freezeForFence_lif (s : State) : (freezeForFence s).lif = s.lif := by
  dsimp only [freezeForFence]
  (repeat' split) <;> first | rfl | simp

@[simp] theorem freezeForFence_stc (s : State) : (freezeForFence s).stc = s.stc := by
  dsimp only [freezeForFence]
  (repeat' split) <;> first | rfl | simp

@[simp] theorem freezeForFence_jtb (s : State) : (freezeForFence s).jtb = s.jtb := by
  dsimp only [freezeForFence]
  (repeat' split) <;> first | rfl | simp

@[simp] theorem freezeForFence_rvu (s : State) : (freezeForFence s).rvu = s.rvu := by
  dsimp only [freezeForFence]
  (repeat' split) <;> first | rfl | simp

@[simp] theorem freezeForFence_scu (s : State) : (freezeForFence s).scu = s.scu := by
  dsimp only [freezeForFence]
  (repeat' split) <;> first | rfl | simp

@[simp] theorem freezeForFence_meu (s : State) : (freezeForFence s).meu = s.meu := by
  dsimp only [freezeForFence]
  (repeat' split) <;> first | rfl | simp

@[simp] theorem freezeForFence_flu (s : State) : (freezeForFence s).flu = s.flu := by
  dsimp only [freezeForFence]
  (repeat' split) <;> first | rfl | simp

@[simp] theorem freezeForFence_outer (s : State) : (freezeForFence s).outer = s.outer := by
  dsimp only [freezeForFence]
  (repeat' split) <;> first | rfl | simp

@[simp] theorem freezeForFence_log (s : State) : (freezeForFence s).log = s.log := by
  dsimp only [freezeForFence]
  (repeat' split) <;> first | rfl | simp

@[simp] theorem freezeForFence_identity (s : State) : (freezeForFence s).identity = s.identity := by
  dsimp only [freezeForFence]
  (repeat' split) <;> first | rfl | simp

@[simp] theorem freezeForFence_rosters (s : State) : (freezeForFence s).rosters = s.rosters := by
  dsimp only [freezeForFence]
  (repeat' split) <;> first | rfl | simp

@[simp] theorem freezeForFence_space (s : State) : (freezeForFence s).space = s.space := by
  dsimp only [freezeForFence]
  (repeat' split) <;> first | rfl | simp

@[simp] theorem freezeForFence_claimState (s : State) : (freezeForFence s).claimState = s.claimState := by
  dsimp only [freezeForFence]
  (repeat' split) <;> first | rfl | simp

@[simp] theorem freezeForFence_faultState (s : State) : (freezeForFence s).faultState = s.faultState := by
  dsimp only [freezeForFence]
  (repeat' split) <;> first | rfl | simp

@[simp] theorem freezeForFence_fenceState (s : State) : (freezeForFence s).fenceState = s.fenceState := by
  dsimp only [freezeForFence]
  (repeat' split) <;> first | rfl | simp

@[simp] theorem haltFreeze_stc (s : State) : (haltFreeze s).stc = s.stc := by
  dsimp only [haltFreeze]
  (repeat' split) <;> first | rfl | simp

@[simp] theorem haltFreeze_jtb (s : State) : (haltFreeze s).jtb = s.jtb := by
  dsimp only [haltFreeze]
  (repeat' split) <;> first | rfl | simp

@[simp] theorem haltFreeze_flu (s : State) : (haltFreeze s).flu = s.flu := by
  dsimp only [haltFreeze]
  (repeat' split) <;> first | rfl | simp

@[simp] theorem haltFreeze_outer (s : State) : (haltFreeze s).outer = s.outer := by
  dsimp only [haltFreeze]
  (repeat' split) <;> first | rfl | simp

@[simp] theorem haltFreeze_log (s : State) : (haltFreeze s).log = s.log := by
  dsimp only [haltFreeze]
  (repeat' split) <;> first | rfl | simp

@[simp] theorem haltFreeze_identity (s : State) : (haltFreeze s).identity = s.identity := by
  dsimp only [haltFreeze]
  (repeat' split) <;> first | rfl | simp

@[simp] theorem haltFreeze_rosters (s : State) : (haltFreeze s).rosters = s.rosters := by
  dsimp only [haltFreeze]
  (repeat' split) <;> first | rfl | simp

@[simp] theorem haltFreeze_space (s : State) : (haltFreeze s).space = s.space := by
  dsimp only [haltFreeze]
  (repeat' split) <;> first | rfl | simp

@[simp] theorem haltFreeze_claimState (s : State) : (haltFreeze s).claimState = s.claimState := by
  dsimp only [haltFreeze]
  (repeat' split) <;> first | rfl | simp

@[simp] theorem haltFreeze_faultState (s : State) : (haltFreeze s).faultState = s.faultState := by
  dsimp only [haltFreeze]
  (repeat' split) <;> first | rfl | simp

@[simp] theorem haltFreeze_fenceState (s : State) : (haltFreeze s).fenceState = s.fenceState := by
  dsimp only [haltFreeze]
  (repeat' split) <;> first | rfl | simp

@[simp] theorem silenceScu_lif (s : State) : (silenceScu s).lif = s.lif := by
  dsimp only [silenceScu]
  (repeat' split) <;> first | rfl | simp

@[simp] theorem silenceScu_stc (s : State) : (silenceScu s).stc = s.stc := by
  dsimp only [silenceScu]
  (repeat' split) <;> first | rfl | simp

@[simp] theorem silenceScu_jtb (s : State) : (silenceScu s).jtb = s.jtb := by
  dsimp only [silenceScu]
  (repeat' split) <;> first | rfl | simp

@[simp] theorem silenceScu_rvu (s : State) : (silenceScu s).rvu = s.rvu := by
  dsimp only [silenceScu]
  (repeat' split) <;> first | rfl | simp

@[simp] theorem silenceScu_msq (s : State) : (silenceScu s).msq = s.msq := by
  dsimp only [silenceScu]
  (repeat' split) <;> first | rfl | simp

@[simp] theorem silenceScu_meu (s : State) : (silenceScu s).meu = s.meu := by
  dsimp only [silenceScu]
  (repeat' split) <;> first | rfl | simp

@[simp] theorem silenceScu_flu (s : State) : (silenceScu s).flu = s.flu := by
  dsimp only [silenceScu]
  (repeat' split) <;> first | rfl | simp

@[simp] theorem silenceScu_outer (s : State) : (silenceScu s).outer = s.outer := by
  dsimp only [silenceScu]
  (repeat' split) <;> first | rfl | simp

@[simp] theorem silenceScu_log (s : State) : (silenceScu s).log = s.log := by
  dsimp only [silenceScu]
  (repeat' split) <;> first | rfl | simp

@[simp] theorem silenceScu_identity (s : State) : (silenceScu s).identity = s.identity := by
  dsimp only [silenceScu]
  (repeat' split) <;> first | rfl | simp

@[simp] theorem silenceScu_rosters (s : State) : (silenceScu s).rosters = s.rosters := by
  dsimp only [silenceScu]
  (repeat' split) <;> first | rfl | simp

@[simp] theorem silenceScu_space (s : State) : (silenceScu s).space = s.space := by
  dsimp only [silenceScu]
  (repeat' split) <;> first | rfl | simp

@[simp] theorem silenceScu_claimState (s : State) : (silenceScu s).claimState = s.claimState := by
  dsimp only [silenceScu]
  (repeat' split) <;> first | rfl | simp

@[simp] theorem silenceScu_driveState (s : State) : (silenceScu s).driveState = s.driveState := by
  dsimp only [silenceScu]
  (repeat' split) <;> first | rfl | simp

@[simp] theorem silenceScu_faultState (s : State) : (silenceScu s).faultState = s.faultState := by
  dsimp only [silenceScu]
  (repeat' split) <;> first | rfl | simp

@[simp] theorem silenceScu_fenceState (s : State) : (silenceScu s).fenceState = s.fenceState := by
  dsimp only [silenceScu]
  (repeat' split) <;> first | rfl | simp

@[simp] theorem silentFence_jtb (mode : Nat) (code : Nat) (s : State) : (silentFence mode code s).jtb = s.jtb := by
  dsimp only [silentFence]
  (repeat' split) <;> first | rfl | simp

@[simp] theorem silentFence_outer (mode : Nat) (code : Nat) (s : State) : (silentFence mode code s).outer = s.outer := by
  dsimp only [silentFence]
  (repeat' split) <;> first | rfl | simp

@[simp] theorem silentFence_log (mode : Nat) (code : Nat) (s : State) : (silentFence mode code s).log = s.log := by
  dsimp only [silentFence]
  (repeat' split) <;> first | rfl | simp

@[simp] theorem silentFence_identity (mode : Nat) (code : Nat) (s : State) : (silentFence mode code s).identity = s.identity := by
  dsimp only [silentFence]
  (repeat' split) <;> first | rfl | simp

@[simp] theorem silentFence_rosters (mode : Nat) (code : Nat) (s : State) : (silentFence mode code s).rosters = s.rosters := by
  dsimp only [silentFence]
  (repeat' split) <;> first | rfl | simp

@[simp] theorem silentFence_space (mode : Nat) (code : Nat) (s : State) : (silentFence mode code s).space = s.space := by
  dsimp only [silentFence]
  (repeat' split) <;> first | rfl | simp

@[simp] theorem silentFence_claimState (mode : Nat) (code : Nat) (s : State) : (silentFence mode code s).claimState = s.claimState := by
  dsimp only [silentFence]
  (repeat' split) <;> first | rfl | simp

@[simp] theorem silentFence_faultState (mode : Nat) (code : Nat) (s : State) : (silentFence mode code s).faultState = s.faultState := by
  dsimp only [silentFence]
  (repeat' split) <;> first | rfl | simp

@[simp] theorem takeFault3_jtb (code : Nat) (s : State) : (takeFault3 code s).jtb = s.jtb := by
  dsimp only [takeFault3]
  (repeat' split) <;> first | rfl | simp

@[simp] theorem takeFault3_outer (code : Nat) (s : State) : (takeFault3 code s).outer = s.outer := by
  dsimp only [takeFault3]
  (repeat' split) <;> first | rfl | simp

@[simp] theorem takeFault3_log (code : Nat) (s : State) : (takeFault3 code s).log = s.log := by
  dsimp only [takeFault3]
  (repeat' split) <;> first | rfl | simp

@[simp] theorem takeFault3_identity (code : Nat) (s : State) : (takeFault3 code s).identity = s.identity := by
  dsimp only [takeFault3]
  (repeat' split) <;> first | rfl | simp

@[simp] theorem takeFault3_rosters (code : Nat) (s : State) : (takeFault3 code s).rosters = s.rosters := by
  dsimp only [takeFault3]
  (repeat' split) <;> first | rfl | simp

@[simp] theorem takeFault3_space (code : Nat) (s : State) : (takeFault3 code s).space = s.space := by
  dsimp only [takeFault3]
  (repeat' split) <;> first | rfl | simp

@[simp] theorem sendMove_jtb (x : Nat) (y : Nat) (z : Nat) (p : Profile) (s : State) : (sendMove x y z p s).jtb = s.jtb := by
  dsimp only [sendMove]
  (repeat' split) <;> first | rfl | simp

@[simp] theorem sendMove_outer (x : Nat) (y : Nat) (z : Nat) (p : Profile) (s : State) : (sendMove x y z p s).outer = s.outer := by
  dsimp only [sendMove]
  (repeat' split) <;> first | rfl | simp

@[simp] theorem sendMove_log (x : Nat) (y : Nat) (z : Nat) (p : Profile) (s : State) : (sendMove x y z p s).log = s.log := by
  dsimp only [sendMove]
  (repeat' split) <;> first | rfl | simp

@[simp] theorem sendMove_identity (x : Nat) (y : Nat) (z : Nat) (p : Profile) (s : State) : (sendMove x y z p s).identity = s.identity := by
  dsimp only [sendMove]
  (repeat' split) <;> first | rfl | simp

@[simp] theorem sendMove_rosters (x : Nat) (y : Nat) (z : Nat) (p : Profile) (s : State) : (sendMove x y z p s).rosters = s.rosters := by
  dsimp only [sendMove]
  (repeat' split) <;> first | rfl | simp

@[simp] theorem sendMove_space (x : Nat) (y : Nat) (z : Nat) (p : Profile) (s : State) : (sendMove x y z p s).space = s.space := by
  dsimp only [sendMove]
  (repeat' split) <;> first | rfl | simp

@[simp] theorem enterLift_jtb (s : State) : (enterLift s).jtb = s.jtb := by
  dsimp only [enterLift]
  (repeat' split) <;> first | rfl | simp

@[simp] theorem enterLift_outer (s : State) : (enterLift s).outer = s.outer := by
  dsimp only [enterLift]
  (repeat' split) <;> first | rfl | simp

@[simp] theorem enterLift_log (s : State) : (enterLift s).log = s.log := by
  dsimp only [enterLift]
  (repeat' split) <;> first | rfl | simp

@[simp] theorem enterLift_identity (s : State) : (enterLift s).identity = s.identity := by
  dsimp only [enterLift]
  (repeat' split) <;> first | rfl | simp

@[simp] theorem enterLift_rosters (s : State) : (enterLift s).rosters = s.rosters := by
  dsimp only [enterLift]
  (repeat' split) <;> first | rfl | simp

@[simp] theorem enterLift_space (s : State) : (enterLift s).space = s.space := by
  dsimp only [enterLift]
  (repeat' split) <;> first | rfl | simp

@[simp] theorem msqAbandon_jtb (s : State) : (msqAbandon s).jtb = s.jtb := by
  dsimp only [msqAbandon]
  (repeat' split) <;> first | rfl | simp

@[simp] theorem msqAbandon_outer (s : State) : (msqAbandon s).outer = s.outer := by
  dsimp only [msqAbandon]
  (repeat' split) <;> first | rfl | simp

@[simp] theorem msqAbandon_log (s : State) : (msqAbandon s).log = s.log := by
  dsimp only [msqAbandon]
  (repeat' split) <;> first | rfl | simp

@[simp] theorem msqAbandon_identity (s : State) : (msqAbandon s).identity = s.identity := by
  dsimp only [msqAbandon]
  (repeat' split) <;> first | rfl | simp

@[simp] theorem msqAbandon_rosters (s : State) : (msqAbandon s).rosters = s.rosters := by
  dsimp only [msqAbandon]
  (repeat' split) <;> first | rfl | simp

@[simp] theorem msqAbandon_space (s : State) : (msqAbandon s).space = s.space := by
  dsimp only [msqAbandon]
  (repeat' split) <;> first | rfl | simp

@[simp] theorem abandonMember_jtb (job : Nat) (s : State) : (abandonMember job s).jtb = s.jtb := by
  dsimp only [abandonMember]
  (repeat' split) <;> first | rfl | simp

@[simp] theorem abandonMember_outer (job : Nat) (s : State) : (abandonMember job s).outer = s.outer := by
  dsimp only [abandonMember]
  (repeat' split) <;> first | rfl | simp

@[simp] theorem abandonMember_log (job : Nat) (s : State) : (abandonMember job s).log = s.log := by
  dsimp only [abandonMember]
  (repeat' split) <;> first | rfl | simp

@[simp] theorem abandonMember_identity (job : Nat) (s : State) : (abandonMember job s).identity = s.identity := by
  dsimp only [abandonMember]
  (repeat' split) <;> first | rfl | simp

@[simp] theorem abandonMember_rosters (job : Nat) (s : State) : (abandonMember job s).rosters = s.rosters := by
  dsimp only [abandonMember]
  (repeat' split) <;> first | rfl | simp

@[simp] theorem abandonMember_space (job : Nat) (s : State) : (abandonMember job s).space = s.space := by
  dsimp only [abandonMember]
  (repeat' split) <;> first | rfl | simp

@[simp] theorem dropMember_jtb (job : Nat) (reason : DropReason) (lost : Nat) (s : State) : (dropMember job reason lost s).jtb = s.jtb := by
  dsimp only [dropMember]
  (repeat' split) <;> first | rfl | simp

@[simp] theorem dropMember_outer (job : Nat) (reason : DropReason) (lost : Nat) (s : State) : (dropMember job reason lost s).outer = s.outer := by
  dsimp only [dropMember]
  (repeat' split) <;> first | rfl | simp

@[simp] theorem dropMember_log (job : Nat) (reason : DropReason) (lost : Nat) (s : State) : (dropMember job reason lost s).log = s.log := by
  dsimp only [dropMember]
  (repeat' split) <;> first | rfl | simp

@[simp] theorem dropMember_identity (job : Nat) (reason : DropReason) (lost : Nat) (s : State) : (dropMember job reason lost s).identity = s.identity := by
  dsimp only [dropMember]
  (repeat' split) <;> first | rfl | simp

@[simp] theorem dropMember_rosters (job : Nat) (reason : DropReason) (lost : Nat) (s : State) : (dropMember job reason lost s).rosters = s.rosters := by
  dsimp only [dropMember]
  (repeat' split) <;> first | rfl | simp

@[simp] theorem dropMember_space (job : Nat) (reason : DropReason) (lost : Nat) (s : State) : (dropMember job reason lost s).space = s.space := by
  dsimp only [dropMember]
  (repeat' split) <;> first | rfl | simp

@[simp] theorem abandonAll_jtb (s : State) : (abandonAll s).jtb = s.jtb := foldl_view (·.jtb) (fun t a => by simp) _

@[simp] theorem abandonAll_outer (s : State) : (abandonAll s).outer = s.outer := foldl_view (·.outer) (fun t a => by simp) _

@[simp] theorem abandonAll_log (s : State) : (abandonAll s).log = s.log := foldl_view (·.log) (fun t a => by simp) _

@[simp] theorem abandonAll_identity (s : State) : (abandonAll s).identity = s.identity := foldl_view (·.identity) (fun t a => by simp) _

@[simp] theorem abandonAll_rosters (s : State) : (abandonAll s).rosters = s.rosters := foldl_view (·.rosters) (fun t a => by simp) _

@[simp] theorem abandonAll_space (s : State) : (abandonAll s).space = s.space := foldl_view (·.space) (fun t a => by simp) _

@[simp] theorem reportFence_jtb (mode : Nat) (code : Nat) (s : State) : (reportFence mode code s).jtb = s.jtb := by
  dsimp only [reportFence]; (repeat' split) <;>
    first | rfl | simp | (refine (foldl_view (·.jtb) (fun t a => ?_) _).trans ?_ <;> (repeat' split) <;> first | rfl | simp) | (simp; refine (foldl_view (·.jtb) (fun t a => ?_) _).trans ?_ <;> (repeat' split) <;> first | rfl | simp)

@[simp] theorem reportFence_outer (mode : Nat) (code : Nat) (s : State) : (reportFence mode code s).outer = s.outer := by
  dsimp only [reportFence]; (repeat' split) <;>
    first | rfl | simp | (refine (foldl_view (·.outer) (fun t a => ?_) _).trans ?_ <;> (repeat' split) <;> first | rfl | simp) | (simp; refine (foldl_view (·.outer) (fun t a => ?_) _).trans ?_ <;> (repeat' split) <;> first | rfl | simp)

@[simp] theorem reportFence_log (mode : Nat) (code : Nat) (s : State) : (reportFence mode code s).log = s.log := by
  dsimp only [reportFence]; (repeat' split) <;>
    first | rfl | simp | (refine (foldl_view (·.log) (fun t a => ?_) _).trans ?_ <;> (repeat' split) <;> first | rfl | simp) | (simp; refine (foldl_view (·.log) (fun t a => ?_) _).trans ?_ <;> (repeat' split) <;> first | rfl | simp)

@[simp] theorem reportFence_identity (mode : Nat) (code : Nat) (s : State) : (reportFence mode code s).identity = s.identity := by
  dsimp only [reportFence]; (repeat' split) <;>
    first | rfl | simp | (refine (foldl_view (·.identity) (fun t a => ?_) _).trans ?_ <;> (repeat' split) <;> first | rfl | simp) | (simp; refine (foldl_view (·.identity) (fun t a => ?_) _).trans ?_ <;> (repeat' split) <;> first | rfl | simp)

@[simp] theorem reportFence_rosters (mode : Nat) (code : Nat) (s : State) : (reportFence mode code s).rosters = s.rosters := by
  dsimp only [reportFence]; (repeat' split) <;>
    first | rfl | simp | (refine (foldl_view (·.rosters) (fun t a => ?_) _).trans ?_ <;> (repeat' split) <;> first | rfl | simp) | (simp; refine (foldl_view (·.rosters) (fun t a => ?_) _).trans ?_ <;> (repeat' split) <;> first | rfl | simp)

@[simp] theorem reportFence_space (mode : Nat) (code : Nat) (s : State) : (reportFence mode code s).space = s.space := by
  dsimp only [reportFence]; (repeat' split) <;>
    first | rfl | simp | (refine (foldl_view (·.space) (fun t a => ?_) _).trans ?_ <;> (repeat' split) <;> first | rfl | simp) | (simp; refine (foldl_view (·.space) (fun t a => ?_) _).trans ?_ <;> (repeat' split) <;> first | rfl | simp)

@[simp] theorem enterFence_jtb (code : Nat) (s : State) : (enterFence code s).jtb = s.jtb := by
  dsimp only [enterFence]
  (repeat' split) <;> first | rfl | simp

@[simp] theorem enterFence_outer (code : Nat) (s : State) : (enterFence code s).outer = s.outer := by
  dsimp only [enterFence]
  (repeat' split) <;> first | rfl | simp

@[simp] theorem enterFence_log (code : Nat) (s : State) : (enterFence code s).log = s.log := by
  dsimp only [enterFence]
  (repeat' split) <;> first | rfl | simp

@[simp] theorem enterFence_identity (code : Nat) (s : State) : (enterFence code s).identity = s.identity := by
  dsimp only [enterFence]
  (repeat' split) <;> first | rfl | simp

@[simp] theorem enterFence_rosters (code : Nat) (s : State) : (enterFence code s).rosters = s.rosters := by
  dsimp only [enterFence]
  (repeat' split) <;> first | rfl | simp

@[simp] theorem enterFence_space (code : Nat) (s : State) : (enterFence code s).space = s.space := by
  dsimp only [enterFence]
  (repeat' split) <;> first | rfl | simp

@[simp] theorem enterJoining_lif (s : State) : (enterJoining s).lif = s.lif := by
  dsimp only [enterJoining]
  (repeat' split) <;> first | rfl | simp

@[simp] theorem enterJoining_jtb (s : State) : (enterJoining s).jtb = s.jtb := by
  dsimp only [enterJoining]
  (repeat' split) <;> first | rfl | simp

@[simp] theorem enterJoining_rvu (s : State) : (enterJoining s).rvu = s.rvu := by
  dsimp only [enterJoining]
  (repeat' split) <;> first | rfl | simp

@[simp] theorem enterJoining_meu (s : State) : (enterJoining s).meu = s.meu := by
  dsimp only [enterJoining]
  (repeat' split) <;> first | rfl | simp

@[simp] theorem enterJoining_flu (s : State) : (enterJoining s).flu = s.flu := by
  dsimp only [enterJoining]
  (repeat' split) <;> first | rfl | simp

@[simp] theorem enterJoining_outer (s : State) : (enterJoining s).outer = s.outer := by
  dsimp only [enterJoining]
  (repeat' split) <;> first | rfl | simp

@[simp] theorem enterJoining_log (s : State) : (enterJoining s).log = s.log := by
  dsimp only [enterJoining]
  (repeat' split) <;> first | rfl | simp

@[simp] theorem enterJoining_identity (s : State) : (enterJoining s).identity = s.identity := by
  dsimp only [enterJoining]
  (repeat' split) <;> first | rfl | simp

@[simp] theorem enterJoining_rosters (s : State) : (enterJoining s).rosters = s.rosters := by
  dsimp only [enterJoining]
  (repeat' split) <;> first | rfl | simp

@[simp] theorem enterJoining_space (s : State) : (enterJoining s).space = s.space := by
  dsimp only [enterJoining]
  (repeat' split) <;> first | rfl | simp

@[simp] theorem enterJoining_driveState (s : State) : (enterJoining s).driveState = s.driveState := by
  dsimp only [enterJoining]
  (repeat' split) <;> first | rfl | simp

@[simp] theorem enterJoining_faultState (s : State) : (enterJoining s).faultState = s.faultState := by
  dsimp only [enterJoining]
  (repeat' split) <;> first | rfl | simp

@[simp] theorem enterJoining_fenceState (s : State) : (enterJoining s).fenceState = s.fenceState := by
  dsimp only [enterJoining]
  (repeat' split) <;> first | rfl | simp

@[simp] theorem beginSelfTest_lif (s : State) : (beginSelfTest s).lif = s.lif := by
  dsimp only [beginSelfTest]
  (repeat' split) <;> first | rfl | simp

@[simp] theorem beginSelfTest_jtb (s : State) : (beginSelfTest s).jtb = s.jtb := by
  dsimp only [beginSelfTest]
  (repeat' split) <;> first | rfl | simp

@[simp] theorem beginSelfTest_rvu (s : State) : (beginSelfTest s).rvu = s.rvu := by
  dsimp only [beginSelfTest]
  (repeat' split) <;> first | rfl | simp

@[simp] theorem beginSelfTest_scu (s : State) : (beginSelfTest s).scu = s.scu := by
  dsimp only [beginSelfTest]
  (repeat' split) <;> first | rfl | simp

@[simp] theorem beginSelfTest_msq (s : State) : (beginSelfTest s).msq = s.msq := by
  dsimp only [beginSelfTest]
  (repeat' split) <;> first | rfl | simp

@[simp] theorem beginSelfTest_meu (s : State) : (beginSelfTest s).meu = s.meu := by
  dsimp only [beginSelfTest]
  (repeat' split) <;> first | rfl | simp

@[simp] theorem beginSelfTest_flu (s : State) : (beginSelfTest s).flu = s.flu := by
  dsimp only [beginSelfTest]
  (repeat' split) <;> first | rfl | simp

@[simp] theorem beginSelfTest_outer (s : State) : (beginSelfTest s).outer = s.outer := by
  dsimp only [beginSelfTest]
  (repeat' split) <;> first | rfl | simp

@[simp] theorem beginSelfTest_log (s : State) : (beginSelfTest s).log = s.log := by
  dsimp only [beginSelfTest]
  (repeat' split) <;> first | rfl | simp

@[simp] theorem beginSelfTest_identity (s : State) : (beginSelfTest s).identity = s.identity := by
  dsimp only [beginSelfTest]
  (repeat' split) <;> first | rfl | simp

@[simp] theorem beginSelfTest_rosters (s : State) : (beginSelfTest s).rosters = s.rosters := by
  dsimp only [beginSelfTest]
  (repeat' split) <;> first | rfl | simp

@[simp] theorem beginSelfTest_space (s : State) : (beginSelfTest s).space = s.space := by
  dsimp only [beginSelfTest]
  (repeat' split) <;> first | rfl | simp

@[simp] theorem beginSelfTest_claimState (s : State) : (beginSelfTest s).claimState = s.claimState := by
  dsimp only [beginSelfTest]
  (repeat' split) <;> first | rfl | simp

@[simp] theorem beginSelfTest_driveState (s : State) : (beginSelfTest s).driveState = s.driveState := by
  dsimp only [beginSelfTest]
  (repeat' split) <;> first | rfl | simp

@[simp] theorem beginSelfTest_faultState (s : State) : (beginSelfTest s).faultState = s.faultState := by
  dsimp only [beginSelfTest]
  (repeat' split) <;> first | rfl | simp

@[simp] theorem beginSelfTest_fenceState (s : State) : (beginSelfTest s).fenceState = s.fenceState := by
  dsimp only [beginSelfTest]
  (repeat' split) <;> first | rfl | simp

@[simp] theorem clearDynamic_outer (s : State) : (clearDynamic s).outer = s.outer := by
  dsimp only [clearDynamic]
  (repeat' split) <;> first | rfl | simp

@[simp] theorem clearDynamic_log (s : State) : (clearDynamic s).log = s.log := by
  dsimp only [clearDynamic]
  (repeat' split) <;> first | rfl | simp

@[simp] theorem clearDynamic_identity (s : State) : (clearDynamic s).identity = s.identity := by
  dsimp only [clearDynamic]
  (repeat' split) <;> first | rfl | simp

@[simp] theorem clearDynamic_driveState (s : State) : (clearDynamic s).driveState = s.driveState := by
  dsimp only [clearDynamic]
  (repeat' split) <;> first | rfl | simp

@[simp] theorem clearDynamic_faultState (s : State) : (clearDynamic s).faultState = s.faultState := by
  dsimp only [clearDynamic]
  (repeat' split) <;> first | rfl | simp

@[simp] theorem clearPhase_outer (driveFailed : Bool) (prom : Option (List Byte)) (s : State) : (clearPhase driveFailed prom s).outer = s.outer := by
  dsimp only [clearPhase]
  (repeat' split) <;> first | rfl | simp

@[simp] theorem clearPhase_log (driveFailed : Bool) (prom : Option (List Byte)) (s : State) : (clearPhase driveFailed prom s).log = s.log := by
  dsimp only [clearPhase]
  (repeat' split) <;> first | rfl | simp

@[simp] theorem clearPhase_identity (driveFailed : Bool) (prom : Option (List Byte)) (s : State) : (clearPhase driveFailed prom s).identity = s.identity := by
  dsimp only [clearPhase]
  (repeat' split) <;> first | rfl | simp

@[simp] theorem clearPhase_driveState (driveFailed : Bool) (prom : Option (List Byte)) (s : State) : (clearPhase driveFailed prom s).driveState = s.driveState := by
  dsimp only [clearPhase]
  (repeat' split) <;> first | rfl | simp

@[simp] theorem startRestart_outer (prom : Option (List Byte)) (s : State) : (startRestart prom s).outer = s.outer := by
  dsimp only [startRestart]
  (repeat' split) <;> first | rfl | simp

@[simp] theorem startRestart_log (prom : Option (List Byte)) (s : State) : (startRestart prom s).log = s.log := by
  dsimp only [startRestart]
  (repeat' split) <;> first | rfl | simp

@[simp] theorem startRestart_identity (prom : Option (List Byte)) (s : State) : (startRestart prom s).identity = s.identity := by
  dsimp only [startRestart]
  (repeat' split) <;> first | rfl | simp

@[simp] theorem takeFault_outer (code : Nat) (s : State) : (takeFault code s).outer = s.outer := by
  dsimp only [takeFault]
  (repeat' split) <;> first | rfl | simp

@[simp] theorem takeFault_log (code : Nat) (s : State) : (takeFault code s).log = s.log := by
  dsimp only [takeFault]
  (repeat' split) <;> first | rfl | simp

@[simp] theorem takeFault_identity (code : Nat) (s : State) : (takeFault code s).identity = s.identity := by
  dsimp only [takeFault]
  (repeat' split) <;> first | rfl | simp

@[simp] theorem startDeafness_stc (s : State) : (startDeafness s).stc = s.stc := by
  dsimp only [startDeafness]
  (repeat' split) <;> first | rfl | simp

@[simp] theorem startDeafness_jtb (s : State) : (startDeafness s).jtb = s.jtb := by
  dsimp only [startDeafness]
  (repeat' split) <;> first | rfl | simp

@[simp] theorem startDeafness_rvu (s : State) : (startDeafness s).rvu = s.rvu := by
  dsimp only [startDeafness]
  (repeat' split) <;> first | rfl | simp

@[simp] theorem startDeafness_scu (s : State) : (startDeafness s).scu = s.scu := by
  dsimp only [startDeafness]
  (repeat' split) <;> first | rfl | simp

@[simp] theorem startDeafness_msq (s : State) : (startDeafness s).msq = s.msq := by
  dsimp only [startDeafness]
  (repeat' split) <;> first | rfl | simp

@[simp] theorem startDeafness_meu (s : State) : (startDeafness s).meu = s.meu := by
  dsimp only [startDeafness]
  (repeat' split) <;> first | rfl | simp

@[simp] theorem startDeafness_flu (s : State) : (startDeafness s).flu = s.flu := by
  dsimp only [startDeafness]
  (repeat' split) <;> first | rfl | simp

@[simp] theorem startDeafness_outer (s : State) : (startDeafness s).outer = s.outer := by
  dsimp only [startDeafness]
  (repeat' split) <;> first | rfl | simp

@[simp] theorem startDeafness_log (s : State) : (startDeafness s).log = s.log := by
  dsimp only [startDeafness]
  (repeat' split) <;> first | rfl | simp

@[simp] theorem startDeafness_identity (s : State) : (startDeafness s).identity = s.identity := by
  dsimp only [startDeafness]
  (repeat' split) <;> first | rfl | simp

@[simp] theorem startDeafness_rosters (s : State) : (startDeafness s).rosters = s.rosters := by
  dsimp only [startDeafness]
  (repeat' split) <;> first | rfl | simp

@[simp] theorem startDeafness_space (s : State) : (startDeafness s).space = s.space := by
  dsimp only [startDeafness]
  (repeat' split) <;> first | rfl | simp

@[simp] theorem startDeafness_claimState (s : State) : (startDeafness s).claimState = s.claimState := by
  dsimp only [startDeafness]
  (repeat' split) <;> first | rfl | simp

@[simp] theorem startDeafness_driveState (s : State) : (startDeafness s).driveState = s.driveState := by
  dsimp only [startDeafness]
  (repeat' split) <;> first | rfl | simp

@[simp] theorem startDeafness_faultState (s : State) : (startDeafness s).faultState = s.faultState := by
  dsimp only [startDeafness]
  (repeat' split) <;> first | rfl | simp

@[simp] theorem startDeafness_fenceState (s : State) : (startDeafness s).fenceState = s.fenceState := by
  dsimp only [startDeafness]
  (repeat' split) <;> first | rfl | simp

@[simp] theorem completeJoin_jtb (s : State) : (completeJoin s).jtb = s.jtb := by
  dsimp only [completeJoin]
  (repeat' split) <;> first | rfl | simp

@[simp] theorem completeJoin_rvu (s : State) : (completeJoin s).rvu = s.rvu := by
  dsimp only [completeJoin]
  (repeat' split) <;> first | rfl | simp

@[simp] theorem completeJoin_scu (s : State) : (completeJoin s).scu = s.scu := by
  dsimp only [completeJoin]
  (repeat' split) <;> first | rfl | simp

@[simp] theorem completeJoin_msq (s : State) : (completeJoin s).msq = s.msq := by
  dsimp only [completeJoin]
  (repeat' split) <;> first | rfl | simp

@[simp] theorem completeJoin_meu (s : State) : (completeJoin s).meu = s.meu := by
  dsimp only [completeJoin]
  (repeat' split) <;> first | rfl | simp

@[simp] theorem completeJoin_flu (s : State) : (completeJoin s).flu = s.flu := by
  dsimp only [completeJoin]
  (repeat' split) <;> first | rfl | simp

@[simp] theorem completeJoin_outer (s : State) : (completeJoin s).outer = s.outer := by
  dsimp only [completeJoin]
  (repeat' split) <;> first | rfl | simp

@[simp] theorem completeJoin_log (s : State) : (completeJoin s).log = s.log := by
  dsimp only [completeJoin]
  (repeat' split) <;> first | rfl | simp

@[simp] theorem completeJoin_identity (s : State) : (completeJoin s).identity = s.identity := by
  dsimp only [completeJoin]
  (repeat' split) <;> first | rfl | simp

@[simp] theorem completeJoin_rosters (s : State) : (completeJoin s).rosters = s.rosters := by
  dsimp only [completeJoin]
  (repeat' split) <;> first | rfl | simp

@[simp] theorem completeJoin_space (s : State) : (completeJoin s).space = s.space := by
  dsimp only [completeJoin]
  (repeat' split) <;> first | rfl | simp

@[simp] theorem completeJoin_claimState (s : State) : (completeJoin s).claimState = s.claimState := by
  dsimp only [completeJoin]
  (repeat' split) <;> first | rfl | simp

@[simp] theorem completeJoin_driveState (s : State) : (completeJoin s).driveState = s.driveState := by
  dsimp only [completeJoin]
  (repeat' split) <;> first | rfl | simp

@[simp] theorem completeJoin_faultState (s : State) : (completeJoin s).faultState = s.faultState := by
  dsimp only [completeJoin]
  (repeat' split) <;> first | rfl | simp

@[simp] theorem completeJoin_fenceState (s : State) : (completeJoin s).fenceState = s.fenceState := by
  dsimp only [completeJoin]
  (repeat' split) <;> first | rfl | simp

@[simp] theorem startConflict_jtb (s : State) : (startConflict s).jtb = s.jtb := by
  dsimp only [startConflict]
  (repeat' split) <;> first | rfl | simp

@[simp] theorem startConflict_outer (s : State) : (startConflict s).outer = s.outer := by
  dsimp only [startConflict]
  (repeat' split) <;> first | rfl | simp

@[simp] theorem startConflict_log (s : State) : (startConflict s).log = s.log := by
  dsimp only [startConflict]
  (repeat' split) <;> first | rfl | simp

@[simp] theorem startConflict_identity (s : State) : (startConflict s).identity = s.identity := by
  dsimp only [startConflict]
  (repeat' split) <;> first | rfl | simp

@[simp] theorem startConflict_rosters (s : State) : (startConflict s).rosters = s.rosters := by
  dsimp only [startConflict]
  (repeat' split) <;> first | rfl | simp

@[simp] theorem startConflict_space (s : State) : (startConflict s).space = s.space := by
  dsimp only [startConflict]
  (repeat' split) <;> first | rfl | simp

@[simp] theorem startConflict_claimState (s : State) : (startConflict s).claimState = s.claimState := by
  dsimp only [startConflict]
  (repeat' split) <;> first | rfl | simp

end Sys2Proof.Machine
end

