-- ==== Sys2Proof/Laws/Settle.lean ====
section
/-! SUPPORT. What the operations of Machine/Settle.lean leave alone: one lemma for each block and each view of the state that an
operation does not touch. -/

namespace Sys2Proof.Machine

open Sys2Proof

variable {s : State}

@[simp] theorem queueClaim_stc (c : Claim) (s : State) : (queueClaim c s).stc = s.stc := by
  dsimp only [queueClaim]
  (repeat' split) <;> first | rfl | simp

@[simp] theorem queueClaim_jtb (c : Claim) (s : State) : (queueClaim c s).jtb = s.jtb := by
  dsimp only [queueClaim]
  (repeat' split) <;> first | rfl | simp

@[simp] theorem queueClaim_rvu (c : Claim) (s : State) : (queueClaim c s).rvu = s.rvu := by
  dsimp only [queueClaim]
  (repeat' split) <;> first | rfl | simp

@[simp] theorem queueClaim_msq (c : Claim) (s : State) : (queueClaim c s).msq = s.msq := by
  dsimp only [queueClaim]
  (repeat' split) <;> first | rfl | simp

@[simp] theorem queueClaim_meu (c : Claim) (s : State) : (queueClaim c s).meu = s.meu := by
  dsimp only [queueClaim]
  (repeat' split) <;> first | rfl | simp

@[simp] theorem queueClaim_flu (c : Claim) (s : State) : (queueClaim c s).flu = s.flu := by
  dsimp only [queueClaim]
  (repeat' split) <;> first | rfl | simp

@[simp] theorem queueClaim_outer (c : Claim) (s : State) : (queueClaim c s).outer = s.outer := by
  dsimp only [queueClaim]
  (repeat' split) <;> first | rfl | simp

@[simp] theorem queueClaim_log (c : Claim) (s : State) : (queueClaim c s).log = s.log := by
  dsimp only [queueClaim]
  (repeat' split) <;> first | rfl | simp

@[simp] theorem queueClaim_identity (c : Claim) (s : State) : (queueClaim c s).identity = s.identity := by
  dsimp only [queueClaim]
  (repeat' split) <;> first | rfl | simp

@[simp] theorem queueClaim_rosters (c : Claim) (s : State) : (queueClaim c s).rosters = s.rosters := by
  dsimp only [queueClaim]
  (repeat' split) <;> first | rfl | simp

@[simp] theorem queueClaim_space (c : Claim) (s : State) : (queueClaim c s).space = s.space := by
  dsimp only [queueClaim]
  (repeat' split) <;> first | rfl | simp

@[simp] theorem queueClaim_claimState (c : Claim) (s : State) : (queueClaim c s).claimState = s.claimState := by
  dsimp only [queueClaim]
  (repeat' split) <;> first | rfl | simp

@[simp] theorem queueClaim_driveState (c : Claim) (s : State) : (queueClaim c s).driveState = s.driveState := by
  dsimp only [queueClaim]
  (repeat' split) <;> first | rfl | simp

@[simp] theorem queueClaim_faultState (c : Claim) (s : State) : (queueClaim c s).faultState = s.faultState := by
  dsimp only [queueClaim]
  (repeat' split) <;> first | rfl | simp

@[simp] theorem queueClaim_fenceState (c : Claim) (s : State) : (queueClaim c s).fenceState = s.fenceState := by
  dsimp only [queueClaim]
  (repeat' split) <;> first | rfl | simp

@[simp] theorem askTravel_stc (s : State) : (askTravel s).stc = s.stc := by
  dsimp only [askTravel]
  (repeat' split) <;> first | rfl | simp

@[simp] theorem askTravel_jtb (s : State) : (askTravel s).jtb = s.jtb := by
  dsimp only [askTravel]
  (repeat' split) <;> first | rfl | simp

@[simp] theorem askTravel_rvu (s : State) : (askTravel s).rvu = s.rvu := by
  dsimp only [askTravel]
  (repeat' split) <;> first | rfl | simp

@[simp] theorem askTravel_meu (s : State) : (askTravel s).meu = s.meu := by
  dsimp only [askTravel]
  (repeat' split) <;> first | rfl | simp

@[simp] theorem askTravel_flu (s : State) : (askTravel s).flu = s.flu := by
  dsimp only [askTravel]
  (repeat' split) <;> first | rfl | simp

@[simp] theorem askTravel_outer (s : State) : (askTravel s).outer = s.outer := by
  dsimp only [askTravel]
  (repeat' split) <;> first | rfl | simp

@[simp] theorem askTravel_log (s : State) : (askTravel s).log = s.log := by
  dsimp only [askTravel]
  (repeat' split) <;> first | rfl | simp

@[simp] theorem askTravel_identity (s : State) : (askTravel s).identity = s.identity := by
  dsimp only [askTravel]
  (repeat' split) <;> first | rfl | simp

@[simp] theorem askTravel_rosters (s : State) : (askTravel s).rosters = s.rosters := by
  dsimp only [askTravel]
  (repeat' split) <;> first | rfl | simp

@[simp] theorem askTravel_space (s : State) : (askTravel s).space = s.space := by
  dsimp only [askTravel]
  (repeat' split) <;> first | rfl | simp

@[simp] theorem askTravel_claimState (s : State) : (askTravel s).claimState = s.claimState := by
  dsimp only [askTravel]
  (repeat' split) <;> first | rfl | simp

@[simp] theorem askTravel_driveState (s : State) : (askTravel s).driveState = s.driveState := by
  dsimp only [askTravel]
  (repeat' split) <;> first | rfl | simp

@[simp] theorem askTravel_faultState (s : State) : (askTravel s).faultState = s.faultState := by
  dsimp only [askTravel]
  (repeat' split) <;> first | rfl | simp

@[simp] theorem askTravel_fenceState (s : State) : (askTravel s).fenceState = s.fenceState := by
  dsimp only [askTravel]
  (repeat' split) <;> first | rfl | simp

@[simp] theorem askPark_stc (s : State) : (askPark s).stc = s.stc := by
  dsimp only [askPark]
  (repeat' split) <;> first | rfl | simp

@[simp] theorem askPark_jtb (s : State) : (askPark s).jtb = s.jtb := by
  dsimp only [askPark]
  (repeat' split) <;> first | rfl | simp

@[simp] theorem askPark_rvu (s : State) : (askPark s).rvu = s.rvu := by
  dsimp only [askPark]
  (repeat' split) <;> first | rfl | simp

@[simp] theorem askPark_meu (s : State) : (askPark s).meu = s.meu := by
  dsimp only [askPark]
  (repeat' split) <;> first | rfl | simp

@[simp] theorem askPark_flu (s : State) : (askPark s).flu = s.flu := by
  dsimp only [askPark]
  (repeat' split) <;> first | rfl | simp

@[simp] theorem askPark_outer (s : State) : (askPark s).outer = s.outer := by
  dsimp only [askPark]
  (repeat' split) <;> first | rfl | simp

@[simp] theorem askPark_log (s : State) : (askPark s).log = s.log := by
  dsimp only [askPark]
  (repeat' split) <;> first | rfl | simp

@[simp] theorem askPark_identity (s : State) : (askPark s).identity = s.identity := by
  dsimp only [askPark]
  (repeat' split) <;> first | rfl | simp

@[simp] theorem askPark_rosters (s : State) : (askPark s).rosters = s.rosters := by
  dsimp only [askPark]
  (repeat' split) <;> first | rfl | simp

@[simp] theorem askPark_space (s : State) : (askPark s).space = s.space := by
  dsimp only [askPark]
  (repeat' split) <;> first | rfl | simp

@[simp] theorem askPark_claimState (s : State) : (askPark s).claimState = s.claimState := by
  dsimp only [askPark]
  (repeat' split) <;> first | rfl | simp

@[simp] theorem askPark_driveState (s : State) : (askPark s).driveState = s.driveState := by
  dsimp only [askPark]
  (repeat' split) <;> first | rfl | simp

@[simp] theorem askPark_faultState (s : State) : (askPark s).faultState = s.faultState := by
  dsimp only [askPark]
  (repeat' split) <;> first | rfl | simp

@[simp] theorem askPark_fenceState (s : State) : (askPark s).fenceState = s.fenceState := by
  dsimp only [askPark]
  (repeat' split) <;> first | rfl | simp

@[simp] theorem settleHalt_stc (s : State) : (settleHalt s).stc = s.stc := by
  dsimp only [settleHalt]
  (repeat' split) <;> first | rfl | simp

@[simp] theorem settleHalt_jtb (s : State) : (settleHalt s).jtb = s.jtb := by
  dsimp only [settleHalt]
  (repeat' split) <;> first | rfl | simp

@[simp] theorem settleHalt_flu (s : State) : (settleHalt s).flu = s.flu := by
  dsimp only [settleHalt]
  (repeat' split) <;> first | rfl | simp

@[simp] theorem settleHalt_outer (s : State) : (settleHalt s).outer = s.outer := by
  dsimp only [settleHalt]
  (repeat' split) <;> first | rfl | simp

@[simp] theorem settleHalt_log (s : State) : (settleHalt s).log = s.log := by
  dsimp only [settleHalt]
  (repeat' split) <;> first | rfl | simp

@[simp] theorem settleHalt_identity (s : State) : (settleHalt s).identity = s.identity := by
  dsimp only [settleHalt]
  (repeat' split) <;> first | rfl | simp

@[simp] theorem settleHalt_rosters (s : State) : (settleHalt s).rosters = s.rosters := by
  dsimp only [settleHalt]
  (repeat' split) <;> first | rfl | simp

@[simp] theorem settleHalt_space (s : State) : (settleHalt s).space = s.space := by
  dsimp only [settleHalt]
  (repeat' split) <;> first | rfl | simp

@[simp] theorem settleHalt_claimState (s : State) : (settleHalt s).claimState = s.claimState := by
  dsimp only [settleHalt]
  (repeat' split) <;> first | rfl | simp

@[simp] theorem settleHalt_faultState (s : State) : (settleHalt s).faultState = s.faultState := by
  dsimp only [settleHalt]
  (repeat' split) <;> first | rfl | simp

@[simp] theorem settleHalt_fenceState (s : State) : (settleHalt s).fenceState = s.fenceState := by
  dsimp only [settleHalt]
  (repeat' split) <;> first | rfl | simp

@[simp] theorem settleClaim_jtb (s : State) : (settleClaim s).jtb = s.jtb := by
  dsimp only [settleClaim]
  (repeat' split) <;> first | rfl | simp

@[simp] theorem settleClaim_meu (s : State) : (settleClaim s).meu = s.meu := by
  dsimp only [settleClaim]
  (repeat' split) <;> first | rfl | simp

@[simp] theorem settleClaim_flu (s : State) : (settleClaim s).flu = s.flu := by
  dsimp only [settleClaim]
  (repeat' split) <;> first | rfl | simp

@[simp] theorem settleClaim_outer (s : State) : (settleClaim s).outer = s.outer := by
  dsimp only [settleClaim]
  (repeat' split) <;> first | rfl | simp

@[simp] theorem settleClaim_log (s : State) : (settleClaim s).log = s.log := by
  dsimp only [settleClaim]
  (repeat' split) <;> first | rfl | simp

@[simp] theorem settleClaim_identity (s : State) : (settleClaim s).identity = s.identity := by
  dsimp only [settleClaim]
  (repeat' split) <;> first | rfl | simp

@[simp] theorem settleClaim_rosters (s : State) : (settleClaim s).rosters = s.rosters := by
  dsimp only [settleClaim]
  (repeat' split) <;> first | rfl | simp

@[simp] theorem settleClaim_space (s : State) : (settleClaim s).space = s.space := by
  dsimp only [settleClaim]
  (repeat' split) <;> first | rfl | simp

@[simp] theorem settleClaim_claimState (s : State) : (settleClaim s).claimState = s.claimState := by
  dsimp only [settleClaim]
  (repeat' split) <;> first | rfl | simp

@[simp] theorem settleClaim_driveState (s : State) : (settleClaim s).driveState = s.driveState := by
  dsimp only [settleClaim]
  (repeat' split) <;> first | rfl | simp

@[simp] theorem settleClaim_faultState (s : State) : (settleClaim s).faultState = s.faultState := by
  dsimp only [settleClaim]
  (repeat' split) <;> first | rfl | simp

@[simp] theorem settleClaim_fenceState (s : State) : (settleClaim s).fenceState = s.fenceState := by
  dsimp only [settleClaim]
  (repeat' split) <;> first | rfl | simp

@[simp] theorem settleAction_lif (s : State) : (settleAction s).lif = s.lif := by
  dsimp only [settleAction]
  (repeat' split) <;> first | rfl | simp

@[simp] theorem settleAction_stc (s : State) : (settleAction s).stc = s.stc := by
  dsimp only [settleAction]
  (repeat' split) <;> first | rfl | simp

@[simp] theorem settleAction_jtb (s : State) : (settleAction s).jtb = s.jtb := by
  dsimp only [settleAction]
  (repeat' split) <;> first | rfl | simp

@[simp] theorem settleAction_rvu (s : State) : (settleAction s).rvu = s.rvu := by
  dsimp only [settleAction]
  (repeat' split) <;> first | rfl | simp

@[simp] theorem settleAction_scu (s : State) : (settleAction s).scu = s.scu := by
  dsimp only [settleAction]
  (repeat' split) <;> first | rfl | simp

@[simp] theorem settleAction_msq (s : State) : (settleAction s).msq = s.msq := by
  dsimp only [settleAction]
  (repeat' split) <;> first | rfl | simp

@[simp] theorem settleAction_meu (s : State) : (settleAction s).meu = s.meu := by
  dsimp only [settleAction]
  (repeat' split) <;> first | rfl | simp

@[simp] theorem settleAction_outer (s : State) : (settleAction s).outer = s.outer := by
  dsimp only [settleAction]
  (repeat' split) <;> first | rfl | simp

@[simp] theorem settleAction_log (s : State) : (settleAction s).log = s.log := by
  dsimp only [settleAction]
  (repeat' split) <;> first | rfl | simp

@[simp] theorem settleAction_identity (s : State) : (settleAction s).identity = s.identity := by
  dsimp only [settleAction]
  (repeat' split) <;> first | rfl | simp

@[simp] theorem settleAction_rosters (s : State) : (settleAction s).rosters = s.rosters := by
  dsimp only [settleAction]
  (repeat' split) <;> first | rfl | simp

@[simp] theorem settleAction_space (s : State) : (settleAction s).space = s.space := by
  dsimp only [settleAction]
  (repeat' split) <;> first | rfl | simp

@[simp] theorem settleAction_claimState (s : State) : (settleAction s).claimState = s.claimState := by
  dsimp only [settleAction]
  (repeat' split) <;> first | rfl | simp

@[simp] theorem settleAction_driveState (s : State) : (settleAction s).driveState = s.driveState := by
  dsimp only [settleAction]
  (repeat' split) <;> first | rfl | simp

@[simp] theorem settleAction_faultState (s : State) : (settleAction s).faultState = s.faultState := by
  dsimp only [settleAction]
  (repeat' split) <;> first | rfl | simp

@[simp] theorem settleRestart_outer (s : State) : (settleRestart s).outer = s.outer := by
  dsimp only [settleRestart]
  (repeat' split) <;> first | rfl | simp

@[simp] theorem settleRestart_log (s : State) : (settleRestart s).log = s.log := by
  dsimp only [settleRestart]
  (repeat' split) <;> first | rfl | simp

@[simp] theorem settleRestart_identity (s : State) : (settleRestart s).identity = s.identity := by
  dsimp only [settleRestart]
  (repeat' split) <;> first | rfl | simp

@[simp] theorem settlePlacing_jtb (s : State) : (settlePlacing s).jtb = s.jtb := by
  dsimp only [settlePlacing]
  (repeat' split) <;> first | rfl | simp

@[simp] theorem settlePlacing_outer (s : State) : (settlePlacing s).outer = s.outer := by
  dsimp only [settlePlacing]
  (repeat' split) <;> first | rfl | simp

@[simp] theorem settlePlacing_log (s : State) : (settlePlacing s).log = s.log := by
  dsimp only [settlePlacing]
  (repeat' split) <;> first | rfl | simp

@[simp] theorem settlePlacing_identity (s : State) : (settlePlacing s).identity = s.identity := by
  dsimp only [settlePlacing]
  (repeat' split) <;> first | rfl | simp

@[simp] theorem settlePlacing_rosters (s : State) : (settlePlacing s).rosters = s.rosters := by
  dsimp only [settlePlacing]
  (repeat' split) <;> first | rfl | simp

@[simp] theorem settlePlacing_space (s : State) : (settlePlacing s).space = s.space := by
  dsimp only [settlePlacing]
  (repeat' split) <;> first | rfl | simp

@[simp] theorem settlePlacing_claimState (s : State) : (settlePlacing s).claimState = s.claimState := by
  dsimp only [settlePlacing]
  (repeat' split) <;> first | rfl | simp

@[simp] theorem settleHandover_lif (s : State) : (settleHandover s).lif = s.lif := by
  dsimp only [settleHandover]
  (repeat' split) <;> first | rfl | simp

@[simp] theorem settleHandover_stc (s : State) : (settleHandover s).stc = s.stc := by
  dsimp only [settleHandover]
  (repeat' split) <;> first | rfl | simp

@[simp] theorem settleHandover_jtb (s : State) : (settleHandover s).jtb = s.jtb := by
  dsimp only [settleHandover]
  (repeat' split) <;> first | rfl | simp

@[simp] theorem settleHandover_scu (s : State) : (settleHandover s).scu = s.scu := by
  dsimp only [settleHandover]
  (repeat' split) <;> first | rfl | simp

@[simp] theorem settleHandover_meu (s : State) : (settleHandover s).meu = s.meu := by
  dsimp only [settleHandover]
  (repeat' split) <;> first | rfl | simp

@[simp] theorem settleHandover_flu (s : State) : (settleHandover s).flu = s.flu := by
  dsimp only [settleHandover]
  (repeat' split) <;> first | rfl | simp

@[simp] theorem settleHandover_outer (s : State) : (settleHandover s).outer = s.outer := by
  dsimp only [settleHandover]
  (repeat' split) <;> first | rfl | simp

@[simp] theorem settleHandover_log (s : State) : (settleHandover s).log = s.log := by
  dsimp only [settleHandover]
  (repeat' split) <;> first | rfl | simp

@[simp] theorem settleHandover_identity (s : State) : (settleHandover s).identity = s.identity := by
  dsimp only [settleHandover]
  (repeat' split) <;> first | rfl | simp

@[simp] theorem settleHandover_rosters (s : State) : (settleHandover s).rosters = s.rosters := by
  dsimp only [settleHandover]
  (repeat' split) <;> first | rfl | simp

@[simp] theorem settleHandover_space (s : State) : (settleHandover s).space = s.space := by
  dsimp only [settleHandover]
  (repeat' split) <;> first | rfl | simp

@[simp] theorem settleHandover_claimState (s : State) : (settleHandover s).claimState = s.claimState := by
  dsimp only [settleHandover]
  (repeat' split) <;> first | rfl | simp

@[simp] theorem settleHandover_driveState (s : State) : (settleHandover s).driveState = s.driveState := by
  dsimp only [settleHandover]
  (repeat' split) <;> first | rfl | simp

@[simp] theorem settleHandover_faultState (s : State) : (settleHandover s).faultState = s.faultState := by
  dsimp only [settleHandover]
  (repeat' split) <;> first | rfl | simp

@[simp] theorem settleHandover_fenceState (s : State) : (settleHandover s).fenceState = s.fenceState := by
  dsimp only [settleHandover]
  (repeat' split) <;> first | rfl | simp

@[simp] theorem settleServe_stc (s : State) : (settleServe s).stc = s.stc := by
  dsimp only [settleServe]
  (repeat' split) <;> first | rfl | simp

@[simp] theorem settleServe_jtb (s : State) : (settleServe s).jtb = s.jtb := by
  dsimp only [settleServe]
  (repeat' split) <;> first | rfl | simp

@[simp] theorem settleServe_rvu (s : State) : (settleServe s).rvu = s.rvu := by
  dsimp only [settleServe]
  (repeat' split) <;> first | rfl | simp

@[simp] theorem settleServe_meu (s : State) : (settleServe s).meu = s.meu := by
  dsimp only [settleServe]
  (repeat' split) <;> first | rfl | simp

@[simp] theorem settleServe_flu (s : State) : (settleServe s).flu = s.flu := by
  dsimp only [settleServe]
  (repeat' split) <;> first | rfl | simp

@[simp] theorem settleServe_outer (s : State) : (settleServe s).outer = s.outer := by
  dsimp only [settleServe]
  (repeat' split) <;> first | rfl | simp

@[simp] theorem settleServe_log (s : State) : (settleServe s).log = s.log := by
  dsimp only [settleServe]
  (repeat' split) <;> first | rfl | simp

@[simp] theorem settleServe_identity (s : State) : (settleServe s).identity = s.identity := by
  dsimp only [settleServe]
  (repeat' split) <;> first | rfl | simp

@[simp] theorem settleServe_rosters (s : State) : (settleServe s).rosters = s.rosters := by
  dsimp only [settleServe]
  (repeat' split) <;> first | rfl | simp

@[simp] theorem settleServe_space (s : State) : (settleServe s).space = s.space := by
  dsimp only [settleServe]
  (repeat' split) <;> first | rfl | simp

@[simp] theorem settleServe_claimState (s : State) : (settleServe s).claimState = s.claimState := by
  dsimp only [settleServe]
  (repeat' split) <;> first | rfl | simp

@[simp] theorem settleServe_driveState (s : State) : (settleServe s).driveState = s.driveState := by
  dsimp only [settleServe]
  (repeat' split) <;> first | rfl | simp

@[simp] theorem settleServe_faultState (s : State) : (settleServe s).faultState = s.faultState := by
  dsimp only [settleServe]
  (repeat' split) <;> first | rfl | simp

@[simp] theorem settleServe_fenceState (s : State) : (settleServe s).fenceState = s.fenceState := by
  dsimp only [settleServe]
  (repeat' split) <;> first | rfl | simp

@[simp] theorem settleIdle_stc (s : State) : (settleIdle s).stc = s.stc := by
  dsimp only [settleIdle]
  (repeat' split) <;> first | rfl | simp

@[simp] theorem settleIdle_jtb (s : State) : (settleIdle s).jtb = s.jtb := by
  dsimp only [settleIdle]
  (repeat' split) <;> first | rfl | simp

@[simp] theorem settleIdle_rvu (s : State) : (settleIdle s).rvu = s.rvu := by
  dsimp only [settleIdle]
  (repeat' split) <;> first | rfl | simp

@[simp] theorem settleIdle_meu (s : State) : (settleIdle s).meu = s.meu := by
  dsimp only [settleIdle]
  (repeat' split) <;> first | rfl | simp

@[simp] theorem settleIdle_flu (s : State) : (settleIdle s).flu = s.flu := by
  dsimp only [settleIdle]
  (repeat' split) <;> first | rfl | simp

@[simp] theorem settleIdle_outer (s : State) : (settleIdle s).outer = s.outer := by
  dsimp only [settleIdle]
  (repeat' split) <;> first | rfl | simp

@[simp] theorem settleIdle_log (s : State) : (settleIdle s).log = s.log := by
  dsimp only [settleIdle]
  (repeat' split) <;> first | rfl | simp

@[simp] theorem settleIdle_identity (s : State) : (settleIdle s).identity = s.identity := by
  dsimp only [settleIdle]
  (repeat' split) <;> first | rfl | simp

@[simp] theorem settleIdle_rosters (s : State) : (settleIdle s).rosters = s.rosters := by
  dsimp only [settleIdle]
  (repeat' split) <;> first | rfl | simp

@[simp] theorem settleIdle_space (s : State) : (settleIdle s).space = s.space := by
  dsimp only [settleIdle]
  (repeat' split) <;> first | rfl | simp

@[simp] theorem settleIdle_claimState (s : State) : (settleIdle s).claimState = s.claimState := by
  dsimp only [settleIdle]
  (repeat' split) <;> first | rfl | simp

@[simp] theorem settleIdle_driveState (s : State) : (settleIdle s).driveState = s.driveState := by
  dsimp only [settleIdle]
  (repeat' split) <;> first | rfl | simp

@[simp] theorem settleIdle_faultState (s : State) : (settleIdle s).faultState = s.faultState := by
  dsimp only [settleIdle]
  (repeat' split) <;> first | rfl | simp

@[simp] theorem settleIdle_fenceState (s : State) : (settleIdle s).fenceState = s.fenceState := by
  dsimp only [settleIdle]
  (repeat' split) <;> first | rfl | simp

@[simp] theorem settleSpace_stc (s : State) : (settleSpace s).stc = s.stc := by
  dsimp only [settleSpace]
  (repeat' split) <;> first | rfl | simp

@[simp] theorem settleSpace_jtb (s : State) : (settleSpace s).jtb = s.jtb := by
  dsimp only [settleSpace]
  (repeat' split) <;> first | rfl | simp

@[simp] theorem settleSpace_rvu (s : State) : (settleSpace s).rvu = s.rvu := by
  dsimp only [settleSpace]
  (repeat' split) <;> first | rfl | simp

@[simp] theorem settleSpace_meu (s : State) : (settleSpace s).meu = s.meu := by
  dsimp only [settleSpace]
  (repeat' split) <;> first | rfl | simp

@[simp] theorem settleSpace_flu (s : State) : (settleSpace s).flu = s.flu := by
  dsimp only [settleSpace]
  (repeat' split) <;> first | rfl | simp

@[simp] theorem settleSpace_outer (s : State) : (settleSpace s).outer = s.outer := by
  dsimp only [settleSpace]
  (repeat' split) <;> first | rfl | simp

@[simp] theorem settleSpace_log (s : State) : (settleSpace s).log = s.log := by
  dsimp only [settleSpace]
  (repeat' split) <;> first | rfl | simp

@[simp] theorem settleSpace_identity (s : State) : (settleSpace s).identity = s.identity := by
  dsimp only [settleSpace]
  (repeat' split) <;> first | rfl | simp

@[simp] theorem settleSpace_rosters (s : State) : (settleSpace s).rosters = s.rosters := by
  dsimp only [settleSpace]
  (repeat' split) <;> first | rfl | simp

@[simp] theorem settleSpace_space (s : State) : (settleSpace s).space = s.space := by
  dsimp only [settleSpace]
  (repeat' split) <;> first | rfl | simp

@[simp] theorem settleSpace_claimState (s : State) : (settleSpace s).claimState = s.claimState := by
  dsimp only [settleSpace]
  (repeat' split) <;> first | rfl | simp

@[simp] theorem settleSpace_driveState (s : State) : (settleSpace s).driveState = s.driveState := by
  dsimp only [settleSpace]
  (repeat' split) <;> first | rfl | simp

@[simp] theorem settleSpace_faultState (s : State) : (settleSpace s).faultState = s.faultState := by
  dsimp only [settleSpace]
  (repeat' split) <;> first | rfl | simp

@[simp] theorem settleSpace_fenceState (s : State) : (settleSpace s).fenceState = s.fenceState := by
  dsimp only [settleSpace]
  (repeat' split) <;> first | rfl | simp

@[simp] theorem offerTake_stc (c : Candidate) (catchFlag : Bool) (s : State) : (offerTake c catchFlag s).stc = s.stc := by
  dsimp only [offerTake]
  (repeat' split) <;> first | rfl | simp

@[simp] theorem offerTake_jtb (c : Candidate) (catchFlag : Bool) (s : State) : (offerTake c catchFlag s).jtb = s.jtb := by
  dsimp only [offerTake]
  (repeat' split) <;> first | rfl | simp

@[simp] theorem offerTake_scu (c : Candidate) (catchFlag : Bool) (s : State) : (offerTake c catchFlag s).scu = s.scu := by
  dsimp only [offerTake]
  (repeat' split) <;> first | rfl | simp

@[simp] theorem offerTake_msq (c : Candidate) (catchFlag : Bool) (s : State) : (offerTake c catchFlag s).msq = s.msq := by
  dsimp only [offerTake]
  (repeat' split) <;> first | rfl | simp

@[simp] theorem offerTake_meu (c : Candidate) (catchFlag : Bool) (s : State) : (offerTake c catchFlag s).meu = s.meu := by
  dsimp only [offerTake]
  (repeat' split) <;> first | rfl | simp

@[simp] theorem offerTake_flu (c : Candidate) (catchFlag : Bool) (s : State) : (offerTake c catchFlag s).flu = s.flu := by
  dsimp only [offerTake]
  (repeat' split) <;> first | rfl | simp

@[simp] theorem offerTake_outer (c : Candidate) (catchFlag : Bool) (s : State) : (offerTake c catchFlag s).outer = s.outer := by
  dsimp only [offerTake]
  (repeat' split) <;> first | rfl | simp

@[simp] theorem offerTake_log (c : Candidate) (catchFlag : Bool) (s : State) : (offerTake c catchFlag s).log = s.log := by
  dsimp only [offerTake]
  (repeat' split) <;> first | rfl | simp

@[simp] theorem offerTake_identity (c : Candidate) (catchFlag : Bool) (s : State) : (offerTake c catchFlag s).identity = s.identity := by
  dsimp only [offerTake]
  (repeat' split) <;> first | rfl | simp

@[simp] theorem offerTake_rosters (c : Candidate) (catchFlag : Bool) (s : State) : (offerTake c catchFlag s).rosters = s.rosters := by
  dsimp only [offerTake]
  (repeat' split) <;> first | rfl | simp

@[simp] theorem offerTake_space (c : Candidate) (catchFlag : Bool) (s : State) : (offerTake c catchFlag s).space = s.space := by
  dsimp only [offerTake]
  (repeat' split) <;> first | rfl | simp

@[simp] theorem offerTake_claimState (c : Candidate) (catchFlag : Bool) (s : State) : (offerTake c catchFlag s).claimState = s.claimState := by
  dsimp only [offerTake]
  (repeat' split) <;> first | rfl | simp

@[simp] theorem offerTake_driveState (c : Candidate) (catchFlag : Bool) (s : State) : (offerTake c catchFlag s).driveState = s.driveState := by
  dsimp only [offerTake]
  (repeat' split) <;> first | rfl | simp

@[simp] theorem offerTake_faultState (c : Candidate) (catchFlag : Bool) (s : State) : (offerTake c catchFlag s).faultState = s.faultState := by
  dsimp only [offerTake]
  (repeat' split) <;> first | rfl | simp

@[simp] theorem offerTake_fenceState (c : Candidate) (catchFlag : Bool) (s : State) : (offerTake c catchFlag s).fenceState = s.fenceState := by
  dsimp only [offerTake]
  (repeat' split) <;> first | rfl | simp

@[simp] theorem settleTake_stc (s : State) : (settleTake s).stc = s.stc := by
  dsimp only [settleTake]
  (repeat' split) <;> first | rfl | simp

@[simp] theorem settleTake_jtb (s : State) : (settleTake s).jtb = s.jtb := by
  dsimp only [settleTake]
  (repeat' split) <;> first | rfl | simp

@[simp] theorem settleTake_scu (s : State) : (settleTake s).scu = s.scu := by
  dsimp only [settleTake]
  (repeat' split) <;> first | rfl | simp

@[simp] theorem settleTake_msq (s : State) : (settleTake s).msq = s.msq := by
  dsimp only [settleTake]
  (repeat' split) <;> first | rfl | simp

@[simp] theorem settleTake_meu (s : State) : (settleTake s).meu = s.meu := by
  dsimp only [settleTake]
  (repeat' split) <;> first | rfl | simp

@[simp] theorem settleTake_flu (s : State) : (settleTake s).flu = s.flu := by
  dsimp only [settleTake]
  (repeat' split) <;> first | rfl | simp

@[simp] theorem settleTake_outer (s : State) : (settleTake s).outer = s.outer := by
  dsimp only [settleTake]
  (repeat' split) <;> first | rfl | simp

@[simp] theorem settleTake_log (s : State) : (settleTake s).log = s.log := by
  dsimp only [settleTake]
  (repeat' split) <;> first | rfl | simp

@[simp] theorem settleTake_identity (s : State) : (settleTake s).identity = s.identity := by
  dsimp only [settleTake]
  (repeat' split) <;> first | rfl | simp

@[simp] theorem settleTake_rosters (s : State) : (settleTake s).rosters = s.rosters := by
  dsimp only [settleTake]
  (repeat' split) <;> first | rfl | simp

@[simp] theorem settleTake_space (s : State) : (settleTake s).space = s.space := by
  dsimp only [settleTake]
  (repeat' split) <;> first | rfl | simp

@[simp] theorem settleTake_claimState (s : State) : (settleTake s).claimState = s.claimState := by
  dsimp only [settleTake]
  (repeat' split) <;> first | rfl | simp

@[simp] theorem settleTake_driveState (s : State) : (settleTake s).driveState = s.driveState := by
  dsimp only [settleTake]
  (repeat' split) <;> first | rfl | simp

@[simp] theorem settleTake_faultState (s : State) : (settleTake s).faultState = s.faultState := by
  dsimp only [settleTake]
  (repeat' split) <;> first | rfl | simp

@[simp] theorem settleTake_fenceState (s : State) : (settleTake s).fenceState = s.fenceState := by
  dsimp only [settleTake]
  (repeat' split) <;> first | rfl | simp

@[simp] theorem settleCensus_stc (s : State) : (settleCensus s).stc = s.stc := by
  dsimp only [settleCensus]
  (repeat' split) <;> first | rfl | simp

@[simp] theorem settleCensus_jtb (s : State) : (settleCensus s).jtb = s.jtb := by
  dsimp only [settleCensus]
  (repeat' split) <;> first | rfl | simp

@[simp] theorem settleCensus_rvu (s : State) : (settleCensus s).rvu = s.rvu := by
  dsimp only [settleCensus]
  (repeat' split) <;> first | rfl | simp

@[simp] theorem settleCensus_msq (s : State) : (settleCensus s).msq = s.msq := by
  dsimp only [settleCensus]
  (repeat' split) <;> first | rfl | simp

@[simp] theorem settleCensus_meu (s : State) : (settleCensus s).meu = s.meu := by
  dsimp only [settleCensus]
  (repeat' split) <;> first | rfl | simp

@[simp] theorem settleCensus_flu (s : State) : (settleCensus s).flu = s.flu := by
  dsimp only [settleCensus]
  (repeat' split) <;> first | rfl | simp

@[simp] theorem settleCensus_outer (s : State) : (settleCensus s).outer = s.outer := by
  dsimp only [settleCensus]
  (repeat' split) <;> first | rfl | simp

@[simp] theorem settleCensus_log (s : State) : (settleCensus s).log = s.log := by
  dsimp only [settleCensus]
  (repeat' split) <;> first | rfl | simp

@[simp] theorem settleCensus_identity (s : State) : (settleCensus s).identity = s.identity := by
  dsimp only [settleCensus]
  (repeat' split) <;> first | rfl | simp

@[simp] theorem settleCensus_rosters (s : State) : (settleCensus s).rosters = s.rosters := by
  dsimp only [settleCensus]
  (repeat' split) <;> first | rfl | simp

@[simp] theorem settleCensus_space (s : State) : (settleCensus s).space = s.space := by
  dsimp only [settleCensus]
  (repeat' split) <;> first | rfl | simp

@[simp] theorem settleCensus_claimState (s : State) : (settleCensus s).claimState = s.claimState := by
  dsimp only [settleCensus]
  (repeat' split) <;> first | rfl | simp

@[simp] theorem settleCensus_driveState (s : State) : (settleCensus s).driveState = s.driveState := by
  dsimp only [settleCensus]
  (repeat' split) <;> first | rfl | simp

@[simp] theorem settleCensus_faultState (s : State) : (settleCensus s).faultState = s.faultState := by
  dsimp only [settleCensus]
  (repeat' split) <;> first | rfl | simp

@[simp] theorem settleCensus_fenceState (s : State) : (settleCensus s).fenceState = s.fenceState := by
  dsimp only [settleCensus]
  (repeat' split) <;> first | rfl | simp

@[simp] theorem settle_outer (s : State) : (settle s).outer = s.outer := by
  dsimp only [settle]
  (repeat' split) <;> first | rfl | simp

@[simp] theorem settle_log (s : State) : (settle s).log = s.log := by
  dsimp only [settle]
  (repeat' split) <;> first | rfl | simp

@[simp] theorem settle_identity (s : State) : (settle s).identity = s.identity := by
  dsimp only [settle]
  (repeat' split) <;> first | rfl | simp

end Sys2Proof.Machine
end

