-- ==== Sys2Proof/Laws/Ops.lean ====
section
/-! SUPPORT. What the operations of Machine/Ops.lean leave alone: one lemma for each block and each view of the state that an
operation does not touch. -/

namespace Sys2Proof.Machine

open Sys2Proof

variable {s : State}

@[simp] theorem hearOther_stc (s : State) : (hearOther s).stc = s.stc := by
  dsimp only [hearOther]
  (repeat' split) <;> first | rfl | simp

@[simp] theorem hearOther_jtb (s : State) : (hearOther s).jtb = s.jtb := by
  dsimp only [hearOther]
  (repeat' split) <;> first | rfl | simp

@[simp] theorem hearOther_rvu (s : State) : (hearOther s).rvu = s.rvu := by
  dsimp only [hearOther]
  (repeat' split) <;> first | rfl | simp

@[simp] theorem hearOther_scu (s : State) : (hearOther s).scu = s.scu := by
  dsimp only [hearOther]
  (repeat' split) <;> first | rfl | simp

@[simp] theorem hearOther_msq (s : State) : (hearOther s).msq = s.msq := by
  dsimp only [hearOther]
  (repeat' split) <;> first | rfl | simp

@[simp] theorem hearOther_meu (s : State) : (hearOther s).meu = s.meu := by
  dsimp only [hearOther]
  (repeat' split) <;> first | rfl | simp

@[simp] theorem hearOther_flu (s : State) : (hearOther s).flu = s.flu := by
  dsimp only [hearOther]
  (repeat' split) <;> first | rfl | simp

@[simp] theorem hearOther_outer (s : State) : (hearOther s).outer = s.outer := by
  dsimp only [hearOther]
  (repeat' split) <;> first | rfl | simp

@[simp] theorem hearOther_log (s : State) : (hearOther s).log = s.log := by
  dsimp only [hearOther]
  (repeat' split) <;> first | rfl | simp

@[simp] theorem hearOther_identity (s : State) : (hearOther s).identity = s.identity := by
  dsimp only [hearOther]
  (repeat' split) <;> first | rfl | simp

@[simp] theorem hearOther_rosters (s : State) : (hearOther s).rosters = s.rosters := by
  dsimp only [hearOther]
  (repeat' split) <;> first | rfl | simp

@[simp] theorem hearOther_space (s : State) : (hearOther s).space = s.space := by
  dsimp only [hearOther]
  (repeat' split) <;> first | rfl | simp

@[simp] theorem hearOther_claimState (s : State) : (hearOther s).claimState = s.claimState := by
  dsimp only [hearOther]
  (repeat' split) <;> first | rfl | simp

@[simp] theorem hearOther_driveState (s : State) : (hearOther s).driveState = s.driveState := by
  dsimp only [hearOther]
  (repeat' split) <;> first | rfl | simp

@[simp] theorem hearOther_faultState (s : State) : (hearOther s).faultState = s.faultState := by
  dsimp only [hearOther]
  (repeat' split) <;> first | rfl | simp

@[simp] theorem hearOther_fenceState (s : State) : (hearOther s).fenceState = s.fenceState := by
  dsimp only [hearOther]
  (repeat' split) <;> first | rfl | simp

@[simp] theorem hearPresence_lif (src : Nat) (s : State) : (hearPresence src s).lif = s.lif := by
  dsimp only [hearPresence]
  (repeat' split) <;> first | rfl | simp

@[simp] theorem hearPresence_jtb (src : Nat) (s : State) : (hearPresence src s).jtb = s.jtb := by
  dsimp only [hearPresence]
  (repeat' split) <;> first | rfl | simp

@[simp] theorem hearPresence_rvu (src : Nat) (s : State) : (hearPresence src s).rvu = s.rvu := by
  dsimp only [hearPresence]
  (repeat' split) <;> first | rfl | simp

@[simp] theorem hearPresence_scu (src : Nat) (s : State) : (hearPresence src s).scu = s.scu := by
  dsimp only [hearPresence]
  (repeat' split) <;> first | rfl | simp

@[simp] theorem hearPresence_msq (src : Nat) (s : State) : (hearPresence src s).msq = s.msq := by
  dsimp only [hearPresence]
  (repeat' split) <;> first | rfl | simp

@[simp] theorem hearPresence_meu (src : Nat) (s : State) : (hearPresence src s).meu = s.meu := by
  dsimp only [hearPresence]
  (repeat' split) <;> first | rfl | simp

@[simp] theorem hearPresence_flu (src : Nat) (s : State) : (hearPresence src s).flu = s.flu := by
  dsimp only [hearPresence]
  (repeat' split) <;> first | rfl | simp

@[simp] theorem hearPresence_outer (src : Nat) (s : State) : (hearPresence src s).outer = s.outer := by
  dsimp only [hearPresence]
  (repeat' split) <;> first | rfl | simp

@[simp] theorem hearPresence_log (src : Nat) (s : State) : (hearPresence src s).log = s.log := by
  dsimp only [hearPresence]
  (repeat' split) <;> first | rfl | simp

@[simp] theorem hearPresence_identity (src : Nat) (s : State) : (hearPresence src s).identity = s.identity := by
  dsimp only [hearPresence]
  (repeat' split) <;> first | rfl | simp

@[simp] theorem hearPresence_space (src : Nat) (s : State) : (hearPresence src s).space = s.space := by
  dsimp only [hearPresence]
  (repeat' split) <;> first | rfl | simp

@[simp] theorem hearPresence_claimState (src : Nat) (s : State) : (hearPresence src s).claimState = s.claimState := by
  dsimp only [hearPresence]
  (repeat' split) <;> first | rfl | simp

@[simp] theorem hearPresence_driveState (src : Nat) (s : State) : (hearPresence src s).driveState = s.driveState := by
  dsimp only [hearPresence]
  (repeat' split) <;> first | rfl | simp

@[simp] theorem hearPresence_faultState (src : Nat) (s : State) : (hearPresence src s).faultState = s.faultState := by
  dsimp only [hearPresence]
  (repeat' split) <;> first | rfl | simp

@[simp] theorem hearPresence_fenceState (src : Nat) (s : State) : (hearPresence src s).fenceState = s.fenceState := by
  dsimp only [hearPresence]
  (repeat' split) <;> first | rfl | simp

@[simp] theorem storeSide_lif (k : Kind) (f : RxFrame) (s : State) : (storeSide k f s).lif = s.lif := by
  dsimp only [storeSide]
  (repeat' split) <;> first | rfl | simp

@[simp] theorem storeSide_jtb (k : Kind) (f : RxFrame) (s : State) : (storeSide k f s).jtb = s.jtb := by
  dsimp only [storeSide]
  (repeat' split) <;> first | rfl | simp

@[simp] theorem storeSide_rvu (k : Kind) (f : RxFrame) (s : State) : (storeSide k f s).rvu = s.rvu := by
  dsimp only [storeSide]
  (repeat' split) <;> first | rfl | simp

@[simp] theorem storeSide_scu (k : Kind) (f : RxFrame) (s : State) : (storeSide k f s).scu = s.scu := by
  dsimp only [storeSide]
  (repeat' split) <;> first | rfl | simp

@[simp] theorem storeSide_msq (k : Kind) (f : RxFrame) (s : State) : (storeSide k f s).msq = s.msq := by
  dsimp only [storeSide]
  (repeat' split) <;> first | rfl | simp

@[simp] theorem storeSide_meu (k : Kind) (f : RxFrame) (s : State) : (storeSide k f s).meu = s.meu := by
  dsimp only [storeSide]
  (repeat' split) <;> first | rfl | simp

@[simp] theorem storeSide_flu (k : Kind) (f : RxFrame) (s : State) : (storeSide k f s).flu = s.flu := by
  dsimp only [storeSide]
  (repeat' split) <;> first | rfl | simp

@[simp] theorem storeSide_outer (k : Kind) (f : RxFrame) (s : State) : (storeSide k f s).outer = s.outer := by
  dsimp only [storeSide]
  (repeat' split) <;> first | rfl | simp

@[simp] theorem storeSide_log (k : Kind) (f : RxFrame) (s : State) : (storeSide k f s).log = s.log := by
  dsimp only [storeSide]
  (repeat' split) <;> first | rfl | simp

@[simp] theorem storeSide_identity (k : Kind) (f : RxFrame) (s : State) : (storeSide k f s).identity = s.identity := by
  dsimp only [storeSide]
  (repeat' split) <;> first | rfl | simp

@[simp] theorem storeSide_space (k : Kind) (f : RxFrame) (s : State) : (storeSide k f s).space = s.space := by
  dsimp only [storeSide]
  (repeat' split) <;> first | rfl | simp

@[simp] theorem storeSide_claimState (k : Kind) (f : RxFrame) (s : State) : (storeSide k f s).claimState = s.claimState := by
  dsimp only [storeSide]
  (repeat' split) <;> first | rfl | simp

@[simp] theorem storeSide_driveState (k : Kind) (f : RxFrame) (s : State) : (storeSide k f s).driveState = s.driveState := by
  dsimp only [storeSide]
  (repeat' split) <;> first | rfl | simp

@[simp] theorem storeSide_faultState (k : Kind) (f : RxFrame) (s : State) : (storeSide k f s).faultState = s.faultState := by
  dsimp only [storeSide]
  (repeat' split) <;> first | rfl | simp

@[simp] theorem storeSide_fenceState (k : Kind) (f : RxFrame) (s : State) : (storeSide k f s).fenceState = s.fenceState := by
  dsimp only [storeSide]
  (repeat' split) <;> first | rfl | simp

@[simp] theorem moveTracker_stc (k : Kind) (src : Nat) (s : State) : (moveTracker k src s).stc = s.stc := by
  dsimp only [moveTracker]
  (repeat' split) <;> first | rfl | simp

@[simp] theorem moveTracker_jtb (k : Kind) (src : Nat) (s : State) : (moveTracker k src s).jtb = s.jtb := by
  dsimp only [moveTracker]
  (repeat' split) <;> first | rfl | simp

@[simp] theorem moveTracker_rvu (k : Kind) (src : Nat) (s : State) : (moveTracker k src s).rvu = s.rvu := by
  dsimp only [moveTracker]
  (repeat' split) <;> first | rfl | simp

@[simp] theorem moveTracker_scu (k : Kind) (src : Nat) (s : State) : (moveTracker k src s).scu = s.scu := by
  dsimp only [moveTracker]
  (repeat' split) <;> first | rfl | simp

@[simp] theorem moveTracker_msq (k : Kind) (src : Nat) (s : State) : (moveTracker k src s).msq = s.msq := by
  dsimp only [moveTracker]
  (repeat' split) <;> first | rfl | simp

@[simp] theorem moveTracker_meu (k : Kind) (src : Nat) (s : State) : (moveTracker k src s).meu = s.meu := by
  dsimp only [moveTracker]
  (repeat' split) <;> first | rfl | simp

@[simp] theorem moveTracker_flu (k : Kind) (src : Nat) (s : State) : (moveTracker k src s).flu = s.flu := by
  dsimp only [moveTracker]
  (repeat' split) <;> first | rfl | simp

@[simp] theorem moveTracker_outer (k : Kind) (src : Nat) (s : State) : (moveTracker k src s).outer = s.outer := by
  dsimp only [moveTracker]
  (repeat' split) <;> first | rfl | simp

@[simp] theorem moveTracker_identity (k : Kind) (src : Nat) (s : State) : (moveTracker k src s).identity = s.identity := by
  dsimp only [moveTracker]
  (repeat' split) <;> first | rfl | simp

@[simp] theorem moveTracker_rosters (k : Kind) (src : Nat) (s : State) : (moveTracker k src s).rosters = s.rosters := by
  dsimp only [moveTracker]
  (repeat' split) <;> first | rfl | simp

@[simp] theorem moveTracker_space (k : Kind) (src : Nat) (s : State) : (moveTracker k src s).space = s.space := by
  dsimp only [moveTracker]
  (repeat' split) <;> first | rfl | simp

@[simp] theorem moveTracker_claimState (k : Kind) (src : Nat) (s : State) : (moveTracker k src s).claimState = s.claimState := by
  dsimp only [moveTracker]
  (repeat' split) <;> first | rfl | simp

@[simp] theorem moveTracker_driveState (k : Kind) (src : Nat) (s : State) : (moveTracker k src s).driveState = s.driveState := by
  dsimp only [moveTracker]
  (repeat' split) <;> first | rfl | simp

@[simp] theorem moveTracker_faultState (k : Kind) (src : Nat) (s : State) : (moveTracker k src s).faultState = s.faultState := by
  dsimp only [moveTracker]
  (repeat' split) <;> first | rfl | simp

@[simp] theorem moveTracker_fenceState (k : Kind) (src : Nat) (s : State) : (moveTracker k src s).fenceState = s.fenceState := by
  dsimp only [moveTracker]
  (repeat' split) <;> first | rfl | simp

@[simp] theorem refuse_stc (unknownItem : Bool) (k : Kind) (f : RxFrame) (s : State) : (refuse unknownItem k f s).stc = s.stc := by
  dsimp only [refuse]
  (repeat' split) <;> first | rfl | simp

@[simp] theorem refuse_jtb (unknownItem : Bool) (k : Kind) (f : RxFrame) (s : State) : (refuse unknownItem k f s).jtb = s.jtb := by
  dsimp only [refuse]
  (repeat' split) <;> first | rfl | simp

@[simp] theorem refuse_rvu (unknownItem : Bool) (k : Kind) (f : RxFrame) (s : State) : (refuse unknownItem k f s).rvu = s.rvu := by
  dsimp only [refuse]
  (repeat' split) <;> first | rfl | simp

@[simp] theorem refuse_scu (unknownItem : Bool) (k : Kind) (f : RxFrame) (s : State) : (refuse unknownItem k f s).scu = s.scu := by
  dsimp only [refuse]
  (repeat' split) <;> first | rfl | simp

@[simp] theorem refuse_msq (unknownItem : Bool) (k : Kind) (f : RxFrame) (s : State) : (refuse unknownItem k f s).msq = s.msq := by
  dsimp only [refuse]
  (repeat' split) <;> first | rfl | simp

@[simp] theorem refuse_meu (unknownItem : Bool) (k : Kind) (f : RxFrame) (s : State) : (refuse unknownItem k f s).meu = s.meu := by
  dsimp only [refuse]
  (repeat' split) <;> first | rfl | simp

@[simp] theorem refuse_flu (unknownItem : Bool) (k : Kind) (f : RxFrame) (s : State) : (refuse unknownItem k f s).flu = s.flu := by
  dsimp only [refuse]
  (repeat' split) <;> first | rfl | simp

@[simp] theorem refuse_outer (unknownItem : Bool) (k : Kind) (f : RxFrame) (s : State) : (refuse unknownItem k f s).outer = s.outer := by
  dsimp only [refuse]
  (repeat' split) <;> first | rfl | simp

@[simp] theorem refuse_log (unknownItem : Bool) (k : Kind) (f : RxFrame) (s : State) : (refuse unknownItem k f s).log = s.log := by
  dsimp only [refuse]
  (repeat' split) <;> first | rfl | simp

@[simp] theorem refuse_identity (unknownItem : Bool) (k : Kind) (f : RxFrame) (s : State) : (refuse unknownItem k f s).identity = s.identity := by
  dsimp only [refuse]
  (repeat' split) <;> first | rfl | simp

@[simp] theorem refuse_rosters (unknownItem : Bool) (k : Kind) (f : RxFrame) (s : State) : (refuse unknownItem k f s).rosters = s.rosters := by
  dsimp only [refuse]
  (repeat' split) <;> first | rfl | simp

@[simp] theorem refuse_space (unknownItem : Bool) (k : Kind) (f : RxFrame) (s : State) : (refuse unknownItem k f s).space = s.space := by
  dsimp only [refuse]
  (repeat' split) <;> first | rfl | simp

@[simp] theorem refuse_claimState (unknownItem : Bool) (k : Kind) (f : RxFrame) (s : State) : (refuse unknownItem k f s).claimState = s.claimState := by
  dsimp only [refuse]
  (repeat' split) <;> first | rfl | simp

@[simp] theorem refuse_driveState (unknownItem : Bool) (k : Kind) (f : RxFrame) (s : State) : (refuse unknownItem k f s).driveState = s.driveState := by
  dsimp only [refuse]
  (repeat' split) <;> first | rfl | simp

@[simp] theorem refuse_faultState (unknownItem : Bool) (k : Kind) (f : RxFrame) (s : State) : (refuse unknownItem k f s).faultState = s.faultState := by
  dsimp only [refuse]
  (repeat' split) <;> first | rfl | simp

@[simp] theorem refuse_fenceState (unknownItem : Bool) (k : Kind) (f : RxFrame) (s : State) : (refuse unknownItem k f s).fenceState = s.fenceState := by
  dsimp only [refuse]
  (repeat' split) <;> first | rfl | simp

@[simp] theorem markHeard_stc (s : State) : (markHeard s).stc = s.stc := by
  dsimp only [markHeard]
  (repeat' split) <;> first | rfl | simp

@[simp] theorem markHeard_jtb (s : State) : (markHeard s).jtb = s.jtb := by
  dsimp only [markHeard]
  (repeat' split) <;> first | rfl | simp

@[simp] theorem markHeard_rvu (s : State) : (markHeard s).rvu = s.rvu := by
  dsimp only [markHeard]
  (repeat' split) <;> first | rfl | simp

@[simp] theorem markHeard_scu (s : State) : (markHeard s).scu = s.scu := by
  dsimp only [markHeard]
  (repeat' split) <;> first | rfl | simp

@[simp] theorem markHeard_msq (s : State) : (markHeard s).msq = s.msq := by
  dsimp only [markHeard]
  (repeat' split) <;> first | rfl | simp

@[simp] theorem markHeard_meu (s : State) : (markHeard s).meu = s.meu := by
  dsimp only [markHeard]
  (repeat' split) <;> first | rfl | simp

@[simp] theorem markHeard_flu (s : State) : (markHeard s).flu = s.flu := by
  dsimp only [markHeard]
  (repeat' split) <;> first | rfl | simp

@[simp] theorem markHeard_outer (s : State) : (markHeard s).outer = s.outer := by
  dsimp only [markHeard]
  (repeat' split) <;> first | rfl | simp

@[simp] theorem markHeard_log (s : State) : (markHeard s).log = s.log := by
  dsimp only [markHeard]
  (repeat' split) <;> first | rfl | simp

@[simp] theorem markHeard_identity (s : State) : (markHeard s).identity = s.identity := by
  dsimp only [markHeard]
  (repeat' split) <;> first | rfl | simp

@[simp] theorem markHeard_rosters (s : State) : (markHeard s).rosters = s.rosters := by
  dsimp only [markHeard]
  (repeat' split) <;> first | rfl | simp

@[simp] theorem markHeard_space (s : State) : (markHeard s).space = s.space := by
  dsimp only [markHeard]
  (repeat' split) <;> first | rfl | simp

@[simp] theorem markHeard_claimState (s : State) : (markHeard s).claimState = s.claimState := by
  dsimp only [markHeard]
  (repeat' split) <;> first | rfl | simp

@[simp] theorem markHeard_driveState (s : State) : (markHeard s).driveState = s.driveState := by
  dsimp only [markHeard]
  (repeat' split) <;> first | rfl | simp

@[simp] theorem markHeard_faultState (s : State) : (markHeard s).faultState = s.faultState := by
  dsimp only [markHeard]
  (repeat' split) <;> first | rfl | simp

@[simp] theorem markHeard_fenceState (s : State) : (markHeard s).fenceState = s.fenceState := by
  dsimp only [markHeard]
  (repeat' split) <;> first | rfl | simp

@[simp] theorem frameEnd_stc (own : Bool) (s : State) : (frameEnd own s).stc = s.stc := by
  dsimp only [frameEnd]
  (repeat' split) <;> first | rfl | simp

@[simp] theorem frameEnd_jtb (own : Bool) (s : State) : (frameEnd own s).jtb = s.jtb := by
  dsimp only [frameEnd]
  (repeat' split) <;> first | rfl | simp

@[simp] theorem frameEnd_rvu (own : Bool) (s : State) : (frameEnd own s).rvu = s.rvu := by
  dsimp only [frameEnd]
  (repeat' split) <;> first | rfl | simp

@[simp] theorem frameEnd_scu (own : Bool) (s : State) : (frameEnd own s).scu = s.scu := by
  dsimp only [frameEnd]
  (repeat' split) <;> first | rfl | simp

@[simp] theorem frameEnd_msq (own : Bool) (s : State) : (frameEnd own s).msq = s.msq := by
  dsimp only [frameEnd]
  (repeat' split) <;> first | rfl | simp

@[simp] theorem frameEnd_meu (own : Bool) (s : State) : (frameEnd own s).meu = s.meu := by
  dsimp only [frameEnd]
  (repeat' split) <;> first | rfl | simp

@[simp] theorem frameEnd_flu (own : Bool) (s : State) : (frameEnd own s).flu = s.flu := by
  dsimp only [frameEnd]
  (repeat' split) <;> first | rfl | simp

@[simp] theorem frameEnd_outer (own : Bool) (s : State) : (frameEnd own s).outer = s.outer := by
  dsimp only [frameEnd]
  (repeat' split) <;> first | rfl | simp

@[simp] theorem frameEnd_log (own : Bool) (s : State) : (frameEnd own s).log = s.log := by
  dsimp only [frameEnd]
  (repeat' split) <;> first | rfl | simp

@[simp] theorem frameEnd_identity (own : Bool) (s : State) : (frameEnd own s).identity = s.identity := by
  dsimp only [frameEnd]
  (repeat' split) <;> first | rfl | simp

@[simp] theorem frameEnd_rosters (own : Bool) (s : State) : (frameEnd own s).rosters = s.rosters := by
  dsimp only [frameEnd]
  (repeat' split) <;> first | rfl | simp

@[simp] theorem frameEnd_space (own : Bool) (s : State) : (frameEnd own s).space = s.space := by
  dsimp only [frameEnd]
  (repeat' split) <;> first | rfl | simp

@[simp] theorem frameEnd_claimState (own : Bool) (s : State) : (frameEnd own s).claimState = s.claimState := by
  dsimp only [frameEnd]
  (repeat' split) <;> first | rfl | simp

@[simp] theorem frameEnd_driveState (own : Bool) (s : State) : (frameEnd own s).driveState = s.driveState := by
  dsimp only [frameEnd]
  (repeat' split) <;> first | rfl | simp

@[simp] theorem frameEnd_faultState (own : Bool) (s : State) : (frameEnd own s).faultState = s.faultState := by
  dsimp only [frameEnd]
  (repeat' split) <;> first | rfl | simp

@[simp] theorem frameEnd_fenceState (own : Bool) (s : State) : (frameEnd own s).fenceState = s.fenceState := by
  dsimp only [frameEnd]
  (repeat' split) <;> first | rfl | simp

@[simp] theorem received_jtb (k : Kind) (f : RxFrame) (s : State) : (received k f s).jtb = s.jtb := by
  dsimp only [received]
  (repeat' split) <;> first | rfl | simp

@[simp] theorem received_rvu (k : Kind) (f : RxFrame) (s : State) : (received k f s).rvu = s.rvu := by
  dsimp only [received]
  (repeat' split) <;> first | rfl | simp

@[simp] theorem received_scu (k : Kind) (f : RxFrame) (s : State) : (received k f s).scu = s.scu := by
  dsimp only [received]
  (repeat' split) <;> first | rfl | simp

@[simp] theorem received_msq (k : Kind) (f : RxFrame) (s : State) : (received k f s).msq = s.msq := by
  dsimp only [received]
  (repeat' split) <;> first | rfl | simp

@[simp] theorem received_meu (k : Kind) (f : RxFrame) (s : State) : (received k f s).meu = s.meu := by
  dsimp only [received]
  (repeat' split) <;> first | rfl | simp

@[simp] theorem received_flu (k : Kind) (f : RxFrame) (s : State) : (received k f s).flu = s.flu := by
  dsimp only [received]
  (repeat' split) <;> first | rfl | simp

@[simp] theorem received_outer (k : Kind) (f : RxFrame) (s : State) : (received k f s).outer = s.outer := by
  dsimp only [received]
  (repeat' split) <;> first | rfl | simp

@[simp] theorem received_identity (k : Kind) (f : RxFrame) (s : State) : (received k f s).identity = s.identity := by
  dsimp only [received]
  (repeat' split) <;> first | rfl | simp

@[simp] theorem received_space (k : Kind) (f : RxFrame) (s : State) : (received k f s).space = s.space := by
  dsimp only [received]
  (repeat' split) <;> first | rfl | simp

@[simp] theorem received_claimState (k : Kind) (f : RxFrame) (s : State) : (received k f s).claimState = s.claimState := by
  dsimp only [received]
  (repeat' split) <;> first | rfl | simp

@[simp] theorem received_driveState (k : Kind) (f : RxFrame) (s : State) : (received k f s).driveState = s.driveState := by
  dsimp only [received]
  (repeat' split) <;> first | rfl | simp

@[simp] theorem received_faultState (k : Kind) (f : RxFrame) (s : State) : (received k f s).faultState = s.faultState := by
  dsimp only [received]
  (repeat' split) <;> first | rfl | simp

@[simp] theorem received_fenceState (k : Kind) (f : RxFrame) (s : State) : (received k f s).fenceState = s.fenceState := by
  dsimp only [received]
  (repeat' split) <;> first | rfl | simp

end Sys2Proof.Machine
end

