-- ==== Sys2Proof/Laws/MotionOps.lean ====
section
/-! SUPPORT. What the operations of Machine/MotionOps.lean leave alone: one lemma for each block and each view of the state that an
operation does not touch. -/

namespace Sys2Proof.Machine

open Sys2Proof

variable {s : State}

@[simp] theorem standAtTip_lif (s : State) : (standAtTip s).lif = s.lif := by
  dsimp only [standAtTip]
  (repeat' split) <;> first | rfl | simp

@[simp] theorem standAtTip_stc (s : State) : (standAtTip s).stc = s.stc := by
  dsimp only [standAtTip]
  (repeat' split) <;> first | rfl | simp

@[simp] theorem standAtTip_jtb (s : State) : (standAtTip s).jtb = s.jtb := by
  dsimp only [standAtTip]
  (repeat' split) <;> first | rfl | simp

@[simp] theorem standAtTip_rvu (s : State) : (standAtTip s).rvu = s.rvu := by
  dsimp only [standAtTip]
  (repeat' split) <;> first | rfl | simp

@[simp] theorem standAtTip_scu (s : State) : (standAtTip s).scu = s.scu := by
  dsimp only [standAtTip]
  (repeat' split) <;> first | rfl | simp

@[simp] theorem standAtTip_meu (s : State) : (standAtTip s).meu = s.meu := by
  dsimp only [standAtTip]
  (repeat' split) <;> first | rfl | simp

@[simp] theorem standAtTip_flu (s : State) : (standAtTip s).flu = s.flu := by
  dsimp only [standAtTip]
  (repeat' split) <;> first | rfl | simp

@[simp] theorem standAtTip_outer (s : State) : (standAtTip s).outer = s.outer := by
  dsimp only [standAtTip]
  (repeat' split) <;> first | rfl | simp

@[simp] theorem standAtTip_log (s : State) : (standAtTip s).log = s.log := by
  dsimp only [standAtTip]
  (repeat' split) <;> first | rfl | simp

@[simp] theorem standAtTip_identity (s : State) : (standAtTip s).identity = s.identity := by
  dsimp only [standAtTip]
  (repeat' split) <;> first | rfl | simp

@[simp] theorem standAtTip_rosters (s : State) : (standAtTip s).rosters = s.rosters := by
  dsimp only [standAtTip]
  (repeat' split) <;> first | rfl | simp

@[simp] theorem standAtTip_space (s : State) : (standAtTip s).space = s.space := by
  dsimp only [standAtTip]
  (repeat' split) <;> first | rfl | simp

@[simp] theorem standAtTip_claimState (s : State) : (standAtTip s).claimState = s.claimState := by
  dsimp only [standAtTip]
  (repeat' split) <;> first | rfl | simp

@[simp] theorem standAtTip_driveState (s : State) : (standAtTip s).driveState = s.driveState := by
  dsimp only [standAtTip]
  (repeat' split) <;> first | rfl | simp

@[simp] theorem standAtTip_faultState (s : State) : (standAtTip s).faultState = s.faultState := by
  dsimp only [standAtTip]
  (repeat' split) <;> first | rfl | simp

@[simp] theorem standAtTip_fenceState (s : State) : (standAtTip s).fenceState = s.fenceState := by
  dsimp only [standAtTip]
  (repeat' split) <;> first | rfl | simp

@[simp] theorem descentEnd_stc (noContact : Bool) (s : State) : (descentEnd noContact s).stc = s.stc := by
  dsimp only [descentEnd]
  (repeat' split) <;> first | rfl | simp

@[simp] theorem descentEnd_jtb (noContact : Bool) (s : State) : (descentEnd noContact s).jtb = s.jtb := by
  dsimp only [descentEnd]
  (repeat' split) <;> first | rfl | simp

@[simp] theorem descentEnd_scu (noContact : Bool) (s : State) : (descentEnd noContact s).scu = s.scu := by
  dsimp only [descentEnd]
  (repeat' split) <;> first | rfl | simp

@[simp] theorem descentEnd_meu (noContact : Bool) (s : State) : (descentEnd noContact s).meu = s.meu := by
  dsimp only [descentEnd]
  (repeat' split) <;> first | rfl | simp

@[simp] theorem descentEnd_flu (noContact : Bool) (s : State) : (descentEnd noContact s).flu = s.flu := by
  dsimp only [descentEnd]
  (repeat' split) <;> first | rfl | simp

@[simp] theorem descentEnd_outer (noContact : Bool) (s : State) : (descentEnd noContact s).outer = s.outer := by
  dsimp only [descentEnd]
  (repeat' split) <;> first | rfl | simp

@[simp] theorem descentEnd_log (noContact : Bool) (s : State) : (descentEnd noContact s).log = s.log := by
  dsimp only [descentEnd]
  (repeat' split) <;> first | rfl | simp

@[simp] theorem descentEnd_identity (noContact : Bool) (s : State) : (descentEnd noContact s).identity = s.identity := by
  dsimp only [descentEnd]
  (repeat' split) <;> first | rfl | simp

@[simp] theorem descentEnd_rosters (noContact : Bool) (s : State) : (descentEnd noContact s).rosters = s.rosters := by
  dsimp only [descentEnd]
  (repeat' split) <;> first | rfl | simp

@[simp] theorem descentEnd_space (noContact : Bool) (s : State) : (descentEnd noContact s).space = s.space := by
  dsimp only [descentEnd]
  (repeat' split) <;> first | rfl | simp

@[simp] theorem descentEnd_claimState (noContact : Bool) (s : State) : (descentEnd noContact s).claimState = s.claimState := by
  dsimp only [descentEnd]
  (repeat' split) <;> first | rfl | simp

@[simp] theorem descentEnd_driveState (noContact : Bool) (s : State) : (descentEnd noContact s).driveState = s.driveState := by
  dsimp only [descentEnd]
  (repeat' split) <;> first | rfl | simp

@[simp] theorem descentEnd_faultState (noContact : Bool) (s : State) : (descentEnd noContact s).faultState = s.faultState := by
  dsimp only [descentEnd]
  (repeat' split) <;> first | rfl | simp

@[simp] theorem descentEnd_fenceState (noContact : Bool) (s : State) : (descentEnd noContact s).fenceState = s.fenceState := by
  dsimp only [descentEnd]
  (repeat' split) <;> first | rfl | simp

@[simp] theorem touchdown_stc (s : State) : (touchdown s).stc = s.stc := by
  dsimp only [touchdown]
  (repeat' split) <;> first | rfl | simp

@[simp] theorem touchdown_jtb (s : State) : (touchdown s).jtb = s.jtb := by
  dsimp only [touchdown]
  (repeat' split) <;> first | rfl | simp

@[simp] theorem touchdown_scu (s : State) : (touchdown s).scu = s.scu := by
  dsimp only [touchdown]
  (repeat' split) <;> first | rfl | simp

@[simp] theorem touchdown_meu (s : State) : (touchdown s).meu = s.meu := by
  dsimp only [touchdown]
  (repeat' split) <;> first | rfl | simp

@[simp] theorem touchdown_flu (s : State) : (touchdown s).flu = s.flu := by
  dsimp only [touchdown]
  (repeat' split) <;> first | rfl | simp

@[simp] theorem touchdown_outer (s : State) : (touchdown s).outer = s.outer := by
  dsimp only [touchdown]
  (repeat' split) <;> first | rfl | simp

@[simp] theorem touchdown_log (s : State) : (touchdown s).log = s.log := by
  dsimp only [touchdown]
  (repeat' split) <;> first | rfl | simp

@[simp] theorem touchdown_identity (s : State) : (touchdown s).identity = s.identity := by
  dsimp only [touchdown]
  (repeat' split) <;> first | rfl | simp

@[simp] theorem touchdown_rosters (s : State) : (touchdown s).rosters = s.rosters := by
  dsimp only [touchdown]
  (repeat' split) <;> first | rfl | simp

@[simp] theorem touchdown_space (s : State) : (touchdown s).space = s.space := by
  dsimp only [touchdown]
  (repeat' split) <;> first | rfl | simp

@[simp] theorem touchdown_claimState (s : State) : (touchdown s).claimState = s.claimState := by
  dsimp only [touchdown]
  (repeat' split) <;> first | rfl | simp

@[simp] theorem touchdown_faultState (s : State) : (touchdown s).faultState = s.faultState := by
  dsimp only [touchdown]
  (repeat' split) <;> first | rfl | simp

@[simp] theorem touchdown_fenceState (s : State) : (touchdown s).fenceState = s.fenceState := by
  dsimp only [touchdown]
  (repeat' split) <;> first | rfl | simp

@[simp] theorem startSearch_jtb (s : State) : (startSearch s).jtb = s.jtb := by
  dsimp only [startSearch]
  (repeat' split) <;> first | rfl | simp

@[simp] theorem startSearch_outer (s : State) : (startSearch s).outer = s.outer := by
  dsimp only [startSearch]
  (repeat' split) <;> first | rfl | simp

@[simp] theorem startSearch_log (s : State) : (startSearch s).log = s.log := by
  dsimp only [startSearch]
  (repeat' split) <;> first | rfl | simp

@[simp] theorem startSearch_identity (s : State) : (startSearch s).identity = s.identity := by
  dsimp only [startSearch]
  (repeat' split) <;> first | rfl | simp

@[simp] theorem startSearch_rosters (s : State) : (startSearch s).rosters = s.rosters := by
  dsimp only [startSearch]
  (repeat' split) <;> first | rfl | simp

@[simp] theorem startSearch_space (s : State) : (startSearch s).space = s.space := by
  dsimp only [startSearch]
  (repeat' split) <;> first | rfl | simp

@[simp] theorem startApproach_jtb (s : State) : (startApproach s).jtb = s.jtb := by
  dsimp only [startApproach]
  (repeat' split) <;> first | rfl | simp

@[simp] theorem startApproach_outer (s : State) : (startApproach s).outer = s.outer := by
  dsimp only [startApproach]
  (repeat' split) <;> first | rfl | simp

@[simp] theorem startApproach_log (s : State) : (startApproach s).log = s.log := by
  dsimp only [startApproach]
  (repeat' split) <;> first | rfl | simp

@[simp] theorem startApproach_identity (s : State) : (startApproach s).identity = s.identity := by
  dsimp only [startApproach]
  (repeat' split) <;> first | rfl | simp

@[simp] theorem startApproach_rosters (s : State) : (startApproach s).rosters = s.rosters := by
  dsimp only [startApproach]
  (repeat' split) <;> first | rfl | simp

@[simp] theorem startApproach_space (s : State) : (startApproach s).space = s.space := by
  dsimp only [startApproach]
  (repeat' split) <;> first | rfl | simp

@[simp] theorem startRise_jtb (pass : Nat) (s : State) : (startRise pass s).jtb = s.jtb := by
  dsimp only [startRise]
  (repeat' split) <;> first | rfl | simp

@[simp] theorem startRise_outer (pass : Nat) (s : State) : (startRise pass s).outer = s.outer := by
  dsimp only [startRise]
  (repeat' split) <;> first | rfl | simp

@[simp] theorem startRise_log (pass : Nat) (s : State) : (startRise pass s).log = s.log := by
  dsimp only [startRise]
  (repeat' split) <;> first | rfl | simp

@[simp] theorem startRise_identity (pass : Nat) (s : State) : (startRise pass s).identity = s.identity := by
  dsimp only [startRise]
  (repeat' split) <;> first | rfl | simp

@[simp] theorem startRise_rosters (pass : Nat) (s : State) : (startRise pass s).rosters = s.rosters := by
  dsimp only [startRise]
  (repeat' split) <;> first | rfl | simp

@[simp] theorem startRise_space (pass : Nat) (s : State) : (startRise pass s).space = s.space := by
  dsimp only [startRise]
  (repeat' split) <;> first | rfl | simp

@[simp] theorem startScrub_jtb (s : State) : (startScrub s).jtb = s.jtb := by
  dsimp only [startScrub]
  (repeat' split) <;> first | rfl | simp

@[simp] theorem startScrub_outer (s : State) : (startScrub s).outer = s.outer := by
  dsimp only [startScrub]
  (repeat' split) <;> first | rfl | simp

@[simp] theorem startScrub_log (s : State) : (startScrub s).log = s.log := by
  dsimp only [startScrub]
  (repeat' split) <;> first | rfl | simp

@[simp] theorem startScrub_identity (s : State) : (startScrub s).identity = s.identity := by
  dsimp only [startScrub]
  (repeat' split) <;> first | rfl | simp

@[simp] theorem startScrub_rosters (s : State) : (startScrub s).rosters = s.rosters := by
  dsimp only [startScrub]
  (repeat' split) <;> first | rfl | simp

@[simp] theorem startScrub_space (s : State) : (startScrub s).space = s.space := by
  dsimp only [startScrub]
  (repeat' split) <;> first | rfl | simp

@[simp] theorem overtravel_jtb (s : State) : (overtravel s).jtb = s.jtb := by
  dsimp only [overtravel]
  (repeat' split) <;> first | rfl | simp

@[simp] theorem overtravel_outer (s : State) : (overtravel s).outer = s.outer := by
  dsimp only [overtravel]
  (repeat' split) <;> first | rfl | simp

@[simp] theorem overtravel_log (s : State) : (overtravel s).log = s.log := by
  dsimp only [overtravel]
  (repeat' split) <;> first | rfl | simp

@[simp] theorem overtravel_identity (s : State) : (overtravel s).identity = s.identity := by
  dsimp only [overtravel]
  (repeat' split) <;> first | rfl | simp

@[simp] theorem overtravel_rosters (s : State) : (overtravel s).rosters = s.rosters := by
  dsimp only [overtravel]
  (repeat' split) <;> first | rfl | simp

@[simp] theorem overtravel_space (s : State) : (overtravel s).space = s.space := by
  dsimp only [overtravel]
  (repeat' split) <;> first | rfl | simp

@[simp] theorem descendComplete_jtb (s : State) : (descendComplete s).jtb = s.jtb := by
  dsimp only [descendComplete]
  (repeat' split) <;> first | rfl | simp

@[simp] theorem descendComplete_outer (s : State) : (descendComplete s).outer = s.outer := by
  dsimp only [descendComplete]
  (repeat' split) <;> first | rfl | simp

@[simp] theorem descendComplete_log (s : State) : (descendComplete s).log = s.log := by
  dsimp only [descendComplete]
  (repeat' split) <;> first | rfl | simp

@[simp] theorem descendComplete_identity (s : State) : (descendComplete s).identity = s.identity := by
  dsimp only [descendComplete]
  (repeat' split) <;> first | rfl | simp

@[simp] theorem descendComplete_rosters (s : State) : (descendComplete s).rosters = s.rosters := by
  dsimp only [descendComplete]
  (repeat' split) <;> first | rfl | simp

@[simp] theorem descendComplete_space (s : State) : (descendComplete s).space = s.space := by
  dsimp only [descendComplete]
  (repeat' split) <;> first | rfl | simp

@[simp] theorem arrive_jtb (s : State) : (arrive s).jtb = s.jtb := by
  dsimp only [arrive]
  (repeat' split) <;> first | rfl | simp

@[simp] theorem arrive_meu (s : State) : (arrive s).meu = s.meu := by
  dsimp only [arrive]
  (repeat' split) <;> first | rfl | simp

@[simp] theorem arrive_flu (s : State) : (arrive s).flu = s.flu := by
  dsimp only [arrive]
  (repeat' split) <;> first | rfl | simp

@[simp] theorem arrive_outer (s : State) : (arrive s).outer = s.outer := by
  dsimp only [arrive]
  (repeat' split) <;> first | rfl | simp

@[simp] theorem arrive_log (s : State) : (arrive s).log = s.log := by
  dsimp only [arrive]
  (repeat' split) <;> first | rfl | simp

@[simp] theorem arrive_identity (s : State) : (arrive s).identity = s.identity := by
  dsimp only [arrive]
  (repeat' split) <;> first | rfl | simp

@[simp] theorem arrive_rosters (s : State) : (arrive s).rosters = s.rosters := by
  dsimp only [arrive]
  (repeat' split) <;> first | rfl | simp

@[simp] theorem arrive_space (s : State) : (arrive s).space = s.space := by
  dsimp only [arrive]
  (repeat' split) <;> first | rfl | simp

@[simp] theorem arrive_driveState (s : State) : (arrive s).driveState = s.driveState := by
  dsimp only [arrive]
  (repeat' split) <;> first | rfl | simp

@[simp] theorem arrive_faultState (s : State) : (arrive s).faultState = s.faultState := by
  dsimp only [arrive]
  (repeat' split) <;> first | rfl | simp

@[simp] theorem arrive_fenceState (s : State) : (arrive s).fenceState = s.fenceState := by
  dsimp only [arrive]
  (repeat' split) <;> first | rfl | simp

@[simp] theorem travelComplete_jtb (s : State) : (travelComplete s).jtb = s.jtb := by
  dsimp only [travelComplete]
  (repeat' split) <;> first | rfl | simp

@[simp] theorem travelComplete_outer (s : State) : (travelComplete s).outer = s.outer := by
  dsimp only [travelComplete]
  (repeat' split) <;> first | rfl | simp

@[simp] theorem travelComplete_log (s : State) : (travelComplete s).log = s.log := by
  dsimp only [travelComplete]
  (repeat' split) <;> first | rfl | simp

@[simp] theorem travelComplete_identity (s : State) : (travelComplete s).identity = s.identity := by
  dsimp only [travelComplete]
  (repeat' split) <;> first | rfl | simp

@[simp] theorem travelComplete_rosters (s : State) : (travelComplete s).rosters = s.rosters := by
  dsimp only [travelComplete]
  (repeat' split) <;> first | rfl | simp

@[simp] theorem travelComplete_space (s : State) : (travelComplete s).space = s.space := by
  dsimp only [travelComplete]
  (repeat' split) <;> first | rfl | simp

@[simp] theorem parkComplete_jtb (s : State) : (parkComplete s).jtb = s.jtb := by
  dsimp only [parkComplete]
  (repeat' split) <;> first | rfl | simp

@[simp] theorem parkComplete_meu (s : State) : (parkComplete s).meu = s.meu := by
  dsimp only [parkComplete]
  (repeat' split) <;> first | rfl | simp

@[simp] theorem parkComplete_flu (s : State) : (parkComplete s).flu = s.flu := by
  dsimp only [parkComplete]
  (repeat' split) <;> first | rfl | simp

@[simp] theorem parkComplete_outer (s : State) : (parkComplete s).outer = s.outer := by
  dsimp only [parkComplete]
  (repeat' split) <;> first | rfl | simp

@[simp] theorem parkComplete_log (s : State) : (parkComplete s).log = s.log := by
  dsimp only [parkComplete]
  (repeat' split) <;> first | rfl | simp

@[simp] theorem parkComplete_identity (s : State) : (parkComplete s).identity = s.identity := by
  dsimp only [parkComplete]
  (repeat' split) <;> first | rfl | simp

@[simp] theorem parkComplete_rosters (s : State) : (parkComplete s).rosters = s.rosters := by
  dsimp only [parkComplete]
  (repeat' split) <;> first | rfl | simp

@[simp] theorem parkComplete_space (s : State) : (parkComplete s).space = s.space := by
  dsimp only [parkComplete]
  (repeat' split) <;> first | rfl | simp

@[simp] theorem parkComplete_driveState (s : State) : (parkComplete s).driveState = s.driveState := by
  dsimp only [parkComplete]
  (repeat' split) <;> first | rfl | simp

@[simp] theorem parkComplete_faultState (s : State) : (parkComplete s).faultState = s.faultState := by
  dsimp only [parkComplete]
  (repeat' split) <;> first | rfl | simp

@[simp] theorem parkComplete_fenceState (s : State) : (parkComplete s).fenceState = s.fenceState := by
  dsimp only [parkComplete]
  (repeat' split) <;> first | rfl | simp

@[simp] theorem enterStill_lif (s : State) : (enterStill s).lif = s.lif := by
  dsimp only [enterStill]
  (repeat' split) <;> first | rfl | simp

@[simp] theorem enterStill_stc (s : State) : (enterStill s).stc = s.stc := by
  dsimp only [enterStill]
  (repeat' split) <;> first | rfl | simp

@[simp] theorem enterStill_jtb (s : State) : (enterStill s).jtb = s.jtb := by
  dsimp only [enterStill]
  (repeat' split) <;> first | rfl | simp

@[simp] theorem enterStill_rvu (s : State) : (enterStill s).rvu = s.rvu := by
  dsimp only [enterStill]
  (repeat' split) <;> first | rfl | simp

@[simp] theorem enterStill_scu (s : State) : (enterStill s).scu = s.scu := by
  dsimp only [enterStill]
  (repeat' split) <;> first | rfl | simp

@[simp] theorem enterStill_meu (s : State) : (enterStill s).meu = s.meu := by
  dsimp only [enterStill]
  (repeat' split) <;> first | rfl | simp

@[simp] theorem enterStill_flu (s : State) : (enterStill s).flu = s.flu := by
  dsimp only [enterStill]
  (repeat' split) <;> first | rfl | simp

@[simp] theorem enterStill_outer (s : State) : (enterStill s).outer = s.outer := by
  dsimp only [enterStill]
  (repeat' split) <;> first | rfl | simp

@[simp] theorem enterStill_log (s : State) : (enterStill s).log = s.log := by
  dsimp only [enterStill]
  (repeat' split) <;> first | rfl | simp

@[simp] theorem enterStill_identity (s : State) : (enterStill s).identity = s.identity := by
  dsimp only [enterStill]
  (repeat' split) <;> first | rfl | simp

@[simp] theorem enterStill_rosters (s : State) : (enterStill s).rosters = s.rosters := by
  dsimp only [enterStill]
  (repeat' split) <;> first | rfl | simp

@[simp] theorem enterStill_space (s : State) : (enterStill s).space = s.space := by
  dsimp only [enterStill]
  (repeat' split) <;> first | rfl | simp

@[simp] theorem enterStill_claimState (s : State) : (enterStill s).claimState = s.claimState := by
  dsimp only [enterStill]
  (repeat' split) <;> first | rfl | simp

@[simp] theorem enterStill_driveState (s : State) : (enterStill s).driveState = s.driveState := by
  dsimp only [enterStill]
  (repeat' split) <;> first | rfl | simp

@[simp] theorem enterStill_faultState (s : State) : (enterStill s).faultState = s.faultState := by
  dsimp only [enterStill]
  (repeat' split) <;> first | rfl | simp

@[simp] theorem enterStill_fenceState (s : State) : (enterStill s).fenceState = s.fenceState := by
  dsimp only [enterStill]
  (repeat' split) <;> first | rfl | simp

@[simp] theorem frozenComplete_jtb (s : State) : (frozenComplete s).jtb = s.jtb := by
  dsimp only [frozenComplete]
  (repeat' split) <;> first | rfl | simp

@[simp] theorem frozenComplete_outer (s : State) : (frozenComplete s).outer = s.outer := by
  dsimp only [frozenComplete]
  (repeat' split) <;> first | rfl | simp

@[simp] theorem frozenComplete_log (s : State) : (frozenComplete s).log = s.log := by
  dsimp only [frozenComplete]
  (repeat' split) <;> first | rfl | simp

@[simp] theorem frozenComplete_identity (s : State) : (frozenComplete s).identity = s.identity := by
  dsimp only [frozenComplete]
  (repeat' split) <;> first | rfl | simp

@[simp] theorem frozenComplete_rosters (s : State) : (frozenComplete s).rosters = s.rosters := by
  dsimp only [frozenComplete]
  (repeat' split) <;> first | rfl | simp

@[simp] theorem frozenComplete_space (s : State) : (frozenComplete s).space = s.space := by
  dsimp only [frozenComplete]
  (repeat' split) <;> first | rfl | simp

@[simp] theorem lateComplete_jtb (s : State) : (lateComplete s).jtb = s.jtb := by
  dsimp only [lateComplete]
  (repeat' split) <;> first | rfl | simp

@[simp] theorem lateComplete_meu (s : State) : (lateComplete s).meu = s.meu := by
  dsimp only [lateComplete]
  (repeat' split) <;> first | rfl | simp

@[simp] theorem lateComplete_flu (s : State) : (lateComplete s).flu = s.flu := by
  dsimp only [lateComplete]
  (repeat' split) <;> first | rfl | simp

@[simp] theorem lateComplete_outer (s : State) : (lateComplete s).outer = s.outer := by
  dsimp only [lateComplete]
  (repeat' split) <;> first | rfl | simp

@[simp] theorem lateComplete_log (s : State) : (lateComplete s).log = s.log := by
  dsimp only [lateComplete]
  (repeat' split) <;> first | rfl | simp

@[simp] theorem lateComplete_identity (s : State) : (lateComplete s).identity = s.identity := by
  dsimp only [lateComplete]
  (repeat' split) <;> first | rfl | simp

@[simp] theorem lateComplete_rosters (s : State) : (lateComplete s).rosters = s.rosters := by
  dsimp only [lateComplete]
  (repeat' split) <;> first | rfl | simp

@[simp] theorem lateComplete_space (s : State) : (lateComplete s).space = s.space := by
  dsimp only [lateComplete]
  (repeat' split) <;> first | rfl | simp

@[simp] theorem lateComplete_driveState (s : State) : (lateComplete s).driveState = s.driveState := by
  dsimp only [lateComplete]
  (repeat' split) <;> first | rfl | simp

@[simp] theorem lateComplete_faultState (s : State) : (lateComplete s).faultState = s.faultState := by
  dsimp only [lateComplete]
  (repeat' split) <;> first | rfl | simp

@[simp] theorem lateComplete_fenceState (s : State) : (lateComplete s).fenceState = s.fenceState := by
  dsimp only [lateComplete]
  (repeat' split) <;> first | rfl | simp

@[simp] theorem downComplete_lif (s : State) : (downComplete s).lif = s.lif := by
  dsimp only [downComplete, standAtTip]
  (repeat' split) <;> first | rfl | simp

@[simp] theorem downComplete_stc (s : State) : (downComplete s).stc = s.stc := by
  dsimp only [downComplete, standAtTip]
  (repeat' split) <;> first | rfl | simp

@[simp] theorem downComplete_jtb (s : State) : (downComplete s).jtb = s.jtb := by
  dsimp only [downComplete, standAtTip]
  (repeat' split) <;> first | rfl | simp

@[simp] theorem downComplete_rvu (s : State) : (downComplete s).rvu = s.rvu := by
  dsimp only [downComplete, standAtTip]
  (repeat' split) <;> first | rfl | simp

@[simp] theorem downComplete_scu (s : State) : (downComplete s).scu = s.scu := by
  dsimp only [downComplete, standAtTip]
  (repeat' split) <;> first | rfl | simp

@[simp] theorem downComplete_meu (s : State) : (downComplete s).meu = s.meu := by
  dsimp only [downComplete, standAtTip]
  (repeat' split) <;> first | rfl | simp

@[simp] theorem downComplete_flu (s : State) : (downComplete s).flu = s.flu := by
  dsimp only [downComplete, standAtTip]
  (repeat' split) <;> first | rfl | simp

@[simp] theorem downComplete_outer (s : State) : (downComplete s).outer = s.outer := by
  dsimp only [downComplete, standAtTip]
  (repeat' split) <;> first | rfl | simp

@[simp] theorem downComplete_log (s : State) : (downComplete s).log = s.log := by
  dsimp only [downComplete, standAtTip]
  (repeat' split) <;> first | rfl | simp

@[simp] theorem downComplete_identity (s : State) : (downComplete s).identity = s.identity := by
  dsimp only [downComplete, standAtTip]
  (repeat' split) <;> first | rfl | simp

@[simp] theorem downComplete_rosters (s : State) : (downComplete s).rosters = s.rosters := by
  dsimp only [downComplete, standAtTip]
  (repeat' split) <;> first | rfl | simp

@[simp] theorem downComplete_space (s : State) : (downComplete s).space = s.space := by
  dsimp only [downComplete, standAtTip]
  (repeat' split) <;> first | rfl | simp

@[simp] theorem downComplete_claimState (s : State) : (downComplete s).claimState = s.claimState := by
  dsimp only [downComplete, standAtTip]
  (repeat' split) <;> first | rfl | simp

@[simp] theorem downComplete_driveState (s : State) : (downComplete s).driveState = s.driveState := by
  dsimp only [downComplete, standAtTip]
  (repeat' split) <;> first | rfl | simp

@[simp] theorem downComplete_faultState (s : State) : (downComplete s).faultState = s.faultState := by
  dsimp only [downComplete, standAtTip]
  (repeat' split) <;> first | rfl | simp

@[simp] theorem downComplete_fenceState (s : State) : (downComplete s).fenceState = s.fenceState := by
  dsimp only [downComplete, standAtTip]
  (repeat' split) <;> first | rfl | simp

@[simp] theorem commandComplete_outer (s : State) : (commandComplete s).outer = s.outer := by
  dsimp only [commandComplete]
  (repeat' split) <;> first | rfl | simp

@[simp] theorem commandComplete_log (s : State) : (commandComplete s).log = s.log := by
  dsimp only [commandComplete]
  (repeat' split) <;> first | rfl | simp

@[simp] theorem commandComplete_identity (s : State) : (commandComplete s).identity = s.identity := by
  dsimp only [commandComplete]
  (repeat' split) <;> first | rfl | simp

@[simp] theorem lateObjection_lif (s : State) : (lateObjection s).lif = s.lif := by
  dsimp only [lateObjection]
  (repeat' split) <;> first | rfl | simp

@[simp] theorem lateObjection_stc (s : State) : (lateObjection s).stc = s.stc := by
  dsimp only [lateObjection]
  (repeat' split) <;> first | rfl | simp

@[simp] theorem lateObjection_jtb (s : State) : (lateObjection s).jtb = s.jtb := by
  dsimp only [lateObjection]
  (repeat' split) <;> first | rfl | simp

@[simp] theorem lateObjection_rvu (s : State) : (lateObjection s).rvu = s.rvu := by
  dsimp only [lateObjection]
  (repeat' split) <;> first | rfl | simp

@[simp] theorem lateObjection_scu (s : State) : (lateObjection s).scu = s.scu := by
  dsimp only [lateObjection]
  (repeat' split) <;> first | rfl | simp

@[simp] theorem lateObjection_meu (s : State) : (lateObjection s).meu = s.meu := by
  dsimp only [lateObjection]
  (repeat' split) <;> first | rfl | simp

@[simp] theorem lateObjection_flu (s : State) : (lateObjection s).flu = s.flu := by
  dsimp only [lateObjection]
  (repeat' split) <;> first | rfl | simp

@[simp] theorem lateObjection_outer (s : State) : (lateObjection s).outer = s.outer := by
  dsimp only [lateObjection]
  (repeat' split) <;> first | rfl | simp

@[simp] theorem lateObjection_log (s : State) : (lateObjection s).log = s.log := by
  dsimp only [lateObjection]
  (repeat' split) <;> first | rfl | simp

@[simp] theorem lateObjection_identity (s : State) : (lateObjection s).identity = s.identity := by
  dsimp only [lateObjection]
  (repeat' split) <;> first | rfl | simp

@[simp] theorem lateObjection_rosters (s : State) : (lateObjection s).rosters = s.rosters := by
  dsimp only [lateObjection]
  (repeat' split) <;> first | rfl | simp

@[simp] theorem lateObjection_space (s : State) : (lateObjection s).space = s.space := by
  dsimp only [lateObjection]
  (repeat' split) <;> first | rfl | simp

@[simp] theorem lateObjection_claimState (s : State) : (lateObjection s).claimState = s.claimState := by
  dsimp only [lateObjection]
  (repeat' split) <;> first | rfl | simp

@[simp] theorem lateObjection_faultState (s : State) : (lateObjection s).faultState = s.faultState := by
  dsimp only [lateObjection]
  (repeat' split) <;> first | rfl | simp

@[simp] theorem lateObjection_fenceState (s : State) : (lateObjection s).fenceState = s.fenceState := by
  dsimp only [lateObjection]
  (repeat' split) <;> first | rfl | simp

@[simp] theorem startTravel_jtb (s : State) : (startTravel s).jtb = s.jtb := by
  dsimp only [startTravel]
  (repeat' split) <;> first | rfl | simp

@[simp] theorem startTravel_outer (s : State) : (startTravel s).outer = s.outer := by
  dsimp only [startTravel]
  (repeat' split) <;> first | rfl | simp

@[simp] theorem startTravel_log (s : State) : (startTravel s).log = s.log := by
  dsimp only [startTravel]
  (repeat' split) <;> first | rfl | simp

@[simp] theorem startTravel_identity (s : State) : (startTravel s).identity = s.identity := by
  dsimp only [startTravel]
  (repeat' split) <;> first | rfl | simp

@[simp] theorem startTravel_rosters (s : State) : (startTravel s).rosters = s.rosters := by
  dsimp only [startTravel]
  (repeat' split) <;> first | rfl | simp

@[simp] theorem startTravel_space (s : State) : (startTravel s).space = s.space := by
  dsimp only [startTravel]
  (repeat' split) <;> first | rfl | simp

@[simp] theorem startParkMove_jtb (s : State) : (startParkMove s).jtb = s.jtb := by
  dsimp only [startParkMove]
  (repeat' split) <;> first | rfl | simp

@[simp] theorem startParkMove_outer (s : State) : (startParkMove s).outer = s.outer := by
  dsimp only [startParkMove]
  (repeat' split) <;> first | rfl | simp

@[simp] theorem startParkMove_log (s : State) : (startParkMove s).log = s.log := by
  dsimp only [startParkMove]
  (repeat' split) <;> first | rfl | simp

@[simp] theorem startParkMove_identity (s : State) : (startParkMove s).identity = s.identity := by
  dsimp only [startParkMove]
  (repeat' split) <;> first | rfl | simp

@[simp] theorem startParkMove_rosters (s : State) : (startParkMove s).rosters = s.rosters := by
  dsimp only [startParkMove]
  (repeat' split) <;> first | rfl | simp

@[simp] theorem startParkMove_space (s : State) : (startParkMove s).space = s.space := by
  dsimp only [startParkMove]
  (repeat' split) <;> first | rfl | simp

@[simp] theorem keepReport_lif (r : DriveReport) (s : State) : (keepReport r s).lif = s.lif := by
  dsimp only [keepReport]
  (repeat' split) <;> first | rfl | simp

@[simp] theorem keepReport_jtb (r : DriveReport) (s : State) : (keepReport r s).jtb = s.jtb := by
  dsimp only [keepReport]
  (repeat' split) <;> first | rfl | simp

@[simp] theorem keepReport_rvu (r : DriveReport) (s : State) : (keepReport r s).rvu = s.rvu := by
  dsimp only [keepReport]
  (repeat' split) <;> first | rfl | simp

@[simp] theorem keepReport_scu (r : DriveReport) (s : State) : (keepReport r s).scu = s.scu := by
  dsimp only [keepReport]
  (repeat' split) <;> first | rfl | simp

@[simp] theorem keepReport_meu (r : DriveReport) (s : State) : (keepReport r s).meu = s.meu := by
  dsimp only [keepReport]
  (repeat' split) <;> first | rfl | simp

@[simp] theorem keepReport_flu (r : DriveReport) (s : State) : (keepReport r s).flu = s.flu := by
  dsimp only [keepReport]
  (repeat' split) <;> first | rfl | simp

@[simp] theorem keepReport_outer (r : DriveReport) (s : State) : (keepReport r s).outer = s.outer := by
  dsimp only [keepReport]
  (repeat' split) <;> first | rfl | simp

@[simp] theorem keepReport_log (r : DriveReport) (s : State) : (keepReport r s).log = s.log := by
  dsimp only [keepReport]
  (repeat' split) <;> first | rfl | simp

@[simp] theorem keepReport_identity (r : DriveReport) (s : State) : (keepReport r s).identity = s.identity := by
  dsimp only [keepReport]
  (repeat' split) <;> first | rfl | simp

@[simp] theorem keepReport_rosters (r : DriveReport) (s : State) : (keepReport r s).rosters = s.rosters := by
  dsimp only [keepReport]
  (repeat' split) <;> first | rfl | simp

@[simp] theorem keepReport_space (r : DriveReport) (s : State) : (keepReport r s).space = s.space := by
  dsimp only [keepReport]
  (repeat' split) <;> first | rfl | simp

@[simp] theorem keepReport_claimState (r : DriveReport) (s : State) : (keepReport r s).claimState = s.claimState := by
  dsimp only [keepReport]
  (repeat' split) <;> first | rfl | simp

@[simp] theorem keepReport_faultState (r : DriveReport) (s : State) : (keepReport r s).faultState = s.faultState := by
  dsimp only [keepReport]
  (repeat' split) <;> first | rfl | simp

@[simp] theorem keepReport_fenceState (r : DriveReport) (s : State) : (keepReport r s).fenceState = s.fenceState := by
  dsimp only [keepReport]
  (repeat' split) <;> first | rfl | simp

@[simp] theorem reportDrive_outer (s : State) : (reportDrive s).outer = s.outer := by
  dsimp only [reportDrive]
  (repeat' split) <;> first | rfl | simp

@[simp] theorem reportDrive_log (s : State) : (reportDrive s).log = s.log := by
  dsimp only [reportDrive]
  (repeat' split) <;> first | rfl | simp

@[simp] theorem reportDrive_identity (s : State) : (reportDrive s).identity = s.identity := by
  dsimp only [reportDrive]
  (repeat' split) <;> first | rfl | simp

@[simp] theorem reportBreach_jtb (s : State) : (reportBreach s).jtb = s.jtb := by
  dsimp only [reportBreach]
  (repeat' split) <;> first | rfl | simp

@[simp] theorem reportBreach_outer (s : State) : (reportBreach s).outer = s.outer := by
  dsimp only [reportBreach]
  (repeat' split) <;> first | rfl | simp

@[simp] theorem reportBreach_log (s : State) : (reportBreach s).log = s.log := by
  dsimp only [reportBreach]
  (repeat' split) <;> first | rfl | simp

@[simp] theorem reportBreach_identity (s : State) : (reportBreach s).identity = s.identity := by
  dsimp only [reportBreach]
  (repeat' split) <;> first | rfl | simp

@[simp] theorem reportBreach_rosters (s : State) : (reportBreach s).rosters = s.rosters := by
  dsimp only [reportBreach]
  (repeat' split) <;> first | rfl | simp

@[simp] theorem reportBreach_space (s : State) : (reportBreach s).space = s.space := by
  dsimp only [reportBreach]
  (repeat' split) <;> first | rfl | simp

@[simp] theorem reportFaults_log (driveFault : Bool) (breach : Bool) (s : State) : (reportFaults driveFault breach s).log = s.log := by
  dsimp only [reportFaults]
  (repeat' split) <;> first | rfl | (simp; done) | (simp; rfl)

@[simp] theorem reportFaults_identity (driveFault : Bool) (breach : Bool) (s : State) : (reportFaults driveFault breach s).identity = s.identity := by
  dsimp only [reportFaults]
  (repeat' split) <;> first | rfl | (simp; done) | (simp; rfl)

@[simp] theorem takeReport_log (r : DriveReport) (s : State) : (takeReport r s).log = s.log := by
  dsimp only [takeReport]
  (repeat' split) <;> first | rfl | simp

@[simp] theorem takeReport_identity (r : DriveReport) (s : State) : (takeReport r s).identity = s.identity := by
  dsimp only [takeReport]
  (repeat' split) <;> first | rfl | simp

end Sys2Proof.Machine
end

