-- ==== Sys2Proof/Laws/JobOps.lean ====
section
/-! SUPPORT. What the operations of Machine/JobOps.lean leave alone: one lemma for each block and each view of the state that an
operation does not touch. -/

namespace Sys2Proof.Machine

open Sys2Proof

variable {s : State}

@[simp] theorem admitOffer_lif (o : Offer) (s : State) : (admitOffer o s).lif = s.lif := by
  dsimp only [admitOffer]
  (repeat' split) <;> first | rfl | simp

@[simp] theorem admitOffer_stc (o : Offer) (s : State) : (admitOffer o s).stc = s.stc := by
  dsimp only [admitOffer]
  (repeat' split) <;> first | rfl | simp

@[simp] theorem admitOffer_rvu (o : Offer) (s : State) : (admitOffer o s).rvu = s.rvu := by
  dsimp only [admitOffer]
  (repeat' split) <;> first | rfl | simp

@[simp] theorem admitOffer_scu (o : Offer) (s : State) : (admitOffer o s).scu = s.scu := by
  dsimp only [admitOffer]
  (repeat' split) <;> first | rfl | simp

@[simp] theorem admitOffer_msq (o : Offer) (s : State) : (admitOffer o s).msq = s.msq := by
  dsimp only [admitOffer]
  (repeat' split) <;> first | rfl | simp

@[simp] theorem admitOffer_meu (o : Offer) (s : State) : (admitOffer o s).meu = s.meu := by
  dsimp only [admitOffer]
  (repeat' split) <;> first | rfl | simp

@[simp] theorem admitOffer_flu (o : Offer) (s : State) : (admitOffer o s).flu = s.flu := by
  dsimp only [admitOffer]
  (repeat' split) <;> first | rfl | simp

@[simp] theorem admitOffer_outer (o : Offer) (s : State) : (admitOffer o s).outer = s.outer := by
  dsimp only [admitOffer]
  (repeat' split) <;> first | rfl | simp

@[simp] theorem admitOffer_log (o : Offer) (s : State) : (admitOffer o s).log = s.log := by
  dsimp only [admitOffer]
  (repeat' split) <;> first | rfl | simp

@[simp] theorem admitOffer_identity (o : Offer) (s : State) : (admitOffer o s).identity = s.identity := by
  dsimp only [admitOffer]
  (repeat' split) <;> first | rfl | simp

@[simp] theorem admitOffer_rosters (o : Offer) (s : State) : (admitOffer o s).rosters = s.rosters := by
  dsimp only [admitOffer]
  (repeat' split) <;> first | rfl | simp

@[simp] theorem admitOffer_space (o : Offer) (s : State) : (admitOffer o s).space = s.space := by
  dsimp only [admitOffer]
  (repeat' split) <;> first | rfl | simp

@[simp] theorem admitOffer_claimState (o : Offer) (s : State) : (admitOffer o s).claimState = s.claimState := by
  dsimp only [admitOffer]
  (repeat' split) <;> first | rfl | simp

@[simp] theorem admitOffer_driveState (o : Offer) (s : State) : (admitOffer o s).driveState = s.driveState := by
  dsimp only [admitOffer]
  (repeat' split) <;> first | rfl | simp

@[simp] theorem admitOffer_faultState (o : Offer) (s : State) : (admitOffer o s).faultState = s.faultState := by
  dsimp only [admitOffer]
  (repeat' split) <;> first | rfl | simp

@[simp] theorem admitOffer_fenceState (o : Offer) (s : State) : (admitOffer o s).fenceState = s.fenceState := by
  dsimp only [admitOffer]
  (repeat' split) <;> first | rfl | simp

@[simp] theorem replaceOffer_stc (o : Offer) (e : Entry) (s : State) : (replaceOffer o e s).stc = s.stc := by
  dsimp only [replaceOffer]
  (repeat' split) <;> first | rfl | simp

@[simp] theorem replaceOffer_rvu (o : Offer) (e : Entry) (s : State) : (replaceOffer o e s).rvu = s.rvu := by
  dsimp only [replaceOffer]
  (repeat' split) <;> first | rfl | simp

@[simp] theorem replaceOffer_scu (o : Offer) (e : Entry) (s : State) : (replaceOffer o e s).scu = s.scu := by
  dsimp only [replaceOffer]
  (repeat' split) <;> first | rfl | simp

@[simp] theorem replaceOffer_msq (o : Offer) (e : Entry) (s : State) : (replaceOffer o e s).msq = s.msq := by
  dsimp only [replaceOffer]
  (repeat' split) <;> first | rfl | simp

@[simp] theorem replaceOffer_meu (o : Offer) (e : Entry) (s : State) : (replaceOffer o e s).meu = s.meu := by
  dsimp only [replaceOffer]
  (repeat' split) <;> first | rfl | simp

@[simp] theorem replaceOffer_flu (o : Offer) (e : Entry) (s : State) : (replaceOffer o e s).flu = s.flu := by
  dsimp only [replaceOffer]
  (repeat' split) <;> first | rfl | simp

@[simp] theorem replaceOffer_outer (o : Offer) (e : Entry) (s : State) : (replaceOffer o e s).outer = s.outer := by
  dsimp only [replaceOffer]
  (repeat' split) <;> first | rfl | simp

@[simp] theorem replaceOffer_identity (o : Offer) (e : Entry) (s : State) : (replaceOffer o e s).identity = s.identity := by
  dsimp only [replaceOffer]
  (repeat' split) <;> first | rfl | simp

@[simp] theorem replaceOffer_rosters (o : Offer) (e : Entry) (s : State) : (replaceOffer o e s).rosters = s.rosters := by
  dsimp only [replaceOffer]
  (repeat' split) <;> first | rfl | simp

@[simp] theorem replaceOffer_space (o : Offer) (e : Entry) (s : State) : (replaceOffer o e s).space = s.space := by
  dsimp only [replaceOffer]
  (repeat' split) <;> first | rfl | simp

@[simp] theorem replaceOffer_claimState (o : Offer) (e : Entry) (s : State) : (replaceOffer o e s).claimState = s.claimState := by
  dsimp only [replaceOffer]
  (repeat' split) <;> first | rfl | simp

@[simp] theorem replaceOffer_driveState (o : Offer) (e : Entry) (s : State) : (replaceOffer o e s).driveState = s.driveState := by
  dsimp only [replaceOffer]
  (repeat' split) <;> first | rfl | simp

@[simp] theorem replaceOffer_faultState (o : Offer) (e : Entry) (s : State) : (replaceOffer o e s).faultState = s.faultState := by
  dsimp only [replaceOffer]
  (repeat' split) <;> first | rfl | simp

@[simp] theorem replaceOffer_fenceState (o : Offer) (e : Entry) (s : State) : (replaceOffer o e s).fenceState = s.fenceState := by
  dsimp only [replaceOffer]
  (repeat' split) <;> first | rfl | simp

@[simp] theorem takeOffer_stc (o : Offer) (s : State) : (takeOffer o s).stc = s.stc := by
  dsimp only [takeOffer]
  (repeat' split) <;> first | rfl | simp

@[simp] theorem takeOffer_rvu (o : Offer) (s : State) : (takeOffer o s).rvu = s.rvu := by
  dsimp only [takeOffer]
  (repeat' split) <;> first | rfl | simp

@[simp] theorem takeOffer_scu (o : Offer) (s : State) : (takeOffer o s).scu = s.scu := by
  dsimp only [takeOffer]
  (repeat' split) <;> first | rfl | simp

@[simp] theorem takeOffer_msq (o : Offer) (s : State) : (takeOffer o s).msq = s.msq := by
  dsimp only [takeOffer]
  (repeat' split) <;> first | rfl | simp

@[simp] theorem takeOffer_meu (o : Offer) (s : State) : (takeOffer o s).meu = s.meu := by
  dsimp only [takeOffer]
  (repeat' split) <;> first | rfl | simp

@[simp] theorem takeOffer_flu (o : Offer) (s : State) : (takeOffer o s).flu = s.flu := by
  dsimp only [takeOffer]
  (repeat' split) <;> first | rfl | simp

@[simp] theorem takeOffer_outer (o : Offer) (s : State) : (takeOffer o s).outer = s.outer := by
  dsimp only [takeOffer]
  (repeat' split) <;> first | rfl | simp

@[simp] theorem takeOffer_identity (o : Offer) (s : State) : (takeOffer o s).identity = s.identity := by
  dsimp only [takeOffer]
  (repeat' split) <;> first | rfl | simp

@[simp] theorem takeOffer_rosters (o : Offer) (s : State) : (takeOffer o s).rosters = s.rosters := by
  dsimp only [takeOffer]
  (repeat' split) <;> first | rfl | simp

@[simp] theorem takeOffer_space (o : Offer) (s : State) : (takeOffer o s).space = s.space := by
  dsimp only [takeOffer]
  (repeat' split) <;> first | rfl | simp

@[simp] theorem takeOffer_claimState (o : Offer) (s : State) : (takeOffer o s).claimState = s.claimState := by
  dsimp only [takeOffer]
  (repeat' split) <;> first | rfl | simp

@[simp] theorem takeOffer_driveState (o : Offer) (s : State) : (takeOffer o s).driveState = s.driveState := by
  dsimp only [takeOffer]
  (repeat' split) <;> first | rfl | simp

@[simp] theorem takeOffer_faultState (o : Offer) (s : State) : (takeOffer o s).faultState = s.faultState := by
  dsimp only [takeOffer]
  (repeat' split) <;> first | rfl | simp

@[simp] theorem takeOffer_fenceState (o : Offer) (s : State) : (takeOffer o s).fenceState = s.fenceState := by
  dsimp only [takeOffer]
  (repeat' split) <;> first | rfl | simp

@[simp] theorem removeJob_outer (job : Nat) (s : State) : (removeJob job s).outer = s.outer := by
  dsimp only [removeJob]
  (repeat' split) <;> first | rfl | simp

@[simp] theorem removeJob_log (job : Nat) (s : State) : (removeJob job s).log = s.log := by
  dsimp only [removeJob]
  (repeat' split) <;> first | rfl | simp

@[simp] theorem removeJob_identity (job : Nat) (s : State) : (removeJob job s).identity = s.identity := by
  dsimp only [removeJob]
  (repeat' split) <;> first | rfl | simp

@[simp] theorem removeJob_rosters (job : Nat) (s : State) : (removeJob job s).rosters = s.rosters := by
  dsimp only [removeJob]
  (repeat' split) <;> first | rfl | simp

@[simp] theorem removeJob_space (job : Nat) (s : State) : (removeJob job s).space = s.space := by
  dsimp only [removeJob]
  (repeat' split) <;> first | rfl | simp

@[simp] theorem decideWindow_lif (e : Entry) (s : State) : (decideWindow e s).lif = s.lif := by
  dsimp only [decideWindow]
  (repeat' split) <;> first | rfl | simp

@[simp] theorem decideWindow_stc (e : Entry) (s : State) : (decideWindow e s).stc = s.stc := by
  dsimp only [decideWindow]
  (repeat' split) <;> first | rfl | simp

@[simp] theorem decideWindow_rvu (e : Entry) (s : State) : (decideWindow e s).rvu = s.rvu := by
  dsimp only [decideWindow]
  (repeat' split) <;> first | rfl | simp

@[simp] theorem decideWindow_scu (e : Entry) (s : State) : (decideWindow e s).scu = s.scu := by
  dsimp only [decideWindow]
  (repeat' split) <;> first | rfl | simp

@[simp] theorem decideWindow_msq (e : Entry) (s : State) : (decideWindow e s).msq = s.msq := by
  dsimp only [decideWindow]
  (repeat' split) <;> first | rfl | simp

@[simp] theorem decideWindow_meu (e : Entry) (s : State) : (decideWindow e s).meu = s.meu := by
  dsimp only [decideWindow]
  (repeat' split) <;> first | rfl | simp

@[simp] theorem decideWindow_flu (e : Entry) (s : State) : (decideWindow e s).flu = s.flu := by
  dsimp only [decideWindow]
  (repeat' split) <;> first | rfl | simp

@[simp] theorem decideWindow_outer (e : Entry) (s : State) : (decideWindow e s).outer = s.outer := by
  dsimp only [decideWindow]
  (repeat' split) <;> first | rfl | simp

@[simp] theorem decideWindow_log (e : Entry) (s : State) : (decideWindow e s).log = s.log := by
  dsimp only [decideWindow]
  (repeat' split) <;> first | rfl | simp

@[simp] theorem decideWindow_identity (e : Entry) (s : State) : (decideWindow e s).identity = s.identity := by
  dsimp only [decideWindow]
  (repeat' split) <;> first | rfl | simp

@[simp] theorem decideWindow_rosters (e : Entry) (s : State) : (decideWindow e s).rosters = s.rosters := by
  dsimp only [decideWindow]
  (repeat' split) <;> first | rfl | simp

@[simp] theorem decideWindow_space (e : Entry) (s : State) : (decideWindow e s).space = s.space := by
  dsimp only [decideWindow]
  (repeat' split) <;> first | rfl | simp

@[simp] theorem decideWindow_claimState (e : Entry) (s : State) : (decideWindow e s).claimState = s.claimState := by
  dsimp only [decideWindow]
  (repeat' split) <;> first | rfl | simp

@[simp] theorem decideWindow_driveState (e : Entry) (s : State) : (decideWindow e s).driveState = s.driveState := by
  dsimp only [decideWindow]
  (repeat' split) <;> first | rfl | simp

@[simp] theorem decideWindow_faultState (e : Entry) (s : State) : (decideWindow e s).faultState = s.faultState := by
  dsimp only [decideWindow]
  (repeat' split) <;> first | rfl | simp

@[simp] theorem decideWindow_fenceState (e : Entry) (s : State) : (decideWindow e s).fenceState = s.fenceState := by
  dsimp only [decideWindow]
  (repeat' split) <;> first | rfl | simp

@[simp] theorem makeMember_lif (m : Membership) (s : State) : (makeMember m s).lif = s.lif := by
  dsimp only [makeMember]
  (repeat' split) <;> first | rfl | simp

@[simp] theorem makeMember_stc (m : Membership) (s : State) : (makeMember m s).stc = s.stc := by
  dsimp only [makeMember]
  (repeat' split) <;> first | rfl | simp

@[simp] theorem makeMember_jtb (m : Membership) (s : State) : (makeMember m s).jtb = s.jtb := by
  dsimp only [makeMember]
  (repeat' split) <;> first | rfl | simp

@[simp] theorem makeMember_scu (m : Membership) (s : State) : (makeMember m s).scu = s.scu := by
  dsimp only [makeMember]
  (repeat' split) <;> first | rfl | simp

@[simp] theorem makeMember_msq (m : Membership) (s : State) : (makeMember m s).msq = s.msq := by
  dsimp only [makeMember]
  (repeat' split) <;> first | rfl | simp

@[simp] theorem makeMember_meu (m : Membership) (s : State) : (makeMember m s).meu = s.meu := by
  dsimp only [makeMember]
  (repeat' split) <;> first | rfl | simp

@[simp] theorem makeMember_flu (m : Membership) (s : State) : (makeMember m s).flu = s.flu := by
  dsimp only [makeMember]
  (repeat' split) <;> first | rfl | simp

@[simp] theorem makeMember_outer (m : Membership) (s : State) : (makeMember m s).outer = s.outer := by
  dsimp only [makeMember]
  (repeat' split) <;> first | rfl | simp

@[simp] theorem makeMember_log (m : Membership) (s : State) : (makeMember m s).log = s.log := by
  dsimp only [makeMember]
  (repeat' split) <;> first | rfl | simp

@[simp] theorem makeMember_identity (m : Membership) (s : State) : (makeMember m s).identity = s.identity := by
  dsimp only [makeMember]
  (repeat' split) <;> first | rfl | simp

@[simp] theorem makeMember_rosters (m : Membership) (s : State) : (makeMember m s).rosters = s.rosters := by
  dsimp only [makeMember]
  (repeat' split) <;> first | rfl | simp

@[simp] theorem makeMember_space (m : Membership) (s : State) : (makeMember m s).space = s.space := by
  dsimp only [makeMember]
  (repeat' split) <;> first | rfl | simp

@[simp] theorem makeMember_claimState (m : Membership) (s : State) : (makeMember m s).claimState = s.claimState := by
  dsimp only [makeMember]
  (repeat' split) <;> first | rfl | simp

@[simp] theorem makeMember_driveState (m : Membership) (s : State) : (makeMember m s).driveState = s.driveState := by
  dsimp only [makeMember]
  (repeat' split) <;> first | rfl | simp

@[simp] theorem makeMember_faultState (m : Membership) (s : State) : (makeMember m s).faultState = s.faultState := by
  dsimp only [makeMember]
  (repeat' split) <;> first | rfl | simp

@[simp] theorem makeMember_fenceState (m : Membership) (s : State) : (makeMember m s).fenceState = s.fenceState := by
  dsimp only [makeMember]
  (repeat' split) <;> first | rfl | simp

@[simp] theorem ownWin_stc (e : Entry) (role : Nat) (s : State) : (ownWin e role s).stc = s.stc := by
  dsimp only [ownWin]
  (repeat' split) <;> first | rfl | simp

@[simp] theorem ownWin_jtb (e : Entry) (role : Nat) (s : State) : (ownWin e role s).jtb = s.jtb := by
  dsimp only [ownWin]
  (repeat' split) <;> first | rfl | simp

@[simp] theorem ownWin_scu (e : Entry) (role : Nat) (s : State) : (ownWin e role s).scu = s.scu := by
  dsimp only [ownWin]
  (repeat' split) <;> first | rfl | simp

@[simp] theorem ownWin_msq (e : Entry) (role : Nat) (s : State) : (ownWin e role s).msq = s.msq := by
  dsimp only [ownWin]
  (repeat' split) <;> first | rfl | simp

@[simp] theorem ownWin_meu (e : Entry) (role : Nat) (s : State) : (ownWin e role s).meu = s.meu := by
  dsimp only [ownWin]
  (repeat' split) <;> first | rfl | simp

@[simp] theorem ownWin_flu (e : Entry) (role : Nat) (s : State) : (ownWin e role s).flu = s.flu := by
  dsimp only [ownWin]
  (repeat' split) <;> first | rfl | simp

@[simp] theorem ownWin_outer (e : Entry) (role : Nat) (s : State) : (ownWin e role s).outer = s.outer := by
  dsimp only [ownWin]
  (repeat' split) <;> first | rfl | simp

@[simp] theorem ownWin_log (e : Entry) (role : Nat) (s : State) : (ownWin e role s).log = s.log := by
  dsimp only [ownWin]
  (repeat' split) <;> first | rfl | simp

@[simp] theorem ownWin_identity (e : Entry) (role : Nat) (s : State) : (ownWin e role s).identity = s.identity := by
  dsimp only [ownWin]
  (repeat' split) <;> first | rfl | simp

@[simp] theorem ownWin_rosters (e : Entry) (role : Nat) (s : State) : (ownWin e role s).rosters = s.rosters := by
  dsimp only [ownWin]
  (repeat' split) <;> first | rfl | simp

@[simp] theorem ownWin_space (e : Entry) (role : Nat) (s : State) : (ownWin e role s).space = s.space := by
  dsimp only [ownWin]
  (repeat' split) <;> first | rfl | simp

@[simp] theorem ownWin_claimState (e : Entry) (role : Nat) (s : State) : (ownWin e role s).claimState = s.claimState := by
  dsimp only [ownWin]
  (repeat' split) <;> first | rfl | simp

@[simp] theorem ownWin_driveState (e : Entry) (role : Nat) (s : State) : (ownWin e role s).driveState = s.driveState := by
  dsimp only [ownWin]
  (repeat' split) <;> first | rfl | simp

@[simp] theorem ownWin_faultState (e : Entry) (role : Nat) (s : State) : (ownWin e role s).faultState = s.faultState := by
  dsimp only [ownWin]
  (repeat' split) <;> first | rfl | simp

@[simp] theorem ownWin_fenceState (e : Entry) (role : Nat) (s : State) : (ownWin e role s).fenceState = s.fenceState := by
  dsimp only [ownWin]
  (repeat' split) <;> first | rfl | simp

@[simp] theorem offerSet_stc (job : Nat) (s : State) : (offerSet job s).stc = s.stc := by
  dsimp only [offerSet]
  (repeat' split) <;> first | rfl | simp

@[simp] theorem offerSet_jtb (job : Nat) (s : State) : (offerSet job s).jtb = s.jtb := by
  dsimp only [offerSet]
  (repeat' split) <;> first | rfl | simp

@[simp] theorem offerSet_scu (job : Nat) (s : State) : (offerSet job s).scu = s.scu := by
  dsimp only [offerSet]
  (repeat' split) <;> first | rfl | simp

@[simp] theorem offerSet_msq (job : Nat) (s : State) : (offerSet job s).msq = s.msq := by
  dsimp only [offerSet]
  (repeat' split) <;> first | rfl | simp

@[simp] theorem offerSet_meu (job : Nat) (s : State) : (offerSet job s).meu = s.meu := by
  dsimp only [offerSet]
  (repeat' split) <;> first | rfl | simp

@[simp] theorem offerSet_flu (job : Nat) (s : State) : (offerSet job s).flu = s.flu := by
  dsimp only [offerSet]
  (repeat' split) <;> first | rfl | simp

@[simp] theorem offerSet_outer (job : Nat) (s : State) : (offerSet job s).outer = s.outer := by
  dsimp only [offerSet]
  (repeat' split) <;> first | rfl | simp

@[simp] theorem offerSet_log (job : Nat) (s : State) : (offerSet job s).log = s.log := by
  dsimp only [offerSet]
  (repeat' split) <;> first | rfl | simp

@[simp] theorem offerSet_identity (job : Nat) (s : State) : (offerSet job s).identity = s.identity := by
  dsimp only [offerSet]
  (repeat' split) <;> first | rfl | simp

@[simp] theorem offerSet_rosters (job : Nat) (s : State) : (offerSet job s).rosters = s.rosters := by
  dsimp only [offerSet]
  (repeat' split) <;> first | rfl | simp

@[simp] theorem offerSet_space (job : Nat) (s : State) : (offerSet job s).space = s.space := by
  dsimp only [offerSet]
  (repeat' split) <;> first | rfl | simp

@[simp] theorem offerSet_claimState (job : Nat) (s : State) : (offerSet job s).claimState = s.claimState := by
  dsimp only [offerSet]
  (repeat' split) <;> first | rfl | simp

@[simp] theorem offerSet_driveState (job : Nat) (s : State) : (offerSet job s).driveState = s.driveState := by
  dsimp only [offerSet]
  (repeat' split) <;> first | rfl | simp

@[simp] theorem offerSet_faultState (job : Nat) (s : State) : (offerSet job s).faultState = s.faultState := by
  dsimp only [offerSet]
  (repeat' split) <;> first | rfl | simp

@[simp] theorem offerSet_fenceState (job : Nat) (s : State) : (offerSet job s).fenceState = s.fenceState := by
  dsimp only [offerSet]
  (repeat' split) <;> first | rfl | simp

@[simp] theorem clearPending_lif (own : Bool) (s : State) : (clearPending own s).lif = s.lif := by
  dsimp only [clearPending]
  (repeat' split) <;> first | rfl | simp

@[simp] theorem clearPending_stc (own : Bool) (s : State) : (clearPending own s).stc = s.stc := by
  dsimp only [clearPending]
  (repeat' split) <;> first | rfl | simp

@[simp] theorem clearPending_jtb (own : Bool) (s : State) : (clearPending own s).jtb = s.jtb := by
  dsimp only [clearPending]
  (repeat' split) <;> first | rfl | simp

@[simp] theorem clearPending_scu (own : Bool) (s : State) : (clearPending own s).scu = s.scu := by
  dsimp only [clearPending]
  (repeat' split) <;> first | rfl | simp

@[simp] theorem clearPending_msq (own : Bool) (s : State) : (clearPending own s).msq = s.msq := by
  dsimp only [clearPending]
  (repeat' split) <;> first | rfl | simp

@[simp] theorem clearPending_meu (own : Bool) (s : State) : (clearPending own s).meu = s.meu := by
  dsimp only [clearPending]
  (repeat' split) <;> first | rfl | simp

@[simp] theorem clearPending_flu (own : Bool) (s : State) : (clearPending own s).flu = s.flu := by
  dsimp only [clearPending]
  (repeat' split) <;> first | rfl | simp

@[simp] theorem clearPending_outer (own : Bool) (s : State) : (clearPending own s).outer = s.outer := by
  dsimp only [clearPending]
  (repeat' split) <;> first | rfl | simp

@[simp] theorem clearPending_log (own : Bool) (s : State) : (clearPending own s).log = s.log := by
  dsimp only [clearPending]
  (repeat' split) <;> first | rfl | simp

@[simp] theorem clearPending_identity (own : Bool) (s : State) : (clearPending own s).identity = s.identity := by
  dsimp only [clearPending]
  (repeat' split) <;> first | rfl | simp

@[simp] theorem clearPending_rosters (own : Bool) (s : State) : (clearPending own s).rosters = s.rosters := by
  dsimp only [clearPending]
  (repeat' split) <;> first | rfl | simp

@[simp] theorem clearPending_space (own : Bool) (s : State) : (clearPending own s).space = s.space := by
  dsimp only [clearPending]
  (repeat' split) <;> first | rfl | simp

@[simp] theorem clearPending_claimState (own : Bool) (s : State) : (clearPending own s).claimState = s.claimState := by
  dsimp only [clearPending]
  (repeat' split) <;> first | rfl | simp

@[simp] theorem clearPending_driveState (own : Bool) (s : State) : (clearPending own s).driveState = s.driveState := by
  dsimp only [clearPending]
  (repeat' split) <;> first | rfl | simp

@[simp] theorem clearPending_faultState (own : Bool) (s : State) : (clearPending own s).faultState = s.faultState := by
  dsimp only [clearPending]
  (repeat' split) <;> first | rfl | simp

@[simp] theorem clearPending_fenceState (own : Bool) (s : State) : (clearPending own s).fenceState = s.fenceState := by
  dsimp only [clearPending]
  (repeat' split) <;> first | rfl | simp

@[simp] theorem takeRole_stc (e : Entry) (src : Nat) (role : Nat) (catchFlag : Bool) (s : State) : (takeRole e src role catchFlag s).stc = s.stc := by
  dsimp only [takeRole]
  (repeat' split) <;> first | rfl | simp

@[simp] theorem takeRole_scu (e : Entry) (src : Nat) (role : Nat) (catchFlag : Bool) (s : State) : (takeRole e src role catchFlag s).scu = s.scu := by
  dsimp only [takeRole]
  (repeat' split) <;> first | rfl | simp

@[simp] theorem takeRole_msq (e : Entry) (src : Nat) (role : Nat) (catchFlag : Bool) (s : State) : (takeRole e src role catchFlag s).msq = s.msq := by
  dsimp only [takeRole]
  (repeat' split) <;> first | rfl | simp

@[simp] theorem takeRole_meu (e : Entry) (src : Nat) (role : Nat) (catchFlag : Bool) (s : State) : (takeRole e src role catchFlag s).meu = s.meu := by
  dsimp only [takeRole]
  (repeat' split) <;> first | rfl | simp

@[simp] theorem takeRole_flu (e : Entry) (src : Nat) (role : Nat) (catchFlag : Bool) (s : State) : (takeRole e src role catchFlag s).flu = s.flu := by
  dsimp only [takeRole]
  (repeat' split) <;> first | rfl | simp

@[simp] theorem takeRole_outer (e : Entry) (src : Nat) (role : Nat) (catchFlag : Bool) (s : State) : (takeRole e src role catchFlag s).outer = s.outer := by
  dsimp only [takeRole]
  (repeat' split) <;> first | rfl | simp

@[simp] theorem takeRole_identity (e : Entry) (src : Nat) (role : Nat) (catchFlag : Bool) (s : State) : (takeRole e src role catchFlag s).identity = s.identity := by
  dsimp only [takeRole]
  (repeat' split) <;> first | rfl | simp

@[simp] theorem takeRole_rosters (e : Entry) (src : Nat) (role : Nat) (catchFlag : Bool) (s : State) : (takeRole e src role catchFlag s).rosters = s.rosters := by
  dsimp only [takeRole]
  (repeat' split) <;> first | rfl | simp

@[simp] theorem takeRole_space (e : Entry) (src : Nat) (role : Nat) (catchFlag : Bool) (s : State) : (takeRole e src role catchFlag s).space = s.space := by
  dsimp only [takeRole]
  (repeat' split) <;> first | rfl | simp

@[simp] theorem takeRole_claimState (e : Entry) (src : Nat) (role : Nat) (catchFlag : Bool) (s : State) : (takeRole e src role catchFlag s).claimState = s.claimState := by
  dsimp only [takeRole]
  (repeat' split) <;> first | rfl | simp

@[simp] theorem takeRole_driveState (e : Entry) (src : Nat) (role : Nat) (catchFlag : Bool) (s : State) : (takeRole e src role catchFlag s).driveState = s.driveState := by
  dsimp only [takeRole]
  (repeat' split) <;> first | rfl | simp

@[simp] theorem takeRole_faultState (e : Entry) (src : Nat) (role : Nat) (catchFlag : Bool) (s : State) : (takeRole e src role catchFlag s).faultState = s.faultState := by
  dsimp only [takeRole]
  (repeat' split) <;> first | rfl | simp

@[simp] theorem takeRole_fenceState (e : Entry) (src : Nat) (role : Nat) (catchFlag : Bool) (s : State) : (takeRole e src role catchFlag s).fenceState = s.fenceState := by
  dsimp only [takeRole]
  (repeat' split) <;> first | rfl | simp

@[simp] theorem countMismatch_lif (s : State) : (countMismatch s).lif = s.lif := by
  dsimp only [countMismatch]
  (repeat' split) <;> first | rfl | simp

@[simp] theorem countMismatch_stc (s : State) : (countMismatch s).stc = s.stc := by
  dsimp only [countMismatch]
  (repeat' split) <;> first | rfl | simp

@[simp] theorem countMismatch_jtb (s : State) : (countMismatch s).jtb = s.jtb := by
  dsimp only [countMismatch]
  (repeat' split) <;> first | rfl | simp

@[simp] theorem countMismatch_scu (s : State) : (countMismatch s).scu = s.scu := by
  dsimp only [countMismatch]
  (repeat' split) <;> first | rfl | simp

@[simp] theorem countMismatch_msq (s : State) : (countMismatch s).msq = s.msq := by
  dsimp only [countMismatch]
  (repeat' split) <;> first | rfl | simp

@[simp] theorem countMismatch_meu (s : State) : (countMismatch s).meu = s.meu := by
  dsimp only [countMismatch]
  (repeat' split) <;> first | rfl | simp

@[simp] theorem countMismatch_flu (s : State) : (countMismatch s).flu = s.flu := by
  dsimp only [countMismatch]
  (repeat' split) <;> first | rfl | simp

@[simp] theorem countMismatch_outer (s : State) : (countMismatch s).outer = s.outer := by
  dsimp only [countMismatch]
  (repeat' split) <;> first | rfl | simp

@[simp] theorem countMismatch_log (s : State) : (countMismatch s).log = s.log := by
  dsimp only [countMismatch]
  (repeat' split) <;> first | rfl | simp

@[simp] theorem countMismatch_identity (s : State) : (countMismatch s).identity = s.identity := by
  dsimp only [countMismatch]
  (repeat' split) <;> first | rfl | simp

@[simp] theorem countMismatch_rosters (s : State) : (countMismatch s).rosters = s.rosters := by
  dsimp only [countMismatch]
  (repeat' split) <;> first | rfl | simp

@[simp] theorem countMismatch_space (s : State) : (countMismatch s).space = s.space := by
  dsimp only [countMismatch]
  (repeat' split) <;> first | rfl | simp

@[simp] theorem countMismatch_claimState (s : State) : (countMismatch s).claimState = s.claimState := by
  dsimp only [countMismatch]
  (repeat' split) <;> first | rfl | simp

@[simp] theorem countMismatch_driveState (s : State) : (countMismatch s).driveState = s.driveState := by
  dsimp only [countMismatch]
  (repeat' split) <;> first | rfl | simp

@[simp] theorem countMismatch_faultState (s : State) : (countMismatch s).faultState = s.faultState := by
  dsimp only [countMismatch]
  (repeat' split) <;> first | rfl | simp

@[simp] theorem countMismatch_fenceState (s : State) : (countMismatch s).fenceState = s.fenceState := by
  dsimp only [countMismatch]
  (repeat' split) <;> first | rfl | simp

@[simp] theorem compareSet_stc (job : Nat) (ts : List Nat) (s : State) : (compareSet job ts s).stc = s.stc := by
  dsimp only [compareSet]
  (repeat' split) <;> first | rfl | simp

@[simp] theorem compareSet_jtb (job : Nat) (ts : List Nat) (s : State) : (compareSet job ts s).jtb = s.jtb := by
  dsimp only [compareSet]
  (repeat' split) <;> first | rfl | simp

@[simp] theorem compareSet_scu (job : Nat) (ts : List Nat) (s : State) : (compareSet job ts s).scu = s.scu := by
  dsimp only [compareSet]
  (repeat' split) <;> first | rfl | simp

@[simp] theorem compareSet_msq (job : Nat) (ts : List Nat) (s : State) : (compareSet job ts s).msq = s.msq := by
  dsimp only [compareSet]
  (repeat' split) <;> first | rfl | simp

@[simp] theorem compareSet_meu (job : Nat) (ts : List Nat) (s : State) : (compareSet job ts s).meu = s.meu := by
  dsimp only [compareSet]
  (repeat' split) <;> first | rfl | simp

@[simp] theorem compareSet_flu (job : Nat) (ts : List Nat) (s : State) : (compareSet job ts s).flu = s.flu := by
  dsimp only [compareSet]
  (repeat' split) <;> first | rfl | simp

@[simp] theorem compareSet_outer (job : Nat) (ts : List Nat) (s : State) : (compareSet job ts s).outer = s.outer := by
  dsimp only [compareSet]
  (repeat' split) <;> first | rfl | simp

@[simp] theorem compareSet_log (job : Nat) (ts : List Nat) (s : State) : (compareSet job ts s).log = s.log := by
  dsimp only [compareSet]
  (repeat' split) <;> first | rfl | simp

@[simp] theorem compareSet_identity (job : Nat) (ts : List Nat) (s : State) : (compareSet job ts s).identity = s.identity := by
  dsimp only [compareSet]
  (repeat' split) <;> first | rfl | simp

@[simp] theorem compareSet_rosters (job : Nat) (ts : List Nat) (s : State) : (compareSet job ts s).rosters = s.rosters := by
  dsimp only [compareSet]
  (repeat' split) <;> first | rfl | simp

@[simp] theorem compareSet_space (job : Nat) (ts : List Nat) (s : State) : (compareSet job ts s).space = s.space := by
  dsimp only [compareSet]
  (repeat' split) <;> first | rfl | simp

@[simp] theorem compareSet_claimState (job : Nat) (ts : List Nat) (s : State) : (compareSet job ts s).claimState = s.claimState := by
  dsimp only [compareSet]
  (repeat' split) <;> first | rfl | simp

@[simp] theorem compareSet_driveState (job : Nat) (ts : List Nat) (s : State) : (compareSet job ts s).driveState = s.driveState := by
  dsimp only [compareSet]
  (repeat' split) <;> first | rfl | simp

@[simp] theorem compareSet_faultState (job : Nat) (ts : List Nat) (s : State) : (compareSet job ts s).faultState = s.faultState := by
  dsimp only [compareSet]
  (repeat' split) <;> first | rfl | simp

@[simp] theorem compareSet_fenceState (job : Nat) (ts : List Nat) (s : State) : (compareSet job ts s).fenceState = s.fenceState := by
  dsimp only [compareSet]
  (repeat' split) <;> first | rfl | simp

@[simp] theorem ownSet_stc (job : Nat) (s : State) : (ownSet job s).stc = s.stc := by
  dsimp only [ownSet]
  (repeat' split) <;> first | rfl | simp

@[simp] theorem ownSet_jtb (job : Nat) (s : State) : (ownSet job s).jtb = s.jtb := by
  dsimp only [ownSet]
  (repeat' split) <;> first | rfl | simp

@[simp] theorem ownSet_scu (job : Nat) (s : State) : (ownSet job s).scu = s.scu := by
  dsimp only [ownSet]
  (repeat' split) <;> first | rfl | simp

@[simp] theorem ownSet_msq (job : Nat) (s : State) : (ownSet job s).msq = s.msq := by
  dsimp only [ownSet]
  (repeat' split) <;> first | rfl | simp

@[simp] theorem ownSet_meu (job : Nat) (s : State) : (ownSet job s).meu = s.meu := by
  dsimp only [ownSet]
  (repeat' split) <;> first | rfl | simp

@[simp] theorem ownSet_flu (job : Nat) (s : State) : (ownSet job s).flu = s.flu := by
  dsimp only [ownSet]
  (repeat' split) <;> first | rfl | simp

@[simp] theorem ownSet_outer (job : Nat) (s : State) : (ownSet job s).outer = s.outer := by
  dsimp only [ownSet]
  (repeat' split) <;> first | rfl | simp

@[simp] theorem ownSet_log (job : Nat) (s : State) : (ownSet job s).log = s.log := by
  dsimp only [ownSet]
  (repeat' split) <;> first | rfl | simp

@[simp] theorem ownSet_identity (job : Nat) (s : State) : (ownSet job s).identity = s.identity := by
  dsimp only [ownSet]
  (repeat' split) <;> first | rfl | simp

@[simp] theorem ownSet_rosters (job : Nat) (s : State) : (ownSet job s).rosters = s.rosters := by
  dsimp only [ownSet]
  (repeat' split) <;> first | rfl | simp

@[simp] theorem ownSet_space (job : Nat) (s : State) : (ownSet job s).space = s.space := by
  dsimp only [ownSet]
  (repeat' split) <;> first | rfl | simp

@[simp] theorem ownSet_claimState (job : Nat) (s : State) : (ownSet job s).claimState = s.claimState := by
  dsimp only [ownSet]
  (repeat' split) <;> first | rfl | simp

@[simp] theorem ownSet_driveState (job : Nat) (s : State) : (ownSet job s).driveState = s.driveState := by
  dsimp only [ownSet]
  (repeat' split) <;> first | rfl | simp

@[simp] theorem ownSet_faultState (job : Nat) (s : State) : (ownSet job s).faultState = s.faultState := by
  dsimp only [ownSet]
  (repeat' split) <;> first | rfl | simp

@[simp] theorem ownSet_fenceState (job : Nat) (s : State) : (ownSet job s).fenceState = s.fenceState := by
  dsimp only [ownSet]
  (repeat' split) <;> first | rfl | simp

@[simp] theorem takeSet_stc (e : Entry) (src : Nat) (ts : List Nat) (s : State) : (takeSet e src ts s).stc = s.stc := by
  dsimp only [takeSet]
  (repeat' split) <;> first | rfl | simp

@[simp] theorem takeSet_scu (e : Entry) (src : Nat) (ts : List Nat) (s : State) : (takeSet e src ts s).scu = s.scu := by
  dsimp only [takeSet]
  (repeat' split) <;> first | rfl | simp

@[simp] theorem takeSet_msq (e : Entry) (src : Nat) (ts : List Nat) (s : State) : (takeSet e src ts s).msq = s.msq := by
  dsimp only [takeSet]
  (repeat' split) <;> first | rfl | simp

@[simp] theorem takeSet_meu (e : Entry) (src : Nat) (ts : List Nat) (s : State) : (takeSet e src ts s).meu = s.meu := by
  dsimp only [takeSet]
  (repeat' split) <;> first | rfl | simp

@[simp] theorem takeSet_flu (e : Entry) (src : Nat) (ts : List Nat) (s : State) : (takeSet e src ts s).flu = s.flu := by
  dsimp only [takeSet]
  (repeat' split) <;> first | rfl | simp

@[simp] theorem takeSet_outer (e : Entry) (src : Nat) (ts : List Nat) (s : State) : (takeSet e src ts s).outer = s.outer := by
  dsimp only [takeSet]
  (repeat' split) <;> first | rfl | simp

@[simp] theorem takeSet_identity (e : Entry) (src : Nat) (ts : List Nat) (s : State) : (takeSet e src ts s).identity = s.identity := by
  dsimp only [takeSet]
  (repeat' split) <;> first | rfl | simp

@[simp] theorem takeSet_rosters (e : Entry) (src : Nat) (ts : List Nat) (s : State) : (takeSet e src ts s).rosters = s.rosters := by
  dsimp only [takeSet]
  (repeat' split) <;> first | rfl | simp

@[simp] theorem takeSet_space (e : Entry) (src : Nat) (ts : List Nat) (s : State) : (takeSet e src ts s).space = s.space := by
  dsimp only [takeSet]
  (repeat' split) <;> first | rfl | simp

@[simp] theorem takeSet_claimState (e : Entry) (src : Nat) (ts : List Nat) (s : State) : (takeSet e src ts s).claimState = s.claimState := by
  dsimp only [takeSet]
  (repeat' split) <;> first | rfl | simp

@[simp] theorem takeSet_driveState (e : Entry) (src : Nat) (ts : List Nat) (s : State) : (takeSet e src ts s).driveState = s.driveState := by
  dsimp only [takeSet]
  (repeat' split) <;> first | rfl | simp

@[simp] theorem takeSet_faultState (e : Entry) (src : Nat) (ts : List Nat) (s : State) : (takeSet e src ts s).faultState = s.faultState := by
  dsimp only [takeSet]
  (repeat' split) <;> first | rfl | simp

@[simp] theorem takeSet_fenceState (e : Entry) (src : Nat) (ts : List Nat) (s : State) : (takeSet e src ts s).fenceState = s.fenceState := by
  dsimp only [takeSet]
  (repeat' split) <;> first | rfl | simp

@[simp] theorem freeRole_outer (e : Entry) (n : Nat) (s : State) : (freeRole e n s).outer = s.outer := by
  dsimp only [freeRole]
  (repeat' split) <;> first | rfl | simp

@[simp] theorem freeRole_log (e : Entry) (n : Nat) (s : State) : (freeRole e n s).log = s.log := by
  dsimp only [freeRole]
  (repeat' split) <;> first | rfl | simp

@[simp] theorem freeRole_identity (e : Entry) (n : Nat) (s : State) : (freeRole e n s).identity = s.identity := by
  dsimp only [freeRole]
  (repeat' split) <;> first | rfl | simp

@[simp] theorem freeRole_rosters (e : Entry) (n : Nat) (s : State) : (freeRole e n s).rosters = s.rosters := by
  dsimp only [freeRole]
  (repeat' split) <;> first | rfl | simp

@[simp] theorem freeRole_space (e : Entry) (n : Nat) (s : State) : (freeRole e n s).space = s.space := by
  dsimp only [freeRole]
  (repeat' split) <;> first | rfl | simp

@[simp] theorem takeDrop_outer (e : Entry) (src : Nat) (reason : DropReason) (lost : Nat) (s : State) : (takeDrop e src reason lost s).outer = s.outer := by
  dsimp only [takeDrop]
  (repeat' split) <;> first | rfl | simp

@[simp] theorem takeDrop_identity (e : Entry) (src : Nat) (reason : DropReason) (lost : Nat) (s : State) : (takeDrop e src reason lost s).identity = s.identity := by
  dsimp only [takeDrop]
  (repeat' split) <;> first | rfl | simp

@[simp] theorem takeDrop_rosters (e : Entry) (src : Nat) (reason : DropReason) (lost : Nat) (s : State) : (takeDrop e src reason lost s).rosters = s.rosters := by
  dsimp only [takeDrop]
  (repeat' split) <;> first | rfl | simp

@[simp] theorem takeDrop_space (e : Entry) (src : Nat) (reason : DropReason) (lost : Nat) (s : State) : (takeDrop e src reason lost s).space = s.space := by
  dsimp only [takeDrop]
  (repeat' split) <;> first | rfl | simp

@[simp] theorem partnerLoss_jtb (out : Nat) (s : State) : (partnerLoss out s).jtb = s.jtb := by
  dsimp only [partnerLoss]; (repeat' split) <;>
    first | rfl | simp | (refine (foldl_view (·.jtb) (fun t a => ?_) _).trans ?_ <;> (repeat' split) <;> first | rfl | simp) | (simp; refine (foldl_view (·.jtb) (fun t a => ?_) _).trans ?_ <;> (repeat' split) <;> first | rfl | simp)

@[simp] theorem partnerLoss_outer (out : Nat) (s : State) : (partnerLoss out s).outer = s.outer := by
  dsimp only [partnerLoss]; (repeat' split) <;>
    first | rfl | simp | (refine (foldl_view (·.outer) (fun t a => ?_) _).trans ?_ <;> (repeat' split) <;> first | rfl | simp) | (simp; refine (foldl_view (·.outer) (fun t a => ?_) _).trans ?_ <;> (repeat' split) <;> first | rfl | simp)

@[simp] theorem partnerLoss_log (out : Nat) (s : State) : (partnerLoss out s).log = s.log := by
  dsimp only [partnerLoss]; (repeat' split) <;>
    first | rfl | simp | (refine (foldl_view (·.log) (fun t a => ?_) _).trans ?_ <;> (repeat' split) <;> first | rfl | simp) | (simp; refine (foldl_view (·.log) (fun t a => ?_) _).trans ?_ <;> (repeat' split) <;> first | rfl | simp)

@[simp] theorem partnerLoss_identity (out : Nat) (s : State) : (partnerLoss out s).identity = s.identity := by
  dsimp only [partnerLoss]; (repeat' split) <;>
    first | rfl | simp | (refine (foldl_view (·.identity) (fun t a => ?_) _).trans ?_ <;> (repeat' split) <;> first | rfl | simp) | (simp; refine (foldl_view (·.identity) (fun t a => ?_) _).trans ?_ <;> (repeat' split) <;> first | rfl | simp)

@[simp] theorem partnerLoss_rosters (out : Nat) (s : State) : (partnerLoss out s).rosters = s.rosters := by
  dsimp only [partnerLoss]; (repeat' split) <;>
    first | rfl | simp | (refine (foldl_view (·.rosters) (fun t a => ?_) _).trans ?_ <;> (repeat' split) <;> first | rfl | simp) | (simp; refine (foldl_view (·.rosters) (fun t a => ?_) _).trans ?_ <;> (repeat' split) <;> first | rfl | simp)

@[simp] theorem partnerLoss_space (out : Nat) (s : State) : (partnerLoss out s).space = s.space := by
  dsimp only [partnerLoss]; (repeat' split) <;>
    first | rfl | simp | (refine (foldl_view (·.space) (fun t a => ?_) _).trans ?_ <;> (repeat' split) <;> first | rfl | simp) | (simp; refine (foldl_view (·.space) (fun t a => ?_) _).trans ?_ <;> (repeat' split) <;> first | rfl | simp)

@[simp] theorem postJob_jtb (e : Entry) (m : Membership) (verdict : Verdict) (value : Int) (neg : Bool) (s : State) : (postJob e m verdict value neg s).jtb = s.jtb := by
  dsimp only [postJob]
  (repeat' split) <;> first | rfl | simp

@[simp] theorem postJob_outer (e : Entry) (m : Membership) (verdict : Verdict) (value : Int) (neg : Bool) (s : State) : (postJob e m verdict value neg s).outer = s.outer := by
  dsimp only [postJob]
  (repeat' split) <;> first | rfl | simp

@[simp] theorem postJob_log (e : Entry) (m : Membership) (verdict : Verdict) (value : Int) (neg : Bool) (s : State) : (postJob e m verdict value neg s).log = s.log := by
  dsimp only [postJob]
  (repeat' split) <;> first | rfl | simp

@[simp] theorem postJob_identity (e : Entry) (m : Membership) (verdict : Verdict) (value : Int) (neg : Bool) (s : State) : (postJob e m verdict value neg s).identity = s.identity := by
  dsimp only [postJob]
  (repeat' split) <;> first | rfl | simp

@[simp] theorem postJob_rosters (e : Entry) (m : Membership) (verdict : Verdict) (value : Int) (neg : Bool) (s : State) : (postJob e m verdict value neg s).rosters = s.rosters := by
  dsimp only [postJob]
  (repeat' split) <;> first | rfl | simp

@[simp] theorem postJob_space (e : Entry) (m : Membership) (verdict : Verdict) (value : Int) (neg : Bool) (s : State) : (postJob e m verdict value neg s).space = s.space := by
  dsimp only [postJob]
  (repeat' split) <;> first | rfl | simp

@[simp] theorem landingDecision_jtb (e : Entry) (m : Membership) (s : State) : (landingDecision e m s).jtb = s.jtb := by
  dsimp only [landingDecision]
  (repeat' split) <;> first | rfl | simp

@[simp] theorem landingDecision_outer (e : Entry) (m : Membership) (s : State) : (landingDecision e m s).outer = s.outer := by
  dsimp only [landingDecision]
  (repeat' split) <;> first | rfl | simp

@[simp] theorem landingDecision_log (e : Entry) (m : Membership) (s : State) : (landingDecision e m s).log = s.log := by
  dsimp only [landingDecision]
  (repeat' split) <;> first | rfl | simp

@[simp] theorem landingDecision_identity (e : Entry) (m : Membership) (s : State) : (landingDecision e m s).identity = s.identity := by
  dsimp only [landingDecision]
  (repeat' split) <;> first | rfl | simp

@[simp] theorem landingDecision_rosters (e : Entry) (m : Membership) (s : State) : (landingDecision e m s).rosters = s.rosters := by
  dsimp only [landingDecision]
  (repeat' split) <;> first | rfl | simp

@[simp] theorem landingDecision_space (e : Entry) (m : Membership) (s : State) : (landingDecision e m s).space = s.space := by
  dsimp only [landingDecision]
  (repeat' split) <;> first | rfl | simp

@[simp] theorem takeLanding_jtb (e : Entry) (m : Membership) (src : Nat) (role : Nat) (pass : Nat) (noContact : Bool) (s : State) : (takeLanding e m src role pass noContact s).jtb = s.jtb := by
  dsimp only [takeLanding]
  (repeat' split) <;> first | rfl | simp

@[simp] theorem takeLanding_outer (e : Entry) (m : Membership) (src : Nat) (role : Nat) (pass : Nat) (noContact : Bool) (s : State) : (takeLanding e m src role pass noContact s).outer = s.outer := by
  dsimp only [takeLanding]
  (repeat' split) <;> first | rfl | simp

@[simp] theorem takeLanding_identity (e : Entry) (m : Membership) (src : Nat) (role : Nat) (pass : Nat) (noContact : Bool) (s : State) : (takeLanding e m src role pass noContact s).identity = s.identity := by
  dsimp only [takeLanding]
  (repeat' split) <;> first | rfl | simp

@[simp] theorem takeLanding_rosters (e : Entry) (m : Membership) (src : Nat) (role : Nat) (pass : Nat) (noContact : Bool) (s : State) : (takeLanding e m src role pass noContact s).rosters = s.rosters := by
  dsimp only [takeLanding]
  (repeat' split) <;> first | rfl | simp

@[simp] theorem takeLanding_space (e : Entry) (m : Membership) (src : Nat) (role : Nat) (pass : Nat) (noContact : Bool) (s : State) : (takeLanding e m src role pass noContact s).space = s.space := by
  dsimp only [takeLanding]
  (repeat' split) <;> first | rfl | simp

@[simp] theorem leadDecision_jtb (e : Entry) (m : Membership) (s : State) : (leadDecision e m s).jtb = s.jtb := by
  dsimp only [leadDecision]
  (repeat' split) <;> first | rfl | simp

@[simp] theorem leadDecision_outer (e : Entry) (m : Membership) (s : State) : (leadDecision e m s).outer = s.outer := by
  dsimp only [leadDecision]
  (repeat' split) <;> first | rfl | simp

@[simp] theorem leadDecision_log (e : Entry) (m : Membership) (s : State) : (leadDecision e m s).log = s.log := by
  dsimp only [leadDecision]
  (repeat' split) <;> first | rfl | simp

@[simp] theorem leadDecision_identity (e : Entry) (m : Membership) (s : State) : (leadDecision e m s).identity = s.identity := by
  dsimp only [leadDecision]
  (repeat' split) <;> first | rfl | simp

@[simp] theorem leadDecision_rosters (e : Entry) (m : Membership) (s : State) : (leadDecision e m s).rosters = s.rosters := by
  dsimp only [leadDecision]
  (repeat' split) <;> first | rfl | simp

@[simp] theorem leadDecision_space (e : Entry) (m : Membership) (s : State) : (leadDecision e m s).space = s.space := by
  dsimp only [leadDecision]
  (repeat' split) <;> first | rfl | simp

@[simp] theorem decideIfComplete_jtb (job : Nat) (s : State) : (decideIfComplete job s).jtb = s.jtb := by
  dsimp only [decideIfComplete]
  (repeat' split) <;> first | rfl | simp

@[simp] theorem decideIfComplete_outer (job : Nat) (s : State) : (decideIfComplete job s).outer = s.outer := by
  dsimp only [decideIfComplete]
  (repeat' split) <;> first | rfl | simp

@[simp] theorem decideIfComplete_log (job : Nat) (s : State) : (decideIfComplete job s).log = s.log := by
  dsimp only [decideIfComplete]
  (repeat' split) <;> first | rfl | simp

@[simp] theorem decideIfComplete_identity (job : Nat) (s : State) : (decideIfComplete job s).identity = s.identity := by
  dsimp only [decideIfComplete]
  (repeat' split) <;> first | rfl | simp

@[simp] theorem decideIfComplete_rosters (job : Nat) (s : State) : (decideIfComplete job s).rosters = s.rosters := by
  dsimp only [decideIfComplete]
  (repeat' split) <;> first | rfl | simp

@[simp] theorem decideIfComplete_space (job : Nat) (s : State) : (decideIfComplete job s).space = s.space := by
  dsimp only [decideIfComplete]
  (repeat' split) <;> first | rfl | simp

@[simp] theorem takeReading_jtb (e : Entry) (m : Membership) (src : Nat) (role : Nat) (pass : Nat) (r : Reading) (s : State) : (takeReading e m src role pass r s).jtb = s.jtb := by
  dsimp only [takeReading]
  (repeat' split) <;> first | rfl | simp

@[simp] theorem takeReading_outer (e : Entry) (m : Membership) (src : Nat) (role : Nat) (pass : Nat) (r : Reading) (s : State) : (takeReading e m src role pass r s).outer = s.outer := by
  dsimp only [takeReading]
  (repeat' split) <;> first | rfl | simp

@[simp] theorem takeReading_identity (e : Entry) (m : Membership) (src : Nat) (role : Nat) (pass : Nat) (r : Reading) (s : State) : (takeReading e m src role pass r s).identity = s.identity := by
  dsimp only [takeReading]
  (repeat' split) <;> first | rfl | simp

@[simp] theorem takeReading_rosters (e : Entry) (m : Membership) (src : Nat) (role : Nat) (pass : Nat) (r : Reading) (s : State) : (takeReading e m src role pass r s).rosters = s.rosters := by
  dsimp only [takeReading]
  (repeat' split) <;> first | rfl | simp

@[simp] theorem takeReading_space (e : Entry) (m : Membership) (src : Nat) (role : Nat) (pass : Nat) (r : Reading) (s : State) : (takeReading e m src role pass r s).space = s.space := by
  dsimp only [takeReading]
  (repeat' split) <;> first | rfl | simp

@[simp] theorem applyAgain_jtb (job : Nat) (repeated : Bool) (pass : Nat) (s : State) : (applyAgain job repeated pass s).jtb = s.jtb := by
  dsimp only [applyAgain]
  (repeat' split) <;> first | rfl | simp

@[simp] theorem applyAgain_outer (job : Nat) (repeated : Bool) (pass : Nat) (s : State) : (applyAgain job repeated pass s).outer = s.outer := by
  dsimp only [applyAgain]
  (repeat' split) <;> first | rfl | simp

@[simp] theorem applyAgain_log (job : Nat) (repeated : Bool) (pass : Nat) (s : State) : (applyAgain job repeated pass s).log = s.log := by
  dsimp only [applyAgain]
  (repeat' split) <;> first | rfl | simp

@[simp] theorem applyAgain_identity (job : Nat) (repeated : Bool) (pass : Nat) (s : State) : (applyAgain job repeated pass s).identity = s.identity := by
  dsimp only [applyAgain]
  (repeat' split) <;> first | rfl | simp

@[simp] theorem applyAgain_rosters (job : Nat) (repeated : Bool) (pass : Nat) (s : State) : (applyAgain job repeated pass s).rosters = s.rosters := by
  dsimp only [applyAgain]
  (repeat' split) <;> first | rfl | simp

@[simp] theorem applyAgain_space (job : Nat) (repeated : Bool) (pass : Nat) (s : State) : (applyAgain job repeated pass s).space = s.space := by
  dsimp only [applyAgain]
  (repeat' split) <;> first | rfl | simp

@[simp] theorem takeAgain_jtb (m : Membership) (src : Nat) (repeated : Bool) (pass : Nat) (s : State) : (takeAgain m src repeated pass s).jtb = s.jtb := by
  dsimp only [takeAgain]
  (repeat' split) <;> first | rfl | simp

@[simp] theorem takeAgain_outer (m : Membership) (src : Nat) (repeated : Bool) (pass : Nat) (s : State) : (takeAgain m src repeated pass s).outer = s.outer := by
  dsimp only [takeAgain]
  (repeat' split) <;> first | rfl | simp

@[simp] theorem takeAgain_identity (m : Membership) (src : Nat) (repeated : Bool) (pass : Nat) (s : State) : (takeAgain m src repeated pass s).identity = s.identity := by
  dsimp only [takeAgain]
  (repeat' split) <;> first | rfl | simp

@[simp] theorem takeAgain_rosters (m : Membership) (src : Nat) (repeated : Bool) (pass : Nat) (s : State) : (takeAgain m src repeated pass s).rosters = s.rosters := by
  dsimp only [takeAgain]
  (repeat' split) <;> first | rfl | simp

@[simp] theorem takeAgain_space (m : Membership) (src : Nat) (repeated : Bool) (pass : Nat) (s : State) : (takeAgain m src repeated pass s).space = s.space := by
  dsimp only [takeAgain]
  (repeat' split) <;> first | rfl | simp

@[simp] theorem openWindow_outer (e : Entry) (m : Membership) (s : State) : (openWindow e m s).outer = s.outer := by
  dsimp only [openWindow]
  (repeat' split) <;> first | rfl | simp

@[simp] theorem openWindow_log (e : Entry) (m : Membership) (s : State) : (openWindow e m s).log = s.log := by
  dsimp only [openWindow]
  (repeat' split) <;> first | rfl | simp

@[simp] theorem openWindow_identity (e : Entry) (m : Membership) (s : State) : (openWindow e m s).identity = s.identity := by
  dsimp only [openWindow]
  (repeat' split) <;> first | rfl | simp

@[simp] theorem takeStart_outer (e : Entry) (m : Membership) (src : Nat) (pass : Nat) (s : State) : (takeStart e m src pass s).outer = s.outer := by
  dsimp only [takeStart]
  (repeat' split) <;> first | rfl | simp

@[simp] theorem takeStart_identity (e : Entry) (m : Membership) (src : Nat) (pass : Nat) (s : State) : (takeStart e m src pass s).identity = s.identity := by
  dsimp only [takeStart]
  (repeat' split) <;> first | rfl | simp

@[simp] theorem enterHold_outer (job : Nat) (s : State) : (enterHold job s).outer = s.outer := by
  dsimp only [enterHold]
  (repeat' split) <;> first | rfl | simp

@[simp] theorem enterHold_identity (job : Nat) (s : State) : (enterHold job s).identity = s.identity := by
  dsimp only [enterHold]
  (repeat' split) <;> first | rfl | simp

@[simp] theorem closeWindow_outer (samples : Nat) (s : State) : (closeWindow samples s).outer = s.outer := by
  dsimp only [closeWindow]
  (repeat' split) <;> first | rfl | simp

@[simp] theorem closeWindow_identity (samples : Nat) (s : State) : (closeWindow samples s).identity = s.identity := by
  dsimp only [closeWindow]
  (repeat' split) <;> first | rfl | simp

@[simp] theorem stampOwnReading_lif (s : State) : (stampOwnReading s).lif = s.lif := by
  dsimp only [stampOwnReading]
  (repeat' split) <;> first | rfl | simp

@[simp] theorem stampOwnReading_stc (s : State) : (stampOwnReading s).stc = s.stc := by
  dsimp only [stampOwnReading]
  (repeat' split) <;> first | rfl | simp

@[simp] theorem stampOwnReading_jtb (s : State) : (stampOwnReading s).jtb = s.jtb := by
  dsimp only [stampOwnReading]
  (repeat' split) <;> first | rfl | simp

@[simp] theorem stampOwnReading_rvu (s : State) : (stampOwnReading s).rvu = s.rvu := by
  dsimp only [stampOwnReading]
  (repeat' split) <;> first | rfl | simp

@[simp] theorem stampOwnReading_scu (s : State) : (stampOwnReading s).scu = s.scu := by
  dsimp only [stampOwnReading]
  (repeat' split) <;> first | rfl | simp

@[simp] theorem stampOwnReading_msq (s : State) : (stampOwnReading s).msq = s.msq := by
  dsimp only [stampOwnReading]
  (repeat' split) <;> first | rfl | simp

@[simp] theorem stampOwnReading_flu (s : State) : (stampOwnReading s).flu = s.flu := by
  dsimp only [stampOwnReading]
  (repeat' split) <;> first | rfl | simp

@[simp] theorem stampOwnReading_outer (s : State) : (stampOwnReading s).outer = s.outer := by
  dsimp only [stampOwnReading]
  (repeat' split) <;> first | rfl | simp

@[simp] theorem stampOwnReading_log (s : State) : (stampOwnReading s).log = s.log := by
  dsimp only [stampOwnReading]
  (repeat' split) <;> first | rfl | simp

@[simp] theorem stampOwnReading_identity (s : State) : (stampOwnReading s).identity = s.identity := by
  dsimp only [stampOwnReading]
  (repeat' split) <;> first | rfl | simp

@[simp] theorem stampOwnReading_rosters (s : State) : (stampOwnReading s).rosters = s.rosters := by
  dsimp only [stampOwnReading]
  (repeat' split) <;> first | rfl | simp

@[simp] theorem stampOwnReading_space (s : State) : (stampOwnReading s).space = s.space := by
  dsimp only [stampOwnReading]
  (repeat' split) <;> first | rfl | simp

@[simp] theorem stampOwnReading_claimState (s : State) : (stampOwnReading s).claimState = s.claimState := by
  dsimp only [stampOwnReading]
  (repeat' split) <;> first | rfl | simp

@[simp] theorem stampOwnReading_driveState (s : State) : (stampOwnReading s).driveState = s.driveState := by
  dsimp only [stampOwnReading]
  (repeat' split) <;> first | rfl | simp

@[simp] theorem stampOwnReading_faultState (s : State) : (stampOwnReading s).faultState = s.faultState := by
  dsimp only [stampOwnReading]
  (repeat' split) <;> first | rfl | simp

@[simp] theorem stampOwnReading_fenceState (s : State) : (stampOwnReading s).fenceState = s.fenceState := by
  dsimp only [stampOwnReading]
  (repeat' split) <;> first | rfl | simp

end Sys2Proof.Machine
end

