-- ==== Sys2Proof/Laws/SpaceOps.lean ====
section
/-! SUPPORT. What the operations of Machine/SpaceOps.lean leave alone: one lemma for each block and each view of the state that an
operation does not touch. -/

namespace Sys2Proof.Machine

open Sys2Proof

variable {s : State}

@[simp] theorem setOrdinal_lif (n : Nat) (s : State) : (setOrdinal n s).lif = s.lif := by
  dsimp only [setOrdinal]
  (repeat' split) <;> first | rfl | simp

@[simp] theorem setOrdinal_stc (n : Nat) (s : State) : (setOrdinal n s).stc = s.stc := by
  dsimp only [setOrdinal]
  (repeat' split) <;> first | rfl | simp

@[simp] theorem setOrdinal_jtb (n : Nat) (s : State) : (setOrdinal n s).jtb = s.jtb := by
  dsimp only [setOrdinal]
  (repeat' split) <;> first | rfl | simp

@[simp] theorem setOrdinal_rvu (n : Nat) (s : State) : (setOrdinal n s).rvu = s.rvu := by
  dsimp only [setOrdinal]
  (repeat' split) <;> first | rfl | simp

@[simp] theorem setOrdinal_msq (n : Nat) (s : State) : (setOrdinal n s).msq = s.msq := by
  dsimp only [setOrdinal]
  (repeat' split) <;> first | rfl | simp

@[simp] theorem setOrdinal_meu (n : Nat) (s : State) : (setOrdinal n s).meu = s.meu := by
  dsimp only [setOrdinal]
  (repeat' split) <;> first | rfl | simp

@[simp] theorem setOrdinal_flu (n : Nat) (s : State) : (setOrdinal n s).flu = s.flu := by
  dsimp only [setOrdinal]
  (repeat' split) <;> first | rfl | simp

@[simp] theorem setOrdinal_outer (n : Nat) (s : State) : (setOrdinal n s).outer = s.outer := by
  dsimp only [setOrdinal]
  (repeat' split) <;> first | rfl | simp

@[simp] theorem setOrdinal_log (n : Nat) (s : State) : (setOrdinal n s).log = s.log := by
  dsimp only [setOrdinal]
  (repeat' split) <;> first | rfl | simp

@[simp] theorem setOrdinal_identity (n : Nat) (s : State) : (setOrdinal n s).identity = s.identity := by
  dsimp only [setOrdinal]
  (repeat' split) <;> first | rfl | simp

@[simp] theorem setOrdinal_rosters (n : Nat) (s : State) : (setOrdinal n s).rosters = s.rosters := by
  dsimp only [setOrdinal]
  (repeat' split) <;> first | rfl | simp

@[simp] theorem setOrdinal_space (n : Nat) (s : State) : (setOrdinal n s).space = s.space := by
  dsimp only [setOrdinal]
  (repeat' split) <;> first | rfl | simp

@[simp] theorem setOrdinal_driveState (n : Nat) (s : State) : (setOrdinal n s).driveState = s.driveState := by
  dsimp only [setOrdinal]
  (repeat' split) <;> first | rfl | simp

@[simp] theorem setOrdinal_faultState (n : Nat) (s : State) : (setOrdinal n s).faultState = s.faultState := by
  dsimp only [setOrdinal]
  (repeat' split) <;> first | rfl | simp

@[simp] theorem setOrdinal_fenceState (n : Nat) (s : State) : (setOrdinal n s).fenceState = s.fenceState := by
  dsimp only [setOrdinal]
  (repeat' split) <;> first | rfl | simp

@[simp] theorem ownClaim_jtb (ordinal : Nat) (kind : ClaimKind) (rect : Rect) (s : State) : (ownClaim ordinal kind rect s).jtb = s.jtb := by
  dsimp only [ownClaim]
  (repeat' split) <;> first | rfl | simp

@[simp] theorem ownClaim_meu (ordinal : Nat) (kind : ClaimKind) (rect : Rect) (s : State) : (ownClaim ordinal kind rect s).meu = s.meu := by
  dsimp only [ownClaim]
  (repeat' split) <;> first | rfl | simp

@[simp] theorem ownClaim_flu (ordinal : Nat) (kind : ClaimKind) (rect : Rect) (s : State) : (ownClaim ordinal kind rect s).flu = s.flu := by
  dsimp only [ownClaim]
  (repeat' split) <;> first | rfl | simp

@[simp] theorem ownClaim_outer (ordinal : Nat) (kind : ClaimKind) (rect : Rect) (s : State) : (ownClaim ordinal kind rect s).outer = s.outer := by
  dsimp only [ownClaim]
  (repeat' split) <;> first | rfl | simp

@[simp] theorem ownClaim_log (ordinal : Nat) (kind : ClaimKind) (rect : Rect) (s : State) : (ownClaim ordinal kind rect s).log = s.log := by
  dsimp only [ownClaim]
  (repeat' split) <;> first | rfl | simp

@[simp] theorem ownClaim_identity (ordinal : Nat) (kind : ClaimKind) (rect : Rect) (s : State) : (ownClaim ordinal kind rect s).identity = s.identity := by
  dsimp only [ownClaim]
  (repeat' split) <;> first | rfl | simp

@[simp] theorem ownClaim_rosters (ordinal : Nat) (kind : ClaimKind) (rect : Rect) (s : State) : (ownClaim ordinal kind rect s).rosters = s.rosters := by
  dsimp only [ownClaim]
  (repeat' split) <;> first | rfl | simp

@[simp] theorem ownClaim_space (ordinal : Nat) (kind : ClaimKind) (rect : Rect) (s : State) : (ownClaim ordinal kind rect s).space = s.space := by
  dsimp only [ownClaim]
  (repeat' split) <;> first | rfl | simp

@[simp] theorem ownClaim_driveState (ordinal : Nat) (kind : ClaimKind) (rect : Rect) (s : State) : (ownClaim ordinal kind rect s).driveState = s.driveState := by
  dsimp only [ownClaim]
  (repeat' split) <;> first | rfl | simp

@[simp] theorem ownClaim_faultState (ordinal : Nat) (kind : ClaimKind) (rect : Rect) (s : State) : (ownClaim ordinal kind rect s).faultState = s.faultState := by
  dsimp only [ownClaim]
  (repeat' split) <;> first | rfl | simp

@[simp] theorem ownClaim_fenceState (ordinal : Nat) (kind : ClaimKind) (rect : Rect) (s : State) : (ownClaim ordinal kind rect s).fenceState = s.fenceState := by
  dsimp only [ownClaim]
  (repeat' split) <;> first | rfl | simp

@[simp] theorem setSlot_lif (n : Nat) (holds : SlotHolds) (ordinal : Nat) (s : State) : (setSlot n holds ordinal s).lif = s.lif := by
  dsimp only [setSlot]
  (repeat' split) <;> first | rfl | simp

@[simp] theorem setSlot_stc (n : Nat) (holds : SlotHolds) (ordinal : Nat) (s : State) : (setSlot n holds ordinal s).stc = s.stc := by
  dsimp only [setSlot]
  (repeat' split) <;> first | rfl | simp

@[simp] theorem setSlot_jtb (n : Nat) (holds : SlotHolds) (ordinal : Nat) (s : State) : (setSlot n holds ordinal s).jtb = s.jtb := by
  dsimp only [setSlot]
  (repeat' split) <;> first | rfl | simp

@[simp] theorem setSlot_rvu (n : Nat) (holds : SlotHolds) (ordinal : Nat) (s : State) : (setSlot n holds ordinal s).rvu = s.rvu := by
  dsimp only [setSlot]
  (repeat' split) <;> first | rfl | simp

@[simp] theorem setSlot_msq (n : Nat) (holds : SlotHolds) (ordinal : Nat) (s : State) : (setSlot n holds ordinal s).msq = s.msq := by
  dsimp only [setSlot]
  (repeat' split) <;> first | rfl | simp

@[simp] theorem setSlot_meu (n : Nat) (holds : SlotHolds) (ordinal : Nat) (s : State) : (setSlot n holds ordinal s).meu = s.meu := by
  dsimp only [setSlot]
  (repeat' split) <;> first | rfl | simp

@[simp] theorem setSlot_flu (n : Nat) (holds : SlotHolds) (ordinal : Nat) (s : State) : (setSlot n holds ordinal s).flu = s.flu := by
  dsimp only [setSlot]
  (repeat' split) <;> first | rfl | simp

@[simp] theorem setSlot_outer (n : Nat) (holds : SlotHolds) (ordinal : Nat) (s : State) : (setSlot n holds ordinal s).outer = s.outer := by
  dsimp only [setSlot]
  (repeat' split) <;> first | rfl | simp

@[simp] theorem setSlot_log (n : Nat) (holds : SlotHolds) (ordinal : Nat) (s : State) : (setSlot n holds ordinal s).log = s.log := by
  dsimp only [setSlot]
  (repeat' split) <;> first | rfl | simp

@[simp] theorem setSlot_identity (n : Nat) (holds : SlotHolds) (ordinal : Nat) (s : State) : (setSlot n holds ordinal s).identity = s.identity := by
  dsimp only [setSlot]
  (repeat' split) <;> first | rfl | simp

@[simp] theorem setSlot_rosters (n : Nat) (holds : SlotHolds) (ordinal : Nat) (s : State) : (setSlot n holds ordinal s).rosters = s.rosters := by
  dsimp only [setSlot]
  (repeat' split) <;> first | rfl | simp

@[simp] theorem setSlot_claimState (n : Nat) (holds : SlotHolds) (ordinal : Nat) (s : State) : (setSlot n holds ordinal s).claimState = s.claimState := by
  dsimp only [setSlot]
  (repeat' split) <;> first | rfl | simp

@[simp] theorem setSlot_driveState (n : Nat) (holds : SlotHolds) (ordinal : Nat) (s : State) : (setSlot n holds ordinal s).driveState = s.driveState := by
  dsimp only [setSlot]
  (repeat' split) <;> first | rfl | simp

@[simp] theorem setSlot_faultState (n : Nat) (holds : SlotHolds) (ordinal : Nat) (s : State) : (setSlot n holds ordinal s).faultState = s.faultState := by
  dsimp only [setSlot]
  (repeat' split) <;> first | rfl | simp

@[simp] theorem setSlot_fenceState (n : Nat) (holds : SlotHolds) (ordinal : Nat) (s : State) : (setSlot n holds ordinal s).fenceState = s.fenceState := by
  dsimp only [setSlot]
  (repeat' split) <;> first | rfl | simp

@[simp] theorem peerClaim_jtb (n : Nat) (ordinal : Nat) (rect : Rect) (s : State) : (peerClaim n ordinal rect s).jtb = s.jtb := by
  dsimp only [peerClaim]
  (repeat' split) <;> first | rfl | simp

@[simp] theorem peerClaim_meu (n : Nat) (ordinal : Nat) (rect : Rect) (s : State) : (peerClaim n ordinal rect s).meu = s.meu := by
  dsimp only [peerClaim]
  (repeat' split) <;> first | rfl | simp

@[simp] theorem peerClaim_flu (n : Nat) (ordinal : Nat) (rect : Rect) (s : State) : (peerClaim n ordinal rect s).flu = s.flu := by
  dsimp only [peerClaim]
  (repeat' split) <;> first | rfl | simp

@[simp] theorem peerClaim_outer (n : Nat) (ordinal : Nat) (rect : Rect) (s : State) : (peerClaim n ordinal rect s).outer = s.outer := by
  dsimp only [peerClaim]
  (repeat' split) <;> first | rfl | simp

@[simp] theorem peerClaim_log (n : Nat) (ordinal : Nat) (rect : Rect) (s : State) : (peerClaim n ordinal rect s).log = s.log := by
  dsimp only [peerClaim]
  (repeat' split) <;> first | rfl | simp

@[simp] theorem peerClaim_identity (n : Nat) (ordinal : Nat) (rect : Rect) (s : State) : (peerClaim n ordinal rect s).identity = s.identity := by
  dsimp only [peerClaim]
  (repeat' split) <;> first | rfl | simp

@[simp] theorem peerClaim_rosters (n : Nat) (ordinal : Nat) (rect : Rect) (s : State) : (peerClaim n ordinal rect s).rosters = s.rosters := by
  dsimp only [peerClaim]
  (repeat' split) <;> first | rfl | simp

@[simp] theorem peerClaim_driveState (n : Nat) (ordinal : Nat) (rect : Rect) (s : State) : (peerClaim n ordinal rect s).driveState = s.driveState := by
  dsimp only [peerClaim]
  (repeat' split) <;> first | rfl | simp

@[simp] theorem peerClaim_faultState (n : Nat) (ordinal : Nat) (rect : Rect) (s : State) : (peerClaim n ordinal rect s).faultState = s.faultState := by
  dsimp only [peerClaim]
  (repeat' split) <;> first | rfl | simp

@[simp] theorem peerClaim_fenceState (n : Nat) (ordinal : Nat) (rect : Rect) (s : State) : (peerClaim n ordinal rect s).fenceState = s.fenceState := by
  dsimp only [peerClaim]
  (repeat' split) <;> first | rfl | simp

@[simp] theorem peerShrink_jtb (n : Nat) (ordinal : Nat) (rect : Rect) (s : State) : (peerShrink n ordinal rect s).jtb = s.jtb := by
  dsimp only [peerShrink]
  (repeat' split) <;> first | rfl | simp

@[simp] theorem peerShrink_meu (n : Nat) (ordinal : Nat) (rect : Rect) (s : State) : (peerShrink n ordinal rect s).meu = s.meu := by
  dsimp only [peerShrink]
  (repeat' split) <;> first | rfl | simp

@[simp] theorem peerShrink_flu (n : Nat) (ordinal : Nat) (rect : Rect) (s : State) : (peerShrink n ordinal rect s).flu = s.flu := by
  dsimp only [peerShrink]
  (repeat' split) <;> first | rfl | simp

@[simp] theorem peerShrink_outer (n : Nat) (ordinal : Nat) (rect : Rect) (s : State) : (peerShrink n ordinal rect s).outer = s.outer := by
  dsimp only [peerShrink]
  (repeat' split) <;> first | rfl | simp

@[simp] theorem peerShrink_identity (n : Nat) (ordinal : Nat) (rect : Rect) (s : State) : (peerShrink n ordinal rect s).identity = s.identity := by
  dsimp only [peerShrink]
  (repeat' split) <;> first | rfl | simp

@[simp] theorem peerShrink_rosters (n : Nat) (ordinal : Nat) (rect : Rect) (s : State) : (peerShrink n ordinal rect s).rosters = s.rosters := by
  dsimp only [peerShrink]
  (repeat' split) <;> first | rfl | simp

@[simp] theorem peerShrink_driveState (n : Nat) (ordinal : Nat) (rect : Rect) (s : State) : (peerShrink n ordinal rect s).driveState = s.driveState := by
  dsimp only [peerShrink]
  (repeat' split) <;> first | rfl | simp

@[simp] theorem peerShrink_faultState (n : Nat) (ordinal : Nat) (rect : Rect) (s : State) : (peerShrink n ordinal rect s).faultState = s.faultState := by
  dsimp only [peerShrink]
  (repeat' split) <;> first | rfl | simp

@[simp] theorem peerShrink_fenceState (n : Nat) (ordinal : Nat) (rect : Rect) (s : State) : (peerShrink n ordinal rect s).fenceState = s.fenceState := by
  dsimp only [peerShrink]
  (repeat' split) <;> first | rfl | simp

@[simp] theorem peerRelease_jtb (n : Nat) (ordinal : Nat) (s : State) : (peerRelease n ordinal s).jtb = s.jtb := by
  dsimp only [peerRelease]
  (repeat' split) <;> first | rfl | simp

@[simp] theorem peerRelease_meu (n : Nat) (ordinal : Nat) (s : State) : (peerRelease n ordinal s).meu = s.meu := by
  dsimp only [peerRelease]
  (repeat' split) <;> first | rfl | simp

@[simp] theorem peerRelease_flu (n : Nat) (ordinal : Nat) (s : State) : (peerRelease n ordinal s).flu = s.flu := by
  dsimp only [peerRelease]
  (repeat' split) <;> first | rfl | simp

@[simp] theorem peerRelease_outer (n : Nat) (ordinal : Nat) (s : State) : (peerRelease n ordinal s).outer = s.outer := by
  dsimp only [peerRelease]
  (repeat' split) <;> first | rfl | simp

@[simp] theorem peerRelease_log (n : Nat) (ordinal : Nat) (s : State) : (peerRelease n ordinal s).log = s.log := by
  dsimp only [peerRelease]
  (repeat' split) <;> first | rfl | simp

@[simp] theorem peerRelease_identity (n : Nat) (ordinal : Nat) (s : State) : (peerRelease n ordinal s).identity = s.identity := by
  dsimp only [peerRelease]
  (repeat' split) <;> first | rfl | simp

@[simp] theorem peerRelease_rosters (n : Nat) (ordinal : Nat) (s : State) : (peerRelease n ordinal s).rosters = s.rosters := by
  dsimp only [peerRelease]
  (repeat' split) <;> first | rfl | simp

@[simp] theorem peerRelease_driveState (n : Nat) (ordinal : Nat) (s : State) : (peerRelease n ordinal s).driveState = s.driveState := by
  dsimp only [peerRelease]
  (repeat' split) <;> first | rfl | simp

@[simp] theorem peerRelease_faultState (n : Nat) (ordinal : Nat) (s : State) : (peerRelease n ordinal s).faultState = s.faultState := by
  dsimp only [peerRelease]
  (repeat' split) <;> first | rfl | simp

@[simp] theorem peerRelease_fenceState (n : Nat) (ordinal : Nat) (s : State) : (peerRelease n ordinal s).fenceState = s.fenceState := by
  dsimp only [peerRelease]
  (repeat' split) <;> first | rfl | simp

@[simp] theorem install_lif (owner : Nat) (rect : Rect) (s : State) : (install owner rect s).lif = s.lif := by
  dsimp only [install]
  (repeat' split) <;> first | rfl | simp

@[simp] theorem install_stc (owner : Nat) (rect : Rect) (s : State) : (install owner rect s).stc = s.stc := by
  dsimp only [install]
  (repeat' split) <;> first | rfl | simp

@[simp] theorem install_jtb (owner : Nat) (rect : Rect) (s : State) : (install owner rect s).jtb = s.jtb := by
  dsimp only [install]
  (repeat' split) <;> first | rfl | simp

@[simp] theorem install_rvu (owner : Nat) (rect : Rect) (s : State) : (install owner rect s).rvu = s.rvu := by
  dsimp only [install]
  (repeat' split) <;> first | rfl | simp

@[simp] theorem install_msq (owner : Nat) (rect : Rect) (s : State) : (install owner rect s).msq = s.msq := by
  dsimp only [install]
  (repeat' split) <;> first | rfl | simp

@[simp] theorem install_meu (owner : Nat) (rect : Rect) (s : State) : (install owner rect s).meu = s.meu := by
  dsimp only [install]
  (repeat' split) <;> first | rfl | simp

@[simp] theorem install_flu (owner : Nat) (rect : Rect) (s : State) : (install owner rect s).flu = s.flu := by
  dsimp only [install]
  (repeat' split) <;> first | rfl | simp

@[simp] theorem install_outer (owner : Nat) (rect : Rect) (s : State) : (install owner rect s).outer = s.outer := by
  dsimp only [install]
  (repeat' split) <;> first | rfl | simp

@[simp] theorem install_log (owner : Nat) (rect : Rect) (s : State) : (install owner rect s).log = s.log := by
  dsimp only [install]
  (repeat' split) <;> first | rfl | simp

@[simp] theorem install_identity (owner : Nat) (rect : Rect) (s : State) : (install owner rect s).identity = s.identity := by
  dsimp only [install]
  (repeat' split) <;> first | rfl | simp

@[simp] theorem install_rosters (owner : Nat) (rect : Rect) (s : State) : (install owner rect s).rosters = s.rosters := by
  dsimp only [install]
  (repeat' split) <;> first | rfl | simp

@[simp] theorem install_claimState (owner : Nat) (rect : Rect) (s : State) : (install owner rect s).claimState = s.claimState := by
  dsimp only [install]
  (repeat' split) <;> first | rfl | simp

@[simp] theorem install_driveState (owner : Nat) (rect : Rect) (s : State) : (install owner rect s).driveState = s.driveState := by
  dsimp only [install]
  (repeat' split) <;> first | rfl | simp

@[simp] theorem install_faultState (owner : Nat) (rect : Rect) (s : State) : (install owner rect s).faultState = s.faultState := by
  dsimp only [install]
  (repeat' split) <;> first | rfl | simp

@[simp] theorem install_fenceState (owner : Nat) (rect : Rect) (s : State) : (install owner rect s).fenceState = s.fenceState := by
  dsimp only [install]
  (repeat' split) <;> first | rfl | simp

@[simp] theorem lateObject_jtb (s : State) : (lateObject s).jtb = s.jtb := by
  dsimp only [lateObject, State.onCounters]
  (repeat' split) <;> first | rfl | simp

@[simp] theorem lateObject_outer (s : State) : (lateObject s).outer = s.outer := by
  dsimp only [lateObject, State.onCounters]
  (repeat' split) <;> first | rfl | simp

@[simp] theorem lateObject_identity (s : State) : (lateObject s).identity = s.identity := by
  dsimp only [lateObject, State.onCounters]
  (repeat' split) <;> first | rfl | simp

@[simp] theorem lateObject_rosters (s : State) : (lateObject s).rosters = s.rosters := by
  dsimp only [lateObject, State.onCounters]
  (repeat' split) <;> first | rfl | simp

@[simp] theorem lateObject_space (s : State) : (lateObject s).space = s.space := by
  dsimp only [lateObject, State.onCounters]
  (repeat' split) <;> first | rfl | simp

@[simp] theorem lateObject_claimState (s : State) : (lateObject s).claimState = s.claimState := by
  dsimp only [lateObject, State.onCounters]
  (repeat' split) <;> first | rfl | simp

@[simp] theorem objectAtClaimant_jtb (ordinal : Nat) (rect : Rect) (owner : Nat) (s : State) : (objectAtClaimant ordinal rect owner s).jtb = s.jtb := by
  dsimp only [objectAtClaimant]
  (repeat' split) <;> first | rfl | simp

@[simp] theorem objectAtClaimant_outer (ordinal : Nat) (rect : Rect) (owner : Nat) (s : State) : (objectAtClaimant ordinal rect owner s).outer = s.outer := by
  dsimp only [objectAtClaimant]
  (repeat' split) <;> first | rfl | simp

@[simp] theorem objectAtClaimant_identity (ordinal : Nat) (rect : Rect) (owner : Nat) (s : State) : (objectAtClaimant ordinal rect owner s).identity = s.identity := by
  dsimp only [objectAtClaimant]
  (repeat' split) <;> first | rfl | simp

@[simp] theorem objectAtClaimant_rosters (ordinal : Nat) (rect : Rect) (owner : Nat) (s : State) : (objectAtClaimant ordinal rect owner s).rosters = s.rosters := by
  dsimp only [objectAtClaimant]
  (repeat' split) <;> first | rfl | simp

@[simp] theorem objectAtObserver_jtb (claimant : Nat) (ordinal : Nat) (s : State) : (objectAtObserver claimant ordinal s).jtb = s.jtb := by
  dsimp only [objectAtObserver]
  (repeat' split) <;> first | rfl | simp

@[simp] theorem objectAtObserver_meu (claimant : Nat) (ordinal : Nat) (s : State) : (objectAtObserver claimant ordinal s).meu = s.meu := by
  dsimp only [objectAtObserver]
  (repeat' split) <;> first | rfl | simp

@[simp] theorem objectAtObserver_flu (claimant : Nat) (ordinal : Nat) (s : State) : (objectAtObserver claimant ordinal s).flu = s.flu := by
  dsimp only [objectAtObserver]
  (repeat' split) <;> first | rfl | simp

@[simp] theorem objectAtObserver_outer (claimant : Nat) (ordinal : Nat) (s : State) : (objectAtObserver claimant ordinal s).outer = s.outer := by
  dsimp only [objectAtObserver]
  (repeat' split) <;> first | rfl | simp

@[simp] theorem objectAtObserver_log (claimant : Nat) (ordinal : Nat) (s : State) : (objectAtObserver claimant ordinal s).log = s.log := by
  dsimp only [objectAtObserver]
  (repeat' split) <;> first | rfl | simp

@[simp] theorem objectAtObserver_identity (claimant : Nat) (ordinal : Nat) (s : State) : (objectAtObserver claimant ordinal s).identity = s.identity := by
  dsimp only [objectAtObserver]
  (repeat' split) <;> first | rfl | simp

@[simp] theorem objectAtObserver_rosters (claimant : Nat) (ordinal : Nat) (s : State) : (objectAtObserver claimant ordinal s).rosters = s.rosters := by
  dsimp only [objectAtObserver]
  (repeat' split) <;> first | rfl | simp

@[simp] theorem objectAtObserver_driveState (claimant : Nat) (ordinal : Nat) (s : State) : (objectAtObserver claimant ordinal s).driveState = s.driveState := by
  dsimp only [objectAtObserver]
  (repeat' split) <;> first | rfl | simp

@[simp] theorem objectAtObserver_faultState (claimant : Nat) (ordinal : Nat) (s : State) : (objectAtObserver claimant ordinal s).faultState = s.faultState := by
  dsimp only [objectAtObserver]
  (repeat' split) <;> first | rfl | simp

@[simp] theorem objectAtObserver_fenceState (claimant : Nat) (ordinal : Nat) (s : State) : (objectAtObserver claimant ordinal s).fenceState = s.fenceState := by
  dsimp only [objectAtObserver]
  (repeat' split) <;> first | rfl | simp

@[simp] theorem censusVoid_jtb (s : State) : (censusVoid s).jtb = s.jtb := by
  dsimp only [censusVoid]
  (repeat' split) <;> first | rfl | simp

@[simp] theorem censusVoid_meu (s : State) : (censusVoid s).meu = s.meu := by
  dsimp only [censusVoid]
  (repeat' split) <;> first | rfl | simp

@[simp] theorem censusVoid_flu (s : State) : (censusVoid s).flu = s.flu := by
  dsimp only [censusVoid]
  (repeat' split) <;> first | rfl | simp

@[simp] theorem censusVoid_outer (s : State) : (censusVoid s).outer = s.outer := by
  dsimp only [censusVoid]
  (repeat' split) <;> first | rfl | simp

@[simp] theorem censusVoid_log (s : State) : (censusVoid s).log = s.log := by
  dsimp only [censusVoid]
  (repeat' split) <;> first | rfl | simp

@[simp] theorem censusVoid_identity (s : State) : (censusVoid s).identity = s.identity := by
  dsimp only [censusVoid]
  (repeat' split) <;> first | rfl | simp

@[simp] theorem censusVoid_rosters (s : State) : (censusVoid s).rosters = s.rosters := by
  dsimp only [censusVoid]
  (repeat' split) <;> first | rfl | simp

@[simp] theorem censusVoid_space (s : State) : (censusVoid s).space = s.space := by
  dsimp only [censusVoid]
  (repeat' split) <;> first | rfl | simp

@[simp] theorem censusVoid_claimState (s : State) : (censusVoid s).claimState = s.claimState := by
  dsimp only [censusVoid]
  (repeat' split) <;> first | rfl | simp

@[simp] theorem censusVoid_driveState (s : State) : (censusVoid s).driveState = s.driveState := by
  dsimp only [censusVoid]
  (repeat' split) <;> first | rfl | simp

@[simp] theorem censusVoid_faultState (s : State) : (censusVoid s).faultState = s.faultState := by
  dsimp only [censusVoid]
  (repeat' split) <;> first | rfl | simp

@[simp] theorem censusVoid_fenceState (s : State) : (censusVoid s).fenceState = s.fenceState := by
  dsimp only [censusVoid]
  (repeat' split) <;> first | rfl | simp

@[simp] theorem queueReply_stc (s : State) : (queueReply s).stc = s.stc := by
  dsimp only [queueReply]
  (repeat' split) <;> first | rfl | simp

@[simp] theorem queueReply_jtb (s : State) : (queueReply s).jtb = s.jtb := by
  dsimp only [queueReply]
  (repeat' split) <;> first | rfl | simp

@[simp] theorem queueReply_rvu (s : State) : (queueReply s).rvu = s.rvu := by
  dsimp only [queueReply]
  (repeat' split) <;> first | rfl | simp

@[simp] theorem queueReply_msq (s : State) : (queueReply s).msq = s.msq := by
  dsimp only [queueReply]
  (repeat' split) <;> first | rfl | simp

@[simp] theorem queueReply_meu (s : State) : (queueReply s).meu = s.meu := by
  dsimp only [queueReply]
  (repeat' split) <;> first | rfl | simp

@[simp] theorem queueReply_flu (s : State) : (queueReply s).flu = s.flu := by
  dsimp only [queueReply]
  (repeat' split) <;> first | rfl | simp

@[simp] theorem queueReply_outer (s : State) : (queueReply s).outer = s.outer := by
  dsimp only [queueReply]
  (repeat' split) <;> first | rfl | simp

@[simp] theorem queueReply_log (s : State) : (queueReply s).log = s.log := by
  dsimp only [queueReply]
  (repeat' split) <;> first | rfl | simp

@[simp] theorem queueReply_identity (s : State) : (queueReply s).identity = s.identity := by
  dsimp only [queueReply]
  (repeat' split) <;> first | rfl | simp

@[simp] theorem queueReply_rosters (s : State) : (queueReply s).rosters = s.rosters := by
  dsimp only [queueReply]
  (repeat' split) <;> first | rfl | simp

@[simp] theorem queueReply_space (s : State) : (queueReply s).space = s.space := by
  dsimp only [queueReply]
  (repeat' split) <;> first | rfl | simp

@[simp] theorem queueReply_claimState (s : State) : (queueReply s).claimState = s.claimState := by
  dsimp only [queueReply]
  (repeat' split) <;> first | rfl | simp

@[simp] theorem queueReply_driveState (s : State) : (queueReply s).driveState = s.driveState := by
  dsimp only [queueReply]
  (repeat' split) <;> first | rfl | simp

@[simp] theorem queueReply_faultState (s : State) : (queueReply s).faultState = s.faultState := by
  dsimp only [queueReply]
  (repeat' split) <;> first | rfl | simp

@[simp] theorem queueReply_fenceState (s : State) : (queueReply s).fenceState = s.fenceState := by
  dsimp only [queueReply]
  (repeat' split) <;> first | rfl | simp

@[simp] theorem censusRequest_jtb (s : State) : (censusRequest s).jtb = s.jtb := by
  dsimp only [censusRequest]
  (repeat' split) <;> first | rfl | simp

@[simp] theorem censusRequest_meu (s : State) : (censusRequest s).meu = s.meu := by
  dsimp only [censusRequest]
  (repeat' split) <;> first | rfl | simp

@[simp] theorem censusRequest_flu (s : State) : (censusRequest s).flu = s.flu := by
  dsimp only [censusRequest]
  (repeat' split) <;> first | rfl | simp

@[simp] theorem censusRequest_outer (s : State) : (censusRequest s).outer = s.outer := by
  dsimp only [censusRequest]
  (repeat' split) <;> first | rfl | simp

@[simp] theorem censusRequest_log (s : State) : (censusRequest s).log = s.log := by
  dsimp only [censusRequest]
  (repeat' split) <;> first | rfl | simp

@[simp] theorem censusRequest_identity (s : State) : (censusRequest s).identity = s.identity := by
  dsimp only [censusRequest]
  (repeat' split) <;> first | rfl | simp

@[simp] theorem censusRequest_rosters (s : State) : (censusRequest s).rosters = s.rosters := by
  dsimp only [censusRequest]
  (repeat' split) <;> first | rfl | simp

@[simp] theorem censusRequest_driveState (s : State) : (censusRequest s).driveState = s.driveState := by
  dsimp only [censusRequest]
  (repeat' split) <;> first | rfl | simp

@[simp] theorem censusRequest_faultState (s : State) : (censusRequest s).faultState = s.faultState := by
  dsimp only [censusRequest]
  (repeat' split) <;> first | rfl | simp

@[simp] theorem censusRequest_fenceState (s : State) : (censusRequest s).fenceState = s.fenceState := by
  dsimp only [censusRequest]
  (repeat' split) <;> first | rfl | simp

@[simp] theorem censusStart_lif (s : State) : (censusStart s).lif = s.lif := by
  dsimp only [censusStart]
  (repeat' split) <;> first | rfl | simp

@[simp] theorem censusStart_stc (s : State) : (censusStart s).stc = s.stc := by
  dsimp only [censusStart]
  (repeat' split) <;> first | rfl | simp

@[simp] theorem censusStart_jtb (s : State) : (censusStart s).jtb = s.jtb := by
  dsimp only [censusStart]
  (repeat' split) <;> first | rfl | simp

@[simp] theorem censusStart_rvu (s : State) : (censusStart s).rvu = s.rvu := by
  dsimp only [censusStart]
  (repeat' split) <;> first | rfl | simp

@[simp] theorem censusStart_msq (s : State) : (censusStart s).msq = s.msq := by
  dsimp only [censusStart]
  (repeat' split) <;> first | rfl | simp

@[simp] theorem censusStart_meu (s : State) : (censusStart s).meu = s.meu := by
  dsimp only [censusStart]
  (repeat' split) <;> first | rfl | simp

@[simp] theorem censusStart_flu (s : State) : (censusStart s).flu = s.flu := by
  dsimp only [censusStart]
  (repeat' split) <;> first | rfl | simp

@[simp] theorem censusStart_outer (s : State) : (censusStart s).outer = s.outer := by
  dsimp only [censusStart]
  (repeat' split) <;> first | rfl | simp

@[simp] theorem censusStart_log (s : State) : (censusStart s).log = s.log := by
  dsimp only [censusStart]
  (repeat' split) <;> first | rfl | simp

@[simp] theorem censusStart_identity (s : State) : (censusStart s).identity = s.identity := by
  dsimp only [censusStart]
  (repeat' split) <;> first | rfl | simp

@[simp] theorem censusStart_rosters (s : State) : (censusStart s).rosters = s.rosters := by
  dsimp only [censusStart]
  (repeat' split) <;> first | rfl | simp

@[simp] theorem censusStart_space (s : State) : (censusStart s).space = s.space := by
  dsimp only [censusStart]
  (repeat' split) <;> first | rfl | simp

@[simp] theorem censusStart_claimState (s : State) : (censusStart s).claimState = s.claimState := by
  dsimp only [censusStart]
  (repeat' split) <;> first | rfl | simp

@[simp] theorem censusStart_driveState (s : State) : (censusStart s).driveState = s.driveState := by
  dsimp only [censusStart]
  (repeat' split) <;> first | rfl | simp

@[simp] theorem censusStart_faultState (s : State) : (censusStart s).faultState = s.faultState := by
  dsimp only [censusStart]
  (repeat' split) <;> first | rfl | simp

@[simp] theorem censusStart_fenceState (s : State) : (censusStart s).fenceState = s.fenceState := by
  dsimp only [censusStart]
  (repeat' split) <;> first | rfl | simp

@[simp] theorem replyHeard_lif (s : State) : (replyHeard s).lif = s.lif := by
  dsimp only [replyHeard]
  (repeat' split) <;> first | rfl | simp

@[simp] theorem replyHeard_stc (s : State) : (replyHeard s).stc = s.stc := by
  dsimp only [replyHeard]
  (repeat' split) <;> first | rfl | simp

@[simp] theorem replyHeard_jtb (s : State) : (replyHeard s).jtb = s.jtb := by
  dsimp only [replyHeard]
  (repeat' split) <;> first | rfl | simp

@[simp] theorem replyHeard_rvu (s : State) : (replyHeard s).rvu = s.rvu := by
  dsimp only [replyHeard]
  (repeat' split) <;> first | rfl | simp

@[simp] theorem replyHeard_meu (s : State) : (replyHeard s).meu = s.meu := by
  dsimp only [replyHeard]
  (repeat' split) <;> first | rfl | simp

@[simp] theorem replyHeard_flu (s : State) : (replyHeard s).flu = s.flu := by
  dsimp only [replyHeard]
  (repeat' split) <;> first | rfl | simp

@[simp] theorem replyHeard_outer (s : State) : (replyHeard s).outer = s.outer := by
  dsimp only [replyHeard]
  (repeat' split) <;> first | rfl | simp

@[simp] theorem replyHeard_log (s : State) : (replyHeard s).log = s.log := by
  dsimp only [replyHeard]
  (repeat' split) <;> first | rfl | simp

@[simp] theorem replyHeard_identity (s : State) : (replyHeard s).identity = s.identity := by
  dsimp only [replyHeard]
  (repeat' split) <;> first | rfl | simp

@[simp] theorem replyHeard_rosters (s : State) : (replyHeard s).rosters = s.rosters := by
  dsimp only [replyHeard]
  (repeat' split) <;> first | rfl | simp

@[simp] theorem replyHeard_space (s : State) : (replyHeard s).space = s.space := by
  dsimp only [replyHeard]
  (repeat' split) <;> first | rfl | simp

@[simp] theorem replyHeard_claimState (s : State) : (replyHeard s).claimState = s.claimState := by
  dsimp only [replyHeard]
  (repeat' split) <;> first | rfl | simp

@[simp] theorem replyHeard_driveState (s : State) : (replyHeard s).driveState = s.driveState := by
  dsimp only [replyHeard]
  (repeat' split) <;> first | rfl | simp

@[simp] theorem replyHeard_faultState (s : State) : (replyHeard s).faultState = s.faultState := by
  dsimp only [replyHeard]
  (repeat' split) <;> first | rfl | simp

@[simp] theorem replyHeard_fenceState (s : State) : (replyHeard s).fenceState = s.fenceState := by
  dsimp only [replyHeard]
  (repeat' split) <;> first | rfl | simp

@[simp] theorem takeNote_lif (note : Nat × Rect) (s : State) : (takeNote note s).lif = s.lif := by
  dsimp only [takeNote]
  (repeat' split) <;> first | rfl | simp

@[simp] theorem takeNote_stc (note : Nat × Rect) (s : State) : (takeNote note s).stc = s.stc := by
  dsimp only [takeNote]
  (repeat' split) <;> first | rfl | simp

@[simp] theorem takeNote_jtb (note : Nat × Rect) (s : State) : (takeNote note s).jtb = s.jtb := by
  dsimp only [takeNote]
  (repeat' split) <;> first | rfl | simp

@[simp] theorem takeNote_rvu (note : Nat × Rect) (s : State) : (takeNote note s).rvu = s.rvu := by
  dsimp only [takeNote]
  (repeat' split) <;> first | rfl | simp

@[simp] theorem takeNote_msq (note : Nat × Rect) (s : State) : (takeNote note s).msq = s.msq := by
  dsimp only [takeNote]
  (repeat' split) <;> first | rfl | simp

@[simp] theorem takeNote_meu (note : Nat × Rect) (s : State) : (takeNote note s).meu = s.meu := by
  dsimp only [takeNote]
  (repeat' split) <;> first | rfl | simp

@[simp] theorem takeNote_flu (note : Nat × Rect) (s : State) : (takeNote note s).flu = s.flu := by
  dsimp only [takeNote]
  (repeat' split) <;> first | rfl | simp

@[simp] theorem takeNote_outer (note : Nat × Rect) (s : State) : (takeNote note s).outer = s.outer := by
  dsimp only [takeNote]
  (repeat' split) <;> first | rfl | simp

@[simp] theorem takeNote_log (note : Nat × Rect) (s : State) : (takeNote note s).log = s.log := by
  dsimp only [takeNote]
  (repeat' split) <;> first | rfl | simp

@[simp] theorem takeNote_identity (note : Nat × Rect) (s : State) : (takeNote note s).identity = s.identity := by
  dsimp only [takeNote]
  (repeat' split) <;> first | rfl | simp

@[simp] theorem takeNote_rosters (note : Nat × Rect) (s : State) : (takeNote note s).rosters = s.rosters := by
  dsimp only [takeNote]
  (repeat' split) <;> first | rfl | simp

@[simp] theorem takeNote_claimState (note : Nat × Rect) (s : State) : (takeNote note s).claimState = s.claimState := by
  dsimp only [takeNote]
  (repeat' split) <;> first | rfl | simp

@[simp] theorem takeNote_driveState (note : Nat × Rect) (s : State) : (takeNote note s).driveState = s.driveState := by
  dsimp only [takeNote]
  (repeat' split) <;> first | rfl | simp

@[simp] theorem takeNote_faultState (note : Nat × Rect) (s : State) : (takeNote note s).faultState = s.faultState := by
  dsimp only [takeNote]
  (repeat' split) <;> first | rfl | simp

@[simp] theorem takeNote_fenceState (note : Nat × Rect) (s : State) : (takeNote note s).fenceState = s.fenceState := by
  dsimp only [takeNote]
  (repeat' split) <;> first | rfl | simp

@[simp] theorem peerReply_jtb (n : Nat) (ordinal : Nat) (held : Option Rect) (notes : List (Nat × Rect)) (s : State) : (peerReply n ordinal held notes s).jtb = s.jtb := 
  (mapChanged_jtb _).trans ((foldl_view (·.jtb) (fun t a => by simp) _).trans (by simp))

@[simp] theorem peerReply_meu (n : Nat) (ordinal : Nat) (held : Option Rect) (notes : List (Nat × Rect)) (s : State) : (peerReply n ordinal held notes s).meu = s.meu := 
  (mapChanged_meu _).trans ((foldl_view (·.meu) (fun t a => by simp) _).trans (by simp))

@[simp] theorem peerReply_flu (n : Nat) (ordinal : Nat) (held : Option Rect) (notes : List (Nat × Rect)) (s : State) : (peerReply n ordinal held notes s).flu = s.flu := 
  (mapChanged_flu _).trans ((foldl_view (·.flu) (fun t a => by simp) _).trans (by simp))

@[simp] theorem peerReply_outer (n : Nat) (ordinal : Nat) (held : Option Rect) (notes : List (Nat × Rect)) (s : State) : (peerReply n ordinal held notes s).outer = s.outer := 
  (mapChanged_outer _).trans ((foldl_view (·.outer) (fun t a => by simp) _).trans (by simp))

@[simp] theorem peerReply_log (n : Nat) (ordinal : Nat) (held : Option Rect) (notes : List (Nat × Rect)) (s : State) : (peerReply n ordinal held notes s).log = s.log := 
  (mapChanged_log _).trans ((foldl_view (·.log) (fun t a => by simp) _).trans (by simp))

@[simp] theorem peerReply_identity (n : Nat) (ordinal : Nat) (held : Option Rect) (notes : List (Nat × Rect)) (s : State) : (peerReply n ordinal held notes s).identity = s.identity := 
  (mapChanged_identity _).trans ((foldl_view (·.identity) (fun t a => by simp) _).trans (by simp))

@[simp] theorem peerReply_rosters (n : Nat) (ordinal : Nat) (held : Option Rect) (notes : List (Nat × Rect)) (s : State) : (peerReply n ordinal held notes s).rosters = s.rosters := 
  (mapChanged_rosters _).trans ((foldl_view (·.rosters) (fun t a => by simp) _).trans (by simp))

@[simp] theorem peerReply_driveState (n : Nat) (ordinal : Nat) (held : Option Rect) (notes : List (Nat × Rect)) (s : State) : (peerReply n ordinal held notes s).driveState = s.driveState := 
  (mapChanged_driveState _).trans ((foldl_view (·.driveState) (fun t a => by simp) _).trans (by simp))

@[simp] theorem peerReply_faultState (n : Nat) (ordinal : Nat) (held : Option Rect) (notes : List (Nat × Rect)) (s : State) : (peerReply n ordinal held notes s).faultState = s.faultState := 
  (mapChanged_faultState _).trans ((foldl_view (·.faultState) (fun t a => by simp) _).trans (by simp))

@[simp] theorem peerReply_fenceState (n : Nat) (ordinal : Nat) (held : Option Rect) (notes : List (Nat × Rect)) (s : State) : (peerReply n ordinal held notes s).fenceState = s.fenceState := 
  (mapChanged_fenceState _).trans ((foldl_view (·.fenceState) (fun t a => by simp) _).trans (by simp))

@[simp] theorem noteOwners_lif (side : Side) (notes : List (Nat × Rect)) (s : State) : (noteOwners side notes s).lif = s.lif := by
  dsimp only [noteOwners]; (repeat' split) <;>
    first | rfl | simp | (refine (foldl_view (·.lif) (fun t a => ?_) _).trans ?_ <;> (repeat' split) <;> first | rfl | simp) | (simp; refine (foldl_view (·.lif) (fun t a => ?_) _).trans ?_ <;> (repeat' split) <;> first | rfl | simp)

@[simp] theorem noteOwners_jtb (side : Side) (notes : List (Nat × Rect)) (s : State) : (noteOwners side notes s).jtb = s.jtb := by
  dsimp only [noteOwners]; (repeat' split) <;>
    first | rfl | simp | (refine (foldl_view (·.jtb) (fun t a => ?_) _).trans ?_ <;> (repeat' split) <;> first | rfl | simp) | (simp; refine (foldl_view (·.jtb) (fun t a => ?_) _).trans ?_ <;> (repeat' split) <;> first | rfl | simp)

@[simp] theorem noteOwners_rvu (side : Side) (notes : List (Nat × Rect)) (s : State) : (noteOwners side notes s).rvu = s.rvu := by
  dsimp only [noteOwners]; (repeat' split) <;>
    first | rfl | simp | (refine (foldl_view (·.rvu) (fun t a => ?_) _).trans ?_ <;> (repeat' split) <;> first | rfl | simp) | (simp; refine (foldl_view (·.rvu) (fun t a => ?_) _).trans ?_ <;> (repeat' split) <;> first | rfl | simp)

@[simp] theorem noteOwners_scu (side : Side) (notes : List (Nat × Rect)) (s : State) : (noteOwners side notes s).scu = s.scu := by
  dsimp only [noteOwners]; (repeat' split) <;>
    first | rfl | simp | (refine (foldl_view (·.scu) (fun t a => ?_) _).trans ?_ <;> (repeat' split) <;> first | rfl | simp) | (simp; refine (foldl_view (·.scu) (fun t a => ?_) _).trans ?_ <;> (repeat' split) <;> first | rfl | simp)

@[simp] theorem noteOwners_msq (side : Side) (notes : List (Nat × Rect)) (s : State) : (noteOwners side notes s).msq = s.msq := by
  dsimp only [noteOwners]; (repeat' split) <;>
    first | rfl | simp | (refine (foldl_view (·.msq) (fun t a => ?_) _).trans ?_ <;> (repeat' split) <;> first | rfl | simp) | (simp; refine (foldl_view (·.msq) (fun t a => ?_) _).trans ?_ <;> (repeat' split) <;> first | rfl | simp)

@[simp] theorem noteOwners_meu (side : Side) (notes : List (Nat × Rect)) (s : State) : (noteOwners side notes s).meu = s.meu := by
  dsimp only [noteOwners]; (repeat' split) <;>
    first | rfl | simp | (refine (foldl_view (·.meu) (fun t a => ?_) _).trans ?_ <;> (repeat' split) <;> first | rfl | simp) | (simp; refine (foldl_view (·.meu) (fun t a => ?_) _).trans ?_ <;> (repeat' split) <;> first | rfl | simp)

@[simp] theorem noteOwners_flu (side : Side) (notes : List (Nat × Rect)) (s : State) : (noteOwners side notes s).flu = s.flu := by
  dsimp only [noteOwners]; (repeat' split) <;>
    first | rfl | simp | (refine (foldl_view (·.flu) (fun t a => ?_) _).trans ?_ <;> (repeat' split) <;> first | rfl | simp) | (simp; refine (foldl_view (·.flu) (fun t a => ?_) _).trans ?_ <;> (repeat' split) <;> first | rfl | simp)

@[simp] theorem noteOwners_outer (side : Side) (notes : List (Nat × Rect)) (s : State) : (noteOwners side notes s).outer = s.outer := by
  dsimp only [noteOwners]; (repeat' split) <;>
    first | rfl | simp | (refine (foldl_view (·.outer) (fun t a => ?_) _).trans ?_ <;> (repeat' split) <;> first | rfl | simp) | (simp; refine (foldl_view (·.outer) (fun t a => ?_) _).trans ?_ <;> (repeat' split) <;> first | rfl | simp)

@[simp] theorem noteOwners_log (side : Side) (notes : List (Nat × Rect)) (s : State) : (noteOwners side notes s).log = s.log := by
  dsimp only [noteOwners]; (repeat' split) <;>
    first | rfl | simp | (refine (foldl_view (·.log) (fun t a => ?_) _).trans ?_ <;> (repeat' split) <;> first | rfl | simp) | (simp; refine (foldl_view (·.log) (fun t a => ?_) _).trans ?_ <;> (repeat' split) <;> first | rfl | simp)

@[simp] theorem noteOwners_identity (side : Side) (notes : List (Nat × Rect)) (s : State) : (noteOwners side notes s).identity = s.identity := by
  dsimp only [noteOwners]; (repeat' split) <;>
    first | rfl | simp | (refine (foldl_view (·.identity) (fun t a => ?_) _).trans ?_ <;> (repeat' split) <;> first | rfl | simp) | (simp; refine (foldl_view (·.identity) (fun t a => ?_) _).trans ?_ <;> (repeat' split) <;> first | rfl | simp)

@[simp] theorem noteOwners_space (side : Side) (notes : List (Nat × Rect)) (s : State) : (noteOwners side notes s).space = s.space := by
  dsimp only [noteOwners]; (repeat' split) <;>
    first | rfl | simp | (refine (foldl_view (·.space) (fun t a => ?_) _).trans ?_ <;> (repeat' split) <;> first | rfl | simp) | (simp; refine (foldl_view (·.space) (fun t a => ?_) _).trans ?_ <;> (repeat' split) <;> first | rfl | simp)

@[simp] theorem noteOwners_claimState (side : Side) (notes : List (Nat × Rect)) (s : State) : (noteOwners side notes s).claimState = s.claimState := by
  dsimp only [noteOwners]; (repeat' split) <;>
    first | rfl | simp | (refine (foldl_view (·.claimState) (fun t a => ?_) _).trans ?_ <;> (repeat' split) <;> first | rfl | simp) | (simp; refine (foldl_view (·.claimState) (fun t a => ?_) _).trans ?_ <;> (repeat' split) <;> first | rfl | simp)

@[simp] theorem noteOwners_driveState (side : Side) (notes : List (Nat × Rect)) (s : State) : (noteOwners side notes s).driveState = s.driveState := by
  dsimp only [noteOwners]; (repeat' split) <;>
    first | rfl | simp | (refine (foldl_view (·.driveState) (fun t a => ?_) _).trans ?_ <;> (repeat' split) <;> first | rfl | simp) | (simp; refine (foldl_view (·.driveState) (fun t a => ?_) _).trans ?_ <;> (repeat' split) <;> first | rfl | simp)

@[simp] theorem noteOwners_faultState (side : Side) (notes : List (Nat × Rect)) (s : State) : (noteOwners side notes s).faultState = s.faultState := by
  dsimp only [noteOwners]; (repeat' split) <;>
    first | rfl | simp | (refine (foldl_view (·.faultState) (fun t a => ?_) _).trans ?_ <;> (repeat' split) <;> first | rfl | simp) | (simp; refine (foldl_view (·.faultState) (fun t a => ?_) _).trans ?_ <;> (repeat' split) <;> first | rfl | simp)

@[simp] theorem noteOwners_fenceState (side : Side) (notes : List (Nat × Rect)) (s : State) : (noteOwners side notes s).fenceState = s.fenceState := by
  dsimp only [noteOwners]; (repeat' split) <;>
    first | rfl | simp | (refine (foldl_view (·.fenceState) (fun t a => ?_) _).trans ?_ <;> (repeat' split) <;> first | rfl | simp) | (simp; refine (foldl_view (·.fenceState) (fun t a => ?_) _).trans ?_ <;> (repeat' split) <;> first | rfl | simp)

@[simp] theorem freezeSlot_jtb (n : Nat) (s : State) : (freezeSlot n s).jtb = s.jtb := by
  dsimp only [freezeSlot]
  (repeat' split) <;> first | rfl | simp

@[simp] theorem freezeSlot_meu (n : Nat) (s : State) : (freezeSlot n s).meu = s.meu := by
  dsimp only [freezeSlot]
  (repeat' split) <;> first | rfl | simp

@[simp] theorem freezeSlot_flu (n : Nat) (s : State) : (freezeSlot n s).flu = s.flu := by
  dsimp only [freezeSlot]
  (repeat' split) <;> first | rfl | simp

@[simp] theorem freezeSlot_outer (n : Nat) (s : State) : (freezeSlot n s).outer = s.outer := by
  dsimp only [freezeSlot]
  (repeat' split) <;> first | rfl | simp

@[simp] theorem freezeSlot_log (n : Nat) (s : State) : (freezeSlot n s).log = s.log := by
  dsimp only [freezeSlot]
  (repeat' split) <;> first | rfl | simp

@[simp] theorem freezeSlot_identity (n : Nat) (s : State) : (freezeSlot n s).identity = s.identity := by
  dsimp only [freezeSlot]
  (repeat' split) <;> first | rfl | simp

@[simp] theorem freezeSlot_rosters (n : Nat) (s : State) : (freezeSlot n s).rosters = s.rosters := by
  dsimp only [freezeSlot]
  (repeat' split) <;> first | rfl | simp

@[simp] theorem freezeSlot_driveState (n : Nat) (s : State) : (freezeSlot n s).driveState = s.driveState := by
  dsimp only [freezeSlot]
  (repeat' split) <;> first | rfl | simp

@[simp] theorem freezeSlot_faultState (n : Nat) (s : State) : (freezeSlot n s).faultState = s.faultState := by
  dsimp only [freezeSlot]
  (repeat' split) <;> first | rfl | simp

@[simp] theorem freezeSlot_fenceState (n : Nat) (s : State) : (freezeSlot n s).fenceState = s.fenceState := by
  dsimp only [freezeSlot]
  (repeat' split) <;> first | rfl | simp

@[simp] theorem stationOut_jtb (n : Nat) (s : State) : (stationOut n s).jtb = s.jtb := by
  dsimp only [stationOut, unlessLift]
  (repeat' split) <;> first | rfl | simp

@[simp] theorem stationOut_outer (n : Nat) (s : State) : (stationOut n s).outer = s.outer := by
  dsimp only [stationOut, unlessLift]
  (repeat' split) <;> first | rfl | simp

@[simp] theorem stationOut_log (n : Nat) (s : State) : (stationOut n s).log = s.log := by
  dsimp only [stationOut, unlessLift]
  (repeat' split) <;> first | rfl | simp

@[simp] theorem stationOut_identity (n : Nat) (s : State) : (stationOut n s).identity = s.identity := by
  dsimp only [stationOut, unlessLift]
  (repeat' split) <;> first | rfl | simp

@[simp] theorem stationOut_rosters (n : Nat) (s : State) : (stationOut n s).rosters = s.rosters := by
  dsimp only [stationOut, unlessLift]
  (repeat' split) <;> first | rfl | simp

@[simp] theorem storeFence_jtb (n : Nat) (mode : FenceReport) (s : State) : (storeFence n mode s).jtb = s.jtb := by
  dsimp only [storeFence]
  (repeat' split) <;> first | rfl | simp

@[simp] theorem storeFence_outer (n : Nat) (mode : FenceReport) (s : State) : (storeFence n mode s).outer = s.outer := by
  dsimp only [storeFence]
  (repeat' split) <;> first | rfl | simp

@[simp] theorem storeFence_log (n : Nat) (mode : FenceReport) (s : State) : (storeFence n mode s).log = s.log := by
  dsimp only [storeFence]
  (repeat' split) <;> first | rfl | simp

@[simp] theorem storeFence_identity (n : Nat) (mode : FenceReport) (s : State) : (storeFence n mode s).identity = s.identity := by
  dsimp only [storeFence]
  (repeat' split) <;> first | rfl | simp

@[simp] theorem beaconOrdinal_lif (n : Nat) (ordinal : Nat) (s : State) : (beaconOrdinal n ordinal s).lif = s.lif := by
  dsimp only [beaconOrdinal]
  (repeat' split) <;> first | rfl | simp

@[simp] theorem beaconOrdinal_stc (n : Nat) (ordinal : Nat) (s : State) : (beaconOrdinal n ordinal s).stc = s.stc := by
  dsimp only [beaconOrdinal]
  (repeat' split) <;> first | rfl | simp

@[simp] theorem beaconOrdinal_jtb (n : Nat) (ordinal : Nat) (s : State) : (beaconOrdinal n ordinal s).jtb = s.jtb := by
  dsimp only [beaconOrdinal]
  (repeat' split) <;> first | rfl | simp

@[simp] theorem beaconOrdinal_rvu (n : Nat) (ordinal : Nat) (s : State) : (beaconOrdinal n ordinal s).rvu = s.rvu := by
  dsimp only [beaconOrdinal]
  (repeat' split) <;> first | rfl | simp

@[simp] theorem beaconOrdinal_msq (n : Nat) (ordinal : Nat) (s : State) : (beaconOrdinal n ordinal s).msq = s.msq := by
  dsimp only [beaconOrdinal]
  (repeat' split) <;> first | rfl | simp

@[simp] theorem beaconOrdinal_meu (n : Nat) (ordinal : Nat) (s : State) : (beaconOrdinal n ordinal s).meu = s.meu := by
  dsimp only [beaconOrdinal]
  (repeat' split) <;> first | rfl | simp

@[simp] theorem beaconOrdinal_flu (n : Nat) (ordinal : Nat) (s : State) : (beaconOrdinal n ordinal s).flu = s.flu := by
  dsimp only [beaconOrdinal]
  (repeat' split) <;> first | rfl | simp

@[simp] theorem beaconOrdinal_outer (n : Nat) (ordinal : Nat) (s : State) : (beaconOrdinal n ordinal s).outer = s.outer := by
  dsimp only [beaconOrdinal]
  (repeat' split) <;> first | rfl | simp

@[simp] theorem beaconOrdinal_log (n : Nat) (ordinal : Nat) (s : State) : (beaconOrdinal n ordinal s).log = s.log := by
  dsimp only [beaconOrdinal]
  (repeat' split) <;> first | rfl | simp

@[simp] theorem beaconOrdinal_identity (n : Nat) (ordinal : Nat) (s : State) : (beaconOrdinal n ordinal s).identity = s.identity := by
  dsimp only [beaconOrdinal]
  (repeat' split) <;> first | rfl | simp

@[simp] theorem beaconOrdinal_rosters (n : Nat) (ordinal : Nat) (s : State) : (beaconOrdinal n ordinal s).rosters = s.rosters := by
  dsimp only [beaconOrdinal]
  (repeat' split) <;> first | rfl | simp

@[simp] theorem beaconOrdinal_driveState (n : Nat) (ordinal : Nat) (s : State) : (beaconOrdinal n ordinal s).driveState = s.driveState := by
  dsimp only [beaconOrdinal]
  (repeat' split) <;> first | rfl | simp

@[simp] theorem beaconOrdinal_faultState (n : Nat) (ordinal : Nat) (s : State) : (beaconOrdinal n ordinal s).faultState = s.faultState := by
  dsimp only [beaconOrdinal]
  (repeat' split) <;> first | rfl | simp

@[simp] theorem beaconOrdinal_fenceState (n : Nat) (ordinal : Nat) (s : State) : (beaconOrdinal n ordinal s).fenceState = s.fenceState := by
  dsimp only [beaconOrdinal]
  (repeat' split) <;> first | rfl | simp

@[simp] theorem placed_jtb (x : Nat) (y : Nat) (z : Nat) (s : State) : (placed x y z s).jtb = s.jtb := by
  dsimp only [placed]
  (repeat' split) <;> first | rfl | simp

@[simp] theorem placed_outer (x : Nat) (y : Nat) (z : Nat) (s : State) : (placed x y z s).outer = s.outer := by
  dsimp only [placed]
  (repeat' split) <;> first | rfl | simp

@[simp] theorem placed_log (x : Nat) (y : Nat) (z : Nat) (s : State) : (placed x y z s).log = s.log := by
  dsimp only [placed]
  (repeat' split) <;> first | rfl | simp

@[simp] theorem placed_identity (x : Nat) (y : Nat) (z : Nat) (s : State) : (placed x y z s).identity = s.identity := by
  dsimp only [placed]
  (repeat' split) <;> first | rfl | simp

@[simp] theorem placed_rosters (x : Nat) (y : Nat) (z : Nat) (s : State) : (placed x y z s).rosters = s.rosters := by
  dsimp only [placed]
  (repeat' split) <;> first | rfl | simp

@[simp] theorem placed_space (x : Nat) (y : Nat) (z : Nat) (s : State) : (placed x y z s).space = s.space := by
  dsimp only [placed]
  (repeat' split) <;> first | rfl | simp

@[simp] theorem granted_jtb (c : Claim) (s : State) : (granted c s).jtb = s.jtb := by
  dsimp only [granted]
  (repeat' split) <;> first | rfl | simp

@[simp] theorem granted_outer (c : Claim) (s : State) : (granted c s).outer = s.outer := by
  dsimp only [granted]
  (repeat' split) <;> first | rfl | simp

@[simp] theorem granted_log (c : Claim) (s : State) : (granted c s).log = s.log := by
  dsimp only [granted]
  (repeat' split) <;> first | rfl | simp

@[simp] theorem granted_identity (c : Claim) (s : State) : (granted c s).identity = s.identity := by
  dsimp only [granted]
  (repeat' split) <;> first | rfl | simp

@[simp] theorem granted_rosters (c : Claim) (s : State) : (granted c s).rosters = s.rosters := by
  dsimp only [granted]
  (repeat' split) <;> first | rfl | simp

@[simp] theorem granted_space (c : Claim) (s : State) : (granted c s).space = s.space := by
  dsimp only [granted]
  (repeat' split) <;> first | rfl | simp

@[simp] theorem windowExpires_jtb (s : State) : (windowExpires s).jtb = s.jtb := by
  dsimp only [windowExpires]
  (repeat' split) <;> first | rfl | simp

@[simp] theorem windowExpires_outer (s : State) : (windowExpires s).outer = s.outer := by
  dsimp only [windowExpires]
  (repeat' split) <;> first | rfl | simp

@[simp] theorem windowExpires_log (s : State) : (windowExpires s).log = s.log := by
  dsimp only [windowExpires]
  (repeat' split) <;> first | rfl | simp

@[simp] theorem windowExpires_identity (s : State) : (windowExpires s).identity = s.identity := by
  dsimp only [windowExpires]
  (repeat' split) <;> first | rfl | simp

@[simp] theorem windowExpires_rosters (s : State) : (windowExpires s).rosters = s.rosters := by
  dsimp only [windowExpires]
  (repeat' split) <;> first | rfl | simp

@[simp] theorem windowExpires_space (s : State) : (windowExpires s).space = s.space := by
  dsimp only [windowExpires]
  (repeat' split) <;> first | rfl | simp

@[simp] theorem placeParked_jtb (s : State) : (placeParked s).jtb = s.jtb := by
  dsimp only [placeParked]
  (repeat' split) <;> first | rfl | simp

@[simp] theorem placeParked_meu (s : State) : (placeParked s).meu = s.meu := by
  dsimp only [placeParked]
  (repeat' split) <;> first | rfl | simp

@[simp] theorem placeParked_flu (s : State) : (placeParked s).flu = s.flu := by
  dsimp only [placeParked]
  (repeat' split) <;> first | rfl | simp

@[simp] theorem placeParked_outer (s : State) : (placeParked s).outer = s.outer := by
  dsimp only [placeParked]
  (repeat' split) <;> first | rfl | simp

@[simp] theorem placeParked_log (s : State) : (placeParked s).log = s.log := by
  dsimp only [placeParked]
  (repeat' split) <;> first | rfl | simp

@[simp] theorem placeParked_identity (s : State) : (placeParked s).identity = s.identity := by
  dsimp only [placeParked]
  (repeat' split) <;> first | rfl | simp

@[simp] theorem placeParked_rosters (s : State) : (placeParked s).rosters = s.rosters := by
  dsimp only [placeParked]
  (repeat' split) <;> first | rfl | simp

@[simp] theorem placeParked_space (s : State) : (placeParked s).space = s.space := by
  dsimp only [placeParked]
  (repeat' split) <;> first | rfl | simp

@[simp] theorem placeParked_driveState (s : State) : (placeParked s).driveState = s.driveState := by
  dsimp only [placeParked]
  (repeat' split) <;> first | rfl | simp

@[simp] theorem placeParked_faultState (s : State) : (placeParked s).faultState = s.faultState := by
  dsimp only [placeParked]
  (repeat' split) <;> first | rfl | simp

@[simp] theorem placeParked_fenceState (s : State) : (placeParked s).fenceState = s.fenceState := by
  dsimp only [placeParked]
  (repeat' split) <;> first | rfl | simp

@[simp] theorem censusJoin_jtb (s : State) : (censusJoin s).jtb = s.jtb := by
  dsimp only [censusJoin]
  (repeat' split) <;> first | rfl | simp

@[simp] theorem censusJoin_meu (s : State) : (censusJoin s).meu = s.meu := by
  dsimp only [censusJoin]
  (repeat' split) <;> first | rfl | simp

@[simp] theorem censusJoin_outer (s : State) : (censusJoin s).outer = s.outer := by
  dsimp only [censusJoin]
  (repeat' split) <;> first | rfl | simp

@[simp] theorem censusJoin_log (s : State) : (censusJoin s).log = s.log := by
  dsimp only [censusJoin]
  (repeat' split) <;> first | rfl | simp

@[simp] theorem censusJoin_identity (s : State) : (censusJoin s).identity = s.identity := by
  dsimp only [censusJoin]
  (repeat' split) <;> first | rfl | simp

@[simp] theorem censusJoin_rosters (s : State) : (censusJoin s).rosters = s.rosters := by
  dsimp only [censusJoin]
  (repeat' split) <;> first | rfl | simp

@[simp] theorem censusJoin_space (s : State) : (censusJoin s).space = s.space := by
  dsimp only [censusJoin]
  (repeat' split) <;> first | rfl | simp

@[simp] theorem censusJoin_driveState (s : State) : (censusJoin s).driveState = s.driveState := by
  dsimp only [censusJoin]
  (repeat' split) <;> first | rfl | simp

@[simp] theorem censusJoin_fenceState (s : State) : (censusJoin s).fenceState = s.fenceState := by
  dsimp only [censusJoin]
  (repeat' split) <;> first | rfl | simp

end Sys2Proof.Machine
end

