-- ==== Sys2Proof/Laws/Start.lean ====
section
/-! SUPPORT. What the operations of Machine/Start.lean leave alone: one lemma for each block and each view of the state that an
operation does not touch. -/

namespace Sys2Proof.Machine

open Sys2Proof

variable {s : State}

@[simp] theorem State.powerOn_outer (s : State) : (State.powerOn s).outer = s.outer := by
  dsimp only [State.powerOn]
  (repeat' split) <;> first | rfl | simp

@[simp] theorem powerOnStart_outer (st : BitVec 4) (side : Side) (prom : Option (List Byte)) (s : State) : (powerOnStart st side prom s).outer = s.outer := by
  dsimp only [powerOnStart]
  (repeat' split) <;> first | rfl | simp

@[simp] theorem restoreMemories_stc (s : State) : (restoreMemories s).stc = s.stc := by
  dsimp only [restoreMemories]
  (repeat' split) <;> first | rfl | simp

@[simp] theorem restoreMemories_msq (s : State) : (restoreMemories s).msq = s.msq := by
  dsimp only [restoreMemories]
  (repeat' split) <;> first | rfl | simp

@[simp] theorem restoreMemories_flu (s : State) : (restoreMemories s).flu = s.flu := by
  dsimp only [restoreMemories]
  (repeat' split) <;> first | rfl | simp

@[simp] theorem restoreMemories_outer (s : State) : (restoreMemories s).outer = s.outer := by
  dsimp only [restoreMemories]
  (repeat' split) <;> first | rfl | simp

@[simp] theorem restoreMemories_log (s : State) : (restoreMemories s).log = s.log := by
  dsimp only [restoreMemories]
  (repeat' split) <;> first | rfl | simp

@[simp] theorem restoreMemories_identity (s : State) : (restoreMemories s).identity = s.identity := by
  dsimp only [restoreMemories]
  (repeat' split) <;> first | rfl | simp

@[simp] theorem restoreMemories_rosters (s : State) : (restoreMemories s).rosters = s.rosters := by
  dsimp only [restoreMemories]
  (repeat' split) <;> first | rfl | simp

@[simp] theorem restoreMemories_claimState (s : State) : (restoreMemories s).claimState = s.claimState := by
  dsimp only [restoreMemories]
  (repeat' split) <;> first | rfl | simp

@[simp] theorem restoreMemories_driveState (s : State) : (restoreMemories s).driveState = s.driveState := by
  dsimp only [restoreMemories]
  (repeat' split) <;> first | rfl | simp

@[simp] theorem restoreMemories_faultState (s : State) : (restoreMemories s).faultState = s.faultState := by
  dsimp only [restoreMemories]
  (repeat' split) <;> first | rfl | simp

@[simp] theorem restoreMemories_fenceState (s : State) : (restoreMemories s).fenceState = s.fenceState := by
  dsimp only [restoreMemories]
  (repeat' split) <;> first | rfl | simp

@[simp] theorem endSelfTest_outer (memoryOk : Bool) (volts : List Int) (amps : List Int) (s : State) : (endSelfTest memoryOk volts amps s).outer = s.outer := by
  dsimp only [endSelfTest]
  (repeat' split) <;> first | rfl | simp

@[simp] theorem endSelfTest_log (memoryOk : Bool) (volts : List Int) (amps : List Int) (s : State) : (endSelfTest memoryOk volts amps s).log = s.log := by
  dsimp only [endSelfTest]
  (repeat' split) <;> first | rfl | simp

@[simp] theorem endSelfTest_identity (memoryOk : Bool) (volts : List Int) (amps : List Int) (s : State) : (endSelfTest memoryOk volts amps s).identity = s.identity := by
  dsimp only [endSelfTest]
  (repeat' split) <;> first | rfl | simp

@[simp] theorem endSelfTest_rosters (memoryOk : Bool) (volts : List Int) (amps : List Int) (s : State) : (endSelfTest memoryOk volts amps s).rosters = s.rosters := by
  dsimp only [endSelfTest]
  (repeat' split) <;> first | rfl | simp

@[simp] theorem endSelfTest_driveState (memoryOk : Bool) (volts : List Int) (amps : List Int) (s : State) : (endSelfTest memoryOk volts amps s).driveState = s.driveState := by
  dsimp only [endSelfTest]
  (repeat' split) <;> first | rfl | simp

@[simp] theorem endSelfTest_fenceState (memoryOk : Bool) (volts : List Int) (amps : List Int) (s : State) : (endSelfTest memoryOk volts amps s).fenceState = s.fenceState := by
  dsimp only [endSelfTest]
  (repeat' split) <;> first | rfl | simp

@[simp] theorem askCensus_stc (s : State) : (askCensus s).stc = s.stc := by
  dsimp only [askCensus]
  (repeat' split) <;> first | rfl | simp

@[simp] theorem askCensus_jtb (s : State) : (askCensus s).jtb = s.jtb := by
  dsimp only [askCensus]
  (repeat' split) <;> first | rfl | simp

@[simp] theorem askCensus_rvu (s : State) : (askCensus s).rvu = s.rvu := by
  dsimp only [askCensus]
  (repeat' split) <;> first | rfl | simp

@[simp] theorem askCensus_msq (s : State) : (askCensus s).msq = s.msq := by
  dsimp only [askCensus]
  (repeat' split) <;> first | rfl | simp

@[simp] theorem askCensus_meu (s : State) : (askCensus s).meu = s.meu := by
  dsimp only [askCensus]
  (repeat' split) <;> first | rfl | simp

@[simp] theorem askCensus_flu (s : State) : (askCensus s).flu = s.flu := by
  dsimp only [askCensus]
  (repeat' split) <;> first | rfl | simp

@[simp] theorem askCensus_outer (s : State) : (askCensus s).outer = s.outer := by
  dsimp only [askCensus]
  (repeat' split) <;> first | rfl | simp

@[simp] theorem askCensus_log (s : State) : (askCensus s).log = s.log := by
  dsimp only [askCensus]
  (repeat' split) <;> first | rfl | simp

@[simp] theorem askCensus_identity (s : State) : (askCensus s).identity = s.identity := by
  dsimp only [askCensus]
  (repeat' split) <;> first | rfl | simp

@[simp] theorem askCensus_rosters (s : State) : (askCensus s).rosters = s.rosters := by
  dsimp only [askCensus]
  (repeat' split) <;> first | rfl | simp

@[simp] theorem askCensus_space (s : State) : (askCensus s).space = s.space := by
  dsimp only [askCensus]
  (repeat' split) <;> first | rfl | simp

@[simp] theorem askCensus_claimState (s : State) : (askCensus s).claimState = s.claimState := by
  dsimp only [askCensus]
  (repeat' split) <;> first | rfl | simp

@[simp] theorem askCensus_driveState (s : State) : (askCensus s).driveState = s.driveState := by
  dsimp only [askCensus]
  (repeat' split) <;> first | rfl | simp

@[simp] theorem askCensus_faultState (s : State) : (askCensus s).faultState = s.faultState := by
  dsimp only [askCensus]
  (repeat' split) <;> first | rfl | simp

@[simp] theorem askCensus_fenceState (s : State) : (askCensus s).fenceState = s.fenceState := by
  dsimp only [askCensus]
  (repeat' split) <;> first | rfl | simp

@[simp] theorem endListen_jtb (s : State) : (endListen s).jtb = s.jtb := by
  dsimp only [endListen]
  (repeat' split) <;> first | rfl | simp

@[simp] theorem endListen_rvu (s : State) : (endListen s).rvu = s.rvu := by
  dsimp only [endListen]
  (repeat' split) <;> first | rfl | simp

@[simp] theorem endListen_meu (s : State) : (endListen s).meu = s.meu := by
  dsimp only [endListen]
  (repeat' split) <;> first | rfl | simp

@[simp] theorem endListen_outer (s : State) : (endListen s).outer = s.outer := by
  dsimp only [endListen]
  (repeat' split) <;> first | rfl | simp

@[simp] theorem endListen_log (s : State) : (endListen s).log = s.log := by
  dsimp only [endListen]
  (repeat' split) <;> first | rfl | simp

@[simp] theorem endListen_identity (s : State) : (endListen s).identity = s.identity := by
  dsimp only [endListen]
  (repeat' split) <;> first | rfl | simp

@[simp] theorem endListen_rosters (s : State) : (endListen s).rosters = s.rosters := by
  dsimp only [endListen]
  (repeat' split) <;> first | rfl | simp

@[simp] theorem endListen_space (s : State) : (endListen s).space = s.space := by
  dsimp only [endListen]
  (repeat' split) <;> first | rfl | simp

@[simp] theorem endListen_driveState (s : State) : (endListen s).driveState = s.driveState := by
  dsimp only [endListen]
  (repeat' split) <;> first | rfl | simp

@[simp] theorem endListen_fenceState (s : State) : (endListen s).fenceState = s.fenceState := by
  dsimp only [endListen]
  (repeat' split) <;> first | rfl | simp

end Sys2Proof.Machine
end

