-- ==== Sys2Proof/Laws/Line.lean ====
section
/-! SUPPORT. What the operations of Machine/Line.lean leave alone: one lemma for each block and each view of the state that an
operation does not touch. -/

namespace Sys2Proof.Machine

open Sys2Proof

variable {s : State}

@[simp] theorem frameLost_lif (s : State) : (frameLost s).lif = s.lif := by
  dsimp only [frameLost, unlessLift]
  (repeat' split) <;> first | rfl | simp

@[simp] theorem frameLost_stc (s : State) : (frameLost s).stc = s.stc := by
  dsimp only [frameLost, unlessLift]
  (repeat' split) <;> first | rfl | simp

@[simp] theorem frameLost_jtb (s : State) : (frameLost s).jtb = s.jtb := by
  dsimp only [frameLost, unlessLift]
  (repeat' split) <;> first | rfl | simp

@[simp] theorem frameLost_rvu (s : State) : (frameLost s).rvu = s.rvu := by
  dsimp only [frameLost, unlessLift]
  (repeat' split) <;> first | rfl | simp

@[simp] theorem frameLost_msq (s : State) : (frameLost s).msq = s.msq := by
  dsimp only [frameLost, unlessLift]
  (repeat' split) <;> first | rfl | simp

@[simp] theorem frameLost_meu (s : State) : (frameLost s).meu = s.meu := by
  dsimp only [frameLost, unlessLift]
  (repeat' split) <;> first | rfl | simp

@[simp] theorem frameLost_flu (s : State) : (frameLost s).flu = s.flu := by
  dsimp only [frameLost, unlessLift]
  (repeat' split) <;> first | rfl | simp

@[simp] theorem frameLost_outer (s : State) : (frameLost s).outer = s.outer := by
  dsimp only [frameLost, unlessLift]
  (repeat' split) <;> first | rfl | simp

@[simp] theorem frameLost_log (s : State) : (frameLost s).log = s.log := by
  dsimp only [frameLost, unlessLift]
  (repeat' split) <;> first | rfl | simp

@[simp] theorem frameLost_identity (s : State) : (frameLost s).identity = s.identity := by
  dsimp only [frameLost, unlessLift]
  (repeat' split) <;> first | rfl | simp

@[simp] theorem frameLost_rosters (s : State) : (frameLost s).rosters = s.rosters := by
  dsimp only [frameLost, unlessLift]
  (repeat' split) <;> first | rfl | simp

@[simp] theorem frameLost_space (s : State) : (frameLost s).space = s.space := by
  dsimp only [frameLost, unlessLift]
  (repeat' split) <;> first | rfl | simp

@[simp] theorem frameLost_driveState (s : State) : (frameLost s).driveState = s.driveState := by
  dsimp only [frameLost, unlessLift]
  (repeat' split) <;> first | rfl | simp

@[simp] theorem frameLost_faultState (s : State) : (frameLost s).faultState = s.faultState := by
  dsimp only [frameLost, unlessLift]
  (repeat' split) <;> first | rfl | simp

@[simp] theorem frameLost_fenceState (s : State) : (frameLost s).fenceState = s.fenceState := by
  dsimp only [frameLost, unlessLift]
  (repeat' split) <;> first | rfl | simp

@[simp] theorem frameBroke_stc (s : State) : (frameBroke s).stc = s.stc := by
  dsimp only [frameBroke, State.onCounters]
  (repeat' split) <;> first | rfl | simp

@[simp] theorem frameBroke_jtb (s : State) : (frameBroke s).jtb = s.jtb := by
  dsimp only [frameBroke, State.onCounters]
  (repeat' split) <;> first | rfl | simp

@[simp] theorem frameBroke_rvu (s : State) : (frameBroke s).rvu = s.rvu := by
  dsimp only [frameBroke, State.onCounters]
  (repeat' split) <;> first | rfl | simp

@[simp] theorem frameBroke_msq (s : State) : (frameBroke s).msq = s.msq := by
  dsimp only [frameBroke, State.onCounters]
  (repeat' split) <;> first | rfl | simp

@[simp] theorem frameBroke_meu (s : State) : (frameBroke s).meu = s.meu := by
  dsimp only [frameBroke, State.onCounters]
  (repeat' split) <;> first | rfl | simp

@[simp] theorem frameBroke_flu (s : State) : (frameBroke s).flu = s.flu := by
  dsimp only [frameBroke, State.onCounters]
  (repeat' split) <;> first | rfl | simp

@[simp] theorem frameBroke_outer (s : State) : (frameBroke s).outer = s.outer := by
  dsimp only [frameBroke, State.onCounters]
  (repeat' split) <;> first | rfl | simp

@[simp] theorem frameBroke_identity (s : State) : (frameBroke s).identity = s.identity := by
  dsimp only [frameBroke, State.onCounters]
  (repeat' split) <;> first | rfl | simp

@[simp] theorem frameBroke_rosters (s : State) : (frameBroke s).rosters = s.rosters := by
  dsimp only [frameBroke, State.onCounters]
  (repeat' split) <;> first | rfl | simp

@[simp] theorem frameBroke_space (s : State) : (frameBroke s).space = s.space := by
  dsimp only [frameBroke, State.onCounters]
  (repeat' split) <;> first | rfl | simp

@[simp] theorem frameBroke_driveState (s : State) : (frameBroke s).driveState = s.driveState := by
  dsimp only [frameBroke, State.onCounters]
  (repeat' split) <;> first | rfl | simp

@[simp] theorem frameBroke_faultState (s : State) : (frameBroke s).faultState = s.faultState := by
  dsimp only [frameBroke, State.onCounters]
  (repeat' split) <;> first | rfl | simp

@[simp] theorem frameBroke_fenceState (s : State) : (frameBroke s).fenceState = s.fenceState := by
  dsimp only [frameBroke, State.onCounters]
  (repeat' split) <;> first | rfl | simp

@[simp] theorem takeQuiet_stc (s : State) : (takeQuiet s).stc = s.stc := by
  dsimp only [takeQuiet]
  (repeat' split) <;> first | rfl | simp

@[simp] theorem takeQuiet_jtb (s : State) : (takeQuiet s).jtb = s.jtb := by
  dsimp only [takeQuiet]
  (repeat' split) <;> first | rfl | simp

@[simp] theorem takeQuiet_rvu (s : State) : (takeQuiet s).rvu = s.rvu := by
  dsimp only [takeQuiet]
  (repeat' split) <;> first | rfl | simp

@[simp] theorem takeQuiet_msq (s : State) : (takeQuiet s).msq = s.msq := by
  dsimp only [takeQuiet]
  (repeat' split) <;> first | rfl | simp

@[simp] theorem takeQuiet_meu (s : State) : (takeQuiet s).meu = s.meu := by
  dsimp only [takeQuiet]
  (repeat' split) <;> first | rfl | simp

@[simp] theorem takeQuiet_flu (s : State) : (takeQuiet s).flu = s.flu := by
  dsimp only [takeQuiet]
  (repeat' split) <;> first | rfl | simp

@[simp] theorem takeQuiet_outer (s : State) : (takeQuiet s).outer = s.outer := by
  dsimp only [takeQuiet]
  (repeat' split) <;> first | rfl | simp

@[simp] theorem takeQuiet_identity (s : State) : (takeQuiet s).identity = s.identity := by
  dsimp only [takeQuiet]
  (repeat' split) <;> first | rfl | simp

@[simp] theorem takeQuiet_rosters (s : State) : (takeQuiet s).rosters = s.rosters := by
  dsimp only [takeQuiet]
  (repeat' split) <;> first | rfl | simp

@[simp] theorem takeQuiet_space (s : State) : (takeQuiet s).space = s.space := by
  dsimp only [takeQuiet]
  (repeat' split) <;> first | rfl | simp

@[simp] theorem takeQuiet_driveState (s : State) : (takeQuiet s).driveState = s.driveState := by
  dsimp only [takeQuiet]
  (repeat' split) <;> first | rfl | simp

@[simp] theorem takeQuiet_faultState (s : State) : (takeQuiet s).faultState = s.faultState := by
  dsimp only [takeQuiet]
  (repeat' split) <;> first | rfl | simp

@[simp] theorem takeQuiet_fenceState (s : State) : (takeQuiet s).fenceState = s.fenceState := by
  dsimp only [takeQuiet]
  (repeat' split) <;> first | rfl | simp

@[simp] theorem takeNoise_stc (s : State) : (takeNoise s).stc = s.stc := by
  dsimp only [takeNoise]
  (repeat' split) <;> first | rfl | simp

@[simp] theorem takeNoise_jtb (s : State) : (takeNoise s).jtb = s.jtb := by
  dsimp only [takeNoise]
  (repeat' split) <;> first | rfl | simp

@[simp] theorem takeNoise_rvu (s : State) : (takeNoise s).rvu = s.rvu := by
  dsimp only [takeNoise]
  (repeat' split) <;> first | rfl | simp

@[simp] theorem takeNoise_scu (s : State) : (takeNoise s).scu = s.scu := by
  dsimp only [takeNoise]
  (repeat' split) <;> first | rfl | simp

@[simp] theorem takeNoise_msq (s : State) : (takeNoise s).msq = s.msq := by
  dsimp only [takeNoise]
  (repeat' split) <;> first | rfl | simp

@[simp] theorem takeNoise_meu (s : State) : (takeNoise s).meu = s.meu := by
  dsimp only [takeNoise]
  (repeat' split) <;> first | rfl | simp

@[simp] theorem takeNoise_flu (s : State) : (takeNoise s).flu = s.flu := by
  dsimp only [takeNoise]
  (repeat' split) <;> first | rfl | simp

@[simp] theorem takeNoise_outer (s : State) : (takeNoise s).outer = s.outer := by
  dsimp only [takeNoise]
  (repeat' split) <;> first | rfl | simp

@[simp] theorem takeNoise_log (s : State) : (takeNoise s).log = s.log := by
  dsimp only [takeNoise]
  (repeat' split) <;> first | rfl | simp

@[simp] theorem takeNoise_identity (s : State) : (takeNoise s).identity = s.identity := by
  dsimp only [takeNoise]
  (repeat' split) <;> first | rfl | simp

@[simp] theorem takeNoise_rosters (s : State) : (takeNoise s).rosters = s.rosters := by
  dsimp only [takeNoise]
  (repeat' split) <;> first | rfl | simp

@[simp] theorem takeNoise_space (s : State) : (takeNoise s).space = s.space := by
  dsimp only [takeNoise]
  (repeat' split) <;> first | rfl | simp

@[simp] theorem takeNoise_claimState (s : State) : (takeNoise s).claimState = s.claimState := by
  dsimp only [takeNoise]
  (repeat' split) <;> first | rfl | simp

@[simp] theorem takeNoise_driveState (s : State) : (takeNoise s).driveState = s.driveState := by
  dsimp only [takeNoise]
  (repeat' split) <;> first | rfl | simp

@[simp] theorem takeNoise_faultState (s : State) : (takeNoise s).faultState = s.faultState := by
  dsimp only [takeNoise]
  (repeat' split) <;> first | rfl | simp

@[simp] theorem takeNoise_fenceState (s : State) : (takeNoise s).fenceState = s.fenceState := by
  dsimp only [takeNoise]
  (repeat' split) <;> first | rfl | simp

@[simp] theorem takeFollow_stc (s : State) : (takeFollow s).stc = s.stc := by
  dsimp only [takeFollow]
  (repeat' split) <;> first | rfl | simp

@[simp] theorem takeFollow_jtb (s : State) : (takeFollow s).jtb = s.jtb := by
  dsimp only [takeFollow]
  (repeat' split) <;> first | rfl | simp

@[simp] theorem takeFollow_rvu (s : State) : (takeFollow s).rvu = s.rvu := by
  dsimp only [takeFollow]
  (repeat' split) <;> first | rfl | simp

@[simp] theorem takeFollow_scu (s : State) : (takeFollow s).scu = s.scu := by
  dsimp only [takeFollow]
  (repeat' split) <;> first | rfl | simp

@[simp] theorem takeFollow_msq (s : State) : (takeFollow s).msq = s.msq := by
  dsimp only [takeFollow]
  (repeat' split) <;> first | rfl | simp

@[simp] theorem takeFollow_meu (s : State) : (takeFollow s).meu = s.meu := by
  dsimp only [takeFollow]
  (repeat' split) <;> first | rfl | simp

@[simp] theorem takeFollow_flu (s : State) : (takeFollow s).flu = s.flu := by
  dsimp only [takeFollow]
  (repeat' split) <;> first | rfl | simp

@[simp] theorem takeFollow_outer (s : State) : (takeFollow s).outer = s.outer := by
  dsimp only [takeFollow]
  (repeat' split) <;> first | rfl | simp

@[simp] theorem takeFollow_log (s : State) : (takeFollow s).log = s.log := by
  dsimp only [takeFollow]
  (repeat' split) <;> first | rfl | simp

@[simp] theorem takeFollow_identity (s : State) : (takeFollow s).identity = s.identity := by
  dsimp only [takeFollow]
  (repeat' split) <;> first | rfl | simp

@[simp] theorem takeFollow_rosters (s : State) : (takeFollow s).rosters = s.rosters := by
  dsimp only [takeFollow]
  (repeat' split) <;> first | rfl | simp

@[simp] theorem takeFollow_space (s : State) : (takeFollow s).space = s.space := by
  dsimp only [takeFollow]
  (repeat' split) <;> first | rfl | simp

@[simp] theorem takeFollow_claimState (s : State) : (takeFollow s).claimState = s.claimState := by
  dsimp only [takeFollow]
  (repeat' split) <;> first | rfl | simp

@[simp] theorem takeFollow_driveState (s : State) : (takeFollow s).driveState = s.driveState := by
  dsimp only [takeFollow]
  (repeat' split) <;> first | rfl | simp

@[simp] theorem takeFollow_faultState (s : State) : (takeFollow s).faultState = s.faultState := by
  dsimp only [takeFollow]
  (repeat' split) <;> first | rfl | simp

@[simp] theorem takeFollow_fenceState (s : State) : (takeFollow s).fenceState = s.fenceState := by
  dsimp only [takeFollow]
  (repeat' split) <;> first | rfl | simp

@[simp] theorem takeSync_stc (s : State) : (takeSync s).stc = s.stc := by
  dsimp only [takeSync]
  (repeat' split) <;> first | rfl | simp

@[simp] theorem takeSync_jtb (s : State) : (takeSync s).jtb = s.jtb := by
  dsimp only [takeSync]
  (repeat' split) <;> first | rfl | simp

@[simp] theorem takeSync_rvu (s : State) : (takeSync s).rvu = s.rvu := by
  dsimp only [takeSync]
  (repeat' split) <;> first | rfl | simp

@[simp] theorem takeSync_scu (s : State) : (takeSync s).scu = s.scu := by
  dsimp only [takeSync]
  (repeat' split) <;> first | rfl | simp

@[simp] theorem takeSync_msq (s : State) : (takeSync s).msq = s.msq := by
  dsimp only [takeSync]
  (repeat' split) <;> first | rfl | simp

@[simp] theorem takeSync_meu (s : State) : (takeSync s).meu = s.meu := by
  dsimp only [takeSync]
  (repeat' split) <;> first | rfl | simp

@[simp] theorem takeSync_flu (s : State) : (takeSync s).flu = s.flu := by
  dsimp only [takeSync]
  (repeat' split) <;> first | rfl | simp

@[simp] theorem takeSync_outer (s : State) : (takeSync s).outer = s.outer := by
  dsimp only [takeSync]
  (repeat' split) <;> first | rfl | simp

@[simp] theorem takeSync_log (s : State) : (takeSync s).log = s.log := by
  dsimp only [takeSync]
  (repeat' split) <;> first | rfl | simp

@[simp] theorem takeSync_identity (s : State) : (takeSync s).identity = s.identity := by
  dsimp only [takeSync]
  (repeat' split) <;> first | rfl | simp

@[simp] theorem takeSync_rosters (s : State) : (takeSync s).rosters = s.rosters := by
  dsimp only [takeSync]
  (repeat' split) <;> first | rfl | simp

@[simp] theorem takeSync_space (s : State) : (takeSync s).space = s.space := by
  dsimp only [takeSync]
  (repeat' split) <;> first | rfl | simp

@[simp] theorem takeSync_claimState (s : State) : (takeSync s).claimState = s.claimState := by
  dsimp only [takeSync]
  (repeat' split) <;> first | rfl | simp

@[simp] theorem takeSync_driveState (s : State) : (takeSync s).driveState = s.driveState := by
  dsimp only [takeSync]
  (repeat' split) <;> first | rfl | simp

@[simp] theorem takeSync_faultState (s : State) : (takeSync s).faultState = s.faultState := by
  dsimp only [takeSync]
  (repeat' split) <;> first | rfl | simp

@[simp] theorem takeSync_fenceState (s : State) : (takeSync s).fenceState = s.fenceState := by
  dsimp only [takeSync]
  (repeat' split) <;> first | rfl | simp

@[simp] theorem takeGapEnd_stc (s : State) : (takeGapEnd s).stc = s.stc := by
  dsimp only [takeGapEnd]
  (repeat' split) <;> first | rfl | simp

@[simp] theorem takeGapEnd_jtb (s : State) : (takeGapEnd s).jtb = s.jtb := by
  dsimp only [takeGapEnd]
  (repeat' split) <;> first | rfl | simp

@[simp] theorem takeGapEnd_rvu (s : State) : (takeGapEnd s).rvu = s.rvu := by
  dsimp only [takeGapEnd]
  (repeat' split) <;> first | rfl | simp

@[simp] theorem takeGapEnd_scu (s : State) : (takeGapEnd s).scu = s.scu := by
  dsimp only [takeGapEnd]
  (repeat' split) <;> first | rfl | simp

@[simp] theorem takeGapEnd_msq (s : State) : (takeGapEnd s).msq = s.msq := by
  dsimp only [takeGapEnd]
  (repeat' split) <;> first | rfl | simp

@[simp] theorem takeGapEnd_meu (s : State) : (takeGapEnd s).meu = s.meu := by
  dsimp only [takeGapEnd]
  (repeat' split) <;> first | rfl | simp

@[simp] theorem takeGapEnd_flu (s : State) : (takeGapEnd s).flu = s.flu := by
  dsimp only [takeGapEnd]
  (repeat' split) <;> first | rfl | simp

@[simp] theorem takeGapEnd_pins (s : State) : (takeGapEnd s).pins = s.pins := by
  dsimp only [takeGapEnd]
  (repeat' split) <;> first | rfl | simp

@[simp] theorem takeGapEnd_pending (s : State) : (takeGapEnd s).pending = s.pending := by
  dsimp only [takeGapEnd]
  (repeat' split) <;> first | rfl | simp

@[simp] theorem takeGapEnd_log (s : State) : (takeGapEnd s).log = s.log := by
  dsimp only [takeGapEnd]
  (repeat' split) <;> first | rfl | simp

@[simp] theorem takeGapEnd_identity (s : State) : (takeGapEnd s).identity = s.identity := by
  dsimp only [takeGapEnd]
  (repeat' split) <;> first | rfl | simp

@[simp] theorem takeGapEnd_rosters (s : State) : (takeGapEnd s).rosters = s.rosters := by
  dsimp only [takeGapEnd]
  (repeat' split) <;> first | rfl | simp

@[simp] theorem takeGapEnd_space (s : State) : (takeGapEnd s).space = s.space := by
  dsimp only [takeGapEnd]
  (repeat' split) <;> first | rfl | simp

@[simp] theorem takeGapEnd_claimState (s : State) : (takeGapEnd s).claimState = s.claimState := by
  dsimp only [takeGapEnd]
  (repeat' split) <;> first | rfl | simp

@[simp] theorem takeGapEnd_driveState (s : State) : (takeGapEnd s).driveState = s.driveState := by
  dsimp only [takeGapEnd]
  (repeat' split) <;> first | rfl | simp

@[simp] theorem takeGapEnd_faultState (s : State) : (takeGapEnd s).faultState = s.faultState := by
  dsimp only [takeGapEnd]
  (repeat' split) <;> first | rfl | simp

@[simp] theorem takeGapEnd_fenceState (s : State) : (takeGapEnd s).fenceState = s.fenceState := by
  dsimp only [takeGapEnd]
  (repeat' split) <;> first | rfl | simp

@[simp] theorem takeBurstGapEnd_stc (s : State) : (takeBurstGapEnd s).stc = s.stc := by
  dsimp only [takeBurstGapEnd]
  (repeat' split) <;> first | rfl | simp

@[simp] theorem takeBurstGapEnd_jtb (s : State) : (takeBurstGapEnd s).jtb = s.jtb := by
  dsimp only [takeBurstGapEnd]
  (repeat' split) <;> first | rfl | simp

@[simp] theorem takeBurstGapEnd_rvu (s : State) : (takeBurstGapEnd s).rvu = s.rvu := by
  dsimp only [takeBurstGapEnd]
  (repeat' split) <;> first | rfl | simp

@[simp] theorem takeBurstGapEnd_scu (s : State) : (takeBurstGapEnd s).scu = s.scu := by
  dsimp only [takeBurstGapEnd]
  (repeat' split) <;> first | rfl | simp

@[simp] theorem takeBurstGapEnd_msq (s : State) : (takeBurstGapEnd s).msq = s.msq := by
  dsimp only [takeBurstGapEnd]
  (repeat' split) <;> first | rfl | simp

@[simp] theorem takeBurstGapEnd_meu (s : State) : (takeBurstGapEnd s).meu = s.meu := by
  dsimp only [takeBurstGapEnd]
  (repeat' split) <;> first | rfl | simp

@[simp] theorem takeBurstGapEnd_flu (s : State) : (takeBurstGapEnd s).flu = s.flu := by
  dsimp only [takeBurstGapEnd]
  (repeat' split) <;> first | rfl | simp

@[simp] theorem takeBurstGapEnd_pins (s : State) : (takeBurstGapEnd s).pins = s.pins := by
  dsimp only [takeBurstGapEnd]
  (repeat' split) <;> first | rfl | simp

@[simp] theorem takeBurstGapEnd_pending (s : State) : (takeBurstGapEnd s).pending = s.pending := by
  dsimp only [takeBurstGapEnd]
  (repeat' split) <;> first | rfl | simp

@[simp] theorem takeBurstGapEnd_log (s : State) : (takeBurstGapEnd s).log = s.log := by
  dsimp only [takeBurstGapEnd]
  (repeat' split) <;> first | rfl | simp

@[simp] theorem takeBurstGapEnd_identity (s : State) : (takeBurstGapEnd s).identity = s.identity := by
  dsimp only [takeBurstGapEnd]
  (repeat' split) <;> first | rfl | simp

@[simp] theorem takeBurstGapEnd_rosters (s : State) : (takeBurstGapEnd s).rosters = s.rosters := by
  dsimp only [takeBurstGapEnd]
  (repeat' split) <;> first | rfl | simp

@[simp] theorem takeBurstGapEnd_space (s : State) : (takeBurstGapEnd s).space = s.space := by
  dsimp only [takeBurstGapEnd]
  (repeat' split) <;> first | rfl | simp

@[simp] theorem takeBurstGapEnd_claimState (s : State) : (takeBurstGapEnd s).claimState = s.claimState := by
  dsimp only [takeBurstGapEnd]
  (repeat' split) <;> first | rfl | simp

@[simp] theorem takeBurstGapEnd_driveState (s : State) : (takeBurstGapEnd s).driveState = s.driveState := by
  dsimp only [takeBurstGapEnd]
  (repeat' split) <;> first | rfl | simp

@[simp] theorem takeBurstGapEnd_faultState (s : State) : (takeBurstGapEnd s).faultState = s.faultState := by
  dsimp only [takeBurstGapEnd]
  (repeat' split) <;> first | rfl | simp

@[simp] theorem takeBurstGapEnd_fenceState (s : State) : (takeBurstGapEnd s).fenceState = s.fenceState := by
  dsimp only [takeBurstGapEnd]
  (repeat' split) <;> first | rfl | simp

@[simp] theorem loseDetached_lif (f : TxFrame) (s : State) : (loseDetached f s).lif = s.lif := by
  dsimp only [loseDetached]
  (repeat' split) <;> first | rfl | simp

@[simp] theorem loseDetached_stc (f : TxFrame) (s : State) : (loseDetached f s).stc = s.stc := by
  dsimp only [loseDetached]
  (repeat' split) <;> first | rfl | simp

@[simp] theorem loseDetached_jtb (f : TxFrame) (s : State) : (loseDetached f s).jtb = s.jtb := by
  dsimp only [loseDetached]
  (repeat' split) <;> first | rfl | simp

@[simp] theorem loseDetached_msq (f : TxFrame) (s : State) : (loseDetached f s).msq = s.msq := by
  dsimp only [loseDetached]
  (repeat' split) <;> first | rfl | simp

@[simp] theorem loseDetached_meu (f : TxFrame) (s : State) : (loseDetached f s).meu = s.meu := by
  dsimp only [loseDetached]
  (repeat' split) <;> first | rfl | simp

@[simp] theorem loseDetached_flu (f : TxFrame) (s : State) : (loseDetached f s).flu = s.flu := by
  dsimp only [loseDetached]
  (repeat' split) <;> first | rfl | simp

@[simp] theorem loseDetached_outer (f : TxFrame) (s : State) : (loseDetached f s).outer = s.outer := by
  dsimp only [loseDetached]
  (repeat' split) <;> first | rfl | simp

@[simp] theorem loseDetached_log (f : TxFrame) (s : State) : (loseDetached f s).log = s.log := by
  dsimp only [loseDetached]
  (repeat' split) <;> first | rfl | simp

@[simp] theorem loseDetached_identity (f : TxFrame) (s : State) : (loseDetached f s).identity = s.identity := by
  dsimp only [loseDetached]
  (repeat' split) <;> first | rfl | simp

@[simp] theorem loseDetached_rosters (f : TxFrame) (s : State) : (loseDetached f s).rosters = s.rosters := by
  dsimp only [loseDetached]
  (repeat' split) <;> first | rfl | simp

@[simp] theorem loseDetached_space (f : TxFrame) (s : State) : (loseDetached f s).space = s.space := by
  dsimp only [loseDetached]
  (repeat' split) <;> first | rfl | simp

@[simp] theorem loseDetached_claimState (f : TxFrame) (s : State) : (loseDetached f s).claimState = s.claimState := by
  dsimp only [loseDetached]
  (repeat' split) <;> first | rfl | simp

@[simp] theorem loseDetached_driveState (f : TxFrame) (s : State) : (loseDetached f s).driveState = s.driveState := by
  dsimp only [loseDetached]
  (repeat' split) <;> first | rfl | simp

@[simp] theorem loseDetached_faultState (f : TxFrame) (s : State) : (loseDetached f s).faultState = s.faultState := by
  dsimp only [loseDetached]
  (repeat' split) <;> first | rfl | simp

@[simp] theorem loseDetached_fenceState (f : TxFrame) (s : State) : (loseDetached f s).fenceState = s.fenceState := by
  dsimp only [loseDetached]
  (repeat' split) <;> first | rfl | simp

@[simp] theorem loseClaim_jtb (f : TxFrame) (replacement : Option TxFrame) (s : State) : (loseClaim f replacement s).jtb = s.jtb := by
  dsimp only [loseClaim]
  (repeat' split) <;> first | rfl | simp

@[simp] theorem loseClaim_meu (f : TxFrame) (replacement : Option TxFrame) (s : State) : (loseClaim f replacement s).meu = s.meu := by
  dsimp only [loseClaim]
  (repeat' split) <;> first | rfl | simp

@[simp] theorem loseClaim_flu (f : TxFrame) (replacement : Option TxFrame) (s : State) : (loseClaim f replacement s).flu = s.flu := by
  dsimp only [loseClaim]
  (repeat' split) <;> first | rfl | simp

@[simp] theorem loseClaim_outer (f : TxFrame) (replacement : Option TxFrame) (s : State) : (loseClaim f replacement s).outer = s.outer := by
  dsimp only [loseClaim]
  (repeat' split) <;> first | rfl | simp

@[simp] theorem loseClaim_log (f : TxFrame) (replacement : Option TxFrame) (s : State) : (loseClaim f replacement s).log = s.log := by
  dsimp only [loseClaim]
  (repeat' split) <;> first | rfl | simp

@[simp] theorem loseClaim_identity (f : TxFrame) (replacement : Option TxFrame) (s : State) : (loseClaim f replacement s).identity = s.identity := by
  dsimp only [loseClaim]
  (repeat' split) <;> first | rfl | simp

@[simp] theorem loseClaim_rosters (f : TxFrame) (replacement : Option TxFrame) (s : State) : (loseClaim f replacement s).rosters = s.rosters := by
  dsimp only [loseClaim]
  (repeat' split) <;> first | rfl | simp

@[simp] theorem loseClaim_space (f : TxFrame) (replacement : Option TxFrame) (s : State) : (loseClaim f replacement s).space = s.space := by
  dsimp only [loseClaim]
  (repeat' split) <;> first | rfl | simp

@[simp] theorem loseClaim_claimState (f : TxFrame) (replacement : Option TxFrame) (s : State) : (loseClaim f replacement s).claimState = s.claimState := by
  dsimp only [loseClaim]
  (repeat' split) <;> first | rfl | simp

@[simp] theorem loseClaim_driveState (f : TxFrame) (replacement : Option TxFrame) (s : State) : (loseClaim f replacement s).driveState = s.driveState := by
  dsimp only [loseClaim]
  (repeat' split) <;> first | rfl | simp

@[simp] theorem loseClaim_faultState (f : TxFrame) (replacement : Option TxFrame) (s : State) : (loseClaim f replacement s).faultState = s.faultState := by
  dsimp only [loseClaim]
  (repeat' split) <;> first | rfl | simp

@[simp] theorem loseClaim_fenceState (f : TxFrame) (replacement : Option TxFrame) (s : State) : (loseClaim f replacement s).fenceState = s.fenceState := by
  dsimp only [loseClaim]
  (repeat' split) <;> first | rfl | simp

@[simp] theorem settleCollided_jtb (t : Tx) (s : State) : (settleCollided t s).jtb = s.jtb := by
  dsimp only [settleCollided]
  (repeat' split) <;> first | rfl | simp

@[simp] theorem settleCollided_meu (t : Tx) (s : State) : (settleCollided t s).meu = s.meu := by
  dsimp only [settleCollided]
  (repeat' split) <;> first | rfl | simp

@[simp] theorem settleCollided_flu (t : Tx) (s : State) : (settleCollided t s).flu = s.flu := by
  dsimp only [settleCollided]
  (repeat' split) <;> first | rfl | simp

@[simp] theorem settleCollided_outer (t : Tx) (s : State) : (settleCollided t s).outer = s.outer := by
  dsimp only [settleCollided]
  (repeat' split) <;> first | rfl | simp

@[simp] theorem settleCollided_log (t : Tx) (s : State) : (settleCollided t s).log = s.log := by
  dsimp only [settleCollided]
  (repeat' split) <;> first | rfl | simp

@[simp] theorem settleCollided_identity (t : Tx) (s : State) : (settleCollided t s).identity = s.identity := by
  dsimp only [settleCollided]
  (repeat' split) <;> first | rfl | simp

@[simp] theorem settleCollided_rosters (t : Tx) (s : State) : (settleCollided t s).rosters = s.rosters := by
  dsimp only [settleCollided]
  (repeat' split) <;> first | rfl | simp

@[simp] theorem settleCollided_space (t : Tx) (s : State) : (settleCollided t s).space = s.space := by
  dsimp only [settleCollided]
  (repeat' split) <;> first | rfl | simp

@[simp] theorem settleCollided_claimState (t : Tx) (s : State) : (settleCollided t s).claimState = s.claimState := by
  dsimp only [settleCollided]
  (repeat' split) <;> first | rfl | simp

@[simp] theorem settleCollided_driveState (t : Tx) (s : State) : (settleCollided t s).driveState = s.driveState := by
  dsimp only [settleCollided]
  (repeat' split) <;> first | rfl | simp

@[simp] theorem settleCollided_faultState (t : Tx) (s : State) : (settleCollided t s).faultState = s.faultState := by
  dsimp only [settleCollided]
  (repeat' split) <;> first | rfl | simp

@[simp] theorem settleCollided_fenceState (t : Tx) (s : State) : (settleCollided t s).fenceState = s.fenceState := by
  dsimp only [settleCollided]
  (repeat' split) <;> first | rfl | simp

@[simp] theorem takeCollision_outer (s : State) : (takeCollision s).outer = s.outer := by
  dsimp only [takeCollision]
  (repeat' split) <;> first | rfl | simp

@[simp] theorem takeCollision_identity (s : State) : (takeCollision s).identity = s.identity := by
  dsimp only [takeCollision]
  (repeat' split) <;> first | rfl | simp

@[simp] theorem takeSent_jtb (s : State) : (takeSent s).jtb = s.jtb := by
  dsimp only [takeSent]
  (repeat' split) <;> first | rfl | simp

@[simp] theorem takeSent_rvu (s : State) : (takeSent s).rvu = s.rvu := by
  dsimp only [takeSent]
  (repeat' split) <;> first | rfl | simp

@[simp] theorem takeSent_scu (s : State) : (takeSent s).scu = s.scu := by
  dsimp only [takeSent]
  (repeat' split) <;> first | rfl | simp

@[simp] theorem takeSent_msq (s : State) : (takeSent s).msq = s.msq := by
  dsimp only [takeSent]
  (repeat' split) <;> first | rfl | simp

@[simp] theorem takeSent_meu (s : State) : (takeSent s).meu = s.meu := by
  dsimp only [takeSent]
  (repeat' split) <;> first | rfl | simp

@[simp] theorem takeSent_flu (s : State) : (takeSent s).flu = s.flu := by
  dsimp only [takeSent]
  (repeat' split) <;> first | rfl | simp

@[simp] theorem takeSent_outer (s : State) : (takeSent s).outer = s.outer := by
  dsimp only [takeSent]
  (repeat' split) <;> first | rfl | simp

@[simp] theorem takeSent_log (s : State) : (takeSent s).log = s.log := by
  dsimp only [takeSent]
  (repeat' split) <;> first | rfl | simp

@[simp] theorem takeSent_identity (s : State) : (takeSent s).identity = s.identity := by
  dsimp only [takeSent]
  (repeat' split) <;> first | rfl | simp

@[simp] theorem takeSent_rosters (s : State) : (takeSent s).rosters = s.rosters := by
  dsimp only [takeSent]
  (repeat' split) <;> first | rfl | simp

@[simp] theorem takeSent_space (s : State) : (takeSent s).space = s.space := by
  dsimp only [takeSent]
  (repeat' split) <;> first | rfl | simp

@[simp] theorem takeSent_claimState (s : State) : (takeSent s).claimState = s.claimState := by
  dsimp only [takeSent]
  (repeat' split) <;> first | rfl | simp

@[simp] theorem takeSent_driveState (s : State) : (takeSent s).driveState = s.driveState := by
  dsimp only [takeSent]
  (repeat' split) <;> first | rfl | simp

@[simp] theorem takeSent_faultState (s : State) : (takeSent s).faultState = s.faultState := by
  dsimp only [takeSent]
  (repeat' split) <;> first | rfl | simp

@[simp] theorem takeSent_fenceState (s : State) : (takeSent s).fenceState = s.fenceState := by
  dsimp only [takeSent]
  (repeat' split) <;> first | rfl | simp

@[simp] theorem holdIfMeasuring_outer (job : Nat) (s : State) : (holdIfMeasuring job s).outer = s.outer := by
  dsimp only [holdIfMeasuring]
  (repeat' split) <;> first | rfl | simp

@[simp] theorem holdIfMeasuring_identity (job : Nat) (s : State) : (holdIfMeasuring job s).identity = s.identity := by
  dsimp only [holdIfMeasuring]
  (repeat' split) <;> first | rfl | simp

@[simp] theorem takeHeld_outer (s : State) : (takeHeld s).outer = s.outer := by
  dsimp only [takeHeld]
  (repeat' split) <;> first | rfl | simp

@[simp] theorem takeHeld_identity (s : State) : (takeHeld s).identity = s.identity := by
  dsimp only [takeHeld]
  (repeat' split) <;> first | rfl | simp

@[simp] theorem takeStall_outer (queue : StallQueue) (s : State) : (takeStall queue s).outer = s.outer := by
  dsimp only [takeStall]
  (repeat' split) <;> first | rfl | simp

@[simp] theorem takeStall_log (queue : StallQueue) (s : State) : (takeStall queue s).log = s.log := by
  dsimp only [takeStall]
  (repeat' split) <;> first | rfl | simp

@[simp] theorem takeStall_identity (queue : StallQueue) (s : State) : (takeStall queue s).identity = s.identity := by
  dsimp only [takeStall]
  (repeat' split) <;> first | rfl | simp

@[simp] theorem takeSpoiled_stc (words : List CodedWord) (rest : SpoiledRest) (s : State) : (takeSpoiled words rest s).stc = s.stc := by
  dsimp only [takeSpoiled, State.onCounters]
  (repeat' split) <;> first | rfl | simp

@[simp] theorem takeSpoiled_jtb (words : List CodedWord) (rest : SpoiledRest) (s : State) : (takeSpoiled words rest s).jtb = s.jtb := by
  dsimp only [takeSpoiled, State.onCounters]
  (repeat' split) <;> first | rfl | simp

@[simp] theorem takeSpoiled_rvu (words : List CodedWord) (rest : SpoiledRest) (s : State) : (takeSpoiled words rest s).rvu = s.rvu := by
  dsimp only [takeSpoiled, State.onCounters]
  (repeat' split) <;> first | rfl | simp

@[simp] theorem takeSpoiled_msq (words : List CodedWord) (rest : SpoiledRest) (s : State) : (takeSpoiled words rest s).msq = s.msq := by
  dsimp only [takeSpoiled, State.onCounters]
  (repeat' split) <;> first | rfl | simp

@[simp] theorem takeSpoiled_meu (words : List CodedWord) (rest : SpoiledRest) (s : State) : (takeSpoiled words rest s).meu = s.meu := by
  dsimp only [takeSpoiled, State.onCounters]
  (repeat' split) <;> first | rfl | simp

@[simp] theorem takeSpoiled_flu (words : List CodedWord) (rest : SpoiledRest) (s : State) : (takeSpoiled words rest s).flu = s.flu := by
  dsimp only [takeSpoiled, State.onCounters]
  (repeat' split) <;> first | rfl | simp

@[simp] theorem takeSpoiled_outer (words : List CodedWord) (rest : SpoiledRest) (s : State) : (takeSpoiled words rest s).outer = s.outer := by
  dsimp only [takeSpoiled, State.onCounters]
  (repeat' split) <;> first | rfl | simp

@[simp] theorem takeSpoiled_identity (words : List CodedWord) (rest : SpoiledRest) (s : State) : (takeSpoiled words rest s).identity = s.identity := by
  dsimp only [takeSpoiled, State.onCounters]
  (repeat' split) <;> first | rfl | simp

@[simp] theorem takeSpoiled_rosters (words : List CodedWord) (rest : SpoiledRest) (s : State) : (takeSpoiled words rest s).rosters = s.rosters := by
  dsimp only [takeSpoiled, State.onCounters]
  (repeat' split) <;> first | rfl | simp

@[simp] theorem takeSpoiled_space (words : List CodedWord) (rest : SpoiledRest) (s : State) : (takeSpoiled words rest s).space = s.space := by
  dsimp only [takeSpoiled, State.onCounters]
  (repeat' split) <;> first | rfl | simp

@[simp] theorem takeSpoiled_driveState (words : List CodedWord) (rest : SpoiledRest) (s : State) : (takeSpoiled words rest s).driveState = s.driveState := by
  dsimp only [takeSpoiled, State.onCounters]
  (repeat' split) <;> first | rfl | simp

@[simp] theorem takeSpoiled_faultState (words : List CodedWord) (rest : SpoiledRest) (s : State) : (takeSpoiled words rest s).faultState = s.faultState := by
  dsimp only [takeSpoiled, State.onCounters]
  (repeat' split) <;> first | rfl | simp

@[simp] theorem takeSpoiled_fenceState (words : List CodedWord) (rest : SpoiledRest) (s : State) : (takeSpoiled words rest s).fenceState = s.fenceState := by
  dsimp only [takeSpoiled, State.onCounters]
  (repeat' split) <;> first | rfl | simp

@[simp] theorem takeBroken_stc (words : List CodedWord) (s : State) : (takeBroken words s).stc = s.stc := by
  dsimp only [takeBroken]
  (repeat' split) <;> first | rfl | simp

@[simp] theorem takeBroken_jtb (words : List CodedWord) (s : State) : (takeBroken words s).jtb = s.jtb := by
  dsimp only [takeBroken]
  (repeat' split) <;> first | rfl | simp

@[simp] theorem takeBroken_rvu (words : List CodedWord) (s : State) : (takeBroken words s).rvu = s.rvu := by
  dsimp only [takeBroken]
  (repeat' split) <;> first | rfl | simp

@[simp] theorem takeBroken_msq (words : List CodedWord) (s : State) : (takeBroken words s).msq = s.msq := by
  dsimp only [takeBroken]
  (repeat' split) <;> first | rfl | simp

@[simp] theorem takeBroken_meu (words : List CodedWord) (s : State) : (takeBroken words s).meu = s.meu := by
  dsimp only [takeBroken]
  (repeat' split) <;> first | rfl | simp

@[simp] theorem takeBroken_flu (words : List CodedWord) (s : State) : (takeBroken words s).flu = s.flu := by
  dsimp only [takeBroken]
  (repeat' split) <;> first | rfl | simp

@[simp] theorem takeBroken_outer (words : List CodedWord) (s : State) : (takeBroken words s).outer = s.outer := by
  dsimp only [takeBroken]
  (repeat' split) <;> first | rfl | simp

@[simp] theorem takeBroken_identity (words : List CodedWord) (s : State) : (takeBroken words s).identity = s.identity := by
  dsimp only [takeBroken]
  (repeat' split) <;> first | rfl | simp

@[simp] theorem takeBroken_rosters (words : List CodedWord) (s : State) : (takeBroken words s).rosters = s.rosters := by
  dsimp only [takeBroken]
  (repeat' split) <;> first | rfl | simp

@[simp] theorem takeBroken_space (words : List CodedWord) (s : State) : (takeBroken words s).space = s.space := by
  dsimp only [takeBroken]
  (repeat' split) <;> first | rfl | simp

@[simp] theorem takeBroken_driveState (words : List CodedWord) (s : State) : (takeBroken words s).driveState = s.driveState := by
  dsimp only [takeBroken]
  (repeat' split) <;> first | rfl | simp

@[simp] theorem takeBroken_faultState (words : List CodedWord) (s : State) : (takeBroken words s).faultState = s.faultState := by
  dsimp only [takeBroken]
  (repeat' split) <;> first | rfl | simp

@[simp] theorem takeBroken_fenceState (words : List CodedWord) (s : State) : (takeBroken words s).fenceState = s.fenceState := by
  dsimp only [takeBroken]
  (repeat' split) <;> first | rfl | simp

@[simp] theorem takeDeafness_outer (s : State) : (takeDeafness s).outer = s.outer := by
  dsimp only [takeDeafness]
  (repeat' split) <;> first | rfl | simp

@[simp] theorem takeDeafness_log (s : State) : (takeDeafness s).log = s.log := by
  dsimp only [takeDeafness]
  (repeat' split) <;> first | rfl | simp

@[simp] theorem takeDeafness_identity (s : State) : (takeDeafness s).identity = s.identity := by
  dsimp only [takeDeafness]
  (repeat' split) <;> first | rfl | simp

end Sys2Proof.Machine
end

