-- ==== Sys2Proof/Laws/Jobs.lean ====
section
/-! SUPPORT. What the operations of Machine/Jobs.lean leave alone: one lemma for each block and each view of the state that an
operation does not touch. -/

namespace Sys2Proof.Machine

open Sys2Proof

variable {s : State}

@[simp] theorem hearOffer_outer (f : RxFrame) (s : State) : (hearOffer f s).outer = s.outer := by
  dsimp only [hearOffer]
  (repeat' split) <;> first | rfl | simp

@[simp] theorem hearOffer_identity (f : RxFrame) (s : State) : (hearOffer f s).identity = s.identity := by
  dsimp only [hearOffer]
  (repeat' split) <;> first | rfl | simp

@[simp] theorem hearTake_stc (f : RxFrame) (s : State) : (hearTake f s).stc = s.stc := by
  dsimp only [hearTake, atEntry, unlessLift]
  (repeat' split) <;> first | rfl | simp

@[simp] theorem hearTake_scu (f : RxFrame) (s : State) : (hearTake f s).scu = s.scu := by
  dsimp only [hearTake, atEntry, unlessLift]
  (repeat' split) <;> first | rfl | simp

@[simp] theorem hearTake_msq (f : RxFrame) (s : State) : (hearTake f s).msq = s.msq := by
  dsimp only [hearTake, atEntry, unlessLift]
  (repeat' split) <;> first | rfl | simp

@[simp] theorem hearTake_meu (f : RxFrame) (s : State) : (hearTake f s).meu = s.meu := by
  dsimp only [hearTake, atEntry, unlessLift]
  (repeat' split) <;> first | rfl | simp

@[simp] theorem hearTake_flu (f : RxFrame) (s : State) : (hearTake f s).flu = s.flu := by
  dsimp only [hearTake, atEntry, unlessLift]
  (repeat' split) <;> first | rfl | simp

@[simp] theorem hearTake_outer (f : RxFrame) (s : State) : (hearTake f s).outer = s.outer := by
  dsimp only [hearTake, atEntry, unlessLift]
  (repeat' split) <;> first | rfl | simp

@[simp] theorem hearTake_identity (f : RxFrame) (s : State) : (hearTake f s).identity = s.identity := by
  dsimp only [hearTake, atEntry, unlessLift]
  (repeat' split) <;> first | rfl | simp

@[simp] theorem hearTake_rosters (f : RxFrame) (s : State) : (hearTake f s).rosters = s.rosters := by
  dsimp only [hearTake, atEntry, unlessLift]
  (repeat' split) <;> first | rfl | simp

@[simp] theorem hearTake_space (f : RxFrame) (s : State) : (hearTake f s).space = s.space := by
  dsimp only [hearTake, atEntry, unlessLift]
  (repeat' split) <;> first | rfl | simp

@[simp] theorem hearTake_claimState (f : RxFrame) (s : State) : (hearTake f s).claimState = s.claimState := by
  dsimp only [hearTake, atEntry, unlessLift]
  (repeat' split) <;> first | rfl | simp

@[simp] theorem hearTake_driveState (f : RxFrame) (s : State) : (hearTake f s).driveState = s.driveState := by
  dsimp only [hearTake, atEntry, unlessLift]
  (repeat' split) <;> first | rfl | simp

@[simp] theorem hearTake_faultState (f : RxFrame) (s : State) : (hearTake f s).faultState = s.faultState := by
  dsimp only [hearTake, atEntry, unlessLift]
  (repeat' split) <;> first | rfl | simp

@[simp] theorem hearTake_fenceState (f : RxFrame) (s : State) : (hearTake f s).fenceState = s.fenceState := by
  dsimp only [hearTake, atEntry, unlessLift]
  (repeat' split) <;> first | rfl | simp

@[simp] theorem hearSet_stc (f : RxFrame) (s : State) : (hearSet f s).stc = s.stc := by
  dsimp only [hearSet]
  (repeat' split) <;> first | rfl | simp

@[simp] theorem hearSet_scu (f : RxFrame) (s : State) : (hearSet f s).scu = s.scu := by
  dsimp only [hearSet]
  (repeat' split) <;> first | rfl | simp

@[simp] theorem hearSet_msq (f : RxFrame) (s : State) : (hearSet f s).msq = s.msq := by
  dsimp only [hearSet]
  (repeat' split) <;> first | rfl | simp

@[simp] theorem hearSet_meu (f : RxFrame) (s : State) : (hearSet f s).meu = s.meu := by
  dsimp only [hearSet]
  (repeat' split) <;> first | rfl | simp

@[simp] theorem hearSet_flu (f : RxFrame) (s : State) : (hearSet f s).flu = s.flu := by
  dsimp only [hearSet]
  (repeat' split) <;> first | rfl | simp

@[simp] theorem hearSet_outer (f : RxFrame) (s : State) : (hearSet f s).outer = s.outer := by
  dsimp only [hearSet]
  (repeat' split) <;> first | rfl | simp

@[simp] theorem hearSet_identity (f : RxFrame) (s : State) : (hearSet f s).identity = s.identity := by
  dsimp only [hearSet]
  (repeat' split) <;> first | rfl | simp

@[simp] theorem hearSet_rosters (f : RxFrame) (s : State) : (hearSet f s).rosters = s.rosters := by
  dsimp only [hearSet]
  (repeat' split) <;> first | rfl | simp

@[simp] theorem hearSet_space (f : RxFrame) (s : State) : (hearSet f s).space = s.space := by
  dsimp only [hearSet]
  (repeat' split) <;> first | rfl | simp

@[simp] theorem hearSet_claimState (f : RxFrame) (s : State) : (hearSet f s).claimState = s.claimState := by
  dsimp only [hearSet]
  (repeat' split) <;> first | rfl | simp

@[simp] theorem hearSet_driveState (f : RxFrame) (s : State) : (hearSet f s).driveState = s.driveState := by
  dsimp only [hearSet]
  (repeat' split) <;> first | rfl | simp

@[simp] theorem hearSet_faultState (f : RxFrame) (s : State) : (hearSet f s).faultState = s.faultState := by
  dsimp only [hearSet]
  (repeat' split) <;> first | rfl | simp

@[simp] theorem hearSet_fenceState (f : RxFrame) (s : State) : (hearSet f s).fenceState = s.fenceState := by
  dsimp only [hearSet]
  (repeat' split) <;> first | rfl | simp

@[simp] theorem dropHeard_lif (own : Bool) (job : Nat) (reason : DropReason) (s : State) : (dropHeard own job reason s).lif = s.lif := by
  dsimp only [dropHeard]
  (repeat' split) <;> first | rfl | simp

@[simp] theorem dropHeard_stc (own : Bool) (job : Nat) (reason : DropReason) (s : State) : (dropHeard own job reason s).stc = s.stc := by
  dsimp only [dropHeard]
  (repeat' split) <;> first | rfl | simp

@[simp] theorem dropHeard_jtb (own : Bool) (job : Nat) (reason : DropReason) (s : State) : (dropHeard own job reason s).jtb = s.jtb := by
  dsimp only [dropHeard]
  (repeat' split) <;> first | rfl | simp

@[simp] theorem dropHeard_rvu (own : Bool) (job : Nat) (reason : DropReason) (s : State) : (dropHeard own job reason s).rvu = s.rvu := by
  dsimp only [dropHeard]
  (repeat' split) <;> first | rfl | simp

@[simp] theorem dropHeard_scu (own : Bool) (job : Nat) (reason : DropReason) (s : State) : (dropHeard own job reason s).scu = s.scu := by
  dsimp only [dropHeard]
  (repeat' split) <;> first | rfl | simp

@[simp] theorem dropHeard_msq (own : Bool) (job : Nat) (reason : DropReason) (s : State) : (dropHeard own job reason s).msq = s.msq := by
  dsimp only [dropHeard]
  (repeat' split) <;> first | rfl | simp

@[simp] theorem dropHeard_meu (own : Bool) (job : Nat) (reason : DropReason) (s : State) : (dropHeard own job reason s).meu = s.meu := by
  dsimp only [dropHeard]
  (repeat' split) <;> first | rfl | simp

@[simp] theorem dropHeard_outer (own : Bool) (job : Nat) (reason : DropReason) (s : State) : (dropHeard own job reason s).outer = s.outer := by
  dsimp only [dropHeard]
  (repeat' split) <;> first | rfl | simp

@[simp] theorem dropHeard_log (own : Bool) (job : Nat) (reason : DropReason) (s : State) : (dropHeard own job reason s).log = s.log := by
  dsimp only [dropHeard]
  (repeat' split) <;> first | rfl | simp

@[simp] theorem dropHeard_identity (own : Bool) (job : Nat) (reason : DropReason) (s : State) : (dropHeard own job reason s).identity = s.identity := by
  dsimp only [dropHeard]
  (repeat' split) <;> first | rfl | simp

@[simp] theorem dropHeard_rosters (own : Bool) (job : Nat) (reason : DropReason) (s : State) : (dropHeard own job reason s).rosters = s.rosters := by
  dsimp only [dropHeard]
  (repeat' split) <;> first | rfl | simp

@[simp] theorem dropHeard_space (own : Bool) (job : Nat) (reason : DropReason) (s : State) : (dropHeard own job reason s).space = s.space := by
  dsimp only [dropHeard]
  (repeat' split) <;> first | rfl | simp

@[simp] theorem dropHeard_claimState (own : Bool) (job : Nat) (reason : DropReason) (s : State) : (dropHeard own job reason s).claimState = s.claimState := by
  dsimp only [dropHeard]
  (repeat' split) <;> first | rfl | simp

@[simp] theorem dropHeard_driveState (own : Bool) (job : Nat) (reason : DropReason) (s : State) : (dropHeard own job reason s).driveState = s.driveState := by
  dsimp only [dropHeard]
  (repeat' split) <;> first | rfl | simp

@[simp] theorem dropHeard_faultState (own : Bool) (job : Nat) (reason : DropReason) (s : State) : (dropHeard own job reason s).faultState = s.faultState := by
  dsimp only [dropHeard]
  (repeat' split) <;> first | rfl | simp

@[simp] theorem dropHeard_fenceState (own : Bool) (job : Nat) (reason : DropReason) (s : State) : (dropHeard own job reason s).fenceState = s.fenceState := by
  dsimp only [dropHeard]
  (repeat' split) <;> first | rfl | simp

@[simp] theorem hearDrop_outer (f : RxFrame) (s : State) : (hearDrop f s).outer = s.outer := by
  dsimp only [hearDrop, atEntry, unlessLift]
  (repeat' split) <;> first | rfl | simp

@[simp] theorem hearDrop_identity (f : RxFrame) (s : State) : (hearDrop f s).identity = s.identity := by
  dsimp only [hearDrop, atEntry, unlessLift]
  (repeat' split) <;> first | rfl | simp

@[simp] theorem hearDrop_rosters (f : RxFrame) (s : State) : (hearDrop f s).rosters = s.rosters := by
  dsimp only [hearDrop, atEntry, unlessLift]
  (repeat' split) <;> first | rfl | simp

@[simp] theorem hearDrop_space (f : RxFrame) (s : State) : (hearDrop f s).space = s.space := by
  dsimp only [hearDrop, atEntry, unlessLift]
  (repeat' split) <;> first | rfl | simp

@[simp] theorem takeResult_outer (board : Nat) (e : Entry) (s : State) : (takeResult board e s).outer = s.outer := by
  dsimp only [takeResult]
  (repeat' split) <;> first | rfl | simp

@[simp] theorem takeResult_log (board : Nat) (e : Entry) (s : State) : (takeResult board e s).log = s.log := by
  dsimp only [takeResult]
  (repeat' split) <;> first | rfl | simp

@[simp] theorem takeResult_identity (board : Nat) (e : Entry) (s : State) : (takeResult board e s).identity = s.identity := by
  dsimp only [takeResult]
  (repeat' split) <;> first | rfl | simp

@[simp] theorem takeResult_rosters (board : Nat) (e : Entry) (s : State) : (takeResult board e s).rosters = s.rosters := by
  dsimp only [takeResult]
  (repeat' split) <;> first | rfl | simp

@[simp] theorem takeResult_space (board : Nat) (e : Entry) (s : State) : (takeResult board e s).space = s.space := by
  dsimp only [takeResult]
  (repeat' split) <;> first | rfl | simp

@[simp] theorem endTakeWindow_lif (job : Nat) (s : State) : (endTakeWindow job s).lif = s.lif := by
  dsimp only [endTakeWindow]
  (repeat' split) <;> first | rfl | simp

@[simp] theorem endTakeWindow_stc (job : Nat) (s : State) : (endTakeWindow job s).stc = s.stc := by
  dsimp only [endTakeWindow]
  (repeat' split) <;> first | rfl | simp

@[simp] theorem endTakeWindow_rvu (job : Nat) (s : State) : (endTakeWindow job s).rvu = s.rvu := by
  dsimp only [endTakeWindow]
  (repeat' split) <;> first | rfl | simp

@[simp] theorem endTakeWindow_scu (job : Nat) (s : State) : (endTakeWindow job s).scu = s.scu := by
  dsimp only [endTakeWindow]
  (repeat' split) <;> first | rfl | simp

@[simp] theorem endTakeWindow_msq (job : Nat) (s : State) : (endTakeWindow job s).msq = s.msq := by
  dsimp only [endTakeWindow]
  (repeat' split) <;> first | rfl | simp

@[simp] theorem endTakeWindow_meu (job : Nat) (s : State) : (endTakeWindow job s).meu = s.meu := by
  dsimp only [endTakeWindow]
  (repeat' split) <;> first | rfl | simp

@[simp] theorem endTakeWindow_flu (job : Nat) (s : State) : (endTakeWindow job s).flu = s.flu := by
  dsimp only [endTakeWindow]
  (repeat' split) <;> first | rfl | simp

@[simp] theorem endTakeWindow_outer (job : Nat) (s : State) : (endTakeWindow job s).outer = s.outer := by
  dsimp only [endTakeWindow]
  (repeat' split) <;> first | rfl | simp

@[simp] theorem endTakeWindow_log (job : Nat) (s : State) : (endTakeWindow job s).log = s.log := by
  dsimp only [endTakeWindow]
  (repeat' split) <;> first | rfl | simp

@[simp] theorem endTakeWindow_identity (job : Nat) (s : State) : (endTakeWindow job s).identity = s.identity := by
  dsimp only [endTakeWindow]
  (repeat' split) <;> first | rfl | simp

@[simp] theorem endTakeWindow_rosters (job : Nat) (s : State) : (endTakeWindow job s).rosters = s.rosters := by
  dsimp only [endTakeWindow]
  (repeat' split) <;> first | rfl | simp

@[simp] theorem endTakeWindow_space (job : Nat) (s : State) : (endTakeWindow job s).space = s.space := by
  dsimp only [endTakeWindow]
  (repeat' split) <;> first | rfl | simp

@[simp] theorem endTakeWindow_claimState (job : Nat) (s : State) : (endTakeWindow job s).claimState = s.claimState := by
  dsimp only [endTakeWindow]
  (repeat' split) <;> first | rfl | simp

@[simp] theorem endTakeWindow_driveState (job : Nat) (s : State) : (endTakeWindow job s).driveState = s.driveState := by
  dsimp only [endTakeWindow]
  (repeat' split) <;> first | rfl | simp

@[simp] theorem endTakeWindow_faultState (job : Nat) (s : State) : (endTakeWindow job s).faultState = s.faultState := by
  dsimp only [endTakeWindow]
  (repeat' split) <;> first | rfl | simp

@[simp] theorem endTakeWindow_fenceState (job : Nat) (s : State) : (endTakeWindow job s).fenceState = s.fenceState := by
  dsimp only [endTakeWindow]
  (repeat' split) <;> first | rfl | simp

@[simp] theorem endCatchGrace_outer (job : Nat) (s : State) : (endCatchGrace job s).outer = s.outer := by
  dsimp only [endCatchGrace]
  (repeat' split) <;> first | rfl | simp

@[simp] theorem endCatchGrace_log (job : Nat) (s : State) : (endCatchGrace job s).log = s.log := by
  dsimp only [endCatchGrace]
  (repeat' split) <;> first | rfl | simp

@[simp] theorem endCatchGrace_identity (job : Nat) (s : State) : (endCatchGrace job s).identity = s.identity := by
  dsimp only [endCatchGrace]
  (repeat' split) <;> first | rfl | simp

@[simp] theorem endCatchGrace_rosters (job : Nat) (s : State) : (endCatchGrace job s).rosters = s.rosters := by
  dsimp only [endCatchGrace]
  (repeat' split) <;> first | rfl | simp

@[simp] theorem endCatchGrace_space (job : Nat) (s : State) : (endCatchGrace job s).space = s.space := by
  dsimp only [endCatchGrace]
  (repeat' split) <;> first | rfl | simp

@[simp] theorem endMembershipTimer_jtb (job : Nat) (runs : Membership → Bool) (reason : DropReason) (s : State) : (endMembershipTimer job runs reason s).jtb = s.jtb := by
  dsimp only [endMembershipTimer]
  (repeat' split) <;> first | rfl | simp

@[simp] theorem endMembershipTimer_outer (job : Nat) (runs : Membership → Bool) (reason : DropReason) (s : State) : (endMembershipTimer job runs reason s).outer = s.outer := by
  dsimp only [endMembershipTimer]
  (repeat' split) <;> first | rfl | simp

@[simp] theorem endMembershipTimer_log (job : Nat) (runs : Membership → Bool) (reason : DropReason) (s : State) : (endMembershipTimer job runs reason s).log = s.log := by
  dsimp only [endMembershipTimer]
  (repeat' split) <;> first | rfl | simp

@[simp] theorem endMembershipTimer_identity (job : Nat) (runs : Membership → Bool) (reason : DropReason) (s : State) : (endMembershipTimer job runs reason s).identity = s.identity := by
  dsimp only [endMembershipTimer]
  (repeat' split) <;> first | rfl | simp

@[simp] theorem endMembershipTimer_rosters (job : Nat) (runs : Membership → Bool) (reason : DropReason) (s : State) : (endMembershipTimer job runs reason s).rosters = s.rosters := by
  dsimp only [endMembershipTimer]
  (repeat' split) <;> first | rfl | simp

@[simp] theorem endMembershipTimer_space (job : Nat) (runs : Membership → Bool) (reason : DropReason) (s : State) : (endMembershipTimer job runs reason s).space = s.space := by
  dsimp only [endMembershipTimer]
  (repeat' split) <;> first | rfl | simp

@[simp] theorem endDeadline_jtb (job : Nat) (s : State) : (endDeadline job s).jtb = s.jtb := by
  dsimp only [endDeadline]
  (repeat' split) <;> first | rfl | simp

@[simp] theorem endDeadline_outer (job : Nat) (s : State) : (endDeadline job s).outer = s.outer := by
  dsimp only [endDeadline]
  (repeat' split) <;> first | rfl | simp

@[simp] theorem endDeadline_log (job : Nat) (s : State) : (endDeadline job s).log = s.log := by
  dsimp only [endDeadline]
  (repeat' split) <;> first | rfl | simp

@[simp] theorem endDeadline_identity (job : Nat) (s : State) : (endDeadline job s).identity = s.identity := by
  dsimp only [endDeadline]
  (repeat' split) <;> first | rfl | simp

@[simp] theorem endDeadline_rosters (job : Nat) (s : State) : (endDeadline job s).rosters = s.rosters := by
  dsimp only [endDeadline]
  (repeat' split) <;> first | rfl | simp

@[simp] theorem endDeadline_space (job : Nat) (s : State) : (endDeadline job s).space = s.space := by
  dsimp only [endDeadline]
  (repeat' split) <;> first | rfl | simp

end Sys2Proof.Machine
end

