-- ==== Sys2Proof/Laws/Claims.lean ====
section
/-! SUPPORT. What the operations of Machine/Claims.lean leave alone: one lemma for each block and each view of the state that an
operation does not touch. -/

namespace Sys2Proof.Machine

open Sys2Proof

variable {s : State}

@[simp] theorem hearObject_jtb (f : RxFrame) (s : State) : (hearObject f s).jtb = s.jtb := by
  dsimp only [hearObject]
  (repeat' split) <;> first | rfl | simp

@[simp] theorem hearObject_outer (f : RxFrame) (s : State) : (hearObject f s).outer = s.outer := by
  dsimp only [hearObject]
  (repeat' split) <;> first | rfl | simp

@[simp] theorem hearObject_identity (f : RxFrame) (s : State) : (hearObject f s).identity = s.identity := by
  dsimp only [hearObject]
  (repeat' split) <;> first | rfl | simp

@[simp] theorem hearObject_rosters (f : RxFrame) (s : State) : (hearObject f s).rosters = s.rosters := by
  dsimp only [hearObject]
  (repeat' split) <;> first | rfl | simp

@[simp] theorem ownCensus_jtb (s : State) : (ownCensus s).jtb = s.jtb := by
  dsimp only [ownCensus]
  (repeat' split) <;> first | rfl | simp

@[simp] theorem ownCensus_meu (s : State) : (ownCensus s).meu = s.meu := by
  dsimp only [ownCensus]
  (repeat' split) <;> first | rfl | simp

@[simp] theorem ownCensus_flu (s : State) : (ownCensus s).flu = s.flu := by
  dsimp only [ownCensus]
  (repeat' split) <;> first | rfl | simp

@[simp] theorem ownCensus_outer (s : State) : (ownCensus s).outer = s.outer := by
  dsimp only [ownCensus]
  (repeat' split) <;> first | rfl | simp

@[simp] theorem ownCensus_log (s : State) : (ownCensus s).log = s.log := by
  dsimp only [ownCensus]
  (repeat' split) <;> first | rfl | simp

@[simp] theorem ownCensus_identity (s : State) : (ownCensus s).identity = s.identity := by
  dsimp only [ownCensus]
  (repeat' split) <;> first | rfl | simp

@[simp] theorem ownCensus_rosters (s : State) : (ownCensus s).rosters = s.rosters := by
  dsimp only [ownCensus]
  (repeat' split) <;> first | rfl | simp

@[simp] theorem ownCensus_driveState (s : State) : (ownCensus s).driveState = s.driveState := by
  dsimp only [ownCensus]
  (repeat' split) <;> first | rfl | simp

@[simp] theorem ownCensus_faultState (s : State) : (ownCensus s).faultState = s.faultState := by
  dsimp only [ownCensus]
  (repeat' split) <;> first | rfl | simp

@[simp] theorem ownCensus_fenceState (s : State) : (ownCensus s).fenceState = s.fenceState := by
  dsimp only [ownCensus]
  (repeat' split) <;> first | rfl | simp

@[simp] theorem hearReply_jtb (f : RxFrame) (s : State) : (hearReply f s).jtb = s.jtb := by
  dsimp only [hearReply, onSide, unlessLift]
  (repeat' split) <;> first | rfl | simp

@[simp] theorem hearReply_meu (f : RxFrame) (s : State) : (hearReply f s).meu = s.meu := by
  dsimp only [hearReply, onSide, unlessLift]
  (repeat' split) <;> first | rfl | simp

@[simp] theorem hearReply_flu (f : RxFrame) (s : State) : (hearReply f s).flu = s.flu := by
  dsimp only [hearReply, onSide, unlessLift]
  (repeat' split) <;> first | rfl | simp

@[simp] theorem hearReply_outer (f : RxFrame) (s : State) : (hearReply f s).outer = s.outer := by
  dsimp only [hearReply, onSide, unlessLift]
  (repeat' split) <;> first | rfl | simp

@[simp] theorem hearReply_log (f : RxFrame) (s : State) : (hearReply f s).log = s.log := by
  dsimp only [hearReply, onSide, unlessLift]
  (repeat' split) <;> first | rfl | simp

@[simp] theorem hearReply_identity (f : RxFrame) (s : State) : (hearReply f s).identity = s.identity := by
  dsimp only [hearReply, onSide, unlessLift]
  (repeat' split) <;> first | rfl | simp

@[simp] theorem hearReply_driveState (f : RxFrame) (s : State) : (hearReply f s).driveState = s.driveState := by
  dsimp only [hearReply, onSide, unlessLift]
  (repeat' split) <;> first | rfl | simp

@[simp] theorem hearReply_faultState (f : RxFrame) (s : State) : (hearReply f s).faultState = s.faultState := by
  dsimp only [hearReply, onSide, unlessLift]
  (repeat' split) <;> first | rfl | simp

@[simp] theorem hearReply_fenceState (f : RxFrame) (s : State) : (hearReply f s).fenceState = s.fenceState := by
  dsimp only [hearReply, onSide, unlessLift]
  (repeat' split) <;> first | rfl | simp

@[simp] theorem endCensus_jtb (s : State) : (endCensus s).jtb = s.jtb := by
  dsimp only [endCensus]
  (repeat' split) <;> first | rfl | simp

@[simp] theorem endCensus_meu (s : State) : (endCensus s).meu = s.meu := by
  dsimp only [endCensus]
  (repeat' split) <;> first | rfl | simp

@[simp] theorem endCensus_outer (s : State) : (endCensus s).outer = s.outer := by
  dsimp only [endCensus]
  (repeat' split) <;> first | rfl | simp

@[simp] theorem endCensus_log (s : State) : (endCensus s).log = s.log := by
  dsimp only [endCensus]
  (repeat' split) <;> first | rfl | simp

@[simp] theorem endCensus_identity (s : State) : (endCensus s).identity = s.identity := by
  dsimp only [endCensus]
  (repeat' split) <;> first | rfl | simp

@[simp] theorem endCensus_rosters (s : State) : (endCensus s).rosters = s.rosters := by
  dsimp only [endCensus]
  (repeat' split) <;> first | rfl | simp

@[simp] theorem endCensus_space (s : State) : (endCensus s).space = s.space := by
  dsimp only [endCensus]
  (repeat' split) <;> first | rfl | simp

@[simp] theorem endCensus_driveState (s : State) : (endCensus s).driveState = s.driveState := by
  dsimp only [endCensus]
  (repeat' split) <;> first | rfl | simp

@[simp] theorem endCensus_fenceState (s : State) : (endCensus s).fenceState = s.fenceState := by
  dsimp only [endCensus]
  (repeat' split) <;> first | rfl | simp

@[simp] theorem endSlotWindow_jtb (n : Nat) (s : State) : (endSlotWindow n s).jtb = s.jtb := by
  dsimp only [endSlotWindow]
  (repeat' split) <;> first | rfl | simp

@[simp] theorem endSlotWindow_meu (n : Nat) (s : State) : (endSlotWindow n s).meu = s.meu := by
  dsimp only [endSlotWindow]
  (repeat' split) <;> first | rfl | simp

@[simp] theorem endSlotWindow_flu (n : Nat) (s : State) : (endSlotWindow n s).flu = s.flu := by
  dsimp only [endSlotWindow]
  (repeat' split) <;> first | rfl | simp

@[simp] theorem endSlotWindow_outer (n : Nat) (s : State) : (endSlotWindow n s).outer = s.outer := by
  dsimp only [endSlotWindow]
  (repeat' split) <;> first | rfl | simp

@[simp] theorem endSlotWindow_log (n : Nat) (s : State) : (endSlotWindow n s).log = s.log := by
  dsimp only [endSlotWindow]
  (repeat' split) <;> first | rfl | simp

@[simp] theorem endSlotWindow_identity (n : Nat) (s : State) : (endSlotWindow n s).identity = s.identity := by
  dsimp only [endSlotWindow]
  (repeat' split) <;> first | rfl | simp

@[simp] theorem endSlotWindow_rosters (n : Nat) (s : State) : (endSlotWindow n s).rosters = s.rosters := by
  dsimp only [endSlotWindow]
  (repeat' split) <;> first | rfl | simp

@[simp] theorem endSlotWindow_driveState (n : Nat) (s : State) : (endSlotWindow n s).driveState = s.driveState := by
  dsimp only [endSlotWindow]
  (repeat' split) <;> first | rfl | simp

@[simp] theorem endSlotWindow_faultState (n : Nat) (s : State) : (endSlotWindow n s).faultState = s.faultState := by
  dsimp only [endSlotWindow]
  (repeat' split) <;> first | rfl | simp

@[simp] theorem endSlotWindow_fenceState (n : Nat) (s : State) : (endSlotWindow n s).fenceState = s.fenceState := by
  dsimp only [endSlotWindow]
  (repeat' split) <;> first | rfl | simp

@[simp] theorem clearSlot_jtb (n : Nat) (s : State) : (clearSlot n s).jtb = s.jtb := by
  dsimp only [clearSlot]
  (repeat' split) <;> first | rfl | simp

@[simp] theorem clearSlot_meu (n : Nat) (s : State) : (clearSlot n s).meu = s.meu := by
  dsimp only [clearSlot]
  (repeat' split) <;> first | rfl | simp

@[simp] theorem clearSlot_flu (n : Nat) (s : State) : (clearSlot n s).flu = s.flu := by
  dsimp only [clearSlot]
  (repeat' split) <;> first | rfl | simp

@[simp] theorem clearSlot_outer (n : Nat) (s : State) : (clearSlot n s).outer = s.outer := by
  dsimp only [clearSlot]
  (repeat' split) <;> first | rfl | simp

@[simp] theorem clearSlot_identity (n : Nat) (s : State) : (clearSlot n s).identity = s.identity := by
  dsimp only [clearSlot]
  (repeat' split) <;> first | rfl | simp

@[simp] theorem clearSlot_rosters (n : Nat) (s : State) : (clearSlot n s).rosters = s.rosters := by
  dsimp only [clearSlot]
  (repeat' split) <;> first | rfl | simp

@[simp] theorem clearSlot_driveState (n : Nat) (s : State) : (clearSlot n s).driveState = s.driveState := by
  dsimp only [clearSlot]
  (repeat' split) <;> first | rfl | simp

@[simp] theorem clearSlot_faultState (n : Nat) (s : State) : (clearSlot n s).faultState = s.faultState := by
  dsimp only [clearSlot]
  (repeat' split) <;> first | rfl | simp

@[simp] theorem clearSlot_fenceState (n : Nat) (s : State) : (clearSlot n s).fenceState = s.fenceState := by
  dsimp only [clearSlot]
  (repeat' split) <;> first | rfl | simp

end Sys2Proof.Machine
end

