-- ==== Sys2Proof/Laws/Fields.lean ====
section
/-! SUPPORT. The fields that the operations behind the blocks' own action leave alone, one lemma for each. -/

namespace Sys2Proof.Machine

open Sys2Proof

variable {s : State}

@[simp] theorem updTx_lif_receiver (f : Tx → Tx) (s : State) : (updTx f s).lif.receiver = s.lif.receiver := by
  dsimp only [updTx]
  (repeat' split) <;> first | rfl | simp

@[simp] theorem updTx_lif_k (f : Tx → Tx) (s : State) : (updTx f s).lif.k = s.lif.k := by
  dsimp only [updTx]
  (repeat' split) <;> first | rfl | simp

@[simp] theorem updTx_lif_post (f : Tx → Tx) (s : State) : (updTx f s).lif.post = s.lif.post := by
  dsimp only [updTx]
  (repeat' split) <;> first | rfl | simp

@[simp] theorem updTx_lif_answer (f : Tx → Tx) (s : State) : (updTx f s).lif.answer = s.lif.answer := by
  dsimp only [updTx]
  (repeat' split) <;> first | rfl | simp

@[simp] theorem updTx_lif_silent (f : Tx → Tx) (s : State) : (updTx f s).lif.silent = s.lif.silent := by
  dsimp only [updTx]
  (repeat' split) <;> first | rfl | simp

@[simp] theorem updTx_lif_deafness (f : Tx → Tx) (s : State) : (updTx f s).lif.deafness = s.lif.deafness := by
  dsimp only [updTx]
  (repeat' split) <;> first | rfl | simp

@[simp] theorem updTx_lif_burst (f : Tx → Tx) (s : State) : (updTx f s).lif.burst = s.lif.burst := by
  dsimp only [updTx]
  (repeat' split) <;> first | rfl | simp

@[simp] theorem askReplacement_lif_receiver (f : TxFrame) (s : State) : (askReplacement f s).lif.receiver = s.lif.receiver := by
  dsimp only [askReplacement]
  (repeat' split) <;> first | rfl | simp

@[simp] theorem askReplacement_lif_k (f : TxFrame) (s : State) : (askReplacement f s).lif.k = s.lif.k := by
  dsimp only [askReplacement]
  (repeat' split) <;> first | rfl | simp

@[simp] theorem askReplacement_lif_post (f : TxFrame) (s : State) : (askReplacement f s).lif.post = s.lif.post := by
  dsimp only [askReplacement]
  (repeat' split) <;> first | rfl | simp

@[simp] theorem askReplacement_lif_answer (f : TxFrame) (s : State) : (askReplacement f s).lif.answer = s.lif.answer := by
  dsimp only [askReplacement]
  (repeat' split) <;> first | rfl | simp

@[simp] theorem askReplacement_lif_silent (f : TxFrame) (s : State) : (askReplacement f s).lif.silent = s.lif.silent := by
  dsimp only [askReplacement]
  (repeat' split) <;> first | rfl | simp

@[simp] theorem askReplacement_lif_deafness (f : TxFrame) (s : State) : (askReplacement f s).lif.deafness = s.lif.deafness := by
  dsimp only [askReplacement]
  (repeat' split) <;> first | rfl | simp

@[simp] theorem askReplacement_lif_burst (f : TxFrame) (s : State) : (askReplacement f s).lif.burst = s.lif.burst := by
  dsimp only [askReplacement]
  (repeat' split) <;> first | rfl | simp

@[simp] theorem offerSafety_lif_receiver (f : TxFrame) (s : State) : (offerSafety f s).lif.receiver = s.lif.receiver := by
  dsimp only [offerSafety]
  (repeat' split) <;> first | rfl | simp

@[simp] theorem offerSafety_lif_k (f : TxFrame) (s : State) : (offerSafety f s).lif.k = s.lif.k := by
  dsimp only [offerSafety]
  (repeat' split) <;> first | rfl | simp

@[simp] theorem offerSafety_lif_post (f : TxFrame) (s : State) : (offerSafety f s).lif.post = s.lif.post := by
  dsimp only [offerSafety]
  (repeat' split) <;> first | rfl | simp

@[simp] theorem offerSafety_lif_answer (f : TxFrame) (s : State) : (offerSafety f s).lif.answer = s.lif.answer := by
  dsimp only [offerSafety]
  (repeat' split) <;> first | rfl | simp

@[simp] theorem offerSafety_lif_silent (f : TxFrame) (s : State) : (offerSafety f s).lif.silent = s.lif.silent := by
  dsimp only [offerSafety]
  (repeat' split) <;> first | rfl | simp

@[simp] theorem offerSafety_lif_deafness (f : TxFrame) (s : State) : (offerSafety f s).lif.deafness = s.lif.deafness := by
  dsimp only [offerSafety]
  (repeat' split) <;> first | rfl | simp

@[simp] theorem offerSafety_lif_burst (f : TxFrame) (s : State) : (offerSafety f s).lif.burst = s.lif.burst := by
  dsimp only [offerSafety]
  (repeat' split) <;> first | rfl | simp

@[simp] theorem pushWork_lif_receiver (f : TxFrame) (s : State) : (pushWork f s).lif.receiver = s.lif.receiver := by
  dsimp only [pushWork]
  (repeat' split) <;> first | rfl | simp

@[simp] theorem pushWork_lif_k (f : TxFrame) (s : State) : (pushWork f s).lif.k = s.lif.k := by
  dsimp only [pushWork]
  (repeat' split) <;> first | rfl | simp

@[simp] theorem pushWork_lif_post (f : TxFrame) (s : State) : (pushWork f s).lif.post = s.lif.post := by
  dsimp only [pushWork]
  (repeat' split) <;> first | rfl | simp

@[simp] theorem pushWork_lif_answer (f : TxFrame) (s : State) : (pushWork f s).lif.answer = s.lif.answer := by
  dsimp only [pushWork]
  (repeat' split) <;> first | rfl | simp

@[simp] theorem pushWork_lif_silent (f : TxFrame) (s : State) : (pushWork f s).lif.silent = s.lif.silent := by
  dsimp only [pushWork]
  (repeat' split) <;> first | rfl | simp

@[simp] theorem pushWork_lif_deafness (f : TxFrame) (s : State) : (pushWork f s).lif.deafness = s.lif.deafness := by
  dsimp only [pushWork]
  (repeat' split) <;> first | rfl | simp

@[simp] theorem pushWork_lif_burst (f : TxFrame) (s : State) : (pushWork f s).lif.burst = s.lif.burst := by
  dsimp only [pushWork]
  (repeat' split) <;> first | rfl | simp

@[simp] theorem offerWork_lif_receiver (f : TxFrame) (s : State) : (offerWork f s).lif.receiver = s.lif.receiver := by
  dsimp only [offerWork]
  (repeat' split) <;> first | rfl | simp

@[simp] theorem offerWork_lif_k (f : TxFrame) (s : State) : (offerWork f s).lif.k = s.lif.k := by
  dsimp only [offerWork]
  (repeat' split) <;> first | rfl | simp

@[simp] theorem offerWork_lif_post (f : TxFrame) (s : State) : (offerWork f s).lif.post = s.lif.post := by
  dsimp only [offerWork]
  (repeat' split) <;> first | rfl | simp

@[simp] theorem offerWork_lif_answer (f : TxFrame) (s : State) : (offerWork f s).lif.answer = s.lif.answer := by
  dsimp only [offerWork]
  (repeat' split) <;> first | rfl | simp

@[simp] theorem offerWork_lif_silent (f : TxFrame) (s : State) : (offerWork f s).lif.silent = s.lif.silent := by
  dsimp only [offerWork]
  (repeat' split) <;> first | rfl | simp

@[simp] theorem offerWork_lif_deafness (f : TxFrame) (s : State) : (offerWork f s).lif.deafness = s.lif.deafness := by
  dsimp only [offerWork]
  (repeat' split) <;> first | rfl | simp

@[simp] theorem offerWork_lif_burst (f : TxFrame) (s : State) : (offerWork f s).lif.burst = s.lif.burst := by
  dsimp only [offerWork]
  (repeat' split) <;> first | rfl | simp

@[simp] theorem emptyQueues_lif_receiver (s : State) : (emptyQueues s).lif.receiver = s.lif.receiver := by
  dsimp only [emptyQueues]
  (repeat' split) <;> first | rfl | simp

@[simp] theorem emptyQueues_lif_k (s : State) : (emptyQueues s).lif.k = s.lif.k := by
  dsimp only [emptyQueues]
  (repeat' split) <;> first | rfl | simp

@[simp] theorem emptyQueues_lif_silent (s : State) : (emptyQueues s).lif.silent = s.lif.silent := by
  dsimp only [emptyQueues]
  (repeat' split) <;> first | rfl | simp

@[simp] theorem emptyQueues_lif_deafness (s : State) : (emptyQueues s).lif.deafness = s.lif.deafness := by
  dsimp only [emptyQueues]
  (repeat' split) <;> first | rfl | simp

@[simp] theorem emptyQueues_lif_burst (s : State) : (emptyQueues s).lif.burst = s.lif.burst := by
  dsimp only [emptyQueues]
  (repeat' split) <;> first | rfl | simp

@[simp] theorem lifSilence_lif_receiver (f : TxFrame) (s : State) : (lifSilence f s).lif.receiver = s.lif.receiver := by
  dsimp only [lifSilence]
  (repeat' split) <;> first | rfl | simp

@[simp] theorem lifSilence_lif_k (f : TxFrame) (s : State) : (lifSilence f s).lif.k = s.lif.k := by
  dsimp only [lifSilence]
  (repeat' split) <;> first | rfl | simp

@[simp] theorem lifSilence_lif_deafness (f : TxFrame) (s : State) : (lifSilence f s).lif.deafness = s.lif.deafness := by
  dsimp only [lifSilence]
  (repeat' split) <;> first | rfl | simp

@[simp] theorem lifSilence_lif_burst (f : TxFrame) (s : State) : (lifSilence f s).lif.burst = s.lif.burst := by
  dsimp only [lifSilence]
  (repeat' split) <;> first | rfl | simp

@[simp] theorem regap_lif_receiver (s : State) : (regap s).lif.receiver = s.lif.receiver := by
  dsimp only [regap]
  (repeat' split) <;> first | rfl | simp

@[simp] theorem regap_lif_k (s : State) : (regap s).lif.k = s.lif.k := by
  dsimp only [regap]
  (repeat' split) <;> first | rfl | simp

@[simp] theorem regap_lif_post (s : State) : (regap s).lif.post = s.lif.post := by
  dsimp only [regap]
  (repeat' split) <;> first | rfl | simp

@[simp] theorem regap_lif_answer (s : State) : (regap s).lif.answer = s.lif.answer := by
  dsimp only [regap]
  (repeat' split) <;> first | rfl | simp

@[simp] theorem regap_lif_silent (s : State) : (regap s).lif.silent = s.lif.silent := by
  dsimp only [regap]
  (repeat' split) <;> first | rfl | simp

@[simp] theorem regap_lif_deafness (s : State) : (regap s).lif.deafness = s.lif.deafness := by
  dsimp only [regap]
  (repeat' split) <;> first | rfl | simp

@[simp] theorem regap_lif_burst (s : State) : (regap s).lif.burst = s.lif.burst := by
  dsimp only [regap]
  (repeat' split) <;> first | rfl | simp

@[simp] theorem meuAbort_rvu_mismatches (s : State) : (meuAbort s).rvu.mismatches = s.rvu.mismatches := by
  dsimp only [meuAbort]
  (repeat' split) <;> first | rfl | simp

@[simp] theorem endMember_lif_receiver (job : Nat) (s : State) : (endMember job s).lif.receiver = s.lif.receiver := by
  dsimp only [endMember]
  (repeat' split) <;> first | rfl | simp

@[simp] theorem endMember_lif_k (job : Nat) (s : State) : (endMember job s).lif.k = s.lif.k := by
  dsimp only [endMember]
  (repeat' split) <;> first | rfl | simp

@[simp] theorem endMember_lif_post (job : Nat) (s : State) : (endMember job s).lif.post = s.lif.post := by
  dsimp only [endMember]
  (repeat' split) <;> first | rfl | simp

@[simp] theorem endMember_lif_answer (job : Nat) (s : State) : (endMember job s).lif.answer = s.lif.answer := by
  dsimp only [endMember]
  (repeat' split) <;> first | rfl | simp

@[simp] theorem endMember_lif_silent (job : Nat) (s : State) : (endMember job s).lif.silent = s.lif.silent := by
  dsimp only [endMember]
  (repeat' split) <;> first | rfl | simp

@[simp] theorem endMember_lif_deafness (job : Nat) (s : State) : (endMember job s).lif.deafness = s.lif.deafness := by
  dsimp only [endMember]
  (repeat' split) <;> first | rfl | simp

@[simp] theorem endMember_lif_burst (job : Nat) (s : State) : (endMember job s).lif.burst = s.lif.burst := by
  dsimp only [endMember]
  (repeat' split) <;> first | rfl | simp

@[simp] theorem endMember_rvu_mismatches (job : Nat) (s : State) : (endMember job s).rvu.mismatches = s.rvu.mismatches := by
  simp only [endMember, State.onRvu_rvu]
  (repeat' split) <;> rfl

@[simp] theorem endMembers_lif_receiver (s : State) : (endMembers s).lif.receiver = s.lif.receiver := by
  dsimp only [endMembers]
  (repeat' split) <;> first | rfl | simp

@[simp] theorem endMembers_lif_k (s : State) : (endMembers s).lif.k = s.lif.k := by
  dsimp only [endMembers]
  (repeat' split) <;> first | rfl | simp

@[simp] theorem endMembers_lif_post (s : State) : (endMembers s).lif.post = s.lif.post := by
  dsimp only [endMembers]
  (repeat' split) <;> first | rfl | simp

@[simp] theorem endMembers_lif_answer (s : State) : (endMembers s).lif.answer = s.lif.answer := by
  dsimp only [endMembers]
  (repeat' split) <;> first | rfl | simp

@[simp] theorem endMembers_lif_silent (s : State) : (endMembers s).lif.silent = s.lif.silent := by
  dsimp only [endMembers]
  (repeat' split) <;> first | rfl | simp

@[simp] theorem endMembers_lif_deafness (s : State) : (endMembers s).lif.deafness = s.lif.deafness := by
  dsimp only [endMembers]
  (repeat' split) <;> first | rfl | simp

@[simp] theorem endMembers_lif_burst (s : State) : (endMembers s).lif.burst = s.lif.burst := by
  dsimp only [endMembers]
  (repeat' split) <;> first | rfl | simp

@[simp] theorem endMembers_rvu_mismatches (s : State) : (endMembers s).rvu.mismatches = s.rvu.mismatches := by
  dsimp only [endMembers]
  (repeat' split) <;> first | rfl | simp

@[simp] theorem offerBeacon_lif_receiver (s : State) : (offerBeacon s).lif.receiver = s.lif.receiver := by
  dsimp only [offerBeacon]
  (repeat' split) <;> first | rfl | simp

@[simp] theorem offerBeacon_lif_k (s : State) : (offerBeacon s).lif.k = s.lif.k := by
  dsimp only [offerBeacon]
  (repeat' split) <;> first | rfl | simp

@[simp] theorem offerBeacon_lif_post (s : State) : (offerBeacon s).lif.post = s.lif.post := by
  dsimp only [offerBeacon]
  (repeat' split) <;> first | rfl | simp

@[simp] theorem offerBeacon_lif_answer (s : State) : (offerBeacon s).lif.answer = s.lif.answer := by
  dsimp only [offerBeacon]
  (repeat' split) <;> first | rfl | simp

@[simp] theorem offerBeacon_lif_silent (s : State) : (offerBeacon s).lif.silent = s.lif.silent := by
  dsimp only [offerBeacon]
  (repeat' split) <;> first | rfl | simp

@[simp] theorem offerBeacon_lif_deafness (s : State) : (offerBeacon s).lif.deafness = s.lif.deafness := by
  dsimp only [offerBeacon]
  (repeat' split) <;> first | rfl | simp

@[simp] theorem offerBeacon_lif_burst (s : State) : (offerBeacon s).lif.burst = s.lif.burst := by
  dsimp only [offerBeacon]
  (repeat' split) <;> first | rfl | simp

@[simp] theorem changeBeacon_lif_receiver (s : State) : (changeBeacon s).lif.receiver = s.lif.receiver := by
  dsimp only [changeBeacon]
  (repeat' split) <;> first | rfl | simp

@[simp] theorem changeBeacon_lif_k (s : State) : (changeBeacon s).lif.k = s.lif.k := by
  dsimp only [changeBeacon]
  (repeat' split) <;> first | rfl | simp

@[simp] theorem changeBeacon_lif_post (s : State) : (changeBeacon s).lif.post = s.lif.post := by
  dsimp only [changeBeacon]
  (repeat' split) <;> first | rfl | simp

@[simp] theorem changeBeacon_lif_answer (s : State) : (changeBeacon s).lif.answer = s.lif.answer := by
  dsimp only [changeBeacon]
  (repeat' split) <;> first | rfl | simp

@[simp] theorem changeBeacon_lif_silent (s : State) : (changeBeacon s).lif.silent = s.lif.silent := by
  dsimp only [changeBeacon]
  (repeat' split) <;> first | rfl | simp

@[simp] theorem changeBeacon_lif_deafness (s : State) : (changeBeacon s).lif.deafness = s.lif.deafness := by
  dsimp only [changeBeacon]
  (repeat' split) <;> first | rfl | simp

@[simp] theorem changeBeacon_lif_burst (s : State) : (changeBeacon s).lif.burst = s.lif.burst := by
  dsimp only [changeBeacon]
  (repeat' split) <;> first | rfl | simp

@[simp] theorem changeBeacon_stc_config (s : State) : (changeBeacon s).stc.config = s.stc.config := by
  dsimp only [changeBeacon]
  (repeat' split) <;> first | rfl | simp

@[simp] theorem changeBeacon_stc_planLoss (s : State) : (changeBeacon s).stc.planLoss = s.stc.planLoss := by
  dsimp only [changeBeacon]
  (repeat' split) <;> first | rfl | simp

@[simp] theorem changeBeacon_stc_beaconTimer (s : State) : (changeBeacon s).stc.beaconTimer = s.stc.beaconTimer := by
  dsimp only [changeBeacon]
  (repeat' split) <;> first | rfl | simp

@[simp] theorem changeBeacon_stc_offlineReason (s : State) : (changeBeacon s).stc.offlineReason = s.stc.offlineReason := by
  dsimp only [changeBeacon]
  (repeat' split) <;> first | rfl | simp

@[simp] theorem changeBeacon_stc_join (s : State) : (changeBeacon s).stc.join = s.stc.join := by
  dsimp only [changeBeacon]
  (repeat' split) <;> first | rfl | simp

@[simp] theorem changeBeacon_stc_restart (s : State) : (changeBeacon s).stc.restart = s.stc.restart := by
  dsimp only [changeBeacon]
  (repeat' split) <;> first | rfl | simp

@[simp] theorem enterParked_lif_receiver (s : State) : (enterParked s).lif.receiver = s.lif.receiver := by
  dsimp only [enterParked]
  (repeat' split) <;> first | rfl | simp

@[simp] theorem enterParked_lif_k (s : State) : (enterParked s).lif.k = s.lif.k := by
  dsimp only [enterParked]
  (repeat' split) <;> first | rfl | simp

@[simp] theorem enterParked_lif_post (s : State) : (enterParked s).lif.post = s.lif.post := by
  dsimp only [enterParked]
  (repeat' split) <;> first | rfl | simp

@[simp] theorem enterParked_lif_answer (s : State) : (enterParked s).lif.answer = s.lif.answer := by
  dsimp only [enterParked]
  (repeat' split) <;> first | rfl | simp

@[simp] theorem enterParked_lif_silent (s : State) : (enterParked s).lif.silent = s.lif.silent := by
  dsimp only [enterParked]
  (repeat' split) <;> first | rfl | simp

@[simp] theorem enterParked_lif_deafness (s : State) : (enterParked s).lif.deafness = s.lif.deafness := by
  dsimp only [enterParked]
  (repeat' split) <;> first | rfl | simp

@[simp] theorem enterParked_lif_burst (s : State) : (enterParked s).lif.burst = s.lif.burst := by
  dsimp only [enterParked]
  (repeat' split) <;> first | rfl | simp

@[simp] theorem enterParked_stc_config (s : State) : (enterParked s).stc.config = s.stc.config := by
  dsimp only [enterParked]
  (repeat' split) <;> first | rfl | simp

@[simp] theorem enterParked_stc_planLoss (s : State) : (enterParked s).stc.planLoss = s.stc.planLoss := by
  dsimp only [enterParked]
  (repeat' split) <;> first | rfl | simp

@[simp] theorem enterParked_stc_beaconTimer (s : State) : (enterParked s).stc.beaconTimer = s.stc.beaconTimer := by
  dsimp only [enterParked]
  (repeat' split) <;> first | rfl | simp

@[simp] theorem enterParked_stc_offlineReason (s : State) : (enterParked s).stc.offlineReason = s.stc.offlineReason := by
  dsimp only [enterParked]
  (repeat' split) <;> first | rfl | simp

@[simp] theorem enterParked_stc_join (s : State) : (enterParked s).stc.join = s.stc.join := by
  dsimp only [enterParked]
  (repeat' split) <;> first | rfl | simp

@[simp] theorem enterParked_stc_restart (s : State) : (enterParked s).stc.restart = s.stc.restart := by
  dsimp only [enterParked]
  (repeat' split) <;> first | rfl | simp

@[simp] theorem enterParked_msq_lastCommand (s : State) : (enterParked s).msq.lastCommand = s.msq.lastCommand := by
  dsimp only [enterParked]
  (repeat' split) <;> first | rfl | simp

@[simp] theorem enterParked_msq_lastReport (s : State) : (enterParked s).msq.lastReport = s.msq.lastReport := by
  dsimp only [enterParked]
  (repeat' split) <;> first | rfl | simp

@[simp] theorem enterParked_msq_standing (s : State) : (enterParked s).msq.standing = s.msq.standing := by
  dsimp only [enterParked]
  (repeat' split) <;> first | rfl | simp

@[simp] theorem enterParked_msq_driveSilence (s : State) : (enterParked s).msq.driveSilence = s.msq.driveSilence := by
  dsimp only [enterParked]
  (repeat' split) <;> first | rfl | simp

@[simp] theorem enterIdle_msq_lastCommand (s : State) : (enterIdle s).msq.lastCommand = s.msq.lastCommand := by
  dsimp only [enterIdle]
  (repeat' split) <;> first | rfl | simp

@[simp] theorem enterIdle_msq_lastReport (s : State) : (enterIdle s).msq.lastReport = s.msq.lastReport := by
  dsimp only [enterIdle]
  (repeat' split) <;> first | rfl | simp

@[simp] theorem enterIdle_msq_standing (s : State) : (enterIdle s).msq.standing = s.msq.standing := by
  dsimp only [enterIdle]
  (repeat' split) <;> first | rfl | simp

@[simp] theorem enterIdle_msq_driveSilence (s : State) : (enterIdle s).msq.driveSilence = s.msq.driveSilence := by
  dsimp only [enterIdle]
  (repeat' split) <;> first | rfl | simp

@[simp] theorem idleOrParked_lif_receiver (s : State) : (idleOrParked s).lif.receiver = s.lif.receiver := by
  dsimp only [idleOrParked]
  (repeat' split) <;> first | rfl | simp

@[simp] theorem idleOrParked_lif_k (s : State) : (idleOrParked s).lif.k = s.lif.k := by
  dsimp only [idleOrParked]
  (repeat' split) <;> first | rfl | simp

@[simp] theorem idleOrParked_lif_post (s : State) : (idleOrParked s).lif.post = s.lif.post := by
  dsimp only [idleOrParked]
  (repeat' split) <;> first | rfl | simp

@[simp] theorem idleOrParked_lif_answer (s : State) : (idleOrParked s).lif.answer = s.lif.answer := by
  dsimp only [idleOrParked]
  (repeat' split) <;> first | rfl | simp

@[simp] theorem idleOrParked_lif_silent (s : State) : (idleOrParked s).lif.silent = s.lif.silent := by
  dsimp only [idleOrParked]
  (repeat' split) <;> first | rfl | simp

@[simp] theorem idleOrParked_lif_deafness (s : State) : (idleOrParked s).lif.deafness = s.lif.deafness := by
  dsimp only [idleOrParked]
  (repeat' split) <;> first | rfl | simp

@[simp] theorem idleOrParked_lif_burst (s : State) : (idleOrParked s).lif.burst = s.lif.burst := by
  dsimp only [idleOrParked]
  (repeat' split) <;> first | rfl | simp

@[simp] theorem idleOrParked_stc_config (s : State) : (idleOrParked s).stc.config = s.stc.config := by
  dsimp only [idleOrParked]
  (repeat' split) <;> first | rfl | simp

@[simp] theorem idleOrParked_stc_planLoss (s : State) : (idleOrParked s).stc.planLoss = s.stc.planLoss := by
  dsimp only [idleOrParked]
  (repeat' split) <;> first | rfl | simp

@[simp] theorem idleOrParked_stc_beaconTimer (s : State) : (idleOrParked s).stc.beaconTimer = s.stc.beaconTimer := by
  dsimp only [idleOrParked]
  (repeat' split) <;> first | rfl | simp

@[simp] theorem idleOrParked_stc_offlineReason (s : State) : (idleOrParked s).stc.offlineReason = s.stc.offlineReason := by
  dsimp only [idleOrParked]
  (repeat' split) <;> first | rfl | simp

@[simp] theorem idleOrParked_stc_join (s : State) : (idleOrParked s).stc.join = s.stc.join := by
  dsimp only [idleOrParked]
  (repeat' split) <;> first | rfl | simp

@[simp] theorem idleOrParked_stc_restart (s : State) : (idleOrParked s).stc.restart = s.stc.restart := by
  dsimp only [idleOrParked]
  (repeat' split) <;> first | rfl | simp

@[simp] theorem idleOrParked_msq_lastCommand (s : State) : (idleOrParked s).msq.lastCommand = s.msq.lastCommand := by
  dsimp only [idleOrParked]
  (repeat' split) <;> first | rfl | simp

@[simp] theorem idleOrParked_msq_lastReport (s : State) : (idleOrParked s).msq.lastReport = s.msq.lastReport := by
  dsimp only [idleOrParked]
  (repeat' split) <;> first | rfl | simp

@[simp] theorem idleOrParked_msq_standing (s : State) : (idleOrParked s).msq.standing = s.msq.standing := by
  dsimp only [idleOrParked]
  (repeat' split) <;> first | rfl | simp

@[simp] theorem idleOrParked_msq_driveSilence (s : State) : (idleOrParked s).msq.driveSilence = s.msq.driveSilence := by
  dsimp only [idleOrParked]
  (repeat' split) <;> first | rfl | simp

@[simp] theorem startSpaceWait_msq_lastCommand (s : State) : (startSpaceWait s).msq.lastCommand = s.msq.lastCommand := by
  dsimp only [startSpaceWait]
  (repeat' split) <;> first | rfl | simp

@[simp] theorem startSpaceWait_msq_lastReport (s : State) : (startSpaceWait s).msq.lastReport = s.msq.lastReport := by
  dsimp only [startSpaceWait]
  (repeat' split) <;> first | rfl | simp

@[simp] theorem startSpaceWait_msq_standing (s : State) : (startSpaceWait s).msq.standing = s.msq.standing := by
  dsimp only [startSpaceWait]
  (repeat' split) <;> first | rfl | simp

@[simp] theorem startSpaceWait_msq_driveSilence (s : State) : (startSpaceWait s).msq.driveSilence = s.msq.driveSilence := by
  dsimp only [startSpaceWait]
  (repeat' split) <;> first | rfl | simp

@[simp] theorem enterWaitSpace_msq_lastCommand (s : State) : (enterWaitSpace s).msq.lastCommand = s.msq.lastCommand := by
  dsimp only [enterWaitSpace]
  (repeat' split) <;> first | rfl | simp

@[simp] theorem enterWaitSpace_msq_lastReport (s : State) : (enterWaitSpace s).msq.lastReport = s.msq.lastReport := by
  dsimp only [enterWaitSpace]
  (repeat' split) <;> first | rfl | simp

@[simp] theorem enterWaitSpace_msq_standing (s : State) : (enterWaitSpace s).msq.standing = s.msq.standing := by
  dsimp only [enterWaitSpace]
  (repeat' split) <;> first | rfl | simp

@[simp] theorem enterWaitSpace_msq_driveSilence (s : State) : (enterWaitSpace s).msq.driveSilence = s.msq.driveSilence := by
  dsimp only [enterWaitSpace]
  (repeat' split) <;> first | rfl | simp

@[simp] theorem spaceDrop_lif_receiver (s : State) : (spaceDrop s).lif.receiver = s.lif.receiver := by
  dsimp only [spaceDrop]
  (repeat' split) <;> first | rfl | simp

@[simp] theorem spaceDrop_lif_k (s : State) : (spaceDrop s).lif.k = s.lif.k := by
  dsimp only [spaceDrop]
  (repeat' split) <;> first | rfl | simp

@[simp] theorem spaceDrop_lif_post (s : State) : (spaceDrop s).lif.post = s.lif.post := by
  dsimp only [spaceDrop]
  (repeat' split) <;> first | rfl | simp

@[simp] theorem spaceDrop_lif_answer (s : State) : (spaceDrop s).lif.answer = s.lif.answer := by
  dsimp only [spaceDrop]
  (repeat' split) <;> first | rfl | simp

@[simp] theorem spaceDrop_lif_silent (s : State) : (spaceDrop s).lif.silent = s.lif.silent := by
  dsimp only [spaceDrop]
  (repeat' split) <;> first | rfl | simp

@[simp] theorem spaceDrop_lif_deafness (s : State) : (spaceDrop s).lif.deafness = s.lif.deafness := by
  dsimp only [spaceDrop]
  (repeat' split) <;> first | rfl | simp

@[simp] theorem spaceDrop_lif_burst (s : State) : (spaceDrop s).lif.burst = s.lif.burst := by
  dsimp only [spaceDrop]
  (repeat' split) <;> first | rfl | simp

@[simp] theorem spaceDrop_stc_config (s : State) : (spaceDrop s).stc.config = s.stc.config := by
  dsimp only [spaceDrop]
  (repeat' split) <;> first | rfl | simp

@[simp] theorem spaceDrop_stc_planLoss (s : State) : (spaceDrop s).stc.planLoss = s.stc.planLoss := by
  dsimp only [spaceDrop]
  (repeat' split) <;> first | rfl | simp

@[simp] theorem spaceDrop_stc_beaconTimer (s : State) : (spaceDrop s).stc.beaconTimer = s.stc.beaconTimer := by
  dsimp only [spaceDrop]
  (repeat' split) <;> first | rfl | simp

@[simp] theorem spaceDrop_stc_offlineReason (s : State) : (spaceDrop s).stc.offlineReason = s.stc.offlineReason := by
  dsimp only [spaceDrop]
  (repeat' split) <;> first | rfl | simp

@[simp] theorem spaceDrop_stc_join (s : State) : (spaceDrop s).stc.join = s.stc.join := by
  dsimp only [spaceDrop]
  (repeat' split) <;> first | rfl | simp

@[simp] theorem spaceDrop_stc_restart (s : State) : (spaceDrop s).stc.restart = s.stc.restart := by
  dsimp only [spaceDrop]
  (repeat' split) <;> first | rfl | simp

@[simp] theorem spaceDrop_rvu_mismatches (s : State) : (spaceDrop s).rvu.mismatches = s.rvu.mismatches := by
  dsimp only [spaceDrop]
  (repeat' split) <;> first | rfl | simp

@[simp] theorem spaceDrop_msq_lastCommand (s : State) : (spaceDrop s).msq.lastCommand = s.msq.lastCommand := by
  dsimp only [spaceDrop]
  (repeat' split) <;> first | rfl | simp

@[simp] theorem spaceDrop_msq_lastReport (s : State) : (spaceDrop s).msq.lastReport = s.msq.lastReport := by
  dsimp only [spaceDrop]
  (repeat' split) <;> first | rfl | simp

@[simp] theorem spaceDrop_msq_standing (s : State) : (spaceDrop s).msq.standing = s.msq.standing := by
  dsimp only [spaceDrop]
  (repeat' split) <;> first | rfl | simp

@[simp] theorem spaceDrop_msq_driveSilence (s : State) : (spaceDrop s).msq.driveSilence = s.msq.driveSilence := by
  dsimp only [spaceDrop]
  (repeat' split) <;> first | rfl | simp

@[simp] theorem reportVoid_lif_receiver (s : State) : (reportVoid s).lif.receiver = s.lif.receiver := by
  dsimp only [reportVoid]
  (repeat' split) <;> first | rfl | simp

@[simp] theorem reportVoid_lif_k (s : State) : (reportVoid s).lif.k = s.lif.k := by
  dsimp only [reportVoid]
  (repeat' split) <;> first | rfl | simp

@[simp] theorem reportVoid_lif_post (s : State) : (reportVoid s).lif.post = s.lif.post := by
  dsimp only [reportVoid]
  (repeat' split) <;> first | rfl | simp

@[simp] theorem reportVoid_lif_answer (s : State) : (reportVoid s).lif.answer = s.lif.answer := by
  dsimp only [reportVoid]
  (repeat' split) <;> first | rfl | simp

@[simp] theorem reportVoid_lif_silent (s : State) : (reportVoid s).lif.silent = s.lif.silent := by
  dsimp only [reportVoid]
  (repeat' split) <;> first | rfl | simp

@[simp] theorem reportVoid_lif_deafness (s : State) : (reportVoid s).lif.deafness = s.lif.deafness := by
  dsimp only [reportVoid]
  (repeat' split) <;> first | rfl | simp

@[simp] theorem reportVoid_lif_burst (s : State) : (reportVoid s).lif.burst = s.lif.burst := by
  dsimp only [reportVoid]
  (repeat' split) <;> first | rfl | simp

@[simp] theorem reportVoid_stc_config (s : State) : (reportVoid s).stc.config = s.stc.config := by
  dsimp only [reportVoid]
  (repeat' split) <;> first | rfl | simp

@[simp] theorem reportVoid_stc_planLoss (s : State) : (reportVoid s).stc.planLoss = s.stc.planLoss := by
  dsimp only [reportVoid]
  (repeat' split) <;> first | rfl | simp

@[simp] theorem reportVoid_stc_beaconTimer (s : State) : (reportVoid s).stc.beaconTimer = s.stc.beaconTimer := by
  dsimp only [reportVoid]
  (repeat' split) <;> first | rfl | simp

@[simp] theorem reportVoid_stc_offlineReason (s : State) : (reportVoid s).stc.offlineReason = s.stc.offlineReason := by
  dsimp only [reportVoid]
  (repeat' split) <;> first | rfl | simp

@[simp] theorem reportVoid_stc_join (s : State) : (reportVoid s).stc.join = s.stc.join := by
  dsimp only [reportVoid]
  (repeat' split) <;> first | rfl | simp

@[simp] theorem reportVoid_stc_restart (s : State) : (reportVoid s).stc.restart = s.stc.restart := by
  dsimp only [reportVoid]
  (repeat' split) <;> first | rfl | simp

@[simp] theorem reportVoid_rvu_mismatches (s : State) : (reportVoid s).rvu.mismatches = s.rvu.mismatches := by
  dsimp only [reportVoid]
  (repeat' split) <;> first | rfl | simp

@[simp] theorem reportVoid_msq_lastCommand (s : State) : (reportVoid s).msq.lastCommand = s.msq.lastCommand := by
  dsimp only [reportVoid]
  (repeat' split) <;> first | rfl | simp

@[simp] theorem reportVoid_msq_lastReport (s : State) : (reportVoid s).msq.lastReport = s.msq.lastReport := by
  dsimp only [reportVoid]
  (repeat' split) <;> first | rfl | simp

@[simp] theorem reportVoid_msq_standing (s : State) : (reportVoid s).msq.standing = s.msq.standing := by
  dsimp only [reportVoid]
  (repeat' split) <;> first | rfl | simp

@[simp] theorem reportVoid_msq_driveSilence (s : State) : (reportVoid s).msq.driveSilence = s.msq.driveSilence := by
  dsimp only [reportVoid]
  (repeat' split) <;> first | rfl | simp

@[simp] theorem filterSafety_lif_receiver (keep : TxFrame → Bool) (s : State) : (filterSafety keep s).lif.receiver = s.lif.receiver := by
  dsimp only [filterSafety]
  (repeat' split) <;> first | rfl | simp

@[simp] theorem filterSafety_lif_k (keep : TxFrame → Bool) (s : State) : (filterSafety keep s).lif.k = s.lif.k := by
  dsimp only [filterSafety]
  (repeat' split) <;> first | rfl | simp

@[simp] theorem filterSafety_lif_post (keep : TxFrame → Bool) (s : State) : (filterSafety keep s).lif.post = s.lif.post := by
  dsimp only [filterSafety]
  (repeat' split) <;> first | rfl | simp

@[simp] theorem filterSafety_lif_answer (keep : TxFrame → Bool) (s : State) : (filterSafety keep s).lif.answer = s.lif.answer := by
  dsimp only [filterSafety]
  (repeat' split) <;> first | rfl | simp

@[simp] theorem filterSafety_lif_silent (keep : TxFrame → Bool) (s : State) : (filterSafety keep s).lif.silent = s.lif.silent := by
  dsimp only [filterSafety]
  (repeat' split) <;> first | rfl | simp

@[simp] theorem filterSafety_lif_deafness (keep : TxFrame → Bool) (s : State) : (filterSafety keep s).lif.deafness = s.lif.deafness := by
  dsimp only [filterSafety]
  (repeat' split) <;> first | rfl | simp

@[simp] theorem filterSafety_lif_burst (keep : TxFrame → Bool) (s : State) : (filterSafety keep s).lif.burst = s.lif.burst := by
  dsimp only [filterSafety]
  (repeat' split) <;> first | rfl | simp

@[simp] theorem withdrawClaim_lif_receiver (s : State) : (withdrawClaim s).lif.receiver = s.lif.receiver := by
  dsimp only [withdrawClaim]
  (repeat' split) <;> first | rfl | simp

@[simp] theorem withdrawClaim_lif_k (s : State) : (withdrawClaim s).lif.k = s.lif.k := by
  dsimp only [withdrawClaim]
  (repeat' split) <;> first | rfl | simp

@[simp] theorem withdrawClaim_lif_post (s : State) : (withdrawClaim s).lif.post = s.lif.post := by
  dsimp only [withdrawClaim]
  (repeat' split) <;> first | rfl | simp

@[simp] theorem withdrawClaim_lif_answer (s : State) : (withdrawClaim s).lif.answer = s.lif.answer := by
  dsimp only [withdrawClaim]
  (repeat' split) <;> first | rfl | simp

@[simp] theorem withdrawClaim_lif_silent (s : State) : (withdrawClaim s).lif.silent = s.lif.silent := by
  dsimp only [withdrawClaim]
  (repeat' split) <;> first | rfl | simp

@[simp] theorem withdrawClaim_lif_deafness (s : State) : (withdrawClaim s).lif.deafness = s.lif.deafness := by
  dsimp only [withdrawClaim]
  (repeat' split) <;> first | rfl | simp

@[simp] theorem withdrawClaim_lif_burst (s : State) : (withdrawClaim s).lif.burst = s.lif.burst := by
  dsimp only [withdrawClaim]
  (repeat' split) <;> first | rfl | simp

@[simp] theorem withdrawClaim_scu_censusTimer (s : State) : (withdrawClaim s).scu.censusTimer = s.scu.censusTimer := by
  dsimp only [withdrawClaim]
  (repeat' split) <;> first | rfl | simp

@[simp] theorem withdrawClaim_scu_replyQueued (s : State) : (withdrawClaim s).scu.replyQueued = s.scu.replyQueued := by
  dsimp only [withdrawClaim]
  (repeat' split) <;> first | rfl | simp

@[simp] theorem withdrawAndReport_lif_receiver (s : State) : (withdrawAndReport s).lif.receiver = s.lif.receiver := by
  dsimp only [withdrawAndReport]
  (repeat' split) <;> first | rfl | simp

@[simp] theorem withdrawAndReport_lif_k (s : State) : (withdrawAndReport s).lif.k = s.lif.k := by
  dsimp only [withdrawAndReport]
  (repeat' split) <;> first | rfl | simp

@[simp] theorem withdrawAndReport_lif_post (s : State) : (withdrawAndReport s).lif.post = s.lif.post := by
  dsimp only [withdrawAndReport]
  (repeat' split) <;> first | rfl | simp

@[simp] theorem withdrawAndReport_lif_answer (s : State) : (withdrawAndReport s).lif.answer = s.lif.answer := by
  dsimp only [withdrawAndReport]
  (repeat' split) <;> first | rfl | simp

@[simp] theorem withdrawAndReport_lif_silent (s : State) : (withdrawAndReport s).lif.silent = s.lif.silent := by
  dsimp only [withdrawAndReport]
  (repeat' split) <;> first | rfl | simp

@[simp] theorem withdrawAndReport_lif_deafness (s : State) : (withdrawAndReport s).lif.deafness = s.lif.deafness := by
  dsimp only [withdrawAndReport]
  (repeat' split) <;> first | rfl | simp

@[simp] theorem withdrawAndReport_lif_burst (s : State) : (withdrawAndReport s).lif.burst = s.lif.burst := by
  dsimp only [withdrawAndReport]
  (repeat' split) <;> first | rfl | simp

@[simp] theorem withdrawAndReport_stc_config (s : State) : (withdrawAndReport s).stc.config = s.stc.config := by
  dsimp only [withdrawAndReport]
  (repeat' split) <;> first | rfl | simp

@[simp] theorem withdrawAndReport_stc_planLoss (s : State) : (withdrawAndReport s).stc.planLoss = s.stc.planLoss := by
  dsimp only [withdrawAndReport]
  (repeat' split) <;> first | rfl | simp

@[simp] theorem withdrawAndReport_stc_beaconTimer (s : State) : (withdrawAndReport s).stc.beaconTimer = s.stc.beaconTimer := by
  dsimp only [withdrawAndReport]
  (repeat' split) <;> first | rfl | simp

@[simp] theorem withdrawAndReport_stc_offlineReason (s : State) : (withdrawAndReport s).stc.offlineReason = s.stc.offlineReason := by
  dsimp only [withdrawAndReport]
  (repeat' split) <;> first | rfl | simp

@[simp] theorem withdrawAndReport_stc_join (s : State) : (withdrawAndReport s).stc.join = s.stc.join := by
  dsimp only [withdrawAndReport]
  (repeat' split) <;> first | rfl | simp

@[simp] theorem withdrawAndReport_stc_restart (s : State) : (withdrawAndReport s).stc.restart = s.stc.restart := by
  dsimp only [withdrawAndReport]
  (repeat' split) <;> first | rfl | simp

@[simp] theorem withdrawAndReport_scu_censusTimer (s : State) : (withdrawAndReport s).scu.censusTimer = s.scu.censusTimer := by
  dsimp only [withdrawAndReport]
  (repeat' split) <;> first | rfl | simp

@[simp] theorem withdrawAndReport_scu_replyQueued (s : State) : (withdrawAndReport s).scu.replyQueued = s.scu.replyQueued := by
  dsimp only [withdrawAndReport]
  (repeat' split) <;> first | rfl | simp

@[simp] theorem withdrawAndReport_rvu_mismatches (s : State) : (withdrawAndReport s).rvu.mismatches = s.rvu.mismatches := by
  dsimp only [withdrawAndReport]
  (repeat' split) <;> first | rfl | simp

@[simp] theorem withdrawAndReport_msq_lastCommand (s : State) : (withdrawAndReport s).msq.lastCommand = s.msq.lastCommand := by
  dsimp only [withdrawAndReport]
  (repeat' split) <;> first | rfl | simp

@[simp] theorem withdrawAndReport_msq_lastReport (s : State) : (withdrawAndReport s).msq.lastReport = s.msq.lastReport := by
  dsimp only [withdrawAndReport]
  (repeat' split) <;> first | rfl | simp

@[simp] theorem withdrawAndReport_msq_standing (s : State) : (withdrawAndReport s).msq.standing = s.msq.standing := by
  dsimp only [withdrawAndReport]
  (repeat' split) <;> first | rfl | simp

@[simp] theorem withdrawAndReport_msq_driveSilence (s : State) : (withdrawAndReport s).msq.driveSilence = s.msq.driveSilence := by
  dsimp only [withdrawAndReport]
  (repeat' split) <;> first | rfl | simp

@[simp] theorem sendCommand_msq_lastReport (o : DriveOrder) (s : State) : (sendCommand o s).msq.lastReport = s.msq.lastReport := by
  dsimp only [sendCommand]
  (repeat' split) <;> first | rfl | simp

@[simp] theorem sendCommand_msq_standing (o : DriveOrder) (s : State) : (sendCommand o s).msq.standing = s.msq.standing := by
  dsimp only [sendCommand]
  (repeat' split) <;> first | rfl | simp

@[simp] theorem sendCommand_msq_driveSilence (o : DriveOrder) (s : State) : (sendCommand o s).msq.driveSilence = s.msq.driveSilence := by
  dsimp only [sendCommand]
  (repeat' split) <;> first | rfl | simp

@[simp] theorem freeze_msq_lastReport (s : State) : (freeze s).msq.lastReport = s.msq.lastReport := by
  dsimp only [freeze]
  (repeat' split) <;> first | rfl | simp

@[simp] theorem freeze_msq_standing (s : State) : (freeze s).msq.standing = s.msq.standing := by
  dsimp only [freeze]
  (repeat' split) <;> first | rfl | simp

@[simp] theorem freeze_msq_driveSilence (s : State) : (freeze s).msq.driveSilence = s.msq.driveSilence := by
  dsimp only [freeze]
  (repeat' split) <;> first | rfl | simp

@[simp] theorem freezeForFence_msq_lastReport (s : State) : (freezeForFence s).msq.lastReport = s.msq.lastReport := by
  dsimp only [freezeForFence]
  (repeat' split) <;> first | rfl | simp

@[simp] theorem freezeForFence_msq_standing (s : State) : (freezeForFence s).msq.standing = s.msq.standing := by
  dsimp only [freezeForFence]
  (repeat' split) <;> first | rfl | simp

@[simp] theorem freezeForFence_msq_driveSilence (s : State) : (freezeForFence s).msq.driveSilence = s.msq.driveSilence := by
  dsimp only [freezeForFence]
  (repeat' split) <;> first | rfl | simp

@[simp] theorem haltFreeze_lif_receiver (s : State) : (haltFreeze s).lif.receiver = s.lif.receiver := by
  dsimp only [haltFreeze]
  (repeat' split) <;> first | rfl | simp

@[simp] theorem haltFreeze_lif_k (s : State) : (haltFreeze s).lif.k = s.lif.k := by
  dsimp only [haltFreeze]
  (repeat' split) <;> first | rfl | simp

@[simp] theorem haltFreeze_lif_post (s : State) : (haltFreeze s).lif.post = s.lif.post := by
  dsimp only [haltFreeze]
  (repeat' split) <;> first | rfl | simp

@[simp] theorem haltFreeze_lif_answer (s : State) : (haltFreeze s).lif.answer = s.lif.answer := by
  dsimp only [haltFreeze]
  (repeat' split) <;> first | rfl | simp

@[simp] theorem haltFreeze_lif_silent (s : State) : (haltFreeze s).lif.silent = s.lif.silent := by
  dsimp only [haltFreeze]
  (repeat' split) <;> first | rfl | simp

@[simp] theorem haltFreeze_lif_deafness (s : State) : (haltFreeze s).lif.deafness = s.lif.deafness := by
  dsimp only [haltFreeze]
  (repeat' split) <;> first | rfl | simp

@[simp] theorem haltFreeze_lif_burst (s : State) : (haltFreeze s).lif.burst = s.lif.burst := by
  dsimp only [haltFreeze]
  (repeat' split) <;> first | rfl | simp

@[simp] theorem haltFreeze_scu_censusTimer (s : State) : (haltFreeze s).scu.censusTimer = s.scu.censusTimer := by
  dsimp only [haltFreeze]
  (repeat' split) <;> first | rfl | simp

@[simp] theorem haltFreeze_scu_replyQueued (s : State) : (haltFreeze s).scu.replyQueued = s.scu.replyQueued := by
  dsimp only [haltFreeze]
  (repeat' split) <;> first | rfl | simp

@[simp] theorem haltFreeze_rvu_mismatches (s : State) : (haltFreeze s).rvu.mismatches = s.rvu.mismatches := by
  dsimp only [haltFreeze]
  (repeat' split) <;> first | rfl | simp

@[simp] theorem haltFreeze_msq_lastReport (s : State) : (haltFreeze s).msq.lastReport = s.msq.lastReport := by
  dsimp only [haltFreeze]
  (repeat' split) <;> first | rfl | simp

@[simp] theorem haltFreeze_msq_standing (s : State) : (haltFreeze s).msq.standing = s.msq.standing := by
  dsimp only [haltFreeze]
  (repeat' split) <;> first | rfl | simp

@[simp] theorem haltFreeze_msq_driveSilence (s : State) : (haltFreeze s).msq.driveSilence = s.msq.driveSilence := by
  dsimp only [haltFreeze]
  (repeat' split) <;> first | rfl | simp

@[simp] theorem silenceScu_scu_censusTimer (s : State) : (silenceScu s).scu.censusTimer = s.scu.censusTimer := by
  dsimp only [silenceScu]
  (repeat' split) <;> first | rfl | simp

@[simp] theorem silentFence_lif_receiver (mode : Nat) (code : Nat) (s : State) : (silentFence mode code s).lif.receiver = s.lif.receiver := by
  dsimp only [silentFence]
  (repeat' split) <;> first | rfl | simp

@[simp] theorem silentFence_lif_k (mode : Nat) (code : Nat) (s : State) : (silentFence mode code s).lif.k = s.lif.k := by
  dsimp only [silentFence]
  (repeat' split) <;> first | rfl | simp

@[simp] theorem silentFence_lif_deafness (mode : Nat) (code : Nat) (s : State) : (silentFence mode code s).lif.deafness = s.lif.deafness := by
  dsimp only [silentFence]
  (repeat' split) <;> first | rfl | simp

@[simp] theorem silentFence_lif_burst (mode : Nat) (code : Nat) (s : State) : (silentFence mode code s).lif.burst = s.lif.burst := by
  dsimp only [silentFence]
  (repeat' split) <;> first | rfl | simp

@[simp] theorem silentFence_stc_config (mode : Nat) (code : Nat) (s : State) : (silentFence mode code s).stc.config = s.stc.config := by
  dsimp only [silentFence]
  (repeat' split) <;> first | rfl | simp

@[simp] theorem silentFence_stc_planLoss (mode : Nat) (code : Nat) (s : State) : (silentFence mode code s).stc.planLoss = s.stc.planLoss := by
  dsimp only [silentFence]
  (repeat' split) <;> first | rfl | simp

@[simp] theorem silentFence_stc_beaconTimer (mode : Nat) (code : Nat) (s : State) : (silentFence mode code s).stc.beaconTimer = s.stc.beaconTimer := by
  dsimp only [silentFence]
  (repeat' split) <;> first | rfl | simp

@[simp] theorem silentFence_stc_offlineReason (mode : Nat) (code : Nat) (s : State) : (silentFence mode code s).stc.offlineReason = s.stc.offlineReason := by
  dsimp only [silentFence]
  (repeat' split) <;> first | rfl | simp

@[simp] theorem silentFence_stc_join (mode : Nat) (code : Nat) (s : State) : (silentFence mode code s).stc.join = s.stc.join := by
  dsimp only [silentFence]
  (repeat' split) <;> first | rfl | simp

@[simp] theorem silentFence_scu_censusTimer (mode : Nat) (code : Nat) (s : State) : (silentFence mode code s).scu.censusTimer = s.scu.censusTimer := by
  dsimp only [silentFence]
  (repeat' split) <;> first | rfl | simp

@[simp] theorem silentFence_rvu_mismatches (mode : Nat) (code : Nat) (s : State) : (silentFence mode code s).rvu.mismatches = s.rvu.mismatches := by
  dsimp only [silentFence]
  (repeat' split) <;> first | rfl | simp

@[simp] theorem silentFence_msq_lastReport (mode : Nat) (code : Nat) (s : State) : (silentFence mode code s).msq.lastReport = s.msq.lastReport := by
  dsimp only [silentFence]
  (repeat' split) <;> first | rfl | simp

@[simp] theorem silentFence_msq_standing (mode : Nat) (code : Nat) (s : State) : (silentFence mode code s).msq.standing = s.msq.standing := by
  dsimp only [silentFence]
  (repeat' split) <;> first | rfl | simp

@[simp] theorem silentFence_msq_driveSilence (mode : Nat) (code : Nat) (s : State) : (silentFence mode code s).msq.driveSilence = s.msq.driveSilence := by
  dsimp only [silentFence]
  (repeat' split) <;> first | rfl | simp

@[simp] theorem startDeafness_lif_receiver (s : State) : (startDeafness s).lif.receiver = s.lif.receiver := by
  dsimp only [startDeafness]
  (repeat' split) <;> first | rfl | simp

@[simp] theorem startDeafness_lif_k (s : State) : (startDeafness s).lif.k = s.lif.k := by
  dsimp only [startDeafness]
  (repeat' split) <;> first | rfl | simp

@[simp] theorem startDeafness_lif_post (s : State) : (startDeafness s).lif.post = s.lif.post := by
  dsimp only [startDeafness]
  (repeat' split) <;> first | rfl | simp

@[simp] theorem startDeafness_lif_answer (s : State) : (startDeafness s).lif.answer = s.lif.answer := by
  dsimp only [startDeafness]
  (repeat' split) <;> first | rfl | simp

@[simp] theorem startDeafness_lif_silent (s : State) : (startDeafness s).lif.silent = s.lif.silent := by
  dsimp only [startDeafness]
  (repeat' split) <;> first | rfl | simp

@[simp] theorem startDeafness_lif_burst (s : State) : (startDeafness s).lif.burst = s.lif.burst := by
  dsimp only [startDeafness]
  (repeat' split) <;> first | rfl | simp

@[simp] theorem completeJoin_lif_receiver (s : State) : (completeJoin s).lif.receiver = s.lif.receiver := by
  dsimp only [completeJoin]
  (repeat' split) <;> first | rfl | simp

@[simp] theorem completeJoin_lif_k (s : State) : (completeJoin s).lif.k = s.lif.k := by
  dsimp only [completeJoin]
  (repeat' split) <;> first | rfl | simp

@[simp] theorem completeJoin_lif_post (s : State) : (completeJoin s).lif.post = s.lif.post := by
  dsimp only [completeJoin]
  (repeat' split) <;> first | rfl | simp

@[simp] theorem completeJoin_lif_answer (s : State) : (completeJoin s).lif.answer = s.lif.answer := by
  dsimp only [completeJoin]
  (repeat' split) <;> first | rfl | simp

@[simp] theorem completeJoin_lif_silent (s : State) : (completeJoin s).lif.silent = s.lif.silent := by
  dsimp only [completeJoin]
  (repeat' split) <;> first | rfl | simp

@[simp] theorem completeJoin_lif_burst (s : State) : (completeJoin s).lif.burst = s.lif.burst := by
  dsimp only [completeJoin]
  (repeat' split) <;> first | rfl | simp

@[simp] theorem completeJoin_stc_config (s : State) : (completeJoin s).stc.config = s.stc.config := by
  dsimp only [completeJoin]
  (repeat' split) <;> first | rfl | simp

@[simp] theorem completeJoin_stc_planLoss (s : State) : (completeJoin s).stc.planLoss = s.stc.planLoss := by
  dsimp only [completeJoin]
  (repeat' split) <;> first | rfl | simp

@[simp] theorem completeJoin_stc_beaconTimer (s : State) : (completeJoin s).stc.beaconTimer = s.stc.beaconTimer := by
  dsimp only [completeJoin]
  (repeat' split) <;> first | rfl | simp

@[simp] theorem completeJoin_stc_offlineReason (s : State) : (completeJoin s).stc.offlineReason = s.stc.offlineReason := by
  dsimp only [completeJoin]
  (repeat' split) <;> first | rfl | simp

@[simp] theorem completeJoin_stc_restart (s : State) : (completeJoin s).stc.restart = s.stc.restart := by
  dsimp only [completeJoin]
  (repeat' split) <;> first | rfl | simp

@[simp] theorem startConflict_lif_receiver (s : State) : (startConflict s).lif.receiver = s.lif.receiver := by
  dsimp only [startConflict]
  (repeat' split) <;> first | rfl | simp

@[simp] theorem startConflict_lif_k (s : State) : (startConflict s).lif.k = s.lif.k := by
  dsimp only [startConflict]
  (repeat' split) <;> first | rfl | simp

@[simp] theorem startConflict_lif_burst (s : State) : (startConflict s).lif.burst = s.lif.burst := by
  dsimp only [startConflict]
  (repeat' split) <;> first | rfl | simp

@[simp] theorem startConflict_stc_config (s : State) : (startConflict s).stc.config = s.stc.config := by
  dsimp only [startConflict]
  (repeat' split) <;> first | rfl | simp

@[simp] theorem startConflict_stc_planLoss (s : State) : (startConflict s).stc.planLoss = s.stc.planLoss := by
  dsimp only [startConflict]
  (repeat' split) <;> first | rfl | simp

@[simp] theorem startConflict_stc_beaconTimer (s : State) : (startConflict s).stc.beaconTimer = s.stc.beaconTimer := by
  dsimp only [startConflict]
  (repeat' split) <;> first | rfl | simp

@[simp] theorem startConflict_stc_offlineReason (s : State) : (startConflict s).stc.offlineReason = s.stc.offlineReason := by
  dsimp only [startConflict]
  (repeat' split) <;> first | rfl | simp

@[simp] theorem startConflict_scu_censusTimer (s : State) : (startConflict s).scu.censusTimer = s.scu.censusTimer := by
  dsimp only [startConflict]
  (repeat' split) <;> first | rfl | simp

@[simp] theorem startConflict_rvu_mismatches (s : State) : (startConflict s).rvu.mismatches = s.rvu.mismatches := by
  dsimp only [startConflict]
  (repeat' split) <;> first | rfl | simp

@[simp] theorem startConflict_msq_lastReport (s : State) : (startConflict s).msq.lastReport = s.msq.lastReport := by
  dsimp only [startConflict]
  (repeat' split) <;> first | rfl | simp

@[simp] theorem startConflict_msq_standing (s : State) : (startConflict s).msq.standing = s.msq.standing := by
  dsimp only [startConflict]
  (repeat' split) <;> first | rfl | simp

@[simp] theorem startConflict_msq_driveSilence (s : State) : (startConflict s).msq.driveSilence = s.msq.driveSilence := by
  dsimp only [startConflict]
  (repeat' split) <;> first | rfl | simp

@[simp] theorem queueClaim_lif_receiver (c : Claim) (s : State) : (queueClaim c s).lif.receiver = s.lif.receiver := by
  dsimp only [queueClaim]
  (repeat' split) <;> first | rfl | simp

@[simp] theorem queueClaim_lif_k (c : Claim) (s : State) : (queueClaim c s).lif.k = s.lif.k := by
  dsimp only [queueClaim]
  (repeat' split) <;> first | rfl | simp

@[simp] theorem queueClaim_lif_post (c : Claim) (s : State) : (queueClaim c s).lif.post = s.lif.post := by
  dsimp only [queueClaim]
  (repeat' split) <;> first | rfl | simp

@[simp] theorem queueClaim_lif_answer (c : Claim) (s : State) : (queueClaim c s).lif.answer = s.lif.answer := by
  dsimp only [queueClaim]
  (repeat' split) <;> first | rfl | simp

@[simp] theorem queueClaim_lif_silent (c : Claim) (s : State) : (queueClaim c s).lif.silent = s.lif.silent := by
  dsimp only [queueClaim]
  (repeat' split) <;> first | rfl | simp

@[simp] theorem queueClaim_lif_deafness (c : Claim) (s : State) : (queueClaim c s).lif.deafness = s.lif.deafness := by
  dsimp only [queueClaim]
  (repeat' split) <;> first | rfl | simp

@[simp] theorem queueClaim_lif_burst (c : Claim) (s : State) : (queueClaim c s).lif.burst = s.lif.burst := by
  dsimp only [queueClaim]
  (repeat' split) <;> first | rfl | simp

@[simp] theorem queueClaim_scu_censusTimer (c : Claim) (s : State) : (queueClaim c s).scu.censusTimer = s.scu.censusTimer := by
  dsimp only [queueClaim]
  (repeat' split) <;> first | rfl | simp

@[simp] theorem queueClaim_scu_replyQueued (c : Claim) (s : State) : (queueClaim c s).scu.replyQueued = s.scu.replyQueued := by
  dsimp only [queueClaim]
  (repeat' split) <;> first | rfl | simp

@[simp] theorem askTravel_lif_receiver (s : State) : (askTravel s).lif.receiver = s.lif.receiver := by
  dsimp only [askTravel]
  (repeat' split) <;> first | rfl | simp

@[simp] theorem askTravel_lif_k (s : State) : (askTravel s).lif.k = s.lif.k := by
  dsimp only [askTravel]
  (repeat' split) <;> first | rfl | simp

@[simp] theorem askTravel_lif_post (s : State) : (askTravel s).lif.post = s.lif.post := by
  dsimp only [askTravel]
  (repeat' split) <;> first | rfl | simp

@[simp] theorem askTravel_lif_answer (s : State) : (askTravel s).lif.answer = s.lif.answer := by
  dsimp only [askTravel]
  (repeat' split) <;> first | rfl | simp

@[simp] theorem askTravel_lif_silent (s : State) : (askTravel s).lif.silent = s.lif.silent := by
  dsimp only [askTravel]
  (repeat' split) <;> first | rfl | simp

@[simp] theorem askTravel_lif_deafness (s : State) : (askTravel s).lif.deafness = s.lif.deafness := by
  dsimp only [askTravel]
  (repeat' split) <;> first | rfl | simp

@[simp] theorem askTravel_lif_burst (s : State) : (askTravel s).lif.burst = s.lif.burst := by
  dsimp only [askTravel]
  (repeat' split) <;> first | rfl | simp

@[simp] theorem askTravel_scu_censusTimer (s : State) : (askTravel s).scu.censusTimer = s.scu.censusTimer := by
  dsimp only [askTravel]
  (repeat' split) <;> first | rfl | simp

@[simp] theorem askTravel_scu_replyQueued (s : State) : (askTravel s).scu.replyQueued = s.scu.replyQueued := by
  dsimp only [askTravel]
  (repeat' split) <;> first | rfl | simp

@[simp] theorem askTravel_msq_lastCommand (s : State) : (askTravel s).msq.lastCommand = s.msq.lastCommand := by
  dsimp only [askTravel]
  (repeat' split) <;> first | rfl | simp

@[simp] theorem askTravel_msq_lastReport (s : State) : (askTravel s).msq.lastReport = s.msq.lastReport := by
  dsimp only [askTravel]
  (repeat' split) <;> first | rfl | simp

@[simp] theorem askTravel_msq_standing (s : State) : (askTravel s).msq.standing = s.msq.standing := by
  dsimp only [askTravel]
  (repeat' split) <;> first | rfl | simp

@[simp] theorem askTravel_msq_driveSilence (s : State) : (askTravel s).msq.driveSilence = s.msq.driveSilence := by
  dsimp only [askTravel]
  (repeat' split) <;> first | rfl | simp

@[simp] theorem askPark_lif_receiver (s : State) : (askPark s).lif.receiver = s.lif.receiver := by
  dsimp only [askPark]
  (repeat' split) <;> first | rfl | simp

@[simp] theorem askPark_lif_k (s : State) : (askPark s).lif.k = s.lif.k := by
  dsimp only [askPark]
  (repeat' split) <;> first | rfl | simp

@[simp] theorem askPark_lif_post (s : State) : (askPark s).lif.post = s.lif.post := by
  dsimp only [askPark]
  (repeat' split) <;> first | rfl | simp

@[simp] theorem askPark_lif_answer (s : State) : (askPark s).lif.answer = s.lif.answer := by
  dsimp only [askPark]
  (repeat' split) <;> first | rfl | simp

@[simp] theorem askPark_lif_silent (s : State) : (askPark s).lif.silent = s.lif.silent := by
  dsimp only [askPark]
  (repeat' split) <;> first | rfl | simp

@[simp] theorem askPark_lif_deafness (s : State) : (askPark s).lif.deafness = s.lif.deafness := by
  dsimp only [askPark]
  (repeat' split) <;> first | rfl | simp

@[simp] theorem askPark_lif_burst (s : State) : (askPark s).lif.burst = s.lif.burst := by
  dsimp only [askPark]
  (repeat' split) <;> first | rfl | simp

@[simp] theorem askPark_scu_censusTimer (s : State) : (askPark s).scu.censusTimer = s.scu.censusTimer := by
  dsimp only [askPark]
  (repeat' split) <;> first | rfl | simp

@[simp] theorem askPark_scu_replyQueued (s : State) : (askPark s).scu.replyQueued = s.scu.replyQueued := by
  dsimp only [askPark]
  (repeat' split) <;> first | rfl | simp

@[simp] theorem askPark_msq_lastCommand (s : State) : (askPark s).msq.lastCommand = s.msq.lastCommand := by
  dsimp only [askPark]
  (repeat' split) <;> first | rfl | simp

@[simp] theorem askPark_msq_lastReport (s : State) : (askPark s).msq.lastReport = s.msq.lastReport := by
  dsimp only [askPark]
  (repeat' split) <;> first | rfl | simp

@[simp] theorem askPark_msq_standing (s : State) : (askPark s).msq.standing = s.msq.standing := by
  dsimp only [askPark]
  (repeat' split) <;> first | rfl | simp

@[simp] theorem askPark_msq_driveSilence (s : State) : (askPark s).msq.driveSilence = s.msq.driveSilence := by
  dsimp only [askPark]
  (repeat' split) <;> first | rfl | simp

@[simp] theorem settleHalt_lif_receiver (s : State) : (settleHalt s).lif.receiver = s.lif.receiver := by
  dsimp only [settleHalt]
  (repeat' split) <;> first | rfl | simp

@[simp] theorem settleHalt_lif_k (s : State) : (settleHalt s).lif.k = s.lif.k := by
  dsimp only [settleHalt]
  (repeat' split) <;> first | rfl | simp

@[simp] theorem settleHalt_lif_post (s : State) : (settleHalt s).lif.post = s.lif.post := by
  dsimp only [settleHalt]
  (repeat' split) <;> first | rfl | simp

@[simp] theorem settleHalt_lif_answer (s : State) : (settleHalt s).lif.answer = s.lif.answer := by
  dsimp only [settleHalt]
  (repeat' split) <;> first | rfl | simp

@[simp] theorem settleHalt_lif_silent (s : State) : (settleHalt s).lif.silent = s.lif.silent := by
  dsimp only [settleHalt]
  (repeat' split) <;> first | rfl | simp

@[simp] theorem settleHalt_lif_deafness (s : State) : (settleHalt s).lif.deafness = s.lif.deafness := by
  dsimp only [settleHalt]
  (repeat' split) <;> first | rfl | simp

@[simp] theorem settleHalt_lif_burst (s : State) : (settleHalt s).lif.burst = s.lif.burst := by
  dsimp only [settleHalt]
  (repeat' split) <;> first | rfl | simp

@[simp] theorem settleHalt_scu_censusTimer (s : State) : (settleHalt s).scu.censusTimer = s.scu.censusTimer := by
  dsimp only [settleHalt]
  (repeat' split) <;> first | rfl | simp

@[simp] theorem settleHalt_scu_replyQueued (s : State) : (settleHalt s).scu.replyQueued = s.scu.replyQueued := by
  dsimp only [settleHalt]
  (repeat' split) <;> first | rfl | simp

@[simp] theorem settleHalt_rvu_mismatches (s : State) : (settleHalt s).rvu.mismatches = s.rvu.mismatches := by
  dsimp only [settleHalt]
  (repeat' split) <;> first | rfl | simp

@[simp] theorem settleHalt_msq_lastReport (s : State) : (settleHalt s).msq.lastReport = s.msq.lastReport := by
  dsimp only [settleHalt]
  (repeat' split) <;> first | rfl | simp

@[simp] theorem settleHalt_msq_standing (s : State) : (settleHalt s).msq.standing = s.msq.standing := by
  dsimp only [settleHalt]
  (repeat' split) <;> first | rfl | simp

@[simp] theorem settleHalt_msq_driveSilence (s : State) : (settleHalt s).msq.driveSilence = s.msq.driveSilence := by
  dsimp only [settleHalt]
  (repeat' split) <;> first | rfl | simp

@[simp] theorem settleClaim_lif_receiver (s : State) : (settleClaim s).lif.receiver = s.lif.receiver := by
  dsimp only [settleClaim]
  (repeat' split) <;> first | rfl | simp

@[simp] theorem settleClaim_lif_k (s : State) : (settleClaim s).lif.k = s.lif.k := by
  dsimp only [settleClaim]
  (repeat' split) <;> first | rfl | simp

@[simp] theorem settleClaim_lif_post (s : State) : (settleClaim s).lif.post = s.lif.post := by
  dsimp only [settleClaim]
  (repeat' split) <;> first | rfl | simp

@[simp] theorem settleClaim_lif_answer (s : State) : (settleClaim s).lif.answer = s.lif.answer := by
  dsimp only [settleClaim]
  (repeat' split) <;> first | rfl | simp

@[simp] theorem settleClaim_lif_silent (s : State) : (settleClaim s).lif.silent = s.lif.silent := by
  dsimp only [settleClaim]
  (repeat' split) <;> first | rfl | simp

@[simp] theorem settleClaim_lif_deafness (s : State) : (settleClaim s).lif.deafness = s.lif.deafness := by
  dsimp only [settleClaim]
  (repeat' split) <;> first | rfl | simp

@[simp] theorem settleClaim_lif_burst (s : State) : (settleClaim s).lif.burst = s.lif.burst := by
  dsimp only [settleClaim]
  (repeat' split) <;> first | rfl | simp

@[simp] theorem settleClaim_stc_config (s : State) : (settleClaim s).stc.config = s.stc.config := by
  dsimp only [settleClaim]
  (repeat' split) <;> first | rfl | simp

@[simp] theorem settleClaim_stc_planLoss (s : State) : (settleClaim s).stc.planLoss = s.stc.planLoss := by
  dsimp only [settleClaim]
  (repeat' split) <;> first | rfl | simp

@[simp] theorem settleClaim_stc_beaconTimer (s : State) : (settleClaim s).stc.beaconTimer = s.stc.beaconTimer := by
  dsimp only [settleClaim]
  (repeat' split) <;> first | rfl | simp

@[simp] theorem settleClaim_stc_offlineReason (s : State) : (settleClaim s).stc.offlineReason = s.stc.offlineReason := by
  dsimp only [settleClaim]
  (repeat' split) <;> first | rfl | simp

@[simp] theorem settleClaim_stc_join (s : State) : (settleClaim s).stc.join = s.stc.join := by
  dsimp only [settleClaim]
  (repeat' split) <;> first | rfl | simp

@[simp] theorem settleClaim_stc_restart (s : State) : (settleClaim s).stc.restart = s.stc.restart := by
  dsimp only [settleClaim]
  (repeat' split) <;> first | rfl | simp

@[simp] theorem settleClaim_scu_censusTimer (s : State) : (settleClaim s).scu.censusTimer = s.scu.censusTimer := by
  dsimp only [settleClaim]
  (repeat' split) <;> first | rfl | simp

@[simp] theorem settleClaim_scu_replyQueued (s : State) : (settleClaim s).scu.replyQueued = s.scu.replyQueued := by
  dsimp only [settleClaim]
  (repeat' split) <;> first | rfl | simp

@[simp] theorem settleClaim_rvu_mismatches (s : State) : (settleClaim s).rvu.mismatches = s.rvu.mismatches := by
  dsimp only [settleClaim]
  (repeat' split) <;> first | rfl | simp

@[simp] theorem settleClaim_msq_lastCommand (s : State) : (settleClaim s).msq.lastCommand = s.msq.lastCommand := by
  dsimp only [settleClaim]
  (repeat' split) <;> first | rfl | simp

@[simp] theorem settleClaim_msq_lastReport (s : State) : (settleClaim s).msq.lastReport = s.msq.lastReport := by
  dsimp only [settleClaim]
  (repeat' split) <;> first | rfl | simp

@[simp] theorem settleClaim_msq_standing (s : State) : (settleClaim s).msq.standing = s.msq.standing := by
  dsimp only [settleClaim]
  (repeat' split) <;> first | rfl | simp

@[simp] theorem settleClaim_msq_driveSilence (s : State) : (settleClaim s).msq.driveSilence = s.msq.driveSilence := by
  dsimp only [settleClaim]
  (repeat' split) <;> first | rfl | simp

@[simp] theorem settlePlacing_lif_receiver (s : State) : (settlePlacing s).lif.receiver = s.lif.receiver := by
  dsimp only [settlePlacing]
  (repeat' split) <;> first | rfl | simp

@[simp] theorem settlePlacing_lif_k (s : State) : (settlePlacing s).lif.k = s.lif.k := by
  dsimp only [settlePlacing]
  (repeat' split) <;> first | rfl | simp

@[simp] theorem settlePlacing_lif_burst (s : State) : (settlePlacing s).lif.burst = s.lif.burst := by
  dsimp only [settlePlacing]
  (repeat' split) <;> first | rfl | simp

@[simp] theorem settlePlacing_stc_config (s : State) : (settlePlacing s).stc.config = s.stc.config := by
  dsimp only [settlePlacing]
  (repeat' split) <;> first | rfl | simp

@[simp] theorem settlePlacing_stc_planLoss (s : State) : (settlePlacing s).stc.planLoss = s.stc.planLoss := by
  dsimp only [settlePlacing]
  (repeat' split) <;> first | rfl | simp

@[simp] theorem settlePlacing_stc_beaconTimer (s : State) : (settlePlacing s).stc.beaconTimer = s.stc.beaconTimer := by
  dsimp only [settlePlacing]
  (repeat' split) <;> first | rfl | simp

@[simp] theorem settlePlacing_stc_offlineReason (s : State) : (settlePlacing s).stc.offlineReason = s.stc.offlineReason := by
  dsimp only [settlePlacing]
  (repeat' split) <;> first | rfl | simp

@[simp] theorem settlePlacing_scu_censusTimer (s : State) : (settlePlacing s).scu.censusTimer = s.scu.censusTimer := by
  dsimp only [settlePlacing]
  (repeat' split) <;> first | rfl | simp

@[simp] theorem settlePlacing_rvu_mismatches (s : State) : (settlePlacing s).rvu.mismatches = s.rvu.mismatches := by
  dsimp only [settlePlacing]
  (repeat' split) <;> first | rfl | simp

@[simp] theorem settlePlacing_msq_lastReport (s : State) : (settlePlacing s).msq.lastReport = s.msq.lastReport := by
  dsimp only [settlePlacing]
  (repeat' split) <;> first | rfl | simp

@[simp] theorem settlePlacing_msq_standing (s : State) : (settlePlacing s).msq.standing = s.msq.standing := by
  dsimp only [settlePlacing]
  (repeat' split) <;> first | rfl | simp

@[simp] theorem settlePlacing_msq_driveSilence (s : State) : (settlePlacing s).msq.driveSilence = s.msq.driveSilence := by
  dsimp only [settlePlacing]
  (repeat' split) <;> first | rfl | simp

@[simp] theorem settleHandover_rvu_mismatches (s : State) : (settleHandover s).rvu.mismatches = s.rvu.mismatches := by
  dsimp only [settleHandover]
  (repeat' split) <;> first | rfl | simp

@[simp] theorem settleHandover_msq_lastCommand (s : State) : (settleHandover s).msq.lastCommand = s.msq.lastCommand := by
  dsimp only [settleHandover]
  (repeat' split) <;> first | rfl | simp

@[simp] theorem settleHandover_msq_lastReport (s : State) : (settleHandover s).msq.lastReport = s.msq.lastReport := by
  dsimp only [settleHandover]
  (repeat' split) <;> first | rfl | simp

@[simp] theorem settleHandover_msq_standing (s : State) : (settleHandover s).msq.standing = s.msq.standing := by
  dsimp only [settleHandover]
  (repeat' split) <;> first | rfl | simp

@[simp] theorem settleHandover_msq_driveSilence (s : State) : (settleHandover s).msq.driveSilence = s.msq.driveSilence := by
  dsimp only [settleHandover]
  (repeat' split) <;> first | rfl | simp

@[simp] theorem settleServe_lif_receiver (s : State) : (settleServe s).lif.receiver = s.lif.receiver := by
  dsimp only [settleServe]
  (repeat' split) <;> first | rfl | simp

@[simp] theorem settleServe_lif_k (s : State) : (settleServe s).lif.k = s.lif.k := by
  dsimp only [settleServe]
  (repeat' split) <;> first | rfl | simp

@[simp] theorem settleServe_lif_post (s : State) : (settleServe s).lif.post = s.lif.post := by
  dsimp only [settleServe]
  (repeat' split) <;> first | rfl | simp

@[simp] theorem settleServe_lif_answer (s : State) : (settleServe s).lif.answer = s.lif.answer := by
  dsimp only [settleServe]
  (repeat' split) <;> first | rfl | simp

@[simp] theorem settleServe_lif_silent (s : State) : (settleServe s).lif.silent = s.lif.silent := by
  dsimp only [settleServe]
  (repeat' split) <;> first | rfl | simp

@[simp] theorem settleServe_lif_deafness (s : State) : (settleServe s).lif.deafness = s.lif.deafness := by
  dsimp only [settleServe]
  (repeat' split) <;> first | rfl | simp

@[simp] theorem settleServe_lif_burst (s : State) : (settleServe s).lif.burst = s.lif.burst := by
  dsimp only [settleServe]
  (repeat' split) <;> first | rfl | simp

@[simp] theorem settleServe_scu_censusTimer (s : State) : (settleServe s).scu.censusTimer = s.scu.censusTimer := by
  dsimp only [settleServe]
  (repeat' split) <;> first | rfl | simp

@[simp] theorem settleServe_scu_replyQueued (s : State) : (settleServe s).scu.replyQueued = s.scu.replyQueued := by
  dsimp only [settleServe]
  (repeat' split) <;> first | rfl | simp

@[simp] theorem settleServe_msq_lastCommand (s : State) : (settleServe s).msq.lastCommand = s.msq.lastCommand := by
  dsimp only [settleServe]
  (repeat' split) <;> first | rfl | simp

@[simp] theorem settleServe_msq_lastReport (s : State) : (settleServe s).msq.lastReport = s.msq.lastReport := by
  dsimp only [settleServe]
  (repeat' split) <;> first | rfl | simp

@[simp] theorem settleServe_msq_standing (s : State) : (settleServe s).msq.standing = s.msq.standing := by
  dsimp only [settleServe]
  (repeat' split) <;> first | rfl | simp

@[simp] theorem settleServe_msq_driveSilence (s : State) : (settleServe s).msq.driveSilence = s.msq.driveSilence := by
  dsimp only [settleServe]
  (repeat' split) <;> first | rfl | simp

@[simp] theorem settleIdle_lif_receiver (s : State) : (settleIdle s).lif.receiver = s.lif.receiver := by
  dsimp only [settleIdle]
  (repeat' split) <;> first | rfl | simp

@[simp] theorem settleIdle_lif_k (s : State) : (settleIdle s).lif.k = s.lif.k := by
  dsimp only [settleIdle]
  (repeat' split) <;> first | rfl | simp

@[simp] theorem settleIdle_lif_post (s : State) : (settleIdle s).lif.post = s.lif.post := by
  dsimp only [settleIdle]
  (repeat' split) <;> first | rfl | simp

@[simp] theorem settleIdle_lif_answer (s : State) : (settleIdle s).lif.answer = s.lif.answer := by
  dsimp only [settleIdle]
  (repeat' split) <;> first | rfl | simp

@[simp] theorem settleIdle_lif_silent (s : State) : (settleIdle s).lif.silent = s.lif.silent := by
  dsimp only [settleIdle]
  (repeat' split) <;> first | rfl | simp

@[simp] theorem settleIdle_lif_deafness (s : State) : (settleIdle s).lif.deafness = s.lif.deafness := by
  dsimp only [settleIdle]
  (repeat' split) <;> first | rfl | simp

@[simp] theorem settleIdle_lif_burst (s : State) : (settleIdle s).lif.burst = s.lif.burst := by
  dsimp only [settleIdle]
  (repeat' split) <;> first | rfl | simp

@[simp] theorem settleIdle_scu_censusTimer (s : State) : (settleIdle s).scu.censusTimer = s.scu.censusTimer := by
  dsimp only [settleIdle]
  (repeat' split) <;> first | rfl | simp

@[simp] theorem settleIdle_scu_replyQueued (s : State) : (settleIdle s).scu.replyQueued = s.scu.replyQueued := by
  dsimp only [settleIdle]
  (repeat' split) <;> first | rfl | simp

@[simp] theorem settleIdle_msq_lastCommand (s : State) : (settleIdle s).msq.lastCommand = s.msq.lastCommand := by
  dsimp only [settleIdle]
  (repeat' split) <;> first | rfl | simp

@[simp] theorem settleIdle_msq_lastReport (s : State) : (settleIdle s).msq.lastReport = s.msq.lastReport := by
  dsimp only [settleIdle]
  (repeat' split) <;> first | rfl | simp

@[simp] theorem settleIdle_msq_standing (s : State) : (settleIdle s).msq.standing = s.msq.standing := by
  dsimp only [settleIdle]
  (repeat' split) <;> first | rfl | simp

@[simp] theorem settleIdle_msq_driveSilence (s : State) : (settleIdle s).msq.driveSilence = s.msq.driveSilence := by
  dsimp only [settleIdle]
  (repeat' split) <;> first | rfl | simp

@[simp] theorem settleSpace_lif_receiver (s : State) : (settleSpace s).lif.receiver = s.lif.receiver := by
  dsimp only [settleSpace]
  (repeat' split) <;> first | rfl | simp

@[simp] theorem settleSpace_lif_k (s : State) : (settleSpace s).lif.k = s.lif.k := by
  dsimp only [settleSpace]
  (repeat' split) <;> first | rfl | simp

@[simp] theorem settleSpace_lif_post (s : State) : (settleSpace s).lif.post = s.lif.post := by
  dsimp only [settleSpace]
  (repeat' split) <;> first | rfl | simp

@[simp] theorem settleSpace_lif_answer (s : State) : (settleSpace s).lif.answer = s.lif.answer := by
  dsimp only [settleSpace]
  (repeat' split) <;> first | rfl | simp

@[simp] theorem settleSpace_lif_silent (s : State) : (settleSpace s).lif.silent = s.lif.silent := by
  dsimp only [settleSpace]
  (repeat' split) <;> first | rfl | simp

@[simp] theorem settleSpace_lif_deafness (s : State) : (settleSpace s).lif.deafness = s.lif.deafness := by
  dsimp only [settleSpace]
  (repeat' split) <;> first | rfl | simp

@[simp] theorem settleSpace_lif_burst (s : State) : (settleSpace s).lif.burst = s.lif.burst := by
  dsimp only [settleSpace]
  (repeat' split) <;> first | rfl | simp

@[simp] theorem settleSpace_scu_censusTimer (s : State) : (settleSpace s).scu.censusTimer = s.scu.censusTimer := by
  dsimp only [settleSpace]
  (repeat' split) <;> first | rfl | simp

@[simp] theorem settleSpace_scu_replyQueued (s : State) : (settleSpace s).scu.replyQueued = s.scu.replyQueued := by
  dsimp only [settleSpace]
  (repeat' split) <;> first | rfl | simp

@[simp] theorem settleSpace_msq_lastCommand (s : State) : (settleSpace s).msq.lastCommand = s.msq.lastCommand := by
  dsimp only [settleSpace]
  (repeat' split) <;> first | rfl | simp

@[simp] theorem settleSpace_msq_lastReport (s : State) : (settleSpace s).msq.lastReport = s.msq.lastReport := by
  dsimp only [settleSpace]
  (repeat' split) <;> first | rfl | simp

@[simp] theorem settleSpace_msq_standing (s : State) : (settleSpace s).msq.standing = s.msq.standing := by
  dsimp only [settleSpace]
  (repeat' split) <;> first | rfl | simp

@[simp] theorem settleSpace_msq_driveSilence (s : State) : (settleSpace s).msq.driveSilence = s.msq.driveSilence := by
  dsimp only [settleSpace]
  (repeat' split) <;> first | rfl | simp

@[simp] theorem offerTake_lif_receiver (c : Candidate) (catchFlag : Bool) (s : State) : (offerTake c catchFlag s).lif.receiver = s.lif.receiver := by
  dsimp only [offerTake]
  (repeat' split) <;> first | rfl | simp

@[simp] theorem offerTake_lif_k (c : Candidate) (catchFlag : Bool) (s : State) : (offerTake c catchFlag s).lif.k = s.lif.k := by
  dsimp only [offerTake]
  (repeat' split) <;> first | rfl | simp

@[simp] theorem offerTake_lif_post (c : Candidate) (catchFlag : Bool) (s : State) : (offerTake c catchFlag s).lif.post = s.lif.post := by
  dsimp only [offerTake]
  (repeat' split) <;> first | rfl | simp

@[simp] theorem offerTake_lif_answer (c : Candidate) (catchFlag : Bool) (s : State) : (offerTake c catchFlag s).lif.answer = s.lif.answer := by
  dsimp only [offerTake]
  (repeat' split) <;> first | rfl | simp

@[simp] theorem offerTake_lif_silent (c : Candidate) (catchFlag : Bool) (s : State) : (offerTake c catchFlag s).lif.silent = s.lif.silent := by
  dsimp only [offerTake]
  (repeat' split) <;> first | rfl | simp

@[simp] theorem offerTake_lif_deafness (c : Candidate) (catchFlag : Bool) (s : State) : (offerTake c catchFlag s).lif.deafness = s.lif.deafness := by
  dsimp only [offerTake]
  (repeat' split) <;> first | rfl | simp

@[simp] theorem offerTake_lif_burst (c : Candidate) (catchFlag : Bool) (s : State) : (offerTake c catchFlag s).lif.burst = s.lif.burst := by
  dsimp only [offerTake]
  (repeat' split) <;> first | rfl | simp

@[simp] theorem offerTake_rvu_mismatches (c : Candidate) (catchFlag : Bool) (s : State) : (offerTake c catchFlag s).rvu.mismatches = s.rvu.mismatches := by
  dsimp only [offerTake]
  (repeat' split) <;> first | rfl | simp

@[simp] theorem settleTake_lif_receiver (s : State) : (settleTake s).lif.receiver = s.lif.receiver := by
  dsimp only [settleTake]
  (repeat' split) <;> first | rfl | simp

@[simp] theorem settleTake_lif_k (s : State) : (settleTake s).lif.k = s.lif.k := by
  dsimp only [settleTake]
  (repeat' split) <;> first | rfl | simp

@[simp] theorem settleTake_lif_post (s : State) : (settleTake s).lif.post = s.lif.post := by
  dsimp only [settleTake]
  (repeat' split) <;> first | rfl | simp

@[simp] theorem settleTake_lif_answer (s : State) : (settleTake s).lif.answer = s.lif.answer := by
  dsimp only [settleTake]
  (repeat' split) <;> first | rfl | simp

@[simp] theorem settleTake_lif_silent (s : State) : (settleTake s).lif.silent = s.lif.silent := by
  dsimp only [settleTake]
  (repeat' split) <;> first | rfl | simp

@[simp] theorem settleTake_lif_deafness (s : State) : (settleTake s).lif.deafness = s.lif.deafness := by
  dsimp only [settleTake]
  (repeat' split) <;> first | rfl | simp

@[simp] theorem settleTake_lif_burst (s : State) : (settleTake s).lif.burst = s.lif.burst := by
  dsimp only [settleTake]
  (repeat' split) <;> first | rfl | simp

@[simp] theorem settleTake_rvu_mismatches (s : State) : (settleTake s).rvu.mismatches = s.rvu.mismatches := by
  dsimp only [settleTake]
  (repeat' split) <;> first | rfl | simp

@[simp] theorem settleCensus_lif_receiver (s : State) : (settleCensus s).lif.receiver = s.lif.receiver := by
  dsimp only [settleCensus]
  (repeat' split) <;> first | rfl | simp

@[simp] theorem settleCensus_lif_k (s : State) : (settleCensus s).lif.k = s.lif.k := by
  dsimp only [settleCensus]
  (repeat' split) <;> first | rfl | simp

@[simp] theorem settleCensus_lif_post (s : State) : (settleCensus s).lif.post = s.lif.post := by
  dsimp only [settleCensus]
  (repeat' split) <;> first | rfl | simp

@[simp] theorem settleCensus_lif_answer (s : State) : (settleCensus s).lif.answer = s.lif.answer := by
  dsimp only [settleCensus]
  (repeat' split) <;> first | rfl | simp

@[simp] theorem settleCensus_lif_silent (s : State) : (settleCensus s).lif.silent = s.lif.silent := by
  dsimp only [settleCensus]
  (repeat' split) <;> first | rfl | simp

@[simp] theorem settleCensus_lif_deafness (s : State) : (settleCensus s).lif.deafness = s.lif.deafness := by
  dsimp only [settleCensus]
  (repeat' split) <;> first | rfl | simp

@[simp] theorem settleCensus_lif_burst (s : State) : (settleCensus s).lif.burst = s.lif.burst := by
  dsimp only [settleCensus]
  (repeat' split) <;> first | rfl | simp

@[simp] theorem settleCensus_scu_censusTimer (s : State) : (settleCensus s).scu.censusTimer = s.scu.censusTimer := by
  dsimp only [settleCensus]
  (repeat' split) <;> first | rfl | simp

@[simp] theorem settleCensus_scu_replyQueued (s : State) : (settleCensus s).scu.replyQueued = s.scu.replyQueued := by
  dsimp only [settleCensus]
  (repeat' split) <;> first | rfl | simp

end Sys2Proof.Machine
end

