-- ==== Sys2Proof/Laws/Keep.lean ====
section
/-! SUPPORT. What the blocks' own action keeps (`settle_runKept`, `settle_workKept`), piece by piece. -/

namespace Sys2Proof.Machine

open Sys2Proof

variable {s t u : State}

/-! ## Running -/

theorem RunKept.refl (s : State) : RunKept s s := by constructor <;> rfl

theorem RunKept.trans (h : RunKept s t) (k : RunKept t u) : RunKept s u where
  outer := k.outer.trans h.outer
  log := k.log.trans h.log
  identity := k.identity.trans h.identity
  rosters := k.rosters.trans h.rosters
  config := k.config.trans h.config
  planLoss := k.planLoss.trans h.planLoss
  beaconTimer := k.beaconTimer.trans h.beaconTimer
  offline := k.offline.trans h.offline
  jtb := k.jtb.trans h.jtb
  space := k.space.trans h.space
  claimState := k.claimState.trans h.claimState
  censusTimer := k.censusTimer.trans h.censusTimer
  mismatches := k.mismatches.trans h.mismatches
  report := k.report.trans h.report
  receiver := k.receiver.trans h.receiver
  collisions := k.collisions.trans h.collisions

theorem settleHalt_runKept (s : State) : RunKept s (settleHalt s) := by constructor <;> simp
theorem settleClaim_runKept (s : State) : RunKept s (settleClaim s) := by constructor <;> simp
theorem settleAction_runKept (s : State) : RunKept s (settleAction s) := by constructor <;> simp
theorem settlePlacing_runKept (s : State) : RunKept s (settlePlacing s) := by constructor <;> simp
theorem settleHandover_runKept (s : State) : RunKept s (settleHandover s) := by constructor <;> simp
theorem settleServe_runKept (s : State) : RunKept s (settleServe s) := by constructor <;> simp
theorem settleIdle_runKept (s : State) : RunKept s (settleIdle s) := by constructor <;> simp
theorem settleSpace_runKept (s : State) : RunKept s (settleSpace s) := by constructor <;> simp
theorem settleTake_runKept (s : State) : RunKept s (settleTake s) := by constructor <;> simp
theorem settleCensus_runKept (s : State) : RunKept s (settleCensus s) := by constructor <;> simp
theorem regap_runKept (s : State) : RunKept s (regap s) := by constructor <;> simp

/-- A running part has no restart to begin of itself. -/
theorem settleRestart_idle (h : s.flu.fence ≠ .restartWait) : settleRestart s = s := by
  simp [settleRestart, h]

theorem settleAction_fence (h : s.flu.fence = .noFence ∨ s.flu.fence = .acting 0 ∨ s.flu.fence = .silent ∨
    s.flu.fence = .haltAll) : (settleAction s).flu.fence ≠ .restartWait := by
  rcases h with h | h | h | h <;> simp only [settleAction, h] <;> (repeat' split) <;> simp_all

/-- What the blocks' own action keeps in a running part. -/
theorem settle_runKept (h : s.Running) : RunKept s (settle s) := by
  have hf : (settleAction (settleClaim (settleHalt s))).flu.fence ≠ .restartWait :=
    settleAction_fence (by simpa using h.noFence1)
  rw [settle, if_neg (by simp [h.noLift]), settleRestart_idle hf]
  exact (settleHalt_runKept _).trans <| (settleClaim_runKept _).trans <| (settleAction_runKept _).trans <|
    (settlePlacing_runKept _).trans <| (settleHandover_runKept _).trans <| (settleServe_runKept _).trans <|
    (settleIdle_runKept _).trans <| (settleSpace_runKept _).trans <| (settleTake_runKept _).trans <|
    (settleCensus_runKept _).trans (regap_runKept _)

/-! ## At work -/

theorem WorkKept.refl (s : State) : WorkKept s s where
  toRunKept := .refl s
  meu := rfl
  flu := rfl
  post := rfl
  answer := rfl
  silent := rfl
  deafness := rfl
  burst := rfl
  join := rfl
  restart := rfl
  reply := rfl
  command := rfl
  standing := rfl
  drive := rfl
  offered _ h _ := h
  motion _ := rfl
  current _ _ := ⟨rfl, rfl⟩

theorem WorkKept.trans (h : WorkKept s t) (k : WorkKept t u) : WorkKept s u where
  toRunKept := h.toRunKept.trans k.toRunKept
  meu := k.meu.trans h.meu
  flu := k.flu.trans h.flu
  post := k.post.trans h.post
  answer := k.answer.trans h.answer
  silent := k.silent.trans h.silent
  deafness := k.deafness.trans h.deafness
  burst := k.burst.trans h.burst
  join := k.join.trans h.join
  restart := k.restart.trans h.restart
  reply := k.reply.trans h.reply
  command := k.command.trans h.command
  standing := k.standing.trans h.standing
  drive := k.drive.trans h.drive
  offered f hf hj := k.offered f (h.offered f hf hj) hj
  motion he := (k.motion ((h.motion he).symm ▸ he)).trans (h.motion he)
  current he hm := by
    obtain ⟨hc, hn⟩ := h.current he hm
    obtain ⟨hc', hn'⟩ := k.current ((h.motion he).symm ▸ he) (by rw [hc]; exact hm)
    exact ⟨hc'.trans hc, hn'.trans hn⟩

/-! ### What stays offered -/

theorem pushWork_offered {g f : TxFrame} (h : f ∈ s.offered) : f ∈ (pushWork g s).offered := by
  simp only [State.offered, pushWork, State.onLif_lif, List.mem_append] at *
  tauto

theorem offerWork_offered {g f : TxFrame} (h : f ∈ s.offered) : f ∈ (offerWork g s).offered := by
  simp only [offerWork]
  (repeat' split) <;> first | exact h | exact pushWork_offered h | skip
  simp only [State.offered, State.onLif_lif, List.mem_append] at *
  tauto

/-- A frame that the WORK queue takes, or its block holds, is offered afterwards (R14). -/
theorem offerWork_mem {g : TxFrame} (h1 : s.lif.silent = false) (h2 : s.lifting = false) :
    g ∈ (offerWork g s).offered := by
  simp only [offerWork, h1, h2]
  split
  · simp_all
  · split
    · simp [State.offered, pushWork]
    · split
      · simp_all [State.offered]
      · simp [State.offered]

theorem offered_of_lif (h : t.lif.work = s.lif.work) (h' : t.lif.held = s.lif.held) : t.offered = s.offered := by
  simp [State.offered, h, h']

theorem endMember_offered {f : TxFrame} (job : Nat) (h : f ∈ s.offered) (hj : ∀ j, isReadingOf j f = false) :
    f ∈ (endMember job s).offered := by
  simp only [State.offered, endMember, State.onRvu_lif, State.onLif_lif, List.mem_append, List.mem_filter] at *
  simp only [hj, Bool.not_false, and_true]
  exact h

theorem onScu_offered (g : Scu → Scu) : (s.onScu g).offered = s.offered := rfl
theorem onMsq_offered (g : Msq → Msq) : (s.onMsq g).offered = s.offered := rfl
theorem onStc_offered (g : Stc → Stc) : (s.onStc g).offered = s.offered := rfl
theorem onRvu_offered (g : Rvu → Rvu) : (s.onRvu g).offered = s.offered := rfl
theorem onMeu_offered (g : Meu → Meu) : (s.onMeu g).offered = s.offered := rfl
theorem onFlu_offered (g : Flu → Flu) : (s.onFlu g).offered = s.offered := rfl

theorem offerSafety_offered (g : TxFrame) : (offerSafety g s).offered = s.offered := by
  simp only [offerSafety, askReplacement, updTx]
  (repeat' split) <;> rfl

theorem withdrawClaim_offered : (withdrawClaim s).offered = s.offered := by
  simp only [withdrawClaim, updTx, filterSafety]
  (repeat' split) <;> rfl

theorem changeBeacon_offered {f : TxFrame} (h : f ∈ s.offered) : f ∈ (changeBeacon s).offered := by
  simp only [changeBeacon, offerBeacon]
  (repeat' split) <;> first | exact h | exact offerWork_offered h

theorem idleOrParked_offered {f : TxFrame} (h : f ∈ s.offered) : f ∈ (idleOrParked s).offered := by
  simp only [idleOrParked, enterParked, enterIdle]
  split
  · exact h
  · exact changeBeacon_offered h

theorem reportVoid_offered {f : TxFrame} (h : f ∈ s.offered) (hj : ∀ j, isReadingOf j f = false) :
    f ∈ (reportVoid s).offered := by
  simp only [reportVoid, spaceDrop, enterWaitSpace, startSpaceWait]
  (repeat' split) <;>
    first
      | exact h
      | exact idleOrParked_offered h
      | exact idleOrParked_offered (endMember_offered _ (offerWork_offered h) hj)

theorem withdrawAndReport_offered {f : TxFrame} (h : f ∈ s.offered) (hj : ∀ j, isReadingOf j f = false) :
    f ∈ (withdrawAndReport s).offered := by
  simp only [withdrawAndReport]
  split
  · exact reportVoid_offered (by rwa [withdrawClaim_offered]) hj
  · rwa [withdrawClaim_offered]

theorem askTravel_offered : (askTravel s).offered = s.offered := by
  simp only [askTravel, enterWaitSpace, startSpaceWait, queueClaim]
  split
  · rfl
  · rw [onMsq_offered, offerSafety_offered, onScu_offered]

theorem askPark_offered : (askPark s).offered = s.offered := by
  simp only [askPark, queueClaim]
  split
  · rfl
  · rw [onMsq_offered, offerSafety_offered, onScu_offered]

/-! ### Motion -/

theorem reportVoid_engaged (h : s.msq.motion.engaged = true) : reportVoid s = s := by
  simp only [reportVoid]
  split <;> simp_all [MotionState.engaged]

/-! ### Piece by piece -/

theorem settleHalt_idle (h : s.halt = false) : settleHalt s = s := by simp [settleHalt, h]
theorem settleAction_idle (h : s.flu.fence = .noFence) : settleAction s = s := by simp [settleAction, h]
theorem settlePlacing_idle (h : s.msq.motion ≠ .joining) : settlePlacing s = s := by
  simp only [settlePlacing]
  split <;> simp_all

theorem withdrawAndReport_engaged (h : s.msq.motion.engaged = true) : withdrawAndReport s = withdrawClaim s := by
  simp only [withdrawAndReport]
  split
  · exact reportVoid_engaged (by simpa using h)
  · rfl

theorem settleClaim_workKept (s : State) : WorkKept s (settleClaim s) where
  toRunKept := settleClaim_runKept s
  meu := by simp
  flu := by simp
  post := by simp
  answer := by simp
  silent := by simp
  deafness := by simp
  burst := by simp
  join := by simp
  restart := by simp
  reply := by simp
  command := by simp
  standing := by simp
  drive := by simp
  offered f h hj := by
    simp only [settleClaim]
    split
    · exact withdrawAndReport_offered h hj
    · exact h
  motion h := by
    simp only [settleClaim]
    split
    · simp [withdrawAndReport_engaged h]
    · rfl
  current h _ := by
    simp only [settleClaim]
    split
    · simp [withdrawAndReport_engaged h]
    · exact ⟨rfl, rfl⟩

theorem settleHandover_workKept (s : State) : WorkKept s (settleHandover s) where
  toRunKept := settleHandover_runKept s
  meu := by simp
  flu := by simp
  post := by simp
  answer := by simp
  silent := by simp
  deafness := by simp
  burst := by simp
  join := by simp
  restart := by simp
  reply := by simp
  command := by simp
  standing := by simp
  drive := by simp
  offered f h _ := by
    simp only [settleHandover]
    (repeat' split) <;> exact h
  motion h := by
    simp only [settleHandover]
    (repeat' split) <;> rfl
  current h hm := by
    simp only [settleHandover]
    (repeat' split) <;> simp_all

theorem settleServe_workKept (s : State) : WorkKept s (settleServe s) where
  toRunKept := settleServe_runKept s
  meu := by simp
  flu := by simp
  post := by simp
  answer := by simp
  silent := by simp
  deafness := by simp
  burst := by simp
  join := by simp
  restart := by simp
  reply := by simp
  command := by simp
  standing := by simp
  drive := by simp
  offered f h _ := by
    simp only [settleServe]
    (repeat' split) <;> first | exact h | (rw [askTravel_offered]; exact h)
  motion h := by
    simp only [settleServe]
    (repeat' split)
    · rename_i hm
      rcases hm with hm | hm <;> simp [hm, MotionState.engaged] at h
    · rfl
    · rfl
  current h hm := by simp

theorem settleIdle_workKept (s : State) : WorkKept s (settleIdle s) where
  toRunKept := settleIdle_runKept s
  meu := by simp
  flu := by simp
  post := by simp
  answer := by simp
  silent := by simp
  deafness := by simp
  burst := by simp
  join := by simp
  restart := by simp
  reply := by simp
  command := by simp
  standing := by simp
  drive := by simp
  offered f h _ := by
    simp only [settleIdle]
    (repeat' split) <;> first | exact h | (rw [askPark_offered]; exact h)
  motion h := by
    simp only [settleIdle]
    (repeat' split) <;> simp_all [MotionState.engaged]
  current h hm := by simp

theorem settleSpace_workKept (s : State) : WorkKept s (settleSpace s) where
  toRunKept := settleSpace_runKept s
  meu := by simp
  flu := by simp
  post := by simp
  answer := by simp
  silent := by simp
  deafness := by simp
  burst := by simp
  join := by simp
  restart := by simp
  reply := by simp
  command := by simp
  standing := by simp
  drive := by simp
  offered f h _ := by
    simp only [settleSpace]
    (repeat' split) <;> first | exact h | (rw [askTravel_offered]; exact h) | (rw [askPark_offered]; exact h)
  motion h := by
    simp only [settleSpace]
    (repeat' split) <;> simp_all [MotionState.engaged]
  current h hm := by simp

theorem settleTake_workKept (s : State) : WorkKept s (settleTake s) where
  toRunKept := settleTake_runKept s
  meu := by simp
  flu := by simp
  post := by simp
  answer := by simp
  silent := by simp
  deafness := by simp
  burst := by simp
  join := by simp
  restart := by simp
  reply := by simp
  command := by simp
  standing := by simp
  drive := by simp
  offered f h _ := by
    simp only [settleTake, offerTake]
    (repeat' split) <;> first | exact h | exact offerWork_offered h
  motion h := by simp
  current h hm := by
    simp only [settleTake, offerTake]
    (repeat' split) <;> simp

theorem settleCensus_workKept (s : State) : WorkKept s (settleCensus s) where
  toRunKept := settleCensus_runKept s
  meu := by simp
  flu := by simp
  post := by simp
  answer := by simp
  silent := by simp
  deafness := by simp
  burst := by simp
  join := by simp
  restart := by simp
  reply := by simp
  command := by simp
  standing := by simp
  drive := by simp
  offered f h _ := by
    simp only [settleCensus]
    split
    · rw [offerSafety_offered]; exact h
    · exact h
  motion h := by simp
  current h hm := by simp

theorem regap_workKept (s : State) : WorkKept s (regap s) where
  toRunKept := regap_runKept s
  meu := by simp
  flu := by simp
  post := by simp
  answer := by simp
  silent := by simp
  deafness := by simp
  burst := by simp
  join := by simp
  restart := by simp
  reply := by simp
  command := by simp
  standing := by simp
  drive := by simp
  offered f h _ := h
  motion h := by simp
  current h hm := by simp

theorem settleClaim_joining (h : (settleClaim s).msq.motion = .joining) : s.msq.motion = .joining := by
  by_cases he : s.msq.motion.engaged = true
  · rwa [(settleClaim_workKept s).motion he] at h
  · simp only [settleClaim, withdrawAndReport, reportVoid, idleOrParked, enterParked, changeBeacon, enterIdle, spaceDrop,
      enterWaitSpace, startSpaceWait] at h
    revert h
    (repeat' split) <;> simp_all

/-- What the blocks' own action keeps in a part at work. -/
theorem settle_workKept (h : s.AtWork) : WorkKept s (settle s) := by
  have hf : (settleClaim s).flu.fence = .noFence := by simpa using h.noFence
  have hr : settleRestart (settleClaim s) = settleClaim s := settleRestart_idle (by simp [h.noFence])
  rw [settle, if_neg (by simp [h.noLift]), settleHalt_idle h.noHalt, settleAction_idle hf, hr,
    settlePlacing_idle fun hj => h.joined (settleClaim_joining hj)]
  exact (settleClaim_workKept _).trans <| (settleHandover_workKept _).trans <| (settleServe_workKept _).trans <|
    (settleIdle_workKept _).trans <| (settleSpace_workKept _).trans <| (settleTake_workKept _).trans <|
    (settleCensus_workKept _).trans (regap_workKept _)

end Sys2Proof.Machine
end

