-- ==== Sys2Proof/Laws/Stations.lean ====
section
/-! SUPPORT. What the operations of Machine/Stations.lean leave alone: one lemma for each block and each view of the state that an
operation does not touch. -/

namespace Sys2Proof.Machine

open Sys2Proof

variable {s : State}

@[simp] theorem storeMotion_lif (n : Nat) (m : Option MotionState) (s : State) : (storeMotion n m s).lif = s.lif := by
  dsimp only [storeMotion]
  (repeat' split) <;> first | rfl | simp

@[simp] theorem storeMotion_jtb (n : Nat) (m : Option MotionState) (s : State) : (storeMotion n m s).jtb = s.jtb := by
  dsimp only [storeMotion]
  (repeat' split) <;> first | rfl | simp

@[simp] theorem storeMotion_rvu (n : Nat) (m : Option MotionState) (s : State) : (storeMotion n m s).rvu = s.rvu := by
  dsimp only [storeMotion]
  (repeat' split) <;> first | rfl | simp

@[simp] theorem storeMotion_scu (n : Nat) (m : Option MotionState) (s : State) : (storeMotion n m s).scu = s.scu := by
  dsimp only [storeMotion]
  (repeat' split) <;> first | rfl | simp

@[simp] theorem storeMotion_msq (n : Nat) (m : Option MotionState) (s : State) : (storeMotion n m s).msq = s.msq := by
  dsimp only [storeMotion]
  (repeat' split) <;> first | rfl | simp

@[simp] theorem storeMotion_meu (n : Nat) (m : Option MotionState) (s : State) : (storeMotion n m s).meu = s.meu := by
  dsimp only [storeMotion]
  (repeat' split) <;> first | rfl | simp

@[simp] theorem storeMotion_flu (n : Nat) (m : Option MotionState) (s : State) : (storeMotion n m s).flu = s.flu := by
  dsimp only [storeMotion]
  (repeat' split) <;> first | rfl | simp

@[simp] theorem storeMotion_outer (n : Nat) (m : Option MotionState) (s : State) : (storeMotion n m s).outer = s.outer := by
  dsimp only [storeMotion]
  (repeat' split) <;> first | rfl | simp

@[simp] theorem storeMotion_log (n : Nat) (m : Option MotionState) (s : State) : (storeMotion n m s).log = s.log := by
  dsimp only [storeMotion]
  (repeat' split) <;> first | rfl | simp

@[simp] theorem storeMotion_identity (n : Nat) (m : Option MotionState) (s : State) : (storeMotion n m s).identity = s.identity := by
  dsimp only [storeMotion]
  (repeat' split) <;> first | rfl | simp

@[simp] theorem storeMotion_space (n : Nat) (m : Option MotionState) (s : State) : (storeMotion n m s).space = s.space := by
  dsimp only [storeMotion]
  (repeat' split) <;> first | rfl | simp

@[simp] theorem storeMotion_claimState (n : Nat) (m : Option MotionState) (s : State) : (storeMotion n m s).claimState = s.claimState := by
  dsimp only [storeMotion]
  (repeat' split) <;> first | rfl | simp

@[simp] theorem storeMotion_driveState (n : Nat) (m : Option MotionState) (s : State) : (storeMotion n m s).driveState = s.driveState := by
  dsimp only [storeMotion]
  (repeat' split) <;> first | rfl | simp

@[simp] theorem storeMotion_faultState (n : Nat) (m : Option MotionState) (s : State) : (storeMotion n m s).faultState = s.faultState := by
  dsimp only [storeMotion]
  (repeat' split) <;> first | rfl | simp

@[simp] theorem storeMotion_fenceState (n : Nat) (m : Option MotionState) (s : State) : (storeMotion n m s).fenceState = s.fenceState := by
  dsimp only [storeMotion]
  (repeat' split) <;> first | rfl | simp

@[simp] theorem hearBeacon_jtb (f : RxFrame) (s : State) : (hearBeacon f s).jtb = s.jtb := by
  dsimp only [hearBeacon, unlessLift]
  (repeat' split) <;> first | rfl | simp

@[simp] theorem hearBeacon_outer (f : RxFrame) (s : State) : (hearBeacon f s).outer = s.outer := by
  dsimp only [hearBeacon, unlessLift]
  (repeat' split) <;> first | rfl | simp

@[simp] theorem hearBeacon_log (f : RxFrame) (s : State) : (hearBeacon f s).log = s.log := by
  dsimp only [hearBeacon, unlessLift]
  (repeat' split) <;> first | rfl | simp

@[simp] theorem hearBeacon_identity (f : RxFrame) (s : State) : (hearBeacon f s).identity = s.identity := by
  dsimp only [hearBeacon, unlessLift]
  (repeat' split) <;> first | rfl | simp

@[simp] theorem hearFault_jtb (f : RxFrame) (s : State) : (hearFault f s).jtb = s.jtb := by
  dsimp only [hearFault]
  (repeat' split) <;> first | rfl | simp

@[simp] theorem hearFault_outer (f : RxFrame) (s : State) : (hearFault f s).outer = s.outer := by
  dsimp only [hearFault]
  (repeat' split) <;> first | rfl | simp

@[simp] theorem hearFault_log (f : RxFrame) (s : State) : (hearFault f s).log = s.log := by
  dsimp only [hearFault]
  (repeat' split) <;> first | rfl | simp

@[simp] theorem hearFault_identity (f : RxFrame) (s : State) : (hearFault f s).identity = s.identity := by
  dsimp only [hearFault]
  (repeat' split) <;> first | rfl | simp

@[simp] theorem hearStatus_lif (f : RxFrame) (s : State) : (hearStatus f s).lif = s.lif := by
  dsimp only [hearStatus]
  (repeat' split) <;> first | rfl | simp

@[simp] theorem hearStatus_jtb (f : RxFrame) (s : State) : (hearStatus f s).jtb = s.jtb := by
  dsimp only [hearStatus]
  (repeat' split) <;> first | rfl | simp

@[simp] theorem hearStatus_rvu (f : RxFrame) (s : State) : (hearStatus f s).rvu = s.rvu := by
  dsimp only [hearStatus]
  (repeat' split) <;> first | rfl | simp

@[simp] theorem hearStatus_scu (f : RxFrame) (s : State) : (hearStatus f s).scu = s.scu := by
  dsimp only [hearStatus]
  (repeat' split) <;> first | rfl | simp

@[simp] theorem hearStatus_msq (f : RxFrame) (s : State) : (hearStatus f s).msq = s.msq := by
  dsimp only [hearStatus]
  (repeat' split) <;> first | rfl | simp

@[simp] theorem hearStatus_meu (f : RxFrame) (s : State) : (hearStatus f s).meu = s.meu := by
  dsimp only [hearStatus]
  (repeat' split) <;> first | rfl | simp

@[simp] theorem hearStatus_flu (f : RxFrame) (s : State) : (hearStatus f s).flu = s.flu := by
  dsimp only [hearStatus]
  (repeat' split) <;> first | rfl | simp

@[simp] theorem hearStatus_outer (f : RxFrame) (s : State) : (hearStatus f s).outer = s.outer := by
  dsimp only [hearStatus]
  (repeat' split) <;> first | rfl | simp

@[simp] theorem hearStatus_log (f : RxFrame) (s : State) : (hearStatus f s).log = s.log := by
  dsimp only [hearStatus]
  (repeat' split) <;> first | rfl | simp

@[simp] theorem hearStatus_identity (f : RxFrame) (s : State) : (hearStatus f s).identity = s.identity := by
  dsimp only [hearStatus]
  (repeat' split) <;> first | rfl | simp

@[simp] theorem hearStatus_space (f : RxFrame) (s : State) : (hearStatus f s).space = s.space := by
  dsimp only [hearStatus]
  (repeat' split) <;> first | rfl | simp

@[simp] theorem hearStatus_claimState (f : RxFrame) (s : State) : (hearStatus f s).claimState = s.claimState := by
  dsimp only [hearStatus]
  (repeat' split) <;> first | rfl | simp

@[simp] theorem hearStatus_driveState (f : RxFrame) (s : State) : (hearStatus f s).driveState = s.driveState := by
  dsimp only [hearStatus]
  (repeat' split) <;> first | rfl | simp

@[simp] theorem hearStatus_faultState (f : RxFrame) (s : State) : (hearStatus f s).faultState = s.faultState := by
  dsimp only [hearStatus]
  (repeat' split) <;> first | rfl | simp

@[simp] theorem hearStatus_fenceState (f : RxFrame) (s : State) : (hearStatus f s).fenceState = s.fenceState := by
  dsimp only [hearStatus]
  (repeat' split) <;> first | rfl | simp

@[simp] theorem emptyTable_lif (s : State) : (emptyTable s).lif = s.lif := by
  dsimp only [emptyTable]
  (repeat' split) <;> first | rfl | simp

@[simp] theorem emptyTable_stc (s : State) : (emptyTable s).stc = s.stc := by
  dsimp only [emptyTable]
  (repeat' split) <;> first | rfl | simp

@[simp] theorem emptyTable_rvu (s : State) : (emptyTable s).rvu = s.rvu := by
  dsimp only [emptyTable]
  (repeat' split) <;> first | rfl | simp

@[simp] theorem emptyTable_scu (s : State) : (emptyTable s).scu = s.scu := by
  dsimp only [emptyTable]
  (repeat' split) <;> first | rfl | simp

@[simp] theorem emptyTable_msq (s : State) : (emptyTable s).msq = s.msq := by
  dsimp only [emptyTable]
  (repeat' split) <;> first | rfl | simp

@[simp] theorem emptyTable_meu (s : State) : (emptyTable s).meu = s.meu := by
  dsimp only [emptyTable]
  (repeat' split) <;> first | rfl | simp

@[simp] theorem emptyTable_flu (s : State) : (emptyTable s).flu = s.flu := by
  dsimp only [emptyTable]
  (repeat' split) <;> first | rfl | simp

@[simp] theorem emptyTable_outer (s : State) : (emptyTable s).outer = s.outer := by
  dsimp only [emptyTable]
  (repeat' split) <;> first | rfl | simp

@[simp] theorem emptyTable_log (s : State) : (emptyTable s).log = s.log := by
  dsimp only [emptyTable]
  (repeat' split) <;> first | rfl | simp

@[simp] theorem emptyTable_identity (s : State) : (emptyTable s).identity = s.identity := by
  dsimp only [emptyTable]
  (repeat' split) <;> first | rfl | simp

@[simp] theorem emptyTable_rosters (s : State) : (emptyTable s).rosters = s.rosters := by
  dsimp only [emptyTable]
  (repeat' split) <;> first | rfl | simp

@[simp] theorem emptyTable_space (s : State) : (emptyTable s).space = s.space := by
  dsimp only [emptyTable]
  (repeat' split) <;> first | rfl | simp

@[simp] theorem emptyTable_claimState (s : State) : (emptyTable s).claimState = s.claimState := by
  dsimp only [emptyTable]
  (repeat' split) <;> first | rfl | simp

@[simp] theorem emptyTable_driveState (s : State) : (emptyTable s).driveState = s.driveState := by
  dsimp only [emptyTable]
  (repeat' split) <;> first | rfl | simp

@[simp] theorem emptyTable_faultState (s : State) : (emptyTable s).faultState = s.faultState := by
  dsimp only [emptyTable]
  (repeat' split) <;> first | rfl | simp

@[simp] theorem emptyTable_fenceState (s : State) : (emptyTable s).fenceState = s.fenceState := by
  dsimp only [emptyTable]
  (repeat' split) <;> first | rfl | simp

@[simp] theorem beaconIfParked_jtb (s : State) : (beaconIfParked s).jtb = s.jtb := by
  dsimp only [beaconIfParked]
  (repeat' split) <;> first | rfl | simp

@[simp] theorem beaconIfParked_rvu (s : State) : (beaconIfParked s).rvu = s.rvu := by
  dsimp only [beaconIfParked]
  (repeat' split) <;> first | rfl | simp

@[simp] theorem beaconIfParked_scu (s : State) : (beaconIfParked s).scu = s.scu := by
  dsimp only [beaconIfParked]
  (repeat' split) <;> first | rfl | simp

@[simp] theorem beaconIfParked_msq (s : State) : (beaconIfParked s).msq = s.msq := by
  dsimp only [beaconIfParked]
  (repeat' split) <;> first | rfl | simp

@[simp] theorem beaconIfParked_meu (s : State) : (beaconIfParked s).meu = s.meu := by
  dsimp only [beaconIfParked]
  (repeat' split) <;> first | rfl | simp

@[simp] theorem beaconIfParked_flu (s : State) : (beaconIfParked s).flu = s.flu := by
  dsimp only [beaconIfParked]
  (repeat' split) <;> first | rfl | simp

@[simp] theorem beaconIfParked_outer (s : State) : (beaconIfParked s).outer = s.outer := by
  dsimp only [beaconIfParked]
  (repeat' split) <;> first | rfl | simp

@[simp] theorem beaconIfParked_log (s : State) : (beaconIfParked s).log = s.log := by
  dsimp only [beaconIfParked]
  (repeat' split) <;> first | rfl | simp

@[simp] theorem beaconIfParked_identity (s : State) : (beaconIfParked s).identity = s.identity := by
  dsimp only [beaconIfParked]
  (repeat' split) <;> first | rfl | simp

@[simp] theorem beaconIfParked_rosters (s : State) : (beaconIfParked s).rosters = s.rosters := by
  dsimp only [beaconIfParked]
  (repeat' split) <;> first | rfl | simp

@[simp] theorem beaconIfParked_space (s : State) : (beaconIfParked s).space = s.space := by
  dsimp only [beaconIfParked]
  (repeat' split) <;> first | rfl | simp

@[simp] theorem beaconIfParked_claimState (s : State) : (beaconIfParked s).claimState = s.claimState := by
  dsimp only [beaconIfParked]
  (repeat' split) <;> first | rfl | simp

@[simp] theorem beaconIfParked_driveState (s : State) : (beaconIfParked s).driveState = s.driveState := by
  dsimp only [beaconIfParked]
  (repeat' split) <;> first | rfl | simp

@[simp] theorem beaconIfParked_faultState (s : State) : (beaconIfParked s).faultState = s.faultState := by
  dsimp only [beaconIfParked]
  (repeat' split) <;> first | rfl | simp

@[simp] theorem beaconIfParked_fenceState (s : State) : (beaconIfParked s).fenceState = s.fenceState := by
  dsimp only [beaconIfParked]
  (repeat' split) <;> first | rfl | simp

@[simp] theorem takeBoardOut_outer (s : State) : (takeBoardOut s).outer = s.outer := by
  dsimp only [takeBoardOut]
  (repeat' split) <;> first | rfl | simp

@[simp] theorem takeBoardOut_log (s : State) : (takeBoardOut s).log = s.log := by
  dsimp only [takeBoardOut]
  (repeat' split) <;> first | rfl | simp

@[simp] theorem takeBoardOut_identity (s : State) : (takeBoardOut s).identity = s.identity := by
  dsimp only [takeBoardOut]
  (repeat' split) <;> first | rfl | simp

@[simp] theorem takeBoardOut_rosters (s : State) : (takeBoardOut s).rosters = s.rosters := by
  dsimp only [takeBoardOut]
  (repeat' split) <;> first | rfl | simp

@[simp] theorem takeBoardOut_space (s : State) : (takeBoardOut s).space = s.space := by
  dsimp only [takeBoardOut]
  (repeat' split) <;> first | rfl | simp

@[simp] theorem takeBoardIn_outer (n : Nat) (s : State) : (takeBoardIn n s).outer = s.outer := by
  dsimp only [takeBoardIn]
  (repeat' split) <;> first | rfl | simp

@[simp] theorem takeBoardIn_log (n : Nat) (s : State) : (takeBoardIn n s).log = s.log := by
  dsimp only [takeBoardIn]
  (repeat' split) <;> first | rfl | simp

@[simp] theorem takeBoardIn_identity (n : Nat) (s : State) : (takeBoardIn n s).identity = s.identity := by
  dsimp only [takeBoardIn]
  (repeat' split) <;> first | rfl | simp

@[simp] theorem takeBoardIn_rosters (n : Nat) (s : State) : (takeBoardIn n s).rosters = s.rosters := by
  dsimp only [takeBoardIn]
  (repeat' split) <;> first | rfl | simp

@[simp] theorem takeBoardIn_space (n : Nat) (s : State) : (takeBoardIn n s).space = s.space := by
  dsimp only [takeBoardIn]
  (repeat' split) <;> first | rfl | simp

@[simp] theorem takeRestart_outer (prom : Option (List Byte)) (s : State) : (takeRestart prom s).outer = s.outer := by
  dsimp only [takeRestart]
  (repeat' split) <;> first | rfl | simp

@[simp] theorem takeRestart_log (prom : Option (List Byte)) (s : State) : (takeRestart prom s).log = s.log := by
  dsimp only [takeRestart]
  (repeat' split) <;> first | rfl | simp

@[simp] theorem takeRestart_identity (prom : Option (List Byte)) (s : State) : (takeRestart prom s).identity = s.identity := by
  dsimp only [takeRestart]
  (repeat' split) <;> first | rfl | simp

@[simp] theorem endRestartWait_outer (s : State) : (endRestartWait s).outer = s.outer := by
  dsimp only [endRestartWait]
  (repeat' split) <;> first | rfl | simp

@[simp] theorem endRestartWait_log (s : State) : (endRestartWait s).log = s.log := by
  dsimp only [endRestartWait]
  (repeat' split) <;> first | rfl | simp

@[simp] theorem endRestartWait_identity (s : State) : (endRestartWait s).identity = s.identity := by
  dsimp only [endRestartWait]
  (repeat' split) <;> first | rfl | simp

@[simp] theorem clearLogs_stc (s : State) : (clearLogs s).stc = s.stc := by
  dsimp only [clearLogs]
  (repeat' split) <;> first | rfl | simp

@[simp] theorem clearLogs_jtb (s : State) : (clearLogs s).jtb = s.jtb := by
  dsimp only [clearLogs]
  (repeat' split) <;> first | rfl | simp

@[simp] theorem clearLogs_rvu (s : State) : (clearLogs s).rvu = s.rvu := by
  dsimp only [clearLogs]
  (repeat' split) <;> first | rfl | simp

@[simp] theorem clearLogs_scu (s : State) : (clearLogs s).scu = s.scu := by
  dsimp only [clearLogs]
  (repeat' split) <;> first | rfl | simp

@[simp] theorem clearLogs_msq (s : State) : (clearLogs s).msq = s.msq := by
  dsimp only [clearLogs]
  (repeat' split) <;> first | rfl | simp

@[simp] theorem clearLogs_meu (s : State) : (clearLogs s).meu = s.meu := by
  dsimp only [clearLogs]
  (repeat' split) <;> first | rfl | simp

@[simp] theorem clearLogs_outer (s : State) : (clearLogs s).outer = s.outer := by
  dsimp only [clearLogs]
  (repeat' split) <;> first | rfl | simp

@[simp] theorem clearLogs_identity (s : State) : (clearLogs s).identity = s.identity := by
  dsimp only [clearLogs]
  (repeat' split) <;> first | rfl | simp

@[simp] theorem clearLogs_rosters (s : State) : (clearLogs s).rosters = s.rosters := by
  dsimp only [clearLogs]
  (repeat' split) <;> first | rfl | simp

@[simp] theorem clearLogs_space (s : State) : (clearLogs s).space = s.space := by
  dsimp only [clearLogs]
  (repeat' split) <;> first | rfl | simp

@[simp] theorem clearLogs_claimState (s : State) : (clearLogs s).claimState = s.claimState := by
  dsimp only [clearLogs]
  (repeat' split) <;> first | rfl | simp

@[simp] theorem clearLogs_driveState (s : State) : (clearLogs s).driveState = s.driveState := by
  dsimp only [clearLogs]
  (repeat' split) <;> first | rfl | simp

@[simp] theorem clearLogs_fenceState (s : State) : (clearLogs s).fenceState = s.fenceState := by
  dsimp only [clearLogs]
  (repeat' split) <;> first | rfl | simp

@[simp] theorem answerQuery_stc (f : RxFrame) (s : State) : (answerQuery f s).stc = s.stc := by
  dsimp only [answerQuery]
  (repeat' split) <;> first | rfl | simp

@[simp] theorem answerQuery_jtb (f : RxFrame) (s : State) : (answerQuery f s).jtb = s.jtb := by
  dsimp only [answerQuery]
  (repeat' split) <;> first | rfl | simp

@[simp] theorem answerQuery_rvu (f : RxFrame) (s : State) : (answerQuery f s).rvu = s.rvu := by
  dsimp only [answerQuery]
  (repeat' split) <;> first | rfl | simp

@[simp] theorem answerQuery_scu (f : RxFrame) (s : State) : (answerQuery f s).scu = s.scu := by
  dsimp only [answerQuery]
  (repeat' split) <;> first | rfl | simp

@[simp] theorem answerQuery_msq (f : RxFrame) (s : State) : (answerQuery f s).msq = s.msq := by
  dsimp only [answerQuery]
  (repeat' split) <;> first | rfl | simp

@[simp] theorem answerQuery_meu (f : RxFrame) (s : State) : (answerQuery f s).meu = s.meu := by
  dsimp only [answerQuery]
  (repeat' split) <;> first | rfl | simp

@[simp] theorem answerQuery_flu (f : RxFrame) (s : State) : (answerQuery f s).flu = s.flu := by
  dsimp only [answerQuery]
  (repeat' split) <;> first | rfl | simp

@[simp] theorem answerQuery_outer (f : RxFrame) (s : State) : (answerQuery f s).outer = s.outer := by
  dsimp only [answerQuery]
  (repeat' split) <;> first | rfl | simp

@[simp] theorem answerQuery_log (f : RxFrame) (s : State) : (answerQuery f s).log = s.log := by
  dsimp only [answerQuery]
  (repeat' split) <;> first | rfl | simp

@[simp] theorem answerQuery_identity (f : RxFrame) (s : State) : (answerQuery f s).identity = s.identity := by
  dsimp only [answerQuery]
  (repeat' split) <;> first | rfl | simp

@[simp] theorem answerQuery_rosters (f : RxFrame) (s : State) : (answerQuery f s).rosters = s.rosters := by
  dsimp only [answerQuery]
  (repeat' split) <;> first | rfl | simp

@[simp] theorem answerQuery_space (f : RxFrame) (s : State) : (answerQuery f s).space = s.space := by
  dsimp only [answerQuery]
  (repeat' split) <;> first | rfl | simp

@[simp] theorem answerQuery_claimState (f : RxFrame) (s : State) : (answerQuery f s).claimState = s.claimState := by
  dsimp only [answerQuery]
  (repeat' split) <;> first | rfl | simp

@[simp] theorem answerQuery_driveState (f : RxFrame) (s : State) : (answerQuery f s).driveState = s.driveState := by
  dsimp only [answerQuery]
  (repeat' split) <;> first | rfl | simp

@[simp] theorem answerQuery_faultState (f : RxFrame) (s : State) : (answerQuery f s).faultState = s.faultState := by
  dsimp only [answerQuery]
  (repeat' split) <;> first | rfl | simp

@[simp] theorem answerQuery_fenceState (f : RxFrame) (s : State) : (answerQuery f s).fenceState = s.fenceState := by
  dsimp only [answerQuery]
  (repeat' split) <;> first | rfl | simp

@[simp] theorem loseStation_jtb (n : Nat) (s : State) : (loseStation n s).jtb = s.jtb := by
  dsimp only [loseStation]
  (repeat' split) <;> first | rfl | simp

@[simp] theorem loseStation_outer (n : Nat) (s : State) : (loseStation n s).outer = s.outer := by
  dsimp only [loseStation]
  (repeat' split) <;> first | rfl | simp

@[simp] theorem loseStation_log (n : Nat) (s : State) : (loseStation n s).log = s.log := by
  dsimp only [loseStation]
  (repeat' split) <;> first | rfl | simp

@[simp] theorem loseStation_identity (n : Nat) (s : State) : (loseStation n s).identity = s.identity := by
  dsimp only [loseStation]
  (repeat' split) <;> first | rfl | simp

@[simp] theorem planLost_jtb (s : State) : (planLost s).jtb = s.jtb := by
  have h : ((s.memberJobs.foldl (fun t j => dropMember j .planLost 0 t) s)).jtb = s.jtb := foldl_view (·.jtb) (fun t a => by simp) _
  dsimp only [planLost]
  split <;> simp [h]

@[simp] theorem planLost_outer (s : State) : (planLost s).outer = s.outer := by
  have h : ((s.memberJobs.foldl (fun t j => dropMember j .planLost 0 t) s)).outer = s.outer := foldl_view (·.outer) (fun t a => by simp) _
  dsimp only [planLost]
  split <;> simp [h]

@[simp] theorem planLost_log (s : State) : (planLost s).log = s.log := by
  have h : ((s.memberJobs.foldl (fun t j => dropMember j .planLost 0 t) s)).log = s.log := foldl_view (·.log) (fun t a => by simp) _
  dsimp only [planLost]
  split <;> simp [h]

@[simp] theorem planLost_identity (s : State) : (planLost s).identity = s.identity := by
  have h : ((s.memberJobs.foldl (fun t j => dropMember j .planLost 0 t) s)).identity = s.identity := foldl_view (·.identity) (fun t a => by simp) _
  dsimp only [planLost]
  split <;> simp [h]

@[simp] theorem planLost_rosters (s : State) : (planLost s).rosters = s.rosters := by
  have h : ((s.memberJobs.foldl (fun t j => dropMember j .planLost 0 t) s)).rosters = s.rosters := foldl_view (·.rosters) (fun t a => by simp) _
  dsimp only [planLost]
  split <;> simp [h]

@[simp] theorem planLost_space (s : State) : (planLost s).space = s.space := by
  have h : ((s.memberJobs.foldl (fun t j => dropMember j .planLost 0 t) s)).space = s.space := foldl_view (·.space) (fun t a => by simp) _
  dsimp only [planLost]
  split <;> simp [h]

@[simp] theorem endPlanLoss_jtb (s : State) : (endPlanLoss s).jtb = s.jtb := by
  dsimp only [endPlanLoss, unlessLift]
  (repeat' split) <;> first | rfl | simp

@[simp] theorem endPlanLoss_outer (s : State) : (endPlanLoss s).outer = s.outer := by
  dsimp only [endPlanLoss, unlessLift]
  (repeat' split) <;> first | rfl | simp

@[simp] theorem endPlanLoss_log (s : State) : (endPlanLoss s).log = s.log := by
  dsimp only [endPlanLoss, unlessLift]
  (repeat' split) <;> first | rfl | simp

@[simp] theorem endPlanLoss_identity (s : State) : (endPlanLoss s).identity = s.identity := by
  dsimp only [endPlanLoss, unlessLift]
  (repeat' split) <;> first | rfl | simp

@[simp] theorem endPlanLoss_rosters (s : State) : (endPlanLoss s).rosters = s.rosters := by
  dsimp only [endPlanLoss, unlessLift]
  (repeat' split) <;> first | rfl | simp

@[simp] theorem endPlanLoss_space (s : State) : (endPlanLoss s).space = s.space := by
  dsimp only [endPlanLoss, unlessLift]
  (repeat' split) <;> first | rfl | simp

@[simp] theorem dueBeacon_jtb (s : State) : (dueBeacon s).jtb = s.jtb := by
  dsimp only [dueBeacon]
  (repeat' split) <;> first | rfl | simp

@[simp] theorem dueBeacon_rvu (s : State) : (dueBeacon s).rvu = s.rvu := by
  dsimp only [dueBeacon]
  (repeat' split) <;> first | rfl | simp

@[simp] theorem dueBeacon_scu (s : State) : (dueBeacon s).scu = s.scu := by
  dsimp only [dueBeacon]
  (repeat' split) <;> first | rfl | simp

@[simp] theorem dueBeacon_msq (s : State) : (dueBeacon s).msq = s.msq := by
  dsimp only [dueBeacon]
  (repeat' split) <;> first | rfl | simp

@[simp] theorem dueBeacon_meu (s : State) : (dueBeacon s).meu = s.meu := by
  dsimp only [dueBeacon]
  (repeat' split) <;> first | rfl | simp

@[simp] theorem dueBeacon_flu (s : State) : (dueBeacon s).flu = s.flu := by
  dsimp only [dueBeacon]
  (repeat' split) <;> first | rfl | simp

@[simp] theorem dueBeacon_outer (s : State) : (dueBeacon s).outer = s.outer := by
  dsimp only [dueBeacon]
  (repeat' split) <;> first | rfl | simp

@[simp] theorem dueBeacon_log (s : State) : (dueBeacon s).log = s.log := by
  dsimp only [dueBeacon]
  (repeat' split) <;> first | rfl | simp

@[simp] theorem dueBeacon_identity (s : State) : (dueBeacon s).identity = s.identity := by
  dsimp only [dueBeacon]
  (repeat' split) <;> first | rfl | simp

@[simp] theorem dueBeacon_rosters (s : State) : (dueBeacon s).rosters = s.rosters := by
  dsimp only [dueBeacon]
  (repeat' split) <;> first | rfl | simp

@[simp] theorem dueBeacon_space (s : State) : (dueBeacon s).space = s.space := by
  dsimp only [dueBeacon]
  (repeat' split) <;> first | rfl | simp

@[simp] theorem dueBeacon_claimState (s : State) : (dueBeacon s).claimState = s.claimState := by
  dsimp only [dueBeacon]
  (repeat' split) <;> first | rfl | simp

@[simp] theorem dueBeacon_driveState (s : State) : (dueBeacon s).driveState = s.driveState := by
  dsimp only [dueBeacon]
  (repeat' split) <;> first | rfl | simp

@[simp] theorem dueBeacon_faultState (s : State) : (dueBeacon s).faultState = s.faultState := by
  dsimp only [dueBeacon]
  (repeat' split) <;> first | rfl | simp

@[simp] theorem dueBeacon_fenceState (s : State) : (dueBeacon s).fenceState = s.fenceState := by
  dsimp only [dueBeacon]
  (repeat' split) <;> first | rfl | simp

end Sys2Proof.Machine
end

