-- ==== Sys2Proof/Laws/Motion.lean ====
section
/-! SUPPORT. What the operations of Machine/Motion.lean leave alone: one lemma for each block and each view of the state that an
operation does not touch. -/

namespace Sys2Proof.Machine

open Sys2Proof

variable {s : State}

@[simp] theorem driveSilent_outer (s : State) : (driveSilent s).outer = s.outer := by
  dsimp only [driveSilent]
  (repeat' split) <;> first | rfl | simp

@[simp] theorem driveSilent_log (s : State) : (driveSilent s).log = s.log := by
  dsimp only [driveSilent]
  (repeat' split) <;> first | rfl | simp

@[simp] theorem driveSilent_identity (s : State) : (driveSilent s).identity = s.identity := by
  dsimp only [driveSilent]
  (repeat' split) <;> first | rfl | simp

@[simp] theorem liftTimeout_outer (s : State) : (liftTimeout s).outer = s.outer := by
  dsimp only [liftTimeout]
  (repeat' split) <;> first | rfl | simp

@[simp] theorem liftTimeout_log (s : State) : (liftTimeout s).log = s.log := by
  dsimp only [liftTimeout]
  (repeat' split) <;> first | rfl | simp

@[simp] theorem liftTimeout_identity (s : State) : (liftTimeout s).identity = s.identity := by
  dsimp only [liftTimeout]
  (repeat' split) <;> first | rfl | simp

@[simp] theorem takeClosing_jtb (s : State) : (takeClosing s).jtb = s.jtb := by
  dsimp only [takeClosing]
  (repeat' split) <;> first | rfl | simp

@[simp] theorem takeClosing_outer (s : State) : (takeClosing s).outer = s.outer := by
  dsimp only [takeClosing]
  (repeat' split) <;> first | rfl | simp

@[simp] theorem takeClosing_log (s : State) : (takeClosing s).log = s.log := by
  dsimp only [takeClosing]
  (repeat' split) <;> first | rfl | simp

@[simp] theorem takeClosing_identity (s : State) : (takeClosing s).identity = s.identity := by
  dsimp only [takeClosing]
  (repeat' split) <;> first | rfl | simp

@[simp] theorem takeClosing_rosters (s : State) : (takeClosing s).rosters = s.rosters := by
  dsimp only [takeClosing]
  (repeat' split) <;> first | rfl | simp

@[simp] theorem takeClosing_space (s : State) : (takeClosing s).space = s.space := by
  dsimp only [takeClosing]
  (repeat' split) <;> first | rfl | simp

@[simp] theorem contactClose_log (s : State) : (contactClose s).log = s.log := by
  dsimp only [contactClose]
  (repeat' split) <;> first | rfl | simp

@[simp] theorem contactClose_identity (s : State) : (contactClose s).identity = s.identity := by
  dsimp only [contactClose]
  (repeat' split) <;> first | rfl | simp

@[simp] theorem contactOpen_log (s : State) : (contactOpen s).log = s.log := by
  dsimp only [contactOpen]
  (repeat' split) <;> first | rfl | simp

@[simp] theorem contactOpen_identity (s : State) : (contactOpen s).identity = s.identity := by
  dsimp only [contactOpen]
  (repeat' split) <;> first | rfl | simp

@[simp] theorem idlePark_stc (s : State) : (idlePark s).stc = s.stc := by
  dsimp only [idlePark]
  (repeat' split) <;> first | rfl | simp

@[simp] theorem idlePark_jtb (s : State) : (idlePark s).jtb = s.jtb := by
  dsimp only [idlePark]
  (repeat' split) <;> first | rfl | simp

@[simp] theorem idlePark_rvu (s : State) : (idlePark s).rvu = s.rvu := by
  dsimp only [idlePark]
  (repeat' split) <;> first | rfl | simp

@[simp] theorem idlePark_meu (s : State) : (idlePark s).meu = s.meu := by
  dsimp only [idlePark]
  (repeat' split) <;> first | rfl | simp

@[simp] theorem idlePark_flu (s : State) : (idlePark s).flu = s.flu := by
  dsimp only [idlePark]
  (repeat' split) <;> first | rfl | simp

@[simp] theorem idlePark_outer (s : State) : (idlePark s).outer = s.outer := by
  dsimp only [idlePark]
  (repeat' split) <;> first | rfl | simp

@[simp] theorem idlePark_log (s : State) : (idlePark s).log = s.log := by
  dsimp only [idlePark]
  (repeat' split) <;> first | rfl | simp

@[simp] theorem idlePark_identity (s : State) : (idlePark s).identity = s.identity := by
  dsimp only [idlePark]
  (repeat' split) <;> first | rfl | simp

@[simp] theorem idlePark_rosters (s : State) : (idlePark s).rosters = s.rosters := by
  dsimp only [idlePark]
  (repeat' split) <;> first | rfl | simp

@[simp] theorem idlePark_space (s : State) : (idlePark s).space = s.space := by
  dsimp only [idlePark]
  (repeat' split) <;> first | rfl | simp

@[simp] theorem idlePark_claimState (s : State) : (idlePark s).claimState = s.claimState := by
  dsimp only [idlePark]
  (repeat' split) <;> first | rfl | simp

@[simp] theorem idlePark_driveState (s : State) : (idlePark s).driveState = s.driveState := by
  dsimp only [idlePark]
  (repeat' split) <;> first | rfl | simp

@[simp] theorem idlePark_faultState (s : State) : (idlePark s).faultState = s.faultState := by
  dsimp only [idlePark]
  (repeat' split) <;> first | rfl | simp

@[simp] theorem idlePark_fenceState (s : State) : (idlePark s).fenceState = s.fenceState := by
  dsimp only [idlePark]
  (repeat' split) <;> first | rfl | simp

@[simp] theorem endSpaceWait_jtb (s : State) : (endSpaceWait s).jtb = s.jtb := by
  dsimp only [endSpaceWait]
  (repeat' split) <;> first | rfl | simp

@[simp] theorem endSpaceWait_scu (s : State) : (endSpaceWait s).scu = s.scu := by
  dsimp only [endSpaceWait]
  (repeat' split) <;> first | rfl | simp

@[simp] theorem endSpaceWait_meu (s : State) : (endSpaceWait s).meu = s.meu := by
  dsimp only [endSpaceWait]
  (repeat' split) <;> first | rfl | simp

@[simp] theorem endSpaceWait_flu (s : State) : (endSpaceWait s).flu = s.flu := by
  dsimp only [endSpaceWait]
  (repeat' split) <;> first | rfl | simp

@[simp] theorem endSpaceWait_outer (s : State) : (endSpaceWait s).outer = s.outer := by
  dsimp only [endSpaceWait]
  (repeat' split) <;> first | rfl | simp

@[simp] theorem endSpaceWait_log (s : State) : (endSpaceWait s).log = s.log := by
  dsimp only [endSpaceWait]
  (repeat' split) <;> first | rfl | simp

@[simp] theorem endSpaceWait_identity (s : State) : (endSpaceWait s).identity = s.identity := by
  dsimp only [endSpaceWait]
  (repeat' split) <;> first | rfl | simp

@[simp] theorem endSpaceWait_rosters (s : State) : (endSpaceWait s).rosters = s.rosters := by
  dsimp only [endSpaceWait]
  (repeat' split) <;> first | rfl | simp

@[simp] theorem endSpaceWait_space (s : State) : (endSpaceWait s).space = s.space := by
  dsimp only [endSpaceWait]
  (repeat' split) <;> first | rfl | simp

@[simp] theorem endSpaceWait_claimState (s : State) : (endSpaceWait s).claimState = s.claimState := by
  dsimp only [endSpaceWait]
  (repeat' split) <;> first | rfl | simp

@[simp] theorem endSpaceWait_driveState (s : State) : (endSpaceWait s).driveState = s.driveState := by
  dsimp only [endSpaceWait]
  (repeat' split) <;> first | rfl | simp

@[simp] theorem endSpaceWait_faultState (s : State) : (endSpaceWait s).faultState = s.faultState := by
  dsimp only [endSpaceWait]
  (repeat' split) <;> first | rfl | simp

@[simp] theorem endSpaceWait_fenceState (s : State) : (endSpaceWait s).fenceState = s.fenceState := by
  dsimp only [endSpaceWait]
  (repeat' split) <;> first | rfl | simp

@[simp] theorem haltSeen_log (s : State) : (haltSeen s).log = s.log := by
  dsimp only [haltSeen]
  (repeat' split) <;> first | rfl | simp

@[simp] theorem haltSeen_identity (s : State) : (haltSeen s).identity = s.identity := by
  dsimp only [haltSeen]
  (repeat' split) <;> first | rfl | simp

@[simp] theorem haltGone_log (s : State) : (haltGone s).log = s.log := by
  dsimp only [haltGone]
  (repeat' split) <;> first | rfl | simp

@[simp] theorem haltGone_identity (s : State) : (haltGone s).identity = s.identity := by
  dsimp only [haltGone]
  (repeat' split) <;> first | rfl | simp

@[simp] theorem takeResume_stc (s : State) : (takeResume s).stc = s.stc := by
  dsimp only [takeResume]
  (repeat' split) <;> first | rfl | simp

@[simp] theorem takeResume_jtb (s : State) : (takeResume s).jtb = s.jtb := by
  dsimp only [takeResume]
  (repeat' split) <;> first | rfl | simp

@[simp] theorem takeResume_rvu (s : State) : (takeResume s).rvu = s.rvu := by
  dsimp only [takeResume]
  (repeat' split) <;> first | rfl | simp

@[simp] theorem takeResume_scu (s : State) : (takeResume s).scu = s.scu := by
  dsimp only [takeResume]
  (repeat' split) <;> first | rfl | simp

@[simp] theorem takeResume_meu (s : State) : (takeResume s).meu = s.meu := by
  dsimp only [takeResume]
  (repeat' split) <;> first | rfl | simp

@[simp] theorem takeResume_flu (s : State) : (takeResume s).flu = s.flu := by
  dsimp only [takeResume]
  (repeat' split) <;> first | rfl | simp

@[simp] theorem takeResume_outer (s : State) : (takeResume s).outer = s.outer := by
  dsimp only [takeResume]
  (repeat' split) <;> first | rfl | simp

@[simp] theorem takeResume_identity (s : State) : (takeResume s).identity = s.identity := by
  dsimp only [takeResume]
  (repeat' split) <;> first | rfl | simp

@[simp] theorem takeResume_rosters (s : State) : (takeResume s).rosters = s.rosters := by
  dsimp only [takeResume]
  (repeat' split) <;> first | rfl | simp

@[simp] theorem takeResume_space (s : State) : (takeResume s).space = s.space := by
  dsimp only [takeResume]
  (repeat' split) <;> first | rfl | simp

@[simp] theorem takeResume_claimState (s : State) : (takeResume s).claimState = s.claimState := by
  dsimp only [takeResume]
  (repeat' split) <;> first | rfl | simp

@[simp] theorem takeResume_driveState (s : State) : (takeResume s).driveState = s.driveState := by
  dsimp only [takeResume]
  (repeat' split) <;> first | rfl | simp

@[simp] theorem takeResume_faultState (s : State) : (takeResume s).faultState = s.faultState := by
  dsimp only [takeResume]
  (repeat' split) <;> first | rfl | simp

@[simp] theorem takeResume_fenceState (s : State) : (takeResume s).fenceState = s.fenceState := by
  dsimp only [takeResume]
  (repeat' split) <;> first | rfl | simp

end Sys2Proof.Machine
end

