-- ==== Sys2Proof/Laws/Measure.lean ====
section
/-! SUPPORT. What the operations of Machine/Measure.lean leave alone: one lemma for each block and each view of the state that an
operation does not touch. -/

namespace Sys2Proof.Machine

open Sys2Proof

variable {s : State}

@[simp] theorem beginSampling_outer (s : State) : (beginSampling s).outer = s.outer := by
  dsimp only [beginSampling]
  (repeat' split) <;> first | rfl | simp

@[simp] theorem beginSampling_log (s : State) : (beginSampling s).log = s.log := by
  dsimp only [beginSampling]
  (repeat' split) <;> first | rfl | simp

@[simp] theorem beginSampling_identity (s : State) : (beginSampling s).identity = s.identity := by
  dsimp only [beginSampling]
  (repeat' split) <;> first | rfl | simp

@[simp] theorem takeSample_lif (volt : Int) (amp : Int) (s : State) : (takeSample volt amp s).lif = s.lif := by
  dsimp only [takeSample]
  (repeat' split) <;> first | rfl | simp

@[simp] theorem takeSample_stc (volt : Int) (amp : Int) (s : State) : (takeSample volt amp s).stc = s.stc := by
  dsimp only [takeSample]
  (repeat' split) <;> first | rfl | simp

@[simp] theorem takeSample_jtb (volt : Int) (amp : Int) (s : State) : (takeSample volt amp s).jtb = s.jtb := by
  dsimp only [takeSample]
  (repeat' split) <;> first | rfl | simp

@[simp] theorem takeSample_rvu (volt : Int) (amp : Int) (s : State) : (takeSample volt amp s).rvu = s.rvu := by
  dsimp only [takeSample]
  (repeat' split) <;> first | rfl | simp

@[simp] theorem takeSample_scu (volt : Int) (amp : Int) (s : State) : (takeSample volt amp s).scu = s.scu := by
  dsimp only [takeSample]
  (repeat' split) <;> first | rfl | simp

@[simp] theorem takeSample_msq (volt : Int) (amp : Int) (s : State) : (takeSample volt amp s).msq = s.msq := by
  dsimp only [takeSample]
  (repeat' split) <;> first | rfl | simp

@[simp] theorem takeSample_flu (volt : Int) (amp : Int) (s : State) : (takeSample volt amp s).flu = s.flu := by
  dsimp only [takeSample]
  (repeat' split) <;> first | rfl | simp

@[simp] theorem takeSample_outer (volt : Int) (amp : Int) (s : State) : (takeSample volt amp s).outer = s.outer := by
  dsimp only [takeSample]
  (repeat' split) <;> first | rfl | simp

@[simp] theorem takeSample_log (volt : Int) (amp : Int) (s : State) : (takeSample volt amp s).log = s.log := by
  dsimp only [takeSample]
  (repeat' split) <;> first | rfl | simp

@[simp] theorem takeSample_identity (volt : Int) (amp : Int) (s : State) : (takeSample volt amp s).identity = s.identity := by
  dsimp only [takeSample]
  (repeat' split) <;> first | rfl | simp

@[simp] theorem takeSample_rosters (volt : Int) (amp : Int) (s : State) : (takeSample volt amp s).rosters = s.rosters := by
  dsimp only [takeSample]
  (repeat' split) <;> first | rfl | simp

@[simp] theorem takeSample_space (volt : Int) (amp : Int) (s : State) : (takeSample volt amp s).space = s.space := by
  dsimp only [takeSample]
  (repeat' split) <;> first | rfl | simp

@[simp] theorem takeSample_claimState (volt : Int) (amp : Int) (s : State) : (takeSample volt amp s).claimState = s.claimState := by
  dsimp only [takeSample]
  (repeat' split) <;> first | rfl | simp

@[simp] theorem takeSample_driveState (volt : Int) (amp : Int) (s : State) : (takeSample volt amp s).driveState = s.driveState := by
  dsimp only [takeSample]
  (repeat' split) <;> first | rfl | simp

@[simp] theorem takeSample_faultState (volt : Int) (amp : Int) (s : State) : (takeSample volt amp s).faultState = s.faultState := by
  dsimp only [takeSample]
  (repeat' split) <;> first | rfl | simp

@[simp] theorem takeSample_fenceState (volt : Int) (amp : Int) (s : State) : (takeSample volt amp s).fenceState = s.fenceState := by
  dsimp only [takeSample]
  (repeat' split) <;> first | rfl | simp

@[simp] theorem endWindow_outer (s : State) : (endWindow s).outer = s.outer := by
  dsimp only [endWindow]
  (repeat' split) <;> first | rfl | simp

@[simp] theorem endWindow_identity (s : State) : (endWindow s).identity = s.identity := by
  dsimp only [endWindow]
  (repeat' split) <;> first | rfl | simp

end Sys2Proof.Machine
end

