-- ==== Sys2Proof/Laws/Hear.lean ====
section
/-! SUPPORT. What a command of a running part answers (`live`), and a frame that is accepted (`hear`): the frame reaches the
blocks that own its kind in the state `received`. -/

namespace Sys2Proof.Machine

open Sys2Proof

variable {s : State} {k : Kind} {f : RxFrame}

/-! ## Situations -/

/-- The situation read from the parts of the state it is about. -/
theorem State.Running.congr {t : State} (h : s.Running) (h1 : t.stc.inReset = s.stc.inReset)
    (h2 : t.stc.restart = s.stc.restart) (h3 : t.flu.fence = s.flu.fence) : t.Running where
  noReset := h1.trans h.noReset
  noLift := by simpa [State.lifting, h2] using h.noLift
  noFence1 := by simpa [h3] using h.noFence1

theorem State.AtWork.congr {t : State} (h : s.AtWork) (h1 : t.stc.inReset = s.stc.inReset)
    (h2 : t.stc.restart = s.stc.restart) (h3 : t.flu.fence = s.flu.fence) (h4 : t.halt = s.halt)
    (h5 : t.msq.motion = .joining → s.msq.motion = .joining) : t.AtWork where
  noReset := h1.trans h.noReset
  noLift := by simpa [State.lifting, h2] using h.noLift
  noHalt := h4.trans h.noHalt
  noFence := h3.trans h.noFence
  joined hj := h.joined (h5 hj)

/-- A part at work runs. -/
theorem State.AtWork.running (h : s.AtWork) : s.Running where
  noReset := h.noReset
  noLift := h.noLift
  noFence1 := .inl h.noFence

/-! ## Views read back -/

theorem outer_pins {t : State} (h : t.outer = s.outer) : t.pins = s.pins := congrArg Prod.fst h
theorem outer_pending {t : State} (h : t.outer = s.outer) : t.pending = s.pending := by
  simp only [State.outer, Prod.mk.injEq] at h
  exact h.2.2
theorem identity_inReset {t : State} (h : t.identity = s.identity) : t.stc.inReset = s.stc.inReset := congrArg Prod.fst h
theorem identity_station {t : State} (h : t.identity = s.identity) : t.stc.station = s.stc.station := by
  simp only [State.identity, Prod.mk.injEq] at h
  exact h.2.1
theorem identity_side {t : State} (h : t.identity = s.identity) : t.stc.side = s.stc.side := by
  simp only [State.identity, Prod.mk.injEq] at h
  exact h.2.2
theorem identity_own {t : State} (h : t.identity = s.identity) : t.own = s.own := by
  simp [State.own, identity_station h]

/-! ## Commands of a running part -/

/-- The answer of a command of a part out of reset. -/
theorem live_eq (g : State → State) (h : s.stc.inReset = false) : live g s = .next (settle (g s)) := by
  simp [live, h]

/-- What a command of a part at work leaves, from what its own effect does. -/
theorem live_work {g : State → State} {u : State} (hr : s.stc.inReset = false) (hu : g s = u) (h : u.AtWork) :
    live g s = .next (settle u) ∧ WorkKept u (settle u) :=
  ⟨by rw [live_eq g hr, hu], settle_workKept h⟩

/-- What a command of a running part leaves, from what its own effect does. -/
theorem live_run {g : State → State} {u : State} (hr : s.stc.inReset = false) (hu : g s = u) (h : u.Running) :
    live g s = .next (settle u) ∧ RunKept u (settle u) :=
  ⟨by rw [live_eq g hr, hu], settle_runKept h⟩

/-! ## Frames -/

theorem updRoster_stc_restart (n : Nat) (g : RosterEntry → RosterEntry) (s : State) :
    (updRoster n g s).stc.restart = s.stc.restart := by
  simp only [updRoster]
  (repeat' split) <;> rfl

theorem updRoster_stc_join (n : Nat) (g : RosterEntry → RosterEntry) (s : State) :
    (updRoster n g s).stc.join = s.stc.join := by
  simp only [updRoster]
  (repeat' split) <;> rfl

@[simp] theorem received_restart (k : Kind) (f : RxFrame) (s : State) :
    (received k f s).stc.restart = s.stc.restart := by
  simp only [received, storeSide, hearOther, hearPresence, startDeafness, markHeard]
  (repeat' split) <;> simp [updRoster_stc_restart]

@[simp] theorem received_halt (k : Kind) (f : RxFrame) (s : State) : (received k f s).halt = s.halt := by
  simp [State.halt, outer_pins (received_outer k f s)]

theorem received_own (k : Kind) (f : RxFrame) (s : State) : (received k f s).own = s.own :=
  identity_own (received_identity k f s)

@[simp] theorem received_lifting (k : Kind) (f : RxFrame) (s : State) : (received k f s).lifting = s.lifting := by
  simp [State.lifting]

theorem State.Running.received (h : s.Running) : (received k f s).Running :=
  h.congr (identity_inReset (received_identity k f s)) (by simp) (by simp)

theorem State.AtWork.received (h : s.AtWork) : (received k f s).AtWork :=
  h.congr (identity_inReset (received_identity k f s)) (by simp) (by simp) (by simp) (by simp)

/-- A frame that is accepted is handed on in the state after its reception. -/
theorem hear_accepts (act : State → State) (h : s.Accepts k f) : hear k f act s = act (received k f s) := by
  have h1 : (s.isOwn f && !s.awaitsReadback) = false := by
    cases ho : s.isOwn f
    · rfl
    · simp [h.readback ho]
  have h2 : (Machine.received k f s).isFor k f = s.isFor k f := by simp [State.isFor, received_own]
  rw [hear, if_pos h.received, if_neg (by simp [h1]), checkFrame, h2, if_pos h.forHead, if_pos (by simp [h.follow, h.fields]),
    if_pos h.source, checkCode]
  by_cases hg : k.guarded
  · obtain ⟨hc, hn⟩ := h.code hg
    rw [if_pos hg, if_neg, if_pos hc]
    rintro ⟨hd, hk | hk⟩
    · exact hn ⟨hd, hk⟩
    · simp [hc] at hk
  · simp [hg]

/-- In WAIT_QUIET a frame of another station has no effect (R3). -/
theorem hear_deaf (act : State → State) (h : s.receives f = false) : hear k f act s = s := by simp [hear, h]

/-- A frame of another station that is accepted finds the receiver out of WAIT_QUIET (R3). -/
theorem State.Accepts.receiver (h : s.Accepts k f) (ho : s.isOwn f = false) : s.lif.receiver ≠ .waitQuiet := by
  simpa [State.receives, ho] using h.received

/-- The answer to an accepted frame. -/
theorem live_hear (act : State → State) (hr : s.stc.inReset = false) (h : s.Accepts k f) :
    live (hear k f act) s = .next (settle (act (received k f s))) := by
  rw [live_eq _ hr, hear_accepts act h]

/-! ### What is received -/

theorem Heads.put_put {α : Type} (h : Heads α) (n : Nat) (a b : α) : (h.put n a).put n b = h.put n b := by
  unfold Heads.put
  split <;> first | rfl | (split <;> simp_all)

theorem Heads.at_put {α : Type} {h : Heads α} {n : Nat} {e : α} (a : α) (he : h.at? n = some e) :
    (h.put n a).at? n = some a := by
  revert he
  unfold Heads.at? Heads.put
  split <;> simp

/-- A head other than this one that is in the roster, its entry changed. -/
theorem updRoster_head {n : Nat} {e : RosterEntry} (g : RosterEntry → RosterEntry) (h0 : n ≠ 0) (hs : s.stc.station ≠ some n)
    (he : s.stc.roster.at? n = some e) :
    updRoster n g s = s.onStc fun c => { c with roster := c.roster.put n (g e) } := by
  simp [updRoster, h0, hs, he]

/-- The plan station's entry changed. -/
theorem updRoster_plan (g : RosterEntry → RosterEntry) (hs : s.stc.station ≠ some 0) :
    updRoster 0 g s = s.onStc fun c => { c with roster0 := g c.roster0 } := by
  simp [updRoster, hs]

/-- The tracker of the frame's class. -/
def trackersAfter (k : Kind) (n : Nat) (t : Trackers) : Trackers :=
  match k.accessClass with
  | some c => t.put c n
  | none => t

/-- LIF after an error-free frame of another station. -/
theorem received_lif_other (hw : s.lif.receiver ≠ .waitQuiet) (ho : s.isOwn f = false) (he : f.errors = []) (hn : f.src.toNat ≤ 8) :
    (received k f s).lif = { s.lif with
      receiver := .idle, gap := none, burst := none, trackers := trackersAfter k f.src.toNat s.lif.trackers
      deafness := if s.stc.join = .complete ∧ s.stc.restart = .noRestart then some deafnessTime else s.lif.deafness } := by
  have h1 : ∀ t : State, (storeSide k f t).lif = t.lif := by
    intro t
    simp
  have h2 : ∀ t : State, (hearOther t).lif = { t.lif with
      deafness := if t.stc.join = .complete ∧ t.stc.restart = .noRestart then some deafnessTime else t.lif.deafness } := by
    intro t
    simp only [hearOther, startDeafness]
    split <;> rfl
  have h3 : ∀ t : State, (hearPresence f.src.toNat t).stc.join = t.stc.join := by
    intro t
    simp only [hearPresence]
    split <;> simp [updRoster_stc_join]
  have h4 : ∀ t : State, (hearPresence f.src.toNat t).stc.restart = t.stc.restart := by
    intro t
    simp only [hearPresence]
    split <;> simp [updRoster_stc_restart]
  simp only [received, ho, logErrors, he, List.foldl_nil, Bool.false_eq_true, if_false, if_pos hn, h1, h2, h3, h4]
  simp only [hearPresence_lif, moveTracker, trackersAfter, frameEnd, hn, if_true]
  cases k.accessClass <;> simp [hw]

/-- STC after a frame of another head. -/
theorem received_stc_head {e : RosterEntry} (ho : s.isOwn f = false) (he : f.errors = []) (h1 : 1 ≤ f.src.toNat)
    (hn : f.src.toNat ≤ 8) (hat : s.stc.roster.at? f.src.toNat = some e) :
    (received k f s).stc = { s.stc with
      roster := s.stc.roster.put f.src.toNat
        { e with presence := .present, silence := some silenceTime
                 side := match carriedSide k f with | some d => some d | none => e.side } } := by
  have hs : s.stc.station ≠ some f.src.toNat := by
    intro h
    simp [State.isOwn, State.own, h] at ho
  have h0 : f.src.toNat ≠ 0 := by omega
  have hx : ∀ t : State, (hearOther t).stc = t.stc := by
    intro t
    simp
  have hm : ∀ t : State, (moveTracker k f.src.toNat (frameEnd false t)).stc = t.stc := by
    intro t
    simp
  have hp : ∀ t : State, t.stc = s.stc → (hearPresence f.src.toNat t).stc =
      { s.stc with roster := s.stc.roster.put f.src.toNat { e with presence := .present, silence := some silenceTime } } := by
    intro t ht
    simp only [hearPresence, if_neg h0]
    rw [updRoster_head _ h0 (by rw [ht]; exact hs) (by rw [ht]; exact hat)]
    simp [ht]
  have hh := hp _ (hm s)
  simp only [received, ho, logErrors, he, List.foldl_nil, Bool.false_eq_true, if_false, if_pos hn]
  simp only [storeSide]
  cases carriedSide k f with
  | none => simp only [hx, hh]
  | some d =>
    simp only [isHead, h1, hn, decide_true, Bool.and_self, if_true]
    rw [updRoster_head _ h0 (by rw [hx, hh]; exact hs) (by rw [hx, hh]; exact Heads.at_put _ hat)]
    simp only [State.onStc_stc, hx, hh, Heads.put_put]

/-- STC after a frame of the plan station. -/
theorem received_stc_plan (ho : s.isOwn f = false) (he : f.errors = []) (hn : f.src.toNat = 0)
    (hk : carriedSide k f = none) :
    (received k f s).stc = { s.stc with
      roster0 := { s.stc.roster0 with presence := .present, silence := some silenceTime }, planLoss := none } := by
  have hs : s.stc.station ≠ some 0 := by
    intro h
    simp [State.isOwn, State.own, h, hn] at ho
  have hm : ∀ t : State, (moveTracker k 0 (frameEnd false t)).stc = t.stc := by
    intro t
    simp
  simp only [received, ho, logErrors, he, List.foldl_nil, Bool.false_eq_true, if_false, hn, Nat.zero_le, if_true, storeSide,
    hk, hearOther_stc, hearPresence]
  rw [updRoster_plan _ (by rw [hm]; exact hs)]
  simp only [State.onStc_stc, hm]

/-- Two states with the same blocks are the same. -/
theorem State.ext_blocks {t : State} (h1 : s.lif = t.lif) (h2 : s.stc = t.stc) (h3 : s.jtb = t.jtb) (h4 : s.rvu = t.rvu)
    (h5 : s.scu = t.scu) (h6 : s.msq = t.msq) (h7 : s.meu = t.meu) (h8 : s.flu = t.flu) (h9 : s.outer = t.outer) :
    s = t := by
  cases s
  cases t
  simp_all [State.outer]

end Sys2Proof.Machine
end

