-- ==== Sys2Proof/Laws/PerInstr.lean ====
section
/-! SUPPORT. What holds of every command as syntax: the kind a frame command names by `Instr.frame?` is the one that its kind
code gives back (section 10.2), so no two frame commands share a code but STATUS and REFUSED, told apart by aux bit 6. -/

namespace Sys2Proof.Laws

open Sys2Proof Sys2Proof.Machine

/-- The command of a frame's kind code and fields is the command itself, a RESTART given no PROM. -/
def FrameKind.Statement (i : Instr) : Prop :=
  ∀ (k : Kind) (f : RxFrame), i.frame? = some (k, f) → auxOk k f = true →
    commandOf k.code f = (match i with | .restart g _ => .restart g none | j => j)

theorem FrameKind.resetNAssert : FrameKind.Statement (.resetNAssert) :=
  fun _ _ h => nomatch h

theorem FrameKind.resetNRelease (st : BitVec 4) (side : Side) (prom : Option (List Byte)) :
    FrameKind.Statement (.resetNRelease st side prom) :=
  fun _ _ h => nomatch h

theorem FrameKind.selftestEnd (memoryOk : Bool) (volts amps : List Int) :
    FrameKind.Statement (.selftestEnd memoryOk volts amps) :=
  fun _ _ h => nomatch h

theorem FrameKind.listenTimerExpiry : FrameKind.Statement (.listenTimerExpiry) :=
  fun _ _ h => nomatch h

theorem FrameKind.lineQuiet : FrameKind.Statement .lineQuiet :=
  fun _ _ h => nomatch h

theorem FrameKind.lineNoise : FrameKind.Statement (.lineNoise) :=
  fun _ _ h => nomatch h

theorem FrameKind.syncDetected : FrameKind.Statement (.syncDetected) :=
  fun _ _ h => nomatch h

theorem FrameKind.gapEnd : FrameKind.Statement (.gapEnd) :=
  fun _ _ h => nomatch h

theorem FrameKind.postBurstGapEnd : FrameKind.Statement (.postBurstGapEnd) :=
  fun _ _ h => nomatch h

theorem FrameKind.laneCollision : FrameKind.Statement (.laneCollision) :=
  fun _ _ h => nomatch h

theorem FrameKind.frameSent : FrameKind.Statement (.frameSent) :=
  fun _ _ h => nomatch h

theorem FrameKind.heldFrameAccepted : FrameKind.Statement (.heldFrameAccepted) :=
  fun _ _ h => nomatch h

theorem FrameKind.stallTimerExpiry (queue : StallQueue) : FrameKind.Statement (.stallTimerExpiry queue) :=
  fun _ _ h => nomatch h

theorem FrameKind.frameSpoiled (words : List CodedWord) (rest : SpoiledRest) :
    FrameKind.Statement (.frameSpoiled words rest) :=
  fun _ _ h => nomatch h

theorem FrameKind.frameBroken (words : List CodedWord) : FrameKind.Statement (.frameBroken words) :=
  fun _ _ h => nomatch h

theorem FrameKind.deafnessTimerExpiry : FrameKind.Statement (.deafnessTimerExpiry) :=
  fun _ _ h => nomatch h

theorem FrameKind.offer (f : RxFrame) : FrameKind.Statement (.offer f) :=
  fun _ _ h _ => by cases h; rfl

theorem FrameKind.withdraw (f : RxFrame) : FrameKind.Statement (.withdraw f) :=
  fun _ _ h _ => by cases h; rfl

theorem FrameKind.take (f : RxFrame) : FrameKind.Statement (.take f) :=
  fun _ _ h _ => by cases h; rfl

theorem FrameKind.set (f : RxFrame) : FrameKind.Statement (.set f) :=
  fun _ _ h _ => by cases h; rfl

theorem FrameKind.drop (f : RxFrame) : FrameKind.Statement (.drop f) :=
  fun _ _ h _ => by cases h; rfl

theorem FrameKind.landed (f : RxFrame) : FrameKind.Statement (.landed f) :=
  fun _ _ h _ => by cases h; rfl

theorem FrameKind.start (f : RxFrame) : FrameKind.Statement (.start f) :=
  fun _ _ h _ => by cases h; rfl

theorem FrameKind.reading (f : RxFrame) : FrameKind.Statement (.reading f) :=
  fun _ _ h _ => by cases h; rfl

theorem FrameKind.again (f : RxFrame) : FrameKind.Statement (.again f) :=
  fun _ _ h _ => by cases h; rfl

theorem FrameKind.result (f : RxFrame) : FrameKind.Statement (.result f) :=
  fun _ _ h _ => by cases h; rfl

theorem FrameKind.beacon (f : RxFrame) : FrameKind.Statement (.beacon f) :=
  fun _ _ h _ => by cases h; rfl

theorem FrameKind.fault (f : RxFrame) : FrameKind.Statement (.fault f) :=
  fun _ _ h _ => by cases h; rfl

theorem FrameKind.status (f : RxFrame) : FrameKind.Statement (.status f) := by
  rintro k g h ha
  obtain ⟨rfl, rfl⟩ : k = .status ∧ g = f := by simpa [Instr.frame?, eq_comm] using h
  simp_all [auxOk, Kind.code, commandOf]

theorem FrameKind.refused (f : RxFrame) : FrameKind.Statement (.refused f) := by
  rintro k g h ha
  obtain ⟨rfl, rfl⟩ : k = .refused ∧ g = f := by simpa [Instr.frame?, eq_comm] using h
  simp_all [auxOk, Kind.code, commandOf]

theorem FrameKind.planBeacon (f : RxFrame) : FrameKind.Statement (.planBeacon f) :=
  fun _ _ h _ => by cases h; rfl

theorem FrameKind.claim (f : RxFrame) : FrameKind.Statement (.claim f) :=
  fun _ _ h _ => by cases h; rfl

theorem FrameKind.shrink (f : RxFrame) : FrameKind.Statement (.shrink f) :=
  fun _ _ h _ => by cases h; rfl

theorem FrameKind.release (f : RxFrame) : FrameKind.Statement (.release f) :=
  fun _ _ h _ => by cases h; rfl

theorem FrameKind.object (f : RxFrame) : FrameKind.Statement (.object f) :=
  fun _ _ h _ => by cases h; rfl

theorem FrameKind.censusReq (f : RxFrame) : FrameKind.Statement (.censusReq f) :=
  fun _ _ h _ => by cases h; rfl

theorem FrameKind.censusReply (f : RxFrame) : FrameKind.Statement (.censusReply f) :=
  fun _ _ h _ => by cases h; rfl

theorem FrameKind.censusTimerExpiry : FrameKind.Statement (.censusTimerExpiry) :=
  fun _ _ h => nomatch h

theorem FrameKind.objectionWindowExpiry : FrameKind.Statement (.objectionWindowExpiry) :=
  fun _ _ h => nomatch h

theorem FrameKind.slotWindowExpiry (station : Nat) : FrameKind.Statement (.slotWindowExpiry station) :=
  fun _ _ h => nomatch h

theorem FrameKind.boardOut (f : RxFrame) : FrameKind.Statement (.boardOut f) :=
  fun _ _ h _ => by cases h; rfl

theorem FrameKind.boardIn (f : RxFrame) : FrameKind.Statement (.boardIn f) :=
  fun _ _ h _ => by cases h; rfl

theorem FrameKind.restart (f : RxFrame) (prom : Option (List Byte)) : FrameKind.Statement (.restart f prom) :=
  fun _ _ h _ => by cases h; rfl

theorem FrameKind.resume (f : RxFrame) : FrameKind.Statement (.resume f) :=
  fun _ _ h _ => by cases h; rfl

theorem FrameKind.clearFrozen (f : RxFrame) : FrameKind.Statement (.clearFrozen f) :=
  fun _ _ h _ => by cases h; rfl

theorem FrameKind.clearLog (f : RxFrame) : FrameKind.Statement (.clearLog f) :=
  fun _ _ h _ => by cases h; rfl

theorem FrameKind.query (f : RxFrame) : FrameKind.Statement (.query f) :=
  fun _ _ h _ => by cases h; rfl

theorem FrameKind.silenceTimerExpiry (station : Nat) : FrameKind.Statement (.silenceTimerExpiry station) :=
  fun _ _ h => nomatch h

theorem FrameKind.planLossTimerExpiry : FrameKind.Statement (.planLossTimerExpiry) :=
  fun _ _ h => nomatch h

theorem FrameKind.beaconTimerExpiry : FrameKind.Statement (.beaconTimerExpiry) :=
  fun _ _ h => nomatch h

theorem FrameKind.takeWindowExpiry (job : Nat) : FrameKind.Statement (.takeWindowExpiry job) :=
  fun _ _ h => nomatch h

theorem FrameKind.catchGraceExpiry (job : Nat) : FrameKind.Statement (.catchGraceExpiry job) :=
  fun _ _ h => nomatch h

theorem FrameKind.landingWaitExpiry (job : Nat) : FrameKind.Statement (.landingWaitExpiry job) :=
  fun _ _ h => nomatch h

theorem FrameKind.holdLimitExpiry (job : Nat) : FrameKind.Statement (.holdLimitExpiry job) :=
  fun _ _ h => nomatch h

theorem FrameKind.landingLimitExpiry (job : Nat) : FrameKind.Statement (.landingLimitExpiry job) :=
  fun _ _ h => nomatch h

theorem FrameKind.readingDeadlineExpiry (job : Nat) : FrameKind.Statement (.readingDeadlineExpiry job) :=
  fun _ _ h => nomatch h

theorem FrameKind.settleEnd : FrameKind.Statement (.settleEnd) :=
  fun _ _ h => nomatch h

theorem FrameKind.sampleInstant (volt amp : Int) : FrameKind.Statement (.sampleInstant volt amp) :=
  fun _ _ h => nomatch h

theorem FrameKind.windowEnd : FrameKind.Statement (.windowEnd) :=
  fun _ _ h => nomatch h

theorem FrameKind.driveReport (r : DriveReport) : FrameKind.Statement (.driveReport r) :=
  fun _ _ h => nomatch h

theorem FrameKind.driveSilenceExpiry : FrameKind.Statement (.driveSilenceExpiry) :=
  fun _ _ h => nomatch h

theorem FrameKind.restartLiftTimeout : FrameKind.Statement (.restartLiftTimeout) :=
  fun _ _ h => nomatch h

theorem FrameKind.contactClosing : FrameKind.Statement (.contactClosing) :=
  fun _ _ h => nomatch h

theorem FrameKind.contactOpening : FrameKind.Statement (.contactOpening) :=
  fun _ _ h => nomatch h

theorem FrameKind.idleParkTimerExpiry : FrameKind.Statement (.idleParkTimerExpiry) :=
  fun _ _ h => nomatch h

theorem FrameKind.spaceWaitExpiry : FrameKind.Statement (.spaceWaitExpiry) :=
  fun _ _ h => nomatch h

theorem FrameKind.haltAsserted : FrameKind.Statement (.haltAsserted) :=
  fun _ _ h => nomatch h

theorem FrameKind.haltReleased : FrameKind.Statement (.haltReleased) :=
  fun _ _ h => nomatch h

theorem FrameKind.restartWaitExpiry : FrameKind.Statement (.restartWaitExpiry) :=
  fun _ _ h => nomatch h

theorem FrameKind.unassignedKindFrame (code : BitVec 5) (f : RxFrame) :
    FrameKind.Statement (.unassignedKindFrame code f) := by
  rintro k g h ha
  obtain ⟨rfl, rfl⟩ : k = .unassigned code.toNat ∧ g = f := by simpa [Instr.frame?, eq_comm] using h
  simp only [auxOk, List.contains_eq_mem, List.mem_cons, List.not_mem_nil, or_false, decide_eq_true_eq] at ha
  rcases ha with h | h | h | h | h <;> simp [Kind.code, commandOf, h, ← BitVec.toNat_inj]

end Sys2Proof.Laws
end

