-- ==== Sys2Proof/Laws/Wave.lean ====
section
/-! SUPPORT. The levels of the lane words read back as the words they were sent for, whatever level their syncs start with
(R1). -/

namespace Sys2Proof.Machine

open Sys2Proof

@[simp] theorem length_syncLevels (p : Bool) : (syncLevels p).length = 8 := by simp [syncLevels]

@[simp] theorem length_wordBits (w : CodedWord) : (wordBits w).length = 30 := by simp [wordBits]

theorem length_flatMap_bitLevels (bs : List Bool) : (bs.flatMap bitLevels).length = 2 * bs.length := by
  induction bs with
  | nil => rfl
  | cons b bs ih => simp [bitLevels, ih]; omega

@[simp] theorem length_wordLevels (p : Bool) (w : CodedWord) : (wordLevels p w).length = wordHalves := by
  rw [wordLevels, List.length_append, length_syncLevels, length_flatMap_bitLevels, length_wordBits, wordHalves]

/-- The bits are the directions of their transitions. -/
theorem readBits_flatMap (bs : List Bool) : readBits (bs.flatMap bitLevels) = some bs := by
  induction bs with
  | nil => rfl
  | cons b bs ih =>
    simp only [List.flatMap_cons, bitLevels, List.cons_append, List.nil_append, readBits, ih]
    cases b <;> rfl

/-- The bits of a word make the word. -/
theorem bitsWord_wordBits (w : CodedWord) : bitsWord (wordBits w) = w := by
  apply BitVec.eq_of_getLsbD_eq
  intro i hi
  simp only [bitsWord, wordBits, List.range_succ, List.range_zero, List.nil_append, List.map_append, List.map_cons,
    List.map_nil, List.foldl_append, List.foldl_cons, List.foldl_nil, BitVec.getLsbD_shiftConcat]
  interval_cases i <;> simp

/-- The levels of a word begin with a sync. -/
theorem startsSync_wordLevels (p : Bool) (w : CodedWord) (rest : List Bool) : startsSync (wordLevels p w ++ rest) = true := by
  have ht : (wordLevels p w ++ rest).take 8 = syncLevels p := by
    rw [wordLevels, List.append_assoc, ← length_syncLevels p, List.take_left]
  cases p <;> simp [startsSync, ht]

/-- A word is read back from its levels. -/
theorem readWord_wordLevels (p : Bool) (w : CodedWord) : readWord (wordLevels p w) = some w := by
  have hd : (wordLevels p w).drop 8 = (wordBits w).flatMap bitLevels := by simp [wordLevels]
  have hs : startsSync (wordLevels p w) = true := by simpa using startsSync_wordLevels p w []
  simp only [readWord, hs, hd, readBits_flatMap, length_wordBits, bitsWord_wordBits, if_true]

/-- The words of a frame are read back from its levels. -/
theorem readWords_lineLevels (ws : List CodedWord) (first : Nat → Bool) :
    readWords ws.length (lineLevels first ws) = (ws, true) := by
  induction ws generalizing first with
  | nil => rfl
  | cons w ws ih =>
    have ht : (lineLevels first (w :: ws)).take wordHalves = wordLevels (first 0) w := by
      rw [lineLevels, ← length_wordLevels (first 0) w, List.take_left]
    have hd : (lineLevels first (w :: ws)).drop wordHalves = lineLevels (fun i => first (i + 1)) ws := by
      rw [lineLevels, ← length_wordLevels (first 0) w, List.drop_left]
    simp only [List.length_cons, readWords, ht, hd, readWord_wordLevels, ih]

/-- The frame on the lane is read back, whatever levels its syncs start with. -/
theorem readWords_levels (t : Tx) : readWords t.coded.length t.levels = (t.coded, true) := readWords_lineLevels _ _

/-- The levels of a frame take 34 bit times a word. -/
theorem length_lineLevels (ws : List CodedWord) (first : Nat → Bool) :
    (lineLevels first ws).length = wordHalves * ws.length := by
  induction ws generalizing first with
  | nil => rfl
  | cons w ws ih => simp [lineLevels, ih, Nat.mul_add]; omega

/-- The level a word starts its sync with. -/
theorem lineLevels_sync (ws : List CodedWord) (first : Nat → Bool) (i : Nat) (h : i < ws.length) :
    (lineLevels first ws)[wordHalves * i]? = some (first i) := by
  induction ws generalizing first i with
  | nil => cases h
  | cons w ws ih =>
    cases i with
    | zero => simp [lineLevels, wordLevels, syncLevels]
    | succ i =>
      rw [lineLevels, List.getElem?_append_right (by simp [wordHalves]), length_wordLevels,
        show wordHalves * (i + 1) - wordHalves = wordHalves * i by simp [Nat.mul_add]]
      exact ih _ _ (by simpa using h)

/-- The second half of the last bit of a word is the opposite of that bit. -/
theorem wordLevels_last (p : Bool) (w : CodedWord) : (wordLevels p w)[wordHalves - 1]? = some (!w.getLsbD 0) := by
  simp [wordLevels, syncLevels, wordHalves, wordBits, bitLevels, List.range_succ]

/-- The level before the sync of a later word. -/
theorem lineLevels_last (ws : List CodedWord) (first : Nat → Bool) (i : Nat) (h : i < ws.length) :
    (lineLevels first ws)[wordHalves * (i + 1) - 1]? = some (!(ws.getD i 0).getLsbD 0) := by
  induction ws generalizing first i with
  | nil => cases h
  | cons w ws ih =>
    cases i with
    | zero =>
      rw [lineLevels, List.getElem?_append_left (by simp [wordHalves])]
      simpa using wordLevels_last (first 0) w
    | succ i =>
      rw [lineLevels, List.getElem?_append_right (by simp [wordHalves]; omega), length_wordLevels,
        show wordHalves * (i + 1 + 1) - 1 - wordHalves = wordHalves * (i + 1) - 1 by simp [wordHalves]; omega]
      simpa using ih _ i (by simpa using h)

/-- Every sync LIF drives begins with a transition (R196). -/
theorem levels_sync (t : Tx) (i : Nat) (h : i + 1 < t.coded.length) :
    ∃ b, t.levels[wordHalves * (i + 1) - 1]? = some b ∧ t.levels[wordHalves * (i + 1)]? = some (!b) :=
  ⟨_, lineLevels_last _ _ i (by omega), (lineLevels_sync t.coded _ (i + 1) h).trans (by simp [syncStart])⟩

end Sys2Proof.Machine
end

