-- ==== Sys2Proof/Tests/Base.lean ====
section
/-! SUPPORT. The small states, frames and checks that the tests and the witnesses are written with: a head strapped as
station 3, TOP, standing at (12000, 8000) with the footprint of the worked case of section 5.1. -/

namespace Sys2Proof.Tests

open Sys2Proof Sys2Proof.Machine

/-! ## States -/

/-- The footprint and margin of section 5.1; the rest as erased fields give, with heights and a park point. -/
def cfg : ConfigRecord :=
  { ConfigRecord.zero with
    reachXmax := 60000, reachYmax := 60000, parkX := 1000, parkY := 1000
    exn := 1800, exp := 600, eyn := 900, eyp := 2500, m := 150, zt := 4000, zs := 1000, zo := 100
    tipStandard := true, takeWindow := 100, spaceWait := 500, idlePark := 5, postBurst := 200 }

/-- A station heard on a side. -/
def heard (d : Side) (m : MotionState) : RosterEntry :=
  { presence := .present, side := some d, motion := some m, fence := some .noFence, silence := some 30000000 }

/-- The STANDING claim at a point. -/
def standAt (x y : Nat) : Claim := corridor cfg .standing x y x y

/-- A REPORT in position, of command `n`. -/
def rep (x y z n : Nat) : DriveReport :=
  { x := BitVec.ofNat 16 x, y := BitVec.ofNat 16 y, z := BitVec.ofNat 16 z, inPosition := true, fault := false
    number := BitVec.ofNat 8 n }

/-- Head 3 IDLE at (12000, 8000), its join complete, board 7 in its session, peer 4 on its side and peer 6 on the other. -/
def base : State :=
  let s := State.reset
  { s with
    lif := { s.lif with receiver := .idle, deafness := some 50000000 }
    stc := { s.stc with
      inReset := false, station := some 3, config := some cfg, selfTest := .done false false false false
      join := .complete, roster0 := { RosterEntry.absent with presence := .present, silence := some 30000000 }
      roster := { s.stc.roster with h4 := heard .top .idle, h6 := heard .bottom .idle }
      board := .active 7, beaconTimer := some 10000000 }
    scu := { s.scu with held := some (standAt 12000 8000), ordinal := 5, lastGranted := some 5, doubt := false }
    msq := { s.msq with
      motion := .idle, lastReport := some (rep 12000 8000 4000 9)
      lastCommand := some { number := 9, order := .move 12000 8000 4000 .travel }
      target := some (12000, 8000), standing := some (12000, 8000), grant := some (standAt 12000 8000).region
      driveSilence := some 2000000 } }

/-- `base` in another motion state. -/
def inMotion (m : MotionState) : State := base.onMsq fun q => { q with motion := m }

/-- `base` silent in fence mode 2. -/
def silentHead : State :=
  ((inMotion .frozen).onLif fun l => { l with silent := true }).onFlu fun u => { u with fence := .silent }

/-- `base` with HALT driven from outside. -/
def halted (s : State) : State := s.onPins fun p => { p with haltIn := true }

/-- `base` OFFLINE for a reason. -/
def offlineHead (code : Nat) : State :=
  ((inMotion .offline).onStc fun c => { c with join := .failed, board := .noBoard, offlineReason := code }).onScu fun c =>
    { c with held := none, doubt := true }

/-- `base` in JOINING, in a join state. -/
def joining (j : JoinState) : State :=
  ((inMotion .joining).onStc fun c => { c with join := j, board := .noBoard }).onScu fun c =>
    { c with held := none, doubt := true }

/-- `base` in the lift phase of a restart. -/
def liftingHead : State :=
  (inMotion .lift).onStc fun c => { c with restart := .lifting, restartLift := some 2000000000 }

/-! ## Offers, entries, memberships -/

/-- A CONT offer of priority 2 and budget 1 at two points near the tip. -/
def offerOf (job : Nat) : Offer :=
  { job := job, board := 7, kind := .cont, priority := 2, budget := 1, stimulus := 3, settle := 20, sample := 2
    low := 40000, high := 55000
    points := [{ x := 12100, y := 8000, side := .top, tip := .any }, { x := 12600, y := 8000, side := .top, tip := .any }] }

/-- An entry whose take window runs. -/
def entryOf (job rank : Nat) (takers : List (Option Nat)) : Entry :=
  { offer := offerOf job, servable := [true, true], takers := takers, formed := false, rank := rank
    window := some 100000000, grace := none }

/-- A FORMED entry. -/
def formedOf (job rank : Nat) (takers : List (Option Nat)) : Entry :=
  { entryOf job rank takers with formed := true, window := none }

/-- An entry in its catch grace, its role 1 taken by a station or by none. -/
def lateEntry (taker : Option Nat) : Entry :=
  { entryOf 520 1 [none, taker] with window := none, grace := some 25000000 }

/-- A membership of a job with takers 3 and 4. -/
def memberOf (job role : Nat) (st : MemberState) : Membership :=
  { Membership.fresh job role 2 with state := st, takers := if role = 0 then [3, 4] else [4, 3] }

/-- A state with this job table. -/
def withTable (es : List Entry) (s : State) : State := s.onJtb fun _ => { entries := es, nextRank := 40 }

/-- A state with this current membership. -/
def withMember (m : Membership) (s : State) : State := s.onRvu fun r => { r with current := some m }

/-- A head down for job 520 in a motion state, its membership in a state, its probe where it stands. -/
def down (mo : MotionState) (role : Nat) (st : MemberState) : State :=
  withMember (memberOf 520 role st) <| withTable [formedOf 520 1 (if role = 0 then [some 3, some 4] else [some 4, some 3])]
    (inMotion mo)

/-! ## Frames -/

/-- A frame from `src` to `dst` with aux and body fields packed from the most significant bit down. -/
def frameOf (src dst : Nat) (aux body : List (Nat × Nat)) : RxFrame :=
  { src := BitVec.ofNat 4 src, dst := BitVec.ofNat 4 dst, aux := BitVec.ofNat 7 (packNat aux).2, body := packFields body }

/-- The frame that carries a rectangle with its spare byte. -/
def rectFrame (src : Nat) (aux : List (Nat × Nat)) (r : Rect) (spare : List (Nat × Nat)) : RxFrame :=
  frameOf src 15 aux (rectFields r ++ spare)

/-- A guarded plan frame with a right code. -/
def guardedFrame (dst : Nat) (rest : List (Nat × Nat)) : RxFrame :=
  frameOf 0 dst [] ((12, validationCode (BitVec.ofNat 4 dst)) :: rest)

/-- The OFFER frame of an offer (section 10.3). -/
def offerFrame (o : Offer) (kind : Nat) : RxFrame :=
  { frameOf 0 15 [(2, kind), (2, o.priority), (2, o.budget), (1, 0)]
      ([(12, o.job), (5, o.board), (3, o.sample), (3, o.stimulus), (1, 0), (8, o.settle), (16, 0), (24, o.low.toNat),
        (24, o.high.toNat)] ++
        o.points.flatMap fun p =>
          [(16, p.x), (1, sideBit p.side), (2, match p.tip with | .fine => 0 | .standard => 1 | .any => 2), (5, 0),
           (16, p.y), (8, 0)]) with src := 0 }

/-- The state in which the head's own frame is on the lane. -/
def sending (f : TxFrame) (p : Place) (s : State) : State :=
  let s := match p with
    | .safety => s.onLif fun l => { l with safety := [f] }
    | .work => s.onLif fun l => { l with work := [f] }
    | .answer => s.onLif fun l => { l with answer := some f }
    | .post => s.onLif fun l => { l with post := [f] }
  startTx p f 0 s

/-- TAKE, SET, DROP, LANDED, START, AGAIN and READING for job 520 (section 10.3). -/
def takeF (src role catchBit : Nat) : RxFrame := frameOf src 15 [(2, role), (1, catchBit)] [(12, 520)]
def setF (src a b : Nat) : RxFrame := frameOf src 15 [(3, 2)] [(12, 520), (4, a), (4, b)]
def dropF (src reason lost : Nat) : RxFrame := frameOf src 15 [(3, reason)] [(12, 520), (4, lost)]
def landedF (src role pass noContact : Nat) : RxFrame := frameOf src 15 [(2, role), (2, pass), (1, noContact)] [(12, 520)]
def startF (src pass : Nat) : RxFrame := frameOf src 15 [(2, pass)] [(12, 520)]
def againF (src repeated pass : Nat) : RxFrame := frameOf src 15 [(1, repeated), (2, pass)] [(12, 520)]
def readingF (src role pass volt amp : Nat) : RxFrame :=
  frameOf src 15 [(2, role), (2, pass), (3, 0)] [(12, 520), (12, 0), (24, volt), (24, amp)]

/-- WITHDRAW of job 520, and its RESULT for a board. -/
def withdrawF : RxFrame := frameOf 0 15 [] [(12, 520)]
def resultF (src board : Nat) : RxFrame := frameOf src 0 [] [(12, 520), (5, board), (7, 0), (32, 0), (16, 0)]

/-- CLAIM, SHRINK, RELEASE and OBJECT of the TOP side. -/
def claimF (src ordinal kind : Nat) (r : Rect) : RxFrame := rectFrame src [(6, ordinal), (1, kind)] r [(8, 0)]
def shrinkF (src ordinal : Nat) (r : Rect) : RxFrame := rectFrame src [(6, ordinal), (1, 0)] r [(8, 0)]
def releaseF (src ordinal : Nat) : RxFrame := frameOf src 15 [(6, ordinal), (1, 0)] []
def objectF (src ordinal : Nat) (r : Rect) (claimant owner : Nat) : RxFrame :=
  rectFrame src [(6, ordinal), (1, 0)] r [(4, claimant), (4, owner)]

/-- CENSUS_REQ of the TOP side, and a CENSUS_REPLY with a held claim and notes. -/
def censusF (src : Nat) : RxFrame := frameOf src 15 [] []
def replyF (src ordinal : Nat) (r : Rect) (notes : List (Nat × Rect)) : RxFrame :=
  frameOf src 15 [(6, ordinal), (1, 0)]
    (rectFields r ++ [(1, 1), (1, 0), (6, 0)] ++ notes.flatMap fun n => rectFields n.2 ++ [(4, n.1), (4, 0)])

/-- BEACON and FAULT of a head. -/
def beaconF (src motion ordinal fence side : Nat) : RxFrame :=
  frameOf src 15 [] [(4, motion), (5, 7), (6, ordinal), (3, fence), (1, side)]
def faultF (src code mode : Nat) : RxFrame := frameOf src 15 [(2, mode)] [(8, code), (4, 6), (12, 0)]

/-- A rectangle far from the head and one across it. -/
def far : Rect := { xmin := 40000, xmax := 42000, ymin := 40000, ymax := 42000 }
def wide : Rect := { xmin := 39000, xmax := 43000, ymin := 39000, ymax := 43000 }
def near : Rect := { xmin := 12000, xmax := 13000, ymin := 8000, ymax := 9000 }

/-- The frame on the lane. -/
def theTx (s : State) : Tx :=
  s.lif.tx.getD { place := .work, frame := .beacon, wire := fillFrame s .beacon, coded := [], burstAt := 0, detached := false
                  withdrawn := false, replacement := none, heard := false, draw := 0 }

/-- A claim of the head's own, QUEUED or in its WINDOW with an ordinal. -/
def queued (c : Claim) (s : State) : State := s.onScu fun u => { u with pending := some { claim := c, stage := .queued } }
def inWindow (c : Claim) (o : Nat) (s : State) : State :=
  s.onScu fun u => { u with pending := some { claim := c, stage := .window o 200000 } }

/-- A slot's content, its last ordinal 1. -/
def slotAs (n : Nat) (h : SlotHolds) (s : State) : State := putSlot n { holds := h, lastOrdinal := some 1 } s

/-- The state in which the frame with these fields is of the head's own: the one on the lane. -/
def own (s : State) : State := sending .beacon .work s

/-! ## Named situations -/

/-- A RESULT of the head's own. -/
def aResult : TxFrame :=
  .result { job := 520, board := 7, verdict := .pass, value := 47910, passesUsed := 1, neg := false, members := [3, 4] }

/-- A reading without flags. -/
def reading (v i : Int) : Reading := { volt := v, amp := i, isOver := false, compliance := false, lifted := false }

/-- `base` at a head configured as catch head, and in a configured fence mode. -/
def catching : State := base.onStc fun c => { c with config := some { cfg with catchFlag := true } }
def withMode (n : Nat) : State := base.onStc fun c => { c with config := some { cfg with fenceMode := n } }

/-- `base` with the tip 1 gu below Zt. -/
def lowHead : State := base.onMsq fun q => { q with lastReport := some (rep 12000 8000 3999 9) }

/-- The corridor of section 5.1, QUEUED and in its WINDOW with ordinal 6. -/
def move51 : Claim := corridor cfg .travel 12000 8000 15500 7200
def claiming : State := inWindow move51 6 (inMotion .claiming)

/-- A head in the census of its join, and one in PLACING at a height with its claim in its window. -/
def census : State := (joining .census).onScu fun c => { c with censusPending := true, censusTimer := some 5000000 }
def placingAt (z : Nat) : State :=
  inWindow { standAt 12000 8000 with placing := true } 6 <|
    (joining .placing).onStc fun c => { c with placeAt := some (12000, 8000, z), board := .active 7 }

/-- Peers 1, 2 and 5 heard on the head's side, which with 4 makes a side count of 4. -/
def crowd (s : State) : State :=
  updRoster 1 (fun _ => heard .top .idle) (updRoster 2 (fun _ => heard .top .idle)
    (updRoster 5 (fun _ => heard .top .idle) s))

/-- The lead of job 520 with its landing table, and with its reading table and deadline. -/
def landedWith (l0 l1 : Option Bool) (pass : Nat) : Membership :=
  { memberOf 520 0 .landed with landings := [l0, l1], pass := pass }
def leadWith (r0 r1 : Option Reading) (deadline : Timer) (pass : Nat) : Membership :=
  { memberOf 520 0 .hold with readings := [r0, r1], deadline := deadline, pass := pass }

/-- A head in MEASURE with its window, `n` samples taken. -/
def windowed (role : Nat) (fe : FrontEnd) (w : Window) (n : Nat) : State :=
  (down .measure role .measuring).onMeu fun u =>
    { u with frontEnd := fe, window := w, acc := { Accumulator.clear with count := n } }

/-- A head in a phase of DESCEND with a retouch offset, its contact open or closed. -/
def descending (p : DescendPhase) (retouch : Nat) (contact : Bool) : State :=
  ((down .descend 1 .moving).onMsq fun q => { q with descend := p, retouch := retouch }).onPins fun x =>
    { x with contact := contact }

/-- The frame on the lane, changed; a CLAIM and a READING of the head's own. -/
def alterTx (f : Tx → Tx) (s : State) : State := s.onLif fun l => { l with tx := l.tx.map f }
def aClaim : TxFrame := .claim .travel move51.rect
def aReading : TxFrame := .reading 520 1 0 false false false 5 7

/-- A point waits to be served. -/
def pointWaits (s : State) : State := s.onMsq fun q => { q with waiting := some (12100, 8000) }

/-- A head in the restart wait of a mode 1 fence. -/
def waiting (s : State) : State := s.onFlu fun u => { u with fence := .restartWait, restartWait := some 40000000 }

/-- The same, the fence of LANE_DEAF, with what it still waits for; a head that drives HALT. -/
def awaiting (fault : Bool) (drops : List Nat) (s : State) : State :=
  (waiting s).onFlu fun u => { u with acting := some 6, awaitFault := fault, awaitDrops := drops }
def drivesHalt (s : State) : State := s.onFlu fun u => { u with haltDrive := true, fence := .haltAll }

/-- A CLAIM of the corridor of section 5.1 is queued. -/
def claimQueued (s : State) : State := (queued move51 s).onLif fun l => { l with safety := [aClaim] }

/-- The plan-loss timer runs; the space wait runs. -/
def planGone (s : State) : State := s.onStc fun c => { c with planLoss := some 1000000000 }
def spaceWaiting (s : State) : State := s.onMsq fun q => { q with spaceWait := some 500000000 }

/-- A peer's slot with this content does not conflict with the claim in its window, or does. -/
def slotConflict (k : Kind) (f : RxFrame) (n : Nat) (h : SlotHolds) (s : State) : Bool :=
  (((received k f s).onMsq fun m => { m with spaceEvent := true }).onScu fun c =>
    { c with map := c.map.put n { holds := h, lastOrdinal := some (rxOrdinal f) } }).windowConflict

/-! ## Checks -/

/-- A state the command answers satisfies `p`. -/
def after (c : Instr) (s : State) (p : State → Bool) : Bool :=
  match exec c s with
  | .next t => p t
  | _ => false

theorem runs {s : State} (h : (!s.stc.inReset && !s.lifting && (s.flu.fence == .noFence || s.flu.fence == .acting 0 ||
    s.flu.fence == .silent || s.flu.fence == .haltAll)) = true) : s.Running := by
  simp only [Bool.and_eq_true, Bool.or_eq_true, Bool.not_eq_true', beq_iff_eq] at h
  exact ⟨h.1.1, h.1.2, by rcases h.2 with ((h | h) | h) | h <;> simp [h]⟩

theorem works {s : State} (h : (!s.stc.inReset && !s.lifting && !s.halt && s.flu.fence == .noFence &&
    s.msq.motion != .joining) = true) : s.AtWork := by
  simp only [Bool.and_eq_true, Bool.not_eq_true', beq_iff_eq, bne_iff_ne] at h
  exact ⟨h.1.1.1.1, h.1.1.1.2, h.1.1.2, h.1.2, h.2⟩

theorem takes {s : State} {k : Kind} {f : RxFrame}
    (h : ((s.receives f && (!s.isOwn f || s.awaitsReadback)) && s.isFor k f && k.followAllowed f.body.length && fieldsOk k f &&
      sourceOk k f.src.toNat && (!k.guarded || (codeOk f && !(decide (f.dst.toNat = 15) && k == .restart)))) = true) :
    s.Accepts k f := by
  simp only [Bool.and_eq_true, Bool.or_eq_true, Bool.not_eq_true', Bool.and_eq_false_iff, decide_eq_false_iff_not,
    beq_eq_false_iff_ne] at h
  obtain ⟨⟨⟨⟨⟨⟨h0, h1⟩, h2⟩, h3⟩, h4⟩, h5⟩, h6⟩ := h
  refine ⟨h0, fun e => ?_, h2, h3, h4, h5, fun e => ?_⟩
  · rcases h1 with h1 | h1
    · simp [e] at h1
    · exact h1
  · rcases h6 with h6 | h6
    · simp [e] at h6
    · exact ⟨h6.1, fun x => by rcases h6.2 with y | y <;> [exact y x.1; exact y x.2]⟩

theorem safe {s : State}
    (h : s.FenceSafe ∧ s.FaultSafe ∧ s.CountersSafe ∧ s.WorkQueueSafe ∧ s.TableSafe ∧ s.OfflineSafe ∧ s.JoinSafe)
    (g : (s.meu.stimulus ≠ .off → s.meu.window ≠ .off ∧ s.msq.motion = .measure ∧
        s.rvu.current.map (·.state) = some .measuring) ∧
      s.rvu.next = none ∧ s.scu.pending = none ∧ s.lif.tx = none ∧ s.stc.inReset = false ∧
      (s.lif.silent = true → s.lif.safety = [] ∧ s.lif.answer = none ∧ s.lif.post = [] ∧
        (∀ f ∈ s.lif.work, f.silentOk = true) ∧ ∀ f ∈ s.lif.held, f = .beacon)) : s.Safe := by
  obtain ⟨h2, h3, h4, h5, h7, h8, h9⟩ := h
  obtain ⟨g1, gn, gp, gt, gr, gs⟩ := g
  refine ⟨⟨fun x => ?_, fun m e => by simp [gn] at e⟩, h2, h3, h4, h5, fun x => ?_, fun p o t e => by simp [gp] at e, h7,
    h8, h9, fun e => by simp [gr] at e⟩
  · obtain ⟨a, b, c⟩ := g1 x
    obtain ⟨m, e, f⟩ := Option.map_eq_some_iff.1 c
    exact ⟨a, b, m, e, f⟩
  · obtain ⟨a, b, c, d, e⟩ := gs x
    exact ⟨a, b, c, d, e, fun t y => by simp [gt] at y⟩

theorem lifts {s : State} (h : (s.msq.lastReport.isSome && decide (s.stand = s.tip)) = true) : s.LiftsSafely := by
  simp only [Bool.and_eq_true, decide_eq_true_eq] at h
  intro _
  exact ⟨by intro e; simp [e] at h, h.2⟩

end Sys2Proof.Tests
end

