-- ==== Sys2Proof/Tests/Slice0.lean ====
section
/-! SUPPORT. Tests of the model against the manual's own worked examples and tables, an ill-formed term for every check of
WellFormed, and for each statement of Obligations.lean with hypotheses a witness: states and operands that meet them,
clause by clause. -/

namespace Sys2Proof.Tests

open Sys2Proof Sys2Proof.Machine

-- One theorem at a time: kernel evaluations that wait for one another in parallel each take a thread.
set_option Elab.async false

/-! ## Words and frames (sections 10.1 to 10.3) -/

/-- The example of section 10.1: TAKE(305, 0) from station 3. -/
def takeExample : RxFrame := { src := 3, dst := 15, aux := 0, body := [0x131000] }

theorem test_header_of_the_take_example : takeExample.header .take = 0x41F880 := by decide

/-- Coded by hand from R196: positions, check bits and overall parity. -/
theorem test_coded_words : encodeWord 0x41F880 = 0x107E202E ∧ encodeWord 0x131000 = 0x4C40012 ∧
    encodeWord 1 = 0x47 ∧ encodeWord 0x800000 = 0x2000003B := by decide +kernel

theorem test_words_spell_the_take_example :
    commandOfWords [0x107E202E, 0x4C40012] = some (.take takeExample) := by decide +kernel

/-- One inverted bit is corrected, two are not (R5): bits 29 (position 29, d23) and 0 (the parity bit). -/
theorem test_word_errors : decodeWord (0x47 ^^^ 0x20000000) = .corrected 1 29 ∧ decodeWord (0x47 ^^^ 1) = .corrected 1 0 ∧
    decodeWord (0x47 ^^^ 0x20000001) = .uncorrectable ∧ decodeWord 0x47 = .clean 1 := by decide +kernel

/-- The word's one error is entered by position in the frame's list, and the frame still spells the command. -/
theorem test_corrected_frame : commandOfWords [0x107E202E ^^^ 0x10, 0x4C40012] =
    some (.take { takeExample with errors := [(0, 0x107E202E ^^^ 0x10)] }) := by decide +kernel

/-- Headers written field by field from section 10.1 with the kind codes of 10.2, one for each family. -/
theorem test_headers_spell_their_commands :
    commandOfWords [encodeWord (0b00011#5 ++ 4#4 ++ 15#4 ++ 0#4 ++ 0b0001010#7)] =
      some (.release { src := 4, dst := 15, aux := 10, body := [] }) ∧
    commandOfWords [encodeWord (0b10101#5 ++ 0#4 ++ 3#4 ++ 0#4 ++ 0b0110010#7)] =
      some (.query { src := 0, dst := 3, aux := 50, body := [] }) ∧
    commandOfWords [encodeWord (0b01111#5 ++ 6#4 ++ 15#4 ++ 1#4 ++ 0#7), encodeWord 0x338BE0] =
      some (.beacon { src := 6, dst := 15, aux := 0, body := [0x338BE0] }) ∧
    commandOfWords [encodeWord (0b10000#5 ++ 6#4 ++ 15#4 ++ 1#4 ++ 3#7), encodeWord 0x016208] =
      some (.fault { src := 6, dst := 15, aux := 3, body := [0x016208] }) ∧
    commandOfWords [encodeWord (0b11101#5 ++ 6#4 ++ 0#4 ++ 1#4 ++ 0b1000000#7), encodeWord 0x980300] =
      some (.refused { src := 6, dst := 0, aux := 64, body := [0x980300] }) ∧
    commandOfWords [encodeWord (0b00111#5 ++ 6#4 ++ 0#4 ++ 0#4 ++ 0#7)] =
      some (.unassignedKindFrame 7 { src := 6, dst := 0, aux := 0, body := [] }) := by decide +kernel

/-- BEACON (section 10.3): motion 3, board 7, ordinal 5, no fence, BOTTOM. -/
theorem test_beacon_fields : let f : RxFrame := { src := 6, dst := 15, aux := 0, body := [0x338BE0] }
    rxBeaconMotion f = 3 ∧ rxBeaconOrdinal f = 5 ∧ rxBeaconFence f = 7 ∧ rxBeaconSide f = .bottom := by decide +kernel

/-- A rectangle block (section 10.3): 9995 is 0x270B, 16305 is 0x3FB1, 6095 is 0x17CF, 10705 is 0x29D1. -/
theorem test_rectangle_block : let f : RxFrame := { src := 4, dst := 15, aux := 11, body := [0x270B3F, 0xB117CF, 0x29D180] }
    rxRect f = { xmin := 9995, xmax := 16305, ymin := 6095, ymax := 10705 } ∧ rxRectSide f = .bottom ∧
      rxOrdinal f = 5 ∧ rxClaimKind f = .travel := by decide +kernel

/-- READING (section 10.3): role 1, pass 2, COMPLIANCE, job 305, −1 µV, 998,400 nA. -/
theorem test_reading_fields :
    let f : RxFrame := { src := 4, dst := 15, aux := 0b0110010, body := [0x131000, 0xFFFFFF, 0x0F3C00] }
    rxReadingRole f = 1 ∧ rxReadingPass f = 2 ∧ rxJob f = 305 ∧
      rxReading f = { volt := -1, amp := 998400, isOver := false, compliance := true, lifted := false } := by
  decide +kernel

/-- An OFFER word by word (section 10.3): CONT, priority 2, budget 1, job 520, board 7, sample code 2, stimulus code 3,
settle code 20, limits 40,000 and 55,000, points (12100, 8000) and (12600, 8000), TOP, ANY. -/
def offerExample : RxFrame :=
  { src := 0, dst := 15, aux := 0b0010010
    body := [0x2083A6, 0x140000, 0x009C40, 0x00D6D8, 0x2F4440, 0x1F4000, 0x313840, 0x1F4000] }

theorem test_offer_fields : rxOffer offerExample = some (offerOf 520) := by decide +kernel

/-- A job of 0, a follow count of another kind, a tip class 3, a stimulus code 5 and an X of 60001 are malformed (R51). -/
theorem test_malformed_offers :
    rxOffer { offerExample with body := 0x0003A6 :: offerExample.body.tail } = none ∧
    rxOffer { offerExample with aux := 0b0110010 } = none ∧
    rxOffer { offerExample with body := offerExample.body.set 6 0x313860 } = none ∧
    rxOffer { offerExample with body := 0x2083AA :: offerExample.body.tail } = none ∧
    rxOffer { offerExample with body := offerExample.body.set 6 0xEA6140 } = none := by decide +kernel

/-- What the head sends: LANDED(520, 1, pass 2, NOCONTACT), DROP(622, SPACE), FAULT(0x02, mode 3, TRAVEL, job 520), the RESULT
of section 11.1, and the BEACON of `base` (section 10.3). -/
theorem test_sent_frames :
    (fillFrame base (.landed 520 1 2 true)).header = 0b01011#5 ++ 3#4 ++ 15#4 ++ 1#4 ++ 0b0001101#7 ∧
    (fillFrame base (.drop 622 .space 0)).body = [0x26E000] ∧
    (fillFrame base (.fault 0x02 3 .travel 520)).body = [0x026208] ∧
    (fillFrame base (.result { job := 520, board := 7, verdict := .pass, value := 47910, passesUsed := 1, neg := false
                               members := [2, 4] })).body = [0x208380, 0x0000BB, 0x262400] ∧
    (fillFrame base .beacon).body = [0x338BC0] := by decide +kernel

/-! ## Lane (chapter 01) -/

/-- R21. -/
theorem test_validation_codes : validationCode 15 = 0x3CA ∧ validationCode 3 = 0xF06 ∧ validationCode 0 = 0xC35 := by decide

/-- R1, by hand: the sync of a word that starts high, 0x47 from its most significant bit (its last byte is 01000111), and a
violation in the last bit. -/
theorem test_levels :
    (wordLevels true 0x47).take 12 =
      [true, true, true, true, true, false, false, false, false, true, false, true] ∧
    (wordLevels true 0x47).drop 52 =
      [false, true, true, false, false, true, false, true, false, true, true, false, true, false, true, false] ∧
    readWord ((wordLevels true 0x47).set 67 true) = none := by decide +kernel

/-- The TAKE example as it stands on the line, its two syncs at different levels. -/
theorem test_levels_spell_the_take_example :
    commandOfLevels (lineLevels (fun i => i == 1) [0x107E202E, 0x4C40012]) = .take takeExample := by decide +kernel

/-- The syncs LIF sends (R196): the first starts opposite the level read, the second opposite the low half that ends the 1
before it; what begins no sync is noise (R3). -/
theorem test_sync_starts :
    [syncStart false [0x107E202F, 0x4C40012] 0, syncStart true [0x107E202F, 0x4C40012] 0,
      syncStart false [0x107E202F, 0x4C40012] 1, syncStart false [0x107E202E, 0x4C40012] 1] = [true, false, true, false] ∧
    commandOfLevels [true, true, true, true, false, false, false, false] = .lineNoise ∧
    commandOfLevels [true, true, true, true, true, false, false, false, true, true] = .frameBroken [] := by decide +kernel

/-- A TAKE whose own readback has been heard is not on the lane any more: silence leaves a new one pending no longer (R16,
R66). -/
theorem test_silence_ends_a_new_take :
    let s := (sending (.take 305 0 false) .work base).onRvu fun r =>
      { r with pending := some { job := 306, role := 0, catchFlag := false } }
    after .contactClosing s (fun t => t.lif.silent && t.rvu.pending.isSome) = true ∧
    after .contactClosing (alterTx (fun x => { x with heard := true }) s)
      (fun t => t.lif.silent && t.rvu.pending.isNone) = true := by decide +kernel

/-- A CENSUS_REQ that has been heard keeps no census pending at the clear phase (R109, R111). -/
theorem test_clear_phase_ends_a_census :
    let s := (sending .censusReq .safety base).onScu fun c => { c with censusPending := true }
    (clearDynamic s).scu.censusPending = true ∧
    (clearDynamic (alterTx (fun x => { x with heard := true }) s)).scu.censusPending = false := by decide +kernel

/-- A RESTART in the self-test of a power-on start: the head joins, its self-test without a result (R46, R48). -/
theorem test_restart_in_the_self_test :
    after (.restart (guardedFrame 3 []) none) ((offlineHead 0).onStc fun c =>
        { c with join := .notStarted, selfTest := .notRun, selfTesting := true })
      (fun t => t.msq.motion == .joining && t.stc.join == .listen && !t.stc.selfTesting && t.stc.selfTest == .notRun) =
        true := by decide +kernel

/-- A receiver in WAIT_QUIET hears no frame (R3). -/
theorem test_wait_quiet : after (.offer offerExample) (base.onLif fun l => { l with receiver := .waitQuiet })
    (fun t => t.jtb.entries.isEmpty && t.lif.receiver == .waitQuiet) = true := by decide +kernel

/-- The corrected word of a frame that breaks is counted and logged (R5 to R7): bit 4 holds check bit 8 (R196). -/
theorem test_broken_words_are_logged : after (.frameBroken [0x107E202E, 0x4C40002])
    (base.onLif fun l => { l with receiver := .follow })
    (fun t => t.lif.counters.corrected == 1 && t.lif.counters.broken == 1 && t.scu.doubt &&
      (t.lif.checkLog.entry.map fun e => (e.syndrome, e.position, e.kind, e.source)) == some (8, 1, 8, 3)) = true := by
  decide +kernel

/-- The table of R9, SAFETY tracker at 3. -/
theorem test_rotation : [4, 5, 6, 7, 8, 0, 1, 2, 3].map (Machine.rotation · 3) = [0, 1, 2, 3, 4, 5, 6, 7, 8] := by decide

/-- The table of R11, in ns: stations 1, 4 and 8. -/
theorem test_backoff :
    [1, 2, 3, 4, 5, 16].map (backoff 1) = [1000, 2000, 4000, 8000, 16000, 16000] ∧
    [1, 2, 3, 4, 5, 16].map (backoff 4) = [2500, 5000, 10000, 20000, 40000, 40000] ∧
    [1, 2, 3, 4, 5, 16].map (backoff 8) = [4500, 9000, 18000, 36000, 72000, 72000] := by decide

/-- A SAFETY frame of station 3 behind tracker 4 waits 7.0 µs and a WORK frame behind tracker 2 waits 8.0 µs (R9, R10). -/
theorem test_gaps :
    let s := base.onLif fun l => { l with trackers := { safety := 3, work := 2, plan := 0, post := 3 } }
    s.gapFor .safety = 7000 ∧ s.gapFor .work = 8000 ∧ s.gapFor .post = 22000 := by decide +kernel

/-! ## Start (chapter 02) -/

/-- The CRC of the characters "1" to "9" (R29). -/
theorem test_crc : crc16 [0x31, 0x32, 0x33, 0x34, 0x35, 0x36, 0x37, 0x38, 0x39] = 0x29B1 := by decide +kernel

/-- The first 38 bytes of a record: the fields of R30's example over those of section 5.1. -/
def recordBody : List Byte :=
  [0x31, 0, 0, 0xEA, 0x60, 0, 0, 0xEA, 0x60, 0x03, 0xE8, 0x03, 0xE8, 0x07, 0x08, 0x14, 0x50, 0x03, 0x84, 0x09, 0xC4, 0, 3,
   0x0F, 0xA0, 0x03, 0xE8, 0, 0x64, 1, 0, 6, 0xFF, 0xFF, 0x01, 0xF4, 5, 200]

/-- The record with its CRC. -/
def record : List Byte := recordBody ++ [(crc16 recordBody).extractLsb' 8 8, (crc16 recordBody).extractLsb' 0 8]

/-- The example of R30: M = 3, EXP = 5200, take window 0xFFFF and fence mode 6 give 8, 4000, 100 ms and 3. -/
theorem test_record_is_clamped : (readRecord (some record)).map (fun c => (c.m, c.exp, c.takeWindow, c.fenceMode)) =
    some (8, 4000, 100, 3) := by decide +kernel

/-- A PROM that does not answer, a wrong CRC, a wrong tag, an empty reach and heights out of order are CONFIG_BAD (R29). -/
theorem test_bad_records : readRecord none = none ∧ readRecord (some (record.set 20 1)) = none ∧
    (let bad (i : Nat) (b : Byte) : Option ConfigRecord :=
      let r := recordBody.set i b
      readRecord (some (r ++ [(crc16 r).extractLsb' 8 8, (crc16 r).extractLsb' 0 8]))
    bad 0 0x32 = none ∧ bad 3 0xEB = none ∧ bad 25 0x0F = none) := by decide +kernel

/-- A release with good straps begins the self-test, with straps of 9 it is BAD_STRAP (R28, R31). -/
theorem test_release :
    after (.resetNRelease 3 .top (some record)) State.reset (fun t =>
      t.stc.selfTesting && t.stc.station == some 3 && t.flu.record.isNone) = true ∧
    after (.resetNRelease 9 .top (some record)) State.reset (fun t =>
      t.stc.station.isNone && t.stc.offlineReason == 0x13 && t.flu.faultN) = true := by decide +kernel

/-! ## Job table (chapter 03) -/

/-- The table of R59, in ms. -/
theorem test_catch_grace : [10, 25, 100, 1000].map catchGraceMs = [5, 6, 25, 250] := by decide

/-- The times of R155's example: window 1,160 µs, deadline 6,160 µs, hold limit 26,160 µs after START. -/
theorem test_window_times : windowTime 20 2 = 1160000 ∧ deadlineTime 20 2 = 6160000 ∧ holdLimitTime 20 2 = 26160000 := by
  decide

/-- The OFFER is admitted, and the head, IDLE, takes the nearer role at once (R52, R64, R65). -/
theorem test_offer_is_admitted : after (.offer offerExample) base (fun t =>
    t.jtb.entries.map (·.offer) == [offerOf 520] &&
      t.rvu.pending == some { job := 520, role := 0, catchFlag := false } && t.lif.work == [.take 520 0 false]) = true := by
  decide +kernel

/-! ## Claims (chapter 05) -/

/-- The table of R94. -/
theorem test_swell : swell .travel 150 0 = 150 ∧ swell .travel 150 64 = 151 ∧ swell .travel 150 65 = 152 ∧
    swell .travel 150 3500 = 205 ∧ swell .travel 150 9600 = 300 ∧ swell .travel 150 20000 = 300 ∧
    swell .travel 8 100 = 10 ∧ swell .travel 8 1000 = 16 := by decide

/-- The worked cases of section 5.1. -/
theorem test_corridor : corridor cfg .travel 12000 8000 15500 7200 =
      { kind := .travel, rect := { xmin := 9995, xmax := 16305, ymin := 6095, ymax := 10705 }
        region := { xmin := 11795, xmax := 15705, ymin := 6995, ymax := 8205 }, placing := false } ∧
    corridorRect cfg .standing 300 200 300 200 = { xmin := 0, xmax := 1050, ymin := 0, ymax := 2850 } ∧
    (corridorRect { cfg with exp := 4000, m := 2000 } .standing 60000 8000 60000 8000).xmax = 65535 := by decide +kernel

/-- The two peer rectangles of section 5.1. -/
theorem test_conflicts : let c := corridorRect cfg .travel 12000 8000 15500 7200
    c.conflicts { xmin := 16305, xmax := 18000, ymin := 7000, ymax := 9000 } = false ∧
      c.conflicts { xmin := 16000, xmax := 20000, ymin := 5000, ymax := 7000 } = true := by decide +kernel

/-- The corridors C2, C4 and T6 of section 11.1. -/
theorem test_sequence_corridors :
    let c2 := { cfg with exn := 2500, exp := 100, eyn := 1200, eyp := 1200, m := 80 }
    let c4 := { cfg with exn := 100, exp := 2500, eyn := 1200, eyp := 1200, m := 80 }
    let c6 := { cfg with exn := 1200, exp := 1200, eyn := 2500, eyp := 100, m := 80 }
    corridorRect c2 .travel 26000 20000 30000 20000 = { xmin := 23357, xmax := 30243, ymin := 18657, ymax := 21343 } ∧
    corridorRegion c4 .travel 35000 20500 30600 20000 = { xmin := 30451, xmax := 35149, ymin := 19851, ymax := 20649 } ∧
    corridorRect c6 .travel 32000 24000 32500 27000 = { xmin := 30673, xmax := 33827, ymin := 21373, ymax := 27227 } := by
  decide +kernel

/-- A lost peer's slot is frozen, and its CLAIM thaws it (section 11.3). -/
theorem test_frozen_slot_thaws :
    let t8 : Rect := { xmin := 24825, xmax := 27175, ymin := 28825, ymax := 35975 }
    let s8 : Rect := { xmin := 24900, xmax := 27100, ymin := 33700, ymax := 35900 }
    let s := updRoster 8 (fun _ => heard .top .travel) (putSlot 8 { holds := .held t8, lastOrdinal := some 12 } base)
    after (.silenceTimerExpiry 8) s (fun t => (t.slotOf 8).holds == .frozen (some t8) none) = true ∧
    after (.claim (rectFrame 8 [(6, 1), (1, 0)] s8 [(8, 0)])) (freezeSlot 8 s) (fun t =>
      t.slotOf 8 == { holds := .heldPending (some t8) s8 1 200000, lastOrdinal := some 1 }) = true := by decide +kernel

/-! ## Measurement (chapter 07) -/

/-- The table of R153. -/
theorem test_readings : roundQuot 43 4 = 11 ∧ roundQuot (-42) 4 = -11 ∧ roundQuot 42 4 = 11 ∧ roundQuot (-3) 8 = 0 := by
  decide

/-- The CONT cases of section 7.5. -/
theorem test_cont_cases :
    judge .cont 500000 520000 [some (reading 512345 1000000), some (reading 1220 998400)] = (.pass, 511944, false) ∧
    (judge .cont 500000 520000 [some (reading 512345 1000000), some (reading 1220 930000)]).1 = .leak ∧
    judge .cont 500000 520000 [some (reading 900 1000000), some (reading 1220 998400)] = (.low, 0, true) := by decide +kernel

/-- The KELVIN, ISOL and DIODE cases of section 7.5. -/
theorem test_other_cases :
    (compute .kelvin [some (reading 0 5000000), some (reading 0 5000000), some (reading 10250 0),
      some (reading 250 0)]).value = 2000 ∧
    judge .isol 100000 0 [some (reading 3998000 12), some (reading 150 12)] = (.pass, 333154, false) ∧
    judge .isol 100000 0 [some (reading 3998000 7), some (reading 150 7)] = (.pass, 4294967295, false) ∧
    judge .diode 550000 750000 [some (reading 652410 0), some (reading 1180 0)] = (.pass, 651230, false) ∧
    judge .diode 550000 750000 [some { reading 652410 0 with compliance := true }, some (reading 1180 0)] =
      (.isOpen, 651230, false) := by decide +kernel

/-- The results of sections 11.1 and 11.2. -/
theorem test_sequence_results :
    judge .cont 40000 55000 [some (reading 48210 1000100), some (reading 310 999800)] = (.pass, 47910, false) ∧
    judge .kelvin 3500 4500 [some (reading 0 1000050), some (reading 0 999900), some (reading 4130 0),
      some (reading 118 0)] = (.pass, 4012, false) := by decide +kernel

/-- A FORCE sample at the end of the range under a current sets OVER and COMPLIANCE (R151). -/
theorem test_force_sample_at_the_end :
    addSample .force (.current 1000000) 5000001 0 .clear =
      { volts := 5000000, amps := 0, count := 1, isOver := true, compliance := true, lifted := false } := by decide +kernel

/-! ## Well-formedness: an ill-formed term for each check -/

/-- R29: a record of 39 bytes; R46: the same for a restart. -/
theorem test_ill_prom : Instr.wellFormed (.resetNRelease 3 .top (some recordBody)) = false ∧
    Instr.wellFormed (.restart (guardedFrame 3 []) (some [])) = false ∧
    Instr.wellFormed (.resetNRelease 3 .top (some record)) = true := by decide +kernel

/-- R31, R150: 15 samples, and a sample beyond its converter's range. -/
theorem test_ill_samples : Instr.wellFormed (.selftestEnd true (List.replicate 15 0) (List.replicate 16 0)) = false ∧
    Instr.wellFormed (.selftestEnd true (List.replicate 16 5000001) (List.replicate 16 0)) = false ∧
    Instr.wellFormed (.selftestEnd true (List.replicate 16 0) (List.replicate 16 (-8000001))) = false ∧
    Instr.wellFormed (.selftestEnd true (List.replicate 16 0) (List.replicate 16 0)) = true := by decide +kernel

/-- R6: no word, a last word that can be corrected, an uncorrectable word before the last, and 17 words. -/
theorem test_ill_spoiled : Instr.wellFormed (.frameSpoiled [] .consumed) = false ∧
    Instr.wellFormed (.frameSpoiled [0x107E202E] .consumed) = false ∧
    Instr.wellFormed (.frameSpoiled [0x107E202D, 0x107E202D] .consumed) = false ∧
    Instr.wellFormed (.frameSpoiled (List.replicate 16 0x107E202E ++ [0x107E202D]) .consumed) = false ∧
    Instr.wellFormed (.frameSpoiled [0x107E202E, 0x107E202D] .violated) = true := by decide +kernel

/-- R7: 16 words, and an uncorrectable one. -/
theorem test_ill_broken : Instr.wellFormed (.frameBroken (List.replicate 16 0x107E202E)) = false ∧
    Instr.wellFormed (.frameBroken [0x107E202D]) = false ∧ Instr.wellFormed (.frameBroken []) = true := by
  decide +kernel

/-- Section 1.2: 16 following words. R5: an error past the frame, a clean word, another word's data, an uncorrectable word,
and positions out of order. -/
theorem test_ill_frame :
    Instr.wellFormed (.planBeacon { src := 0, dst := 15, aux := 0, body := List.replicate 16 0 }) = false ∧
    (let bad (es : List (Nat × CodedWord)) : Bool := !Instr.wellFormed (.take { takeExample with errors := es })
    bad [(2, 1)] = true ∧ bad [(0, 0x107E202E)] = true ∧ bad [(1, 0x107E202F)] = true ∧ bad [(0, 0x107E202D)] = true ∧
      bad [(1, 0x4C40013), (0, 0x107E202F)] = true ∧ bad [(0, 0x107E202F), (1, 0x4C40013)] = false) := by decide +kernel

/-- Section 10.2: STATUS and REFUSED by aux bit 6, and an assigned code. -/
theorem test_ill_aux : Instr.wellFormed (.status { takeExample with aux := 64 }) = false ∧
    Instr.wellFormed (.refused takeExample) = false ∧ Instr.wellFormed (.unassignedKindFrame 8 takeExample) = false ∧
    Instr.wellFormed (.unassignedKindFrame 0x1F takeExample) = true := by decide +kernel

/-- Stations 0 and 9, and jobs 0 and 4096. -/
theorem test_ill_numbers : Instr.wellFormed (.slotWindowExpiry 0) = false ∧
    Instr.wellFormed (.silenceTimerExpiry 9) = false ∧ Instr.wellFormed (.takeWindowExpiry 0) = false ∧
    Instr.wellFormed (.holdLimitExpiry 4096) = false ∧ Instr.wellFormed (.silenceTimerExpiry 0) = true := by decide

/-! ## The queue of commands -/

/-- Commands run first in, first out, and a table word spells none. -/
theorem test_queue : (match step { base with pending := [.lineNoise, .gapEnd] } with
      | .next t => t.pending == [.gapEnd] && t.lif.receiver == .waitQuiet
      | _ => false) = true ∧ decodeTableWord 24 0x41F880 = none := by decide +kernel

/-! ## Witnesses: for every statement with hypotheses, states and operands that meet them, clause by clause -/

theorem witness_StepRunsFrontCommand :
    ∃ s : State, s.pending = [] :=
  ⟨base, by decide +kernel⟩

theorem witness_ResetHoldsThePart :
    ∃ (c : Instr) (s : State), s.ResetSafe ∧ (∀ st d p, c ≠ .resetNRelease st d p) ∧ s.stc.inReset = true :=
  ⟨.lineQuiet, State.reset, (fun _ => rfl), (fun _ _ _ h => nomatch h), by decide +kernel⟩

theorem witness_LineWatchFollowsTheLine :
    (∃ s : State, s.Running ∧ s.lif.tx = none ∧ s.lif.receiver = .idle) ∧
    (∃ s : State, s.Running ∧ s.lif.tx = none ∧ s.lif.receiver = .header) ∧
    (∃ s : State, s.Running ∧ s.lif.tx = none ∧ s.lif.receiver = .waitQuiet) ∧
    (∃ (s : State) (x : Tx), s.Running ∧ s.lif.tx = some x ∧ x.wire.body ≠ [] ∧ s.lif.receiver = .header) ∧
    (∃ (s : State) (x : Tx), s.Running ∧ s.lif.tx = some x ∧ x.wire.body = []) ∧
    (∃ (s : State) (c : Instr) (k : Kind) (f : RxFrame), s.Running ∧ s.lif.receiver = .waitQuiet ∧ c.frame? = some (k, f) ∧
      s.isOwn f = false) ∧
    (∃ (s : State) (c : Instr) (k : Kind) (f : RxFrame), s.Running ∧ s.lif.receiver = .waitQuiet ∧ c.frame? = some (k, f) ∧
      s.isOwn f = true ∧ s.awaitsReadback = false) :=
  ⟨⟨base, runs (by decide +kernel), by decide +kernel⟩,
   ⟨base.onLif fun l => { l with receiver := .header }, runs (by decide +kernel), by decide +kernel⟩,
   ⟨base.onLif fun l => { l with receiver := .waitQuiet }, runs (by decide +kernel), by decide +kernel⟩,
   ⟨own base, theTx (own base), runs (by decide +kernel), by decide +kernel⟩,
   ⟨sending .release .safety base, theTx (sending .release .safety base), runs (by decide +kernel), by decide +kernel⟩,
   ⟨base.onLif fun l => { l with receiver := .waitQuiet }, .take (takeF 4 0 0), .take, takeF 4 0 0,
     runs (by decide +kernel), by decide +kernel⟩,
   ⟨base.onLif fun l => { l with receiver := .waitQuiet }, .take (takeF 3 0 0), .take, takeF 3 0 0,
     runs (by decide +kernel), by decide +kernel⟩⟩

theorem witness_QuietStartsTheGap :
    (∃ (s : State) (n : Nat), s.Running ∧ (∀ c, s.lif.trackers.of c ≤ 8) ∧ s.stc.station = some n ∧ 1 ≤ n ∧ n ≤ 8 ∧
      s.lif.tx = none ∧ s.lif.receiver = .idle ∧ s.choice ≠ none ∧ s.lif.k = 0) ∧
    (∃ (s : State) (n : Nat), s.Running ∧ (∀ c, s.lif.trackers.of c ≤ 8) ∧ s.stc.station = some n ∧ 1 ≤ n ∧ n ≤ 8 ∧
      s.lif.tx = none ∧ s.lif.receiver = .waitQuiet ∧ s.choice ≠ none ∧ s.lif.k = 16) :=
  ⟨⟨pushWork .beacon base, 3, runs (by decide +kernel), (fun c => by cases c <;> decide +kernel), by decide +kernel⟩,
   ⟨((offerSafety .release base).onLif fun l => { l with
      receiver := .waitQuiet, k := 16, trackers := { safety := 8, work := 8, plan := 8, post := 8 } }).onStc fun c =>
        { c with station := some 8 }, 8, runs (by decide +kernel), (fun c => by cases c <;> decide +kernel),
     by decide +kernel⟩⟩

theorem witness_GapEndStartsTheSync :
    (∃ (s : State) (p : Place) (c : AccessClass) (f : TxFrame), s.Running ∧ s.lif.tx = none ∧
      s.lif.gap.isSome = true ∧ s.lif.receiver = .idle ∧ s.choice = some (p, c, f)) ∧
    (∃ (s : State) (b : Nat) (p : Place) (c : AccessClass) (f : TxFrame), s.Running ∧ s.lif.tx = none ∧
      s.lif.burst = some b ∧ s.choice = some (p, c, f) ∧ c = .post ∧ s.cfg.postBurst ≠ 0 ∧
      b + 1000 < s.cfg.postBurst * 1000) ∧
    (∃ (s : State) (b : Nat) (p : Place) (c : AccessClass) (f : TxFrame), s.Running ∧ s.lif.tx = none ∧
      s.lif.burst = some b ∧ s.choice = some (p, c, f) ∧ c ≠ .post) ∧
    (∃ (s : State) (b : Nat) (p : Place) (c : AccessClass) (f : TxFrame), s.Running ∧ s.lif.tx = none ∧
      s.lif.burst = some b ∧ s.choice = some (p, c, f) ∧ c = .post ∧ s.cfg.postBurst * 1000 ≤ b + 1000) :=
  ⟨⟨(pushWork .beacon base).onLif fun l => { l with gap := some (.work, 8000) }, .work, .work, .beacon,
     runs (by decide +kernel), by decide +kernel⟩,
   ⟨base.onLif fun l => { l with answer := some (.status 0 0), burst := some 198999 }, 198999, .answer, .post,
     .status 0 0, runs (by decide +kernel), by decide +kernel⟩,
   ⟨(pushWork .beacon base).onLif fun l => { l with burst := some 4250 }, 4250, .work, .work, .beacon,
     runs (by decide +kernel), by decide +kernel⟩,
   ⟨base.onLif fun l => { l with answer := some (.status 0 0), burst := some 199000 }, 199000, .answer, .post,
     .status 0 0, runs (by decide +kernel), by decide +kernel⟩⟩

theorem witness_CollisionKeepsTheFrame :
    (∃ (s : State) (x : Tx), s.Running ∧ s.lif.tx = some x ∧ x.detached = false ∧ x.withdrawn = false ∧
      x.replacement = none ∧ s.lif.k ≠ 15 ∧ s.lif.k = 0) ∧
    (∃ (s : State) (x : Tx), s.Running ∧ s.lif.tx = some x ∧ x.detached = false ∧ x.withdrawn = false ∧
      x.replacement = none ∧ s.lif.k ≠ 15 ∧ s.lif.k = 16) ∧
    (∃ (s : State) (x : Tx), s.Running ∧ s.lif.tx = some x ∧ s.lif.k ≠ 15 ∧ x.detached = true) ∧
    (∃ (s : State) (x : Tx) (g : TxFrame), s.Running ∧ s.lif.tx = some x ∧ s.lif.k ≠ 15 ∧ x.detached = false ∧
      x.replacement = some g ∧ isClaimFrame x.frame = false) ∧
    (∃ (s : State) (x : Tx) (g : TxFrame), s.Running ∧ s.lif.tx = some x ∧ s.lif.k ≠ 15 ∧ x.detached = false ∧
      x.replacement = some g ∧ isClaimFrame x.frame = true ∧ isClaimFrame g = true) ∧
    (∃ (s : State) (x : Tx) (g : TxFrame), s.Running ∧ s.lif.tx = some x ∧ s.lif.k ≠ 15 ∧ x.detached = false ∧
      x.replacement = some g ∧ isClaimFrame x.frame = true ∧ isClaimFrame g = false ∧ s.scu.pending = none) ∧
    (∃ (s : State) (x : Tx) (p : PendingClaim) (g : TxFrame), s.AtWork ∧ s.lif.tx = some x ∧ s.lif.k ≠ 15 ∧
      s.lif.silent = false ∧ x.detached = false ∧ x.replacement = some g ∧ isClaimFrame g = false ∧
      isClaimFrame x.frame = true ∧ x.place = .safety ∧ s.scu.pending = some p ∧ p.stage = .queued ∧
      s.msq.motion = .claiming ∧ s.msq.abandonMark = false ∧ s.msq.spaceExpired = false) ∧
    (∃ (s : State) (x : Tx) (p : PendingClaim), s.AtWork ∧ s.lif.tx = some x ∧ s.lif.k ≠ 15 ∧ s.lif.silent = false ∧
      x.detached = false ∧ x.withdrawn = true ∧ x.replacement = none ∧ isClaimFrame x.frame = true ∧ x.place = .safety ∧
      s.scu.pending = some p ∧ p.stage = .queued ∧ s.msq.motion = .claiming ∧ s.msq.abandonMark = false ∧
      s.msq.spaceExpired = false) :=
  ⟨⟨own base, theTx (own base), runs (by decide +kernel), by decide +kernel⟩,
   ⟨own (base.onLif fun l => { l with k := 16 }), theTx (own (base.onLif fun l => { l with k := 16 })),
     runs (by decide +kernel), by decide +kernel⟩,
   ⟨alterTx (fun t => { t with detached := true }) (own base), { theTx (own base) with detached := true },
     runs (by decide +kernel), by decide +kernel⟩,
   ⟨alterTx (fun t => { t with replacement := some .release }) (sending .release .safety base),
     { theTx (sending .release .safety base) with replacement := some .release },
     .release, runs (by decide +kernel), by decide +kernel⟩,
   ⟨alterTx (fun t => { t with replacement := some aClaim }) (sending aClaim .safety base),
     { theTx (sending aClaim .safety base) with replacement := some aClaim },
     aClaim, runs (by decide +kernel), by decide +kernel⟩,
   ⟨alterTx (fun t => { t with replacement := some .release }) (sending aClaim .safety base),
     { theTx (sending aClaim .safety base) with replacement := some .release },
     .release, runs (by decide +kernel), by decide +kernel⟩,
   ⟨alterTx (fun t => { t with replacement := some .censusReply }) (queued move51 (sending aClaim .safety (inMotion .claiming))),
     { theTx (sending aClaim .safety (inMotion .claiming)) with replacement := some .censusReply },
     { claim := move51, stage := .queued }, .censusReply, works (by decide +kernel), by decide +kernel⟩,
   ⟨alterTx (fun t => { t with withdrawn := true }) (queued move51 (sending aClaim .safety (inMotion .claiming))),
     { theTx (sending aClaim .safety (inMotion .claiming)) with withdrawn := true }, { claim := move51, stage := .queued },
     works (by decide +kernel), by decide +kernel⟩⟩

theorem witness_SentFrameLeavesItsPlace :
    (∃ (s : State) (x : Tx), s.Running ∧ s.lif.tx = some x ∧ x.detached = false ∧ x.replacement = none ∧
      x.place = .safety) ∧
    (∃ (s : State) (x : Tx), s.Running ∧ s.lif.tx = some x ∧ x.detached = false ∧ x.replacement = none ∧
      x.place = .work) ∧
    (∃ (s : State) (x : Tx), s.Running ∧ s.lif.tx = some x ∧ x.detached = false ∧ x.replacement = none ∧
      x.place = .answer) ∧
    (∃ (s : State) (x : Tx), s.Running ∧ s.lif.tx = some x ∧ x.detached = false ∧ x.replacement = none ∧
      x.place = .post) :=
  ⟨⟨sending (.release) .safety base, theTx (sending (.release) .safety base), runs (by decide +kernel),
     by decide +kernel⟩,
   ⟨sending (.beacon) .work base, theTx (sending (.beacon) .work base), runs (by decide +kernel), by decide +kernel⟩,
   ⟨sending (.status 0 0) .answer base, theTx (sending (.status 0 0) .answer base), runs (by decide +kernel),
     by decide +kernel⟩,
   ⟨sending (aResult) .post base, theTx (sending (aResult) .post base), runs (by decide +kernel), by decide +kernel⟩⟩

theorem witness_HeldFrameEntersWork :
    (∃ (s : State) (f : TxFrame) (rest : List TxFrame), s.AtWork ∧ (∀ j, isReadingOf j f = false) ∧
      s.lif.held = f :: rest ∧ s.lif.work.length < 8) ∧
    (∃ (s : State) (f : TxFrame) (rest : List TxFrame) (m : Membership) (e : Entry), s.AtWork ∧
      s.lif.held = f :: rest ∧ s.lif.work.length < 8 ∧ isReadingOf m.job f = true ∧ s.rvu.current = some m ∧
      m.state = .measuring ∧ m.role ≠ 0 ∧ m.deferred = none ∧ s.meu.window = .off ∧ s.entry? m.job = some e ∧
      s.rvu.next = none) ∧
    (∃ s : State, s.AtWork ∧ s.lif.held = []) ∧
    (∃ s : State, s.AtWork ∧ 8 ≤ s.lif.work.length ∧ s.lif.held ≠ []) ∧
    (∃ (s : State) (f : TxFrame) (rest : List TxFrame), s.AtWork ∧ s.lif.held = f :: rest ∧ s.lif.work.length < 8 ∧
      isReadingOf 520 f = true ∧ s.meu.window ≠ .off) ∧
    (∃ (s : State) (f : TxFrame) (rest : List TxFrame), s.AtWork ∧ s.lif.held = f :: rest ∧ s.lif.work.length < 8 ∧
      isReadingOf 520 f = true ∧ s.member? 520 = none ∧ s.meu.acc.lifted = true) :=
  ⟨⟨base.onLif fun l => { l with work := List.replicate 7 .beacon, held := [.beacon] }, .beacon, [],
     works (by decide +kernel), (fun _ => rfl), by decide +kernel⟩,
   ⟨(down .measure 1 .measuring).onLif fun l => { l with held := [.reading 520 1 0 false false false 5 7] },
     .reading 520 1 0 false false false 5 7, [], memberOf 520 1 .measuring, formedOf 520 1 [some 4, some 3],
     works (by decide +kernel), by decide +kernel⟩,
   ⟨base, works (by decide +kernel), by decide +kernel⟩,
   ⟨base.onLif fun l => { l with work := List.replicate 8 .beacon, held := [.beacon] }, works (by decide +kernel),
     by decide +kernel⟩,
   ⟨(windowed 1 .ret (.settle 1000000 16) 0).onLif fun l => { l with held := [aReading, .beacon] }, aReading, [.beacon],
     works (by decide +kernel), by decide +kernel⟩,
   ⟨(base.onLif fun l => { l with held := [aReading] }).onMeu fun u => { u with acc := { u.acc with lifted := true } },
     aReading, [], works (by decide +kernel), by decide +kernel⟩⟩

theorem witness_SpoiledAndBrokenFramesAreCounted :
    (∃ (s : State) (ws : List CodedWord), s.Running ∧ s.lif.receiver ≠ .waitQuiet ∧ s.lif.counters.corrected ≤ 65535 ∧
      spoiledOk ws = true) ∧
    (∃ (s : State) (ws : List CodedWord), s.Running ∧ s.lif.receiver ≠ .waitQuiet ∧ s.lif.counters.corrected ≤ 65535 ∧
      brokenOk ws = true) ∧
    (∃ s : State, s.Running ∧ s.lif.counters.corrected ≤ 65535 ∧ s.lif.tx = none ∧ s.lif.receiver = .header) ∧
    (∃ s : State, s.Running ∧ s.lif.counters.corrected ≤ 65535 ∧ s.lif.tx = none ∧ s.lif.receiver = .follow) ∧
    (∃ (s : State) (ws : List CodedWord) (i : Nat) (w : CodedWord) (d e : DataWord) (n : Nat), s.Running ∧
      (∀ v ∈ ws.take i, ∃ c, decodeWord v = .clean c) ∧ s.lif.receiver ≠ .waitQuiet ∧
      s.lif.counters.corrected ≤ 65535 ∧ brokenOk ws = true ∧ s.lif.checkLog.entry = none ∧
      ws[i]? = some w ∧ decodeWord w = .corrected d n ∧ ws.head? = some 0x107E202E ∧
      decodeWord 0x107E202E = .clean e) ∧
    (∃ (s : State) (ws : List CodedWord), s.Running ∧ s.lif.receiver ≠ .waitQuiet ∧ s.lif.counters.corrected ≤ 65535 ∧
      spoiledOk ws = true ∧ s.lif.checkLog.entry ≠ none ∧ ws.head? = some 0x107E202F) :=
  ⟨⟨base.onCounters fun c => { c with corrected := 65535 }, [0x107E202F, 0x107E202D], runs (by decide +kernel),
     by decide +kernel⟩,
   ⟨base.onCounters fun c => { c with corrected := 65535 }, [0x107E202F], runs (by decide +kernel),
     by decide +kernel⟩,
   ⟨base.onLif fun l => { l with receiver := .header }, runs (by decide +kernel), by decide +kernel⟩,
   ⟨base.onLif fun l => { l with receiver := .follow }, runs (by decide +kernel), by decide +kernel⟩,
   ⟨base, [0x107E202E, 0x4C40002], 1, 0x4C40002, 0x131000, 0x41F880, 8, runs (by decide +kernel),
     (fun _ h => ⟨0x41F880, by rw [List.mem_singleton.1 h]; decide +kernel⟩), by decide +kernel⟩,
   ⟨base.onLif fun l => { l with checkLog := { l.checkLog with entry := some ⟨4, true, 0, 8, 4⟩ } }, [0x107E202F,
     0x107E202D],
     runs (by decide +kernel), by decide +kernel⟩⟩

theorem witness_FramesOfPresenceAlone :
    (∃ (s : State) (f : RxFrame), s.Running ∧ s.Accepts .planBeacon f ∧ s.isOwn f = false ∧ f.errors = []) ∧
    (∃ (s : State) (f : RxFrame) (e : RosterEntry), s.Running ∧ s.Accepts .refused f ∧ s.isOwn f = false ∧
      f.errors = [] ∧ s.stc.roster.at? f.src.toNat = some e) ∧
    (∃ (s : State) (f : RxFrame) (e : RosterEntry), s.Running ∧ s.Accepts .status f ∧ s.isOwn f = false ∧
      f.errors = [] ∧ s.stc.roster.at? f.src.toNat = some e ∧ rxStatusItem f = 0 ∧ f.body.length = 15 ∧
      rxStatusMotion f ≤ 13) ∧
    (∃ (s : State) (f : RxFrame) (e : RosterEntry), s.Running ∧ s.Accepts .status f ∧ s.isOwn f = false ∧
      f.errors = [] ∧ s.stc.roster.at? f.src.toNat = some e ∧ rxStatusItem f = 4) :=
  ⟨⟨base, frameOf 0 15 [] [], runs (by decide +kernel), takes (by decide +kernel), by decide +kernel⟩,
   ⟨base, frameOf 4 0 [(7, 64)] [(24, 0x980300)], heard .top .idle, runs (by decide +kernel),
     takes (by decide +kernel), by decide +kernel⟩,
   ⟨base, frameOf 4 0 [] (([4, 4] ++ [5, 277, 8]).map (fun n => (n, 0)) ++ [(4, 13), (58, 0)]), heard .top .idle,
     runs (by decide +kernel), takes (by decide +kernel), by decide +kernel⟩,
   ⟨base, frameOf 4 0 [] [(4, 4), (20, 0)], heard .top .idle, runs (by decide +kernel), takes (by decide +kernel),
     by decide +kernel⟩⟩

theorem witness_ChecksDiscardOrPassOver :
    (∃ (c : Instr) (k : Kind) (f : RxFrame) (s : State), s.Running ∧ s.receives f = true ∧ c.frame? = some (k, f) ∧
      s.isOwn f = false ∧
      s.isFor k f = false) ∧
    (∃ (c : Instr) (k : Kind) (f : RxFrame) (s : State), s.Running ∧ s.receives f = true ∧ c.frame? = some (k, f) ∧
      s.isOwn f = true ∧
      s.awaitsReadback = true ∧ s.isFor k f = false) ∧
    (∃ (c : Instr) (k : Kind) (f : RxFrame) (s : State), s.Running ∧ s.receives f = true ∧ c.frame? = some (k, f) ∧
      s.isOwn f = false ∧
      s.isFor k f = true ∧ k.followAllowed f.body.length = false) ∧
    (∃ (c : Instr) (k : Kind) (f : RxFrame) (s : State), s.Running ∧ s.receives f = true ∧ c.frame? = some (k, f) ∧
      s.isOwn f = false ∧
      s.isFor k f = true ∧ fieldsOk k f = false) ∧
    (∃ (c : Instr) (k : Kind) (f : RxFrame) (s : State), s.Running ∧ s.receives f = true ∧ c.frame? = some (k, f) ∧
      s.isOwn f = false ∧
      s.isFor k f = true ∧ sourceOk k f.src.toNat = false) ∧
    (∃ (c : Instr) (k : Kind) (f : RxFrame) (s : State), s.Running ∧ s.receives f = true ∧ c.frame? = some (k, f) ∧
      s.isOwn f = false ∧
      s.isFor k f = true ∧ k.guarded = true ∧ f.dst.toNat = 15 ∧ codeOk f = false) ∧
    (∃ (c : Instr) (k : Kind) (f : RxFrame) (s : State), s.Running ∧ s.receives f = true ∧ c.frame? = some (k, f) ∧
      s.isOwn f = false ∧
      s.isFor k f = true ∧ k = .restart ∧ k.guarded = true ∧ f.dst.toNat = 15 ∧ codeOk f = true) ∧
    (∃ (c : Instr) (k : Kind) (f : RxFrame) (s : State), s.Running ∧ s.receives f = true ∧ c.frame? = some (k, f) ∧
      s.isOwn f = false ∧
      s.isFor k f = true ∧ k.followAllowed f.body.length = true ∧ fieldsOk k f = true ∧
      sourceOk k f.src.toNat = true ∧ k.guarded = true ∧ codeOk f = false ∧ f.dst.toNat ≠ 15) :=
  ⟨⟨.take (frameOf 4 5 [] [(24, 0)]), .take, frameOf 4 5 [] [(24, 0)], base, runs (by decide +kernel),
     by decide +kernel⟩,
   ⟨.take (frameOf 3 5 [] [(24, 0)]), .take, frameOf 3 5 [] [(24, 0)], own base, runs (by decide +kernel),
     by decide +kernel⟩,
   ⟨.take (frameOf 4 15 [] []), .take, frameOf 4 15 [] [], base, runs (by decide +kernel), by decide +kernel⟩,
   ⟨.beacon (beaconF 4 14 0 7 0), .beacon, beaconF 4 14 0 7 0, base, runs (by decide +kernel), by decide +kernel⟩,
   ⟨.take (takeF 0 0 0), .take, takeF 0 0 0, base, runs (by decide +kernel), by decide +kernel⟩,
   ⟨.resume (frameOf 0 15 [] [(24, 0)]), .resume, frameOf 0 15 [] [(24, 0)], base, runs (by decide +kernel),
     by decide +kernel⟩,
   ⟨.restart (guardedFrame 15 []) none, .restart, guardedFrame 15 [], base, runs (by decide +kernel),
     by decide +kernel⟩,
   ⟨.resume (frameOf 0 3 [] [(24, 0)]), .resume, frameOf 0 3 [] [(24, 0)], base, runs (by decide +kernel),
     by decide +kernel⟩⟩

theorem witness_FloorThreeFaultsHaltAll :
    (∃ s : State, s.stc.inReset = false ∧ s.flu.haltDrive = false ∧ s.msq.motion = .idle ∧ s.pins.contact = false) ∧
    (∃ s : State, s.stc.inReset = false ∧ s.lifting = true ∧ s.flu.haltDrive = false ∧ s.msq.motion = .lift ∧
      s.pins.contact = false) ∧
    (∃ (s : State) (r : DriveReport), s.stc.inReset = false ∧ s.flu.haltDrive = false ∧ s.msq.motion = .idle ∧
      s.breaches r = true ∧ r.fault = false ∧ s.msq.breachReported = false ∧ r.inPosition = true ∧
      r.number.toNat ≠ s.nextCommand) ∧
    (∃ (s : State) (r : DriveReport), s.stc.inReset = false ∧ s.flu.haltDrive = false ∧ s.flu.fence = .silent ∧
      s.msq.motion = .frozen ∧ s.breaches r = true ∧ r.fault = false ∧ s.msq.breachReported = false ∧
      r.inPosition = false) ∧
    (∃ (s : State) (c : Instr) (k : Kind) (f : RxFrame), s.stc.inReset = false ∧ s.flu.haltDrive = false ∧
      s.flu.fence = .restartWait ∧ s.msq.motion = .idle ∧ c.frame? = some (k, f) ∧ s.isOwn f = true ∧
      s.awaitsReadback = false ∧ s.lif.receiver ≠ .waitQuiet) ∧
    (∃ (s : State) (r : DriveReport), s.stc.inReset = false ∧ s.flu.haltDrive = false ∧ s.msq.motion = .idle ∧
      s.breaches r = true ∧ r.fault = true ∧ s.msq.breachReported = false ∧ s.msq.driveReported = false ∧
      r.number.toNat ≠ s.nextCommand ∧ s.flu.fence = .noFence ∧ s.lifting = false ∧ s.rvu.current = none ∧
      s.rvu.next = none ∧ s.cfg.fenceMode = 3) ∧
    (∃ s : State, s.Running ∧ s.msq.motion = .offline ∧ s.pins.contact = true) ∧
    (∃ s : State, s.Running ∧ s.flu.haltDrive = true ∧ s.msq.motion = .frozen ∧ s.pins.contact = false) ∧
    (∃ s : State, s.stc.inReset = false ∧ s.lifting = true ∧ s.flu.haltDrive = true ∧ s.msq.motion = .lift ∧
      s.pins.contact = false) ∧
    (∃ (s : State) (c : Instr) (k : Kind) (f : RxFrame), s.Running ∧ s.msq.motion = .offline ∧ c.frame? = some (k, f) ∧
      s.isOwn f = true ∧ s.awaitsReadback = false ∧ s.lif.receiver ≠ .waitQuiet) ∧
    (∃ s : State, s.Running ∧ s.msq.motion = .joining ∧ s.pins.contact = false) ∧
    (∃ (s : State) (c : Instr) (k : Kind) (f : RxFrame), s.Running ∧ s.msq.motion = .joining ∧ c.frame? = some (k, f) ∧
      s.isOwn f = true ∧ s.awaitsReadback = false ∧ s.lif.receiver ≠ .waitQuiet) :=
  ⟨⟨base, by decide +kernel⟩,
   ⟨liftingHead, by decide +kernel⟩,
   ⟨base, rep 12151 8000 4000 9, by decide +kernel⟩,
   ⟨silentHead, { rep 12000 8151 4000 9 with inPosition := false }, by decide +kernel⟩,
   ⟨waiting base, .take (takeF 3 0 0), .take, takeF 3 0 0, by decide +kernel⟩,
   ⟨withMode 3, { rep 12151 8000 4000 9 with fault := true }, by decide +kernel⟩,
   ⟨(offlineHead 0x10).onPins fun p => { p with contact := true }, runs (by decide +kernel), by decide +kernel⟩,
   ⟨drivesHalt silentHead, runs (by decide +kernel), by decide +kernel⟩,
   ⟨drivesHalt liftingHead, by decide +kernel⟩,
   ⟨offlineHead 0x10, .take (takeF 3 0 0), .take, takeF 3 0 0, runs (by decide +kernel), by decide +kernel⟩,
   ⟨joining .census, runs (by decide +kernel), by decide +kernel⟩,
   ⟨joining .listen, .take (takeF 3 0 0), .take, takeF 3 0 0, runs (by decide +kernel), by decide +kernel⟩⟩

theorem witness_TimedFaultsFenceByMode :
    (∃ s : State, s.AtWork ∧ s.msq.motion ≠ .offline ∧ s.rvu.current = none ∧ s.rvu.next = none ∧
      s.lif.silent = false ∧ s.lif.stallSafety.isSome = true ∧ max s.cfg.fenceMode 1 = 1 ∧
      s.msq.motion.actionEnds = true) ∧
    (∃ s : State, s.AtWork ∧ s.msq.motion ≠ .offline ∧ s.rvu.current = none ∧ s.rvu.next = none ∧
      s.lif.silent = false ∧ s.lif.stallWork.isSome = true ∧ max s.cfg.fenceMode 1 = 1 ∧
      s.msq.motion.actionEnds = false ∧ s.msq.motion.engaged = true) ∧
    (∃ s : State, s.AtWork ∧ s.msq.motion ≠ .offline ∧ s.rvu.current = none ∧ s.rvu.next = none ∧
      s.lif.silent = false ∧ s.lif.stallWork.isSome = true ∧ max s.cfg.fenceMode 1 = 3) ∧
    (∃ s : State, s.AtWork ∧ s.msq.motion ≠ .offline ∧ s.rvu.current = none ∧ s.rvu.next = none ∧
      s.lif.silent = false ∧ s.lif.deafness.isSome = true ∧ max s.cfg.fenceMode 1 = 2) ∧
    (∃ s : State, s.AtWork ∧ s.msq.motion ≠ .offline ∧ s.rvu.current = none ∧ s.rvu.next = none ∧
      s.lif.silent = false ∧ s.msq.driveSilence.isSome = true ∧ s.msq.driveReported = false ∧
      max s.cfg.fenceMode 0 = 0 ∧ s.msq.motion.actionEnds = true) ∧
    (∃ s : State, s.AtWork ∧ s.LiftsSafely ∧ s.msq.motion ≠ .offline ∧ s.lif.silent = false ∧
      s.rvu.current ≠ none ∧ s.lif.deafness.isSome = true ∧ s.cfg.fenceMode = 1 ∧ s.msq.motion = .hold) ∧
    (∃ s : State, s.AtWork ∧ s.LiftsSafely ∧ s.msq.motion ≠ .offline ∧ s.lif.silent = false ∧
      s.rvu.current ≠ none ∧ s.lif.deafness.isSome = true ∧ s.cfg.fenceMode = 2 ∧ s.msq.motion = .travel) ∧
    (∃ (s : State) (r : DriveReport), s.AtWork ∧ s.LiftsSafely ∧ s.msq.motion ≠ .offline ∧ s.lif.silent = false ∧
      s.rvu.current ≠ none ∧ r.fault = true ∧ s.breaches r = false ∧ r.inPosition = false ∧
      s.msq.driveReported = false ∧ s.cfg.fenceMode = 0 ∧ s.msq.motion = .travel) ∧
    (∃ (s : State) (r : DriveReport), s.AtWork ∧ s.msq.motion ≠ .offline ∧ s.lif.silent = false ∧ s.rvu.current = none ∧
      s.rvu.next = none ∧
      r.fault = true ∧ s.breaches r = false ∧ r.inPosition = false ∧ s.msq.driveReported = true) ∧
    (∃ (s : State) (x : Tx), s.AtWork ∧ s.msq.motion ≠ .offline ∧ s.lif.silent = false ∧ s.rvu.current = none ∧
      s.rvu.next = none ∧
      s.lif.tx = some x ∧ s.lif.k = 15 ∧ x.detached = false ∧ x.withdrawn = false ∧ x.replacement = none) ∧
    (∃ s : State, s.stc.inReset = false ∧ s.msq.motion = .offline ∧ s.Running ∧ s.lif.deafness.isSome = true ∧
      s.lifting = false ∧ s.msq.driveSilence.isSome = true ∧ s.msq.driveReported = false) ∧
    (∃ s : State, s.stc.inReset = false ∧ s.msq.motion = .frozen ∧ s.flu.fence = .silent ∧ s.Running ∧
      s.lif.stallWork.isSome = true) ∧
    (∃ s : State, s.stc.inReset = false ∧ s.msq.motion = .lift ∧ s.lifting = true ∧ s.lif.stallSafety.isSome = true) ∧
    (∃ s : State, s.Running ∧ s.msq.motion = .joining ∧ s.lif.stallSafety.isSome = true ∧ s.lif.deafness.isSome = true ∧
      s.msq.driveSilence.isSome = true ∧ s.msq.driveReported = false) ∧
    (∃ s : State, s.Running ∧ s.msq.motion = .joining ∧ s.lif.stallWork.isSome = true) :=
  ⟨⟨offerSafety .release base, works (by decide +kernel), by decide +kernel⟩,
   ⟨pushWork .beacon (inMotion .lift), works (by decide +kernel), by decide +kernel⟩,
   ⟨pushWork .beacon (withMode 3), works (by decide +kernel), by decide +kernel⟩,
   ⟨(withMode 2), works (by decide +kernel), by decide +kernel⟩,
   ⟨base, works (by decide +kernel), by decide +kernel⟩,
   ⟨(down .hold 1 .hold).onStc fun c => { c with config := some { cfg with fenceMode := 1 } }, works (by decide +kernel),
     lifts (by decide +kernel), by decide +kernel⟩,
   ⟨(down .travel 1 .moving).onStc fun c => { c with config := some { cfg with fenceMode := 2 } },
     works (by decide +kernel),
     lifts (by decide +kernel), by decide +kernel⟩,
   ⟨down .travel 1 .moving, { rep 12000 8000 4000 9 with fault := true, inPosition := false }, works (by decide +kernel),
     lifts (by decide +kernel), by decide +kernel⟩,
   ⟨base.onMsq fun q => { q with driveReported := true }, { rep 12000 8000 4000 9 with fault := true, inPosition := false },
     works (by decide +kernel), by decide +kernel⟩,
   ⟨own (base.onLif fun l => { l with k := 15 }), theTx (own (base.onLif fun l => { l with k := 15 })),
     works (by decide +kernel),
     by decide +kernel⟩,
   ⟨offlineHead 0x07, by decide +kernel, by decide +kernel, runs (by decide +kernel), by decide +kernel⟩,
   ⟨pushWork .beacon silentHead, by decide +kernel, by decide +kernel, by decide +kernel,
     runs (by decide +kernel), by decide +kernel⟩,
   ⟨liftingHead.onLif fun l => { l with stallSafety := some 2000000 }, by decide +kernel⟩,
   ⟨offerSafety .censusReq (joining .census), runs (by decide +kernel), by decide +kernel⟩,
   ⟨pushWork .beacon (joining .census), runs (by decide +kernel), by decide +kernel⟩⟩

theorem witness_OfferEntersTheTable :
    (∃ (s : State) (f : RxFrame) (o : Offer), s.Running ∧ s.TableSafe ∧ s.Accepts .offer f ∧ rxOffer f = some o ∧
      s.stc.board = .active o.board ∧ s.entry? o.job = none ∧ (∃ p ∈ o.points, s.servable p = true) ∧
      s.jtb.entries.length < 24) ∧
    (∃ (s : State) (f : RxFrame) (o : Offer) (v : Entry), s.Running ∧ s.TableSafe ∧ s.Accepts .offer f ∧
      rxOffer f = some o ∧ s.stc.board = .active o.board ∧ s.entry? o.job = none ∧
      (∃ p ∈ o.points, s.servable p = true) ∧ s.jtb.entries.length = 24 ∧ v ∈ s.jtb.entries ∧ v.isOpen = true ∧
      v.offer.priority < o.priority ∧ s.takePending v.offer.job = false ∧
      (∀ x ∈ s.jtb.entries, x.isOpen = true → x.offer.priority < o.priority → s.takePending x.offer.job = false →
      v.offer.priority < x.offer.priority ∨ v.offer.priority = x.offer.priority ∧ x.rank ≤ v.rank)) ∧
    (∃ (s : State) (f : RxFrame) (o : Offer), s.Running ∧ s.TableSafe ∧ s.Accepts .offer f ∧ rxOffer f = some o ∧
      s.stc.board = .active o.board ∧ s.entry? o.job = none ∧ (∃ p ∈ o.points, s.servable p = true) ∧
      s.jtb.entries.length = 24 ∧ (∀ v ∈ s.jtb.entries, ¬ v.offer.priority < o.priority)) :=
  ⟨⟨withTable ((List.range 23).map fun i => entryOf (i + 1) i [none, none]) base, offerExample, offerOf 520,
     runs (by decide +kernel), by unfold State.TableSafe; decide +kernel, takes (by decide +kernel),
     by decide +kernel⟩,
   ⟨withTable ((List.range 24).map fun i => entryOf (i + 1) i [none, none]) base,
     offerFrame { offerOf 520 with priority := 3 } 0, { offerOf 520 with priority := 3 },
     entryOf 24 23 [none, none], runs (by decide +kernel), by unfold State.TableSafe; decide +kernel,
     takes (by decide +kernel), by decide +kernel⟩,
   ⟨withTable ((List.range 24).map fun i => entryOf (i + 1) i [none, none]) base, offerExample, offerOf 520,
     runs (by decide +kernel), by unfold State.TableSafe; decide +kernel, takes (by decide +kernel),
     by decide +kernel⟩⟩

theorem witness_OfferIsTurnedAwayOrReplaces :
    (∃ (s : State) (f : RxFrame), s.Running ∧ s.TableSafe ∧ s.Accepts .offer f ∧ rxOffer f = none) ∧
    (∃ (s : State) (f : RxFrame) (o : Offer), s.Running ∧ s.TableSafe ∧ s.Accepts .offer f ∧ rxOffer f = some o ∧
      s.stc.board ≠ .active o.board) ∧
    (∃ (s : State) (f : RxFrame) (o : Offer), s.Running ∧ s.TableSafe ∧ s.Accepts .offer f ∧ rxOffer f = some o ∧
      s.stc.board = .active o.board ∧ s.entry? o.job = none ∧ (¬ ∃ p ∈ o.points, s.servable p = true)) ∧
    (∃ (s : State) (f : RxFrame) (o : Offer) (e : Entry), s.Running ∧ s.TableSafe ∧ s.Accepts .offer f ∧
      rxOffer f = some o ∧ s.stc.board = .active o.board ∧ s.entry? o.job = some e ∧ e.isOpen = false) ∧
    (∃ (s : State) (f : RxFrame) (o : Offer) (e : Entry), s.Running ∧ s.TableSafe ∧ s.Accepts .offer f ∧
      rxOffer f = some o ∧ s.stc.board = .active o.board ∧ s.entry? o.job = some e ∧ e.isOpen = true ∧
      (¬ ∃ p ∈ o.points, s.servable p = true)) ∧
    (∃ (s : State) (f : RxFrame) (o : Offer) (e : Entry), s.Running ∧ s.TableSafe ∧ s.Accepts .offer f ∧
      rxOffer f = some o ∧ s.stc.board = .active o.board ∧ s.entry? o.job = some e ∧ e.isOpen = true ∧
      (∃ p ∈ o.points, s.servable p = true)) :=
  ⟨⟨base, frameOf 0 15 [] [], runs (by decide +kernel), by unfold State.TableSafe; decide +kernel,
     takes (by decide +kernel), by decide +kernel⟩,
   ⟨base.onStc fun c => { c with board := .changing }, offerExample, offerOf 520, runs (by decide +kernel),
     by unfold State.TableSafe; decide +kernel, takes (by decide +kernel), by decide +kernel⟩,
   ⟨base, offerFrame { offerOf 520 with points := (offerOf 520).points.map fun p => { p with side := .bottom } } 0,
     { offerOf 520 with points := (offerOf 520).points.map fun p => { p with side := .bottom } },
     runs (by decide +kernel), by unfold State.TableSafe; decide +kernel, takes (by decide +kernel),
     by decide +kernel⟩,
   ⟨withTable [entryOf 520 1 [some 4, none]] base, offerExample, offerOf 520, entryOf 520 1 [some 4, none],
     runs (by decide +kernel), by unfold State.TableSafe; decide +kernel, takes (by decide +kernel),
     by decide +kernel⟩,
   ⟨withTable [entryOf 520 1 [none, none]] base,
     offerFrame { offerOf 520 with points := (offerOf 520).points.map fun p => { p with side := .bottom } } 0,
     { offerOf 520 with points := (offerOf 520).points.map fun p => { p with side := .bottom } },
     entryOf 520 1 [none, none], runs (by decide +kernel), by unfold State.TableSafe; decide +kernel,
     takes (by decide +kernel), by decide +kernel⟩,
   ⟨withTable [entryOf 520 1 [none, none]] base, offerExample, offerOf 520, entryOf 520 1 [none, none],
     runs (by decide +kernel), by unfold State.TableSafe; decide +kernel, takes (by decide +kernel),
     by decide +kernel⟩⟩

theorem witness_TakeIsJudged :
    (∃ (s : State) (f : RxFrame) (e : Entry), s.Running ∧ s.Accepts .take f ∧ s.isOwn f = false ∧
      s.entry? (rxJob f) = some e ∧ e.offer.points.length ≤ rxTakeRole f) ∧
    (∃ (s : State) (f : RxFrame) (e : Entry), s.Running ∧ s.Accepts .take f ∧ s.isOwn f = false ∧
      s.entry? (rxJob f) = some e ∧ rxTakeRole f < e.offer.points.length ∧ e.formed = false ∧ e.window = none ∧
      rxTakeCatch f = false) ∧
    (∃ (s : State) (f : RxFrame) (e : Entry), s.Running ∧ s.Accepts .take f ∧ s.isOwn f = false ∧
      s.entry? (rxJob f) = some e ∧ rxTakeRole f < e.offer.points.length ∧ e.formed = false ∧
      e.window.isSome = true ∧ e.takerOf (rxTakeRole f) = none ∧ e.hasTaker f.src.toNat = true) ∧
    (∃ (s : State) (f : RxFrame) (e : Entry), s.Running ∧ s.Accepts .take f ∧ s.isOwn f = false ∧
      s.entry? (rxJob f) = some e ∧ rxTakeRole f < e.offer.points.length ∧ e.formed = true) ∧
    (∃ (s : State) (f : RxFrame) (e : Entry), s.Running ∧ s.Accepts .take f ∧ s.isOwn f = false ∧
      s.entry? (rxJob f) = some e ∧ rxTakeRole f < e.offer.points.length ∧ rxTakeCatch f = true ∧
      e.grace.isSome = true ∧ (e.takerOf (rxTakeRole f)).isSome = true) ∧
    (∃ (s : State) (f : RxFrame) (e : Entry), s.Running ∧ s.Accepts .take f ∧ s.isOwn f = false ∧
      s.entry? (rxJob f) = some e ∧ rxTakeRole f < e.offer.points.length ∧ e.formed = false ∧
      rxTakeCatch f = true ∧ e.grace.isSome = true ∧ e.takerOf (rxTakeRole f) = none ∧
      e.hasTaker f.src.toNat = false) ∧
    (∃ (s : State) (f : RxFrame) (e : Entry) (m : Membership), s.Running ∧ s.Accepts .take f ∧ s.AtWork ∧
      s.isOwn f = false ∧ s.entry? (rxJob f) = some e ∧ rxTakeRole f < e.offer.points.length ∧ e.formed = false ∧
      e.window.isSome = true ∧ e.takerOf (rxTakeRole f) = none ∧ e.hasTaker f.src.toNat = false ∧
      s.lif.silent = false ∧ s.leadMember? e.offer.job = some m ∧ m.state = .taken ∧ m.setSent = false ∧
      (e.takers.set (rxTakeRole f) (some f.src.toNat)).all (·.isSome) = true) :=
  ⟨⟨withTable [entryOf 520 1 [none, none]] base, takeF 4 2 0, entryOf 520 1 [none, none], runs (by decide +kernel),
     takes (by decide +kernel), by decide +kernel⟩,
   ⟨withTable [lateEntry none] base, takeF 4 1 0, lateEntry none, runs (by decide +kernel),
     takes (by decide +kernel), by decide +kernel⟩,
   ⟨withTable [entryOf 520 1 [some 4, none]] base, takeF 4 1 0, entryOf 520 1 [some 4, none],
     runs (by decide +kernel), takes (by decide +kernel), by decide +kernel⟩,
   ⟨withTable [formedOf 520 1 [some 1, some 2]] base, takeF 4 1 0, formedOf 520 1 [some 1, some 2],
     runs (by decide +kernel), takes (by decide +kernel), by decide +kernel⟩,
   ⟨withTable [{ entryOf 520 1 [some 1, none] with window := none, grace := some 25000000 }] base, takeF 4 0 1,
     { entryOf 520 1 [some 1, none] with window := none, grace := some 25000000 }, runs (by decide +kernel),
     takes (by decide +kernel), by decide +kernel⟩,
   ⟨withTable [lateEntry none] base, takeF 4 1 1, lateEntry none, runs (by decide +kernel),
     takes (by decide +kernel), by decide +kernel⟩,
   ⟨withMember (Membership.fresh 520 0 2) (withTable [entryOf 520 1 [some 3, none]] base), takeF 4 1 0,
     entryOf 520 1 [some 3, none], Membership.fresh 520 0 2, runs (by decide +kernel), takes (by decide +kernel),
     works (by decide +kernel), by decide +kernel⟩⟩

theorem witness_OwnTakeMakesAMembership :
    (∃ (s : State) (f : RxFrame), s.AtWork ∧ s.Accepts .take f ∧ s.isOwn f = true ∧ s.entry? (rxJob f) = none) ∧
    (∃ (s : State) (f : RxFrame) (e : Entry), s.AtWork ∧ s.Accepts .take f ∧ s.isOwn f = true ∧
      s.entry? (rxJob f) = some e ∧ rxTakeRole f < e.offer.points.length ∧ e.formed = true) ∧
    (∃ (s : State) (f : RxFrame) (e : Entry), s.AtWork ∧ s.Accepts .take f ∧ s.isOwn f = true ∧
      s.entry? (rxJob f) = some e ∧ rxTakeRole f < e.offer.points.length ∧ e.window.isSome = true ∧
      (e.takerOf (rxTakeRole f)).isSome = true) ∧
    (∃ (s : State) (f : RxFrame) (e : Entry), s.AtWork ∧ s.Accepts .take f ∧ s.isOwn f = true ∧
      s.entry? (rxJob f) = some e ∧ rxTakeRole f < e.offer.points.length ∧ e.formed = false ∧
      e.window.isSome = true ∧ e.takerOf (rxTakeRole f) = none ∧ e.hasTaker s.own = false ∧
      e.servable[rxTakeRole f]? = some true ∧ s.member? e.offer.job = none ∧
      (e.takers.set (rxTakeRole f) (some s.own)).any (·.isNone) = true) ∧
    (∃ (s : State) (f : RxFrame) (e : Entry), s.AtWork ∧ s.Accepts .take f ∧ s.isOwn f = true ∧
      s.entry? (rxJob f) = some e ∧ rxTakeRole f < e.offer.points.length ∧ e.formed = false ∧
      e.window.isSome = true ∧ e.takerOf (rxTakeRole f) = none ∧ e.hasTaker s.own = false ∧
      e.servable[rxTakeRole f]? ≠ some true ∧ s.lif.silent = false ∧ s.member? e.offer.job = none) ∧
    (∃ (s : State) (f : RxFrame) (e : Entry), s.AtWork ∧ s.Accepts .take f ∧ s.isOwn f = true ∧
      s.entry? (rxJob f) = some e ∧ e.offer.points.length ≤ rxTakeRole f) ∧
    (∃ (s : State) (f : RxFrame) (e : Entry), s.AtWork ∧ s.Accepts .take f ∧ s.isOwn f = true ∧
      s.entry? (rxJob f) = some e ∧ rxTakeRole f < e.offer.points.length ∧ e.formed = false ∧ e.window = none ∧
      rxTakeCatch f = false) ∧
    (∃ (s : State) (f : RxFrame) (e : Entry), s.AtWork ∧ s.Accepts .take f ∧ s.isOwn f = true ∧
      s.entry? (rxJob f) = some e ∧ rxTakeRole f < e.offer.points.length ∧ e.formed = false ∧
      e.window.isSome = true ∧ e.takerOf (rxTakeRole f) = none ∧ e.hasTaker s.own = true) ∧
    (∃ (s : State) (f : RxFrame) (e : Entry), s.AtWork ∧ s.Accepts .take f ∧ s.isOwn f = true ∧
      s.entry? (rxJob f) = some e ∧ rxTakeRole f < e.offer.points.length ∧ e.formed = false ∧ e.window = none ∧
      rxTakeCatch f = true ∧ e.grace.isSome = true ∧ e.takerOf (rxTakeRole f) = none ∧ e.hasTaker s.own = false ∧
      e.servable[rxTakeRole f]? = some true ∧ s.member? e.offer.job = none ∧ rxTakeRole f ≠ 0) ∧
    (∃ (s : State) (f : RxFrame) (e : Entry), s.AtWork ∧ s.Accepts .take f ∧ s.isOwn f = true ∧
      s.entry? (rxJob f) = some e ∧ rxTakeRole f = 0 ∧ e.formed = false ∧ e.window.isSome = true ∧ e.takerOf 0 = none ∧
      e.hasTaker s.own = false ∧ e.servable[0]? = some true ∧ s.member? e.offer.job = none ∧
      (e.takers.set 0 (some s.own)).all (·.isSome) = true ∧ s.lif.silent = false) ∧
    (∃ (s : State) (e : Entry) (p : Point), s.AtWork ∧ s.lif.silent = false ∧ s.meu.window = .off ∧
      s.claimStale = false ∧ s.msq.waiting = none ∧
      s.msq.spaceEvent = false ∧ s.boardActive = true ∧ (s.rosterOf 0).presence = .present ∧ s.lif.post.length < 6 ∧
      s.msq.motion = .idle ∧
      s.stc.restart = .noRestart ∧ s.rvu.pending = none ∧ s.rvu.next = none ∧ s.rvu.current = none ∧
      s.cfg.catchFlag = true ∧ s.jtb.entries = [e] ∧ e.grace.isSome = true ∧ e.offer.points[1]? = some p ∧
      e.servable[1]? = some true ∧ e.takers = [some 4, none]) ∧
    (∃ (s : State) (e : Entry), s.AtWork ∧ s.lif.silent = false ∧ s.meu.window = .off ∧ s.claimStale = false ∧
      s.msq.waiting = none ∧
      s.msq.spaceEvent = false ∧ s.boardActive = true ∧ (s.rosterOf 0).presence = .present ∧ s.lif.post.length < 6 ∧
      s.msq.motion = .idle ∧
      s.stc.restart = .noRestart ∧ s.rvu.pending = none ∧ s.rvu.next = none ∧ s.rvu.current = none ∧
      s.jtb.entries = [e] ∧ e.window.isSome = true ∧ e.formed = false ∧ e.servable = [true, true] ∧
      e.takers = [none, none] ∧
      s.cfg.catchFlag = false) ∧
    (∃ s : State, s.AtWork ∧ s.lif.silent = false ∧ s.meu.window = .off ∧ s.claimStale = false ∧ s.msq.waiting = none ∧
      s.msq.spaceEvent = false ∧ s.jtb.entries = []) ∧
    (∃ s : State, s.AtWork ∧ s.lif.silent = false ∧ s.meu.window = .off ∧ s.claimStale = false ∧ s.msq.waiting = none ∧
      s.msq.spaceEvent = false ∧ s.rvu.pending ≠ none) :=
  ⟨⟨own base, takeF 3 0 0, works (by decide +kernel), takes (by decide +kernel), by decide +kernel⟩,
   ⟨own (withTable [formedOf 520 1 [some 1, some 2]] base), takeF 3 0 0, formedOf 520 1 [some 1, some 2],
     works (by decide +kernel), takes (by decide +kernel), by decide +kernel⟩,
   ⟨own (withTable [entryOf 520 1 [some 4, none]] base), takeF 3 0 0, entryOf 520 1 [some 4, none],
     works (by decide +kernel), takes (by decide +kernel), by decide +kernel⟩,
   ⟨own (withTable [entryOf 520 1 [none, none]] base), takeF 3 1 0, entryOf 520 1 [none, none],
     works (by decide +kernel), takes (by decide +kernel), by decide +kernel⟩,
   ⟨own (withTable [{ entryOf 520 1 [none, none] with servable := [false, true] }] base), takeF 3 0 0,
     { entryOf 520 1 [none, none] with servable := [false, true] }, works (by decide +kernel),
     takes (by decide +kernel), by decide +kernel⟩,
   ⟨own (withTable [entryOf 520 1 [none, none]] base), takeF 3 2 0, entryOf 520 1 [none, none], works (by decide +kernel),
     takes (by decide +kernel), by decide +kernel⟩,
   ⟨own (withTable [lateEntry none] base), takeF 3 1 0, lateEntry none, works (by decide +kernel),
     takes (by decide +kernel), by decide +kernel⟩,
   ⟨own (withTable [entryOf 520 1 [some 3, none]] base), takeF 3 1 0, entryOf 520 1 [some 3, none],
     works (by decide +kernel),
     takes (by decide +kernel), by decide +kernel⟩,
   ⟨own (withTable [lateEntry none] base), takeF 3 1 1, lateEntry none, works (by decide +kernel),
     takes (by decide +kernel), by decide +kernel⟩,
   ⟨own (withTable [entryOf 520 1 [none, some 4]] base), takeF 3 0 0, entryOf 520 1 [none, some 4],
     works (by decide +kernel),
     takes (by decide +kernel), by decide +kernel⟩,
   ⟨withTable [{ lateEntry none with takers := [some 4, none] }] catching, { lateEntry none with takers := [some 4, none] },
     { x := 12600, y := 8000, side := .top, tip := .any }, works (by decide +kernel), by decide +kernel⟩,
   ⟨withTable [entryOf 520 1 [none, none]] base, entryOf 520 1 [none, none], works (by decide +kernel), by decide +kernel⟩,
   ⟨base, works (by decide +kernel), by decide +kernel⟩,
   ⟨base.onRvu fun r => { r with pending := some { job := 520, role := 0, catchFlag := false } },
     works (by decide +kernel), by decide +kernel⟩⟩

theorem witness_SetFormsTheWorkingSet :
    (∃ (s : State) (f : RxFrame) (e : Entry), s.Running ∧ s.Accepts .set f ∧ s.entry? (rxJob f) = some e ∧
      (¬ (rxSetTakers f).head? = some f.src.toNat)) ∧
    (∃ (s : State) (f : RxFrame) (e : Entry) (m : Membership), s.Running ∧ s.Accepts .set f ∧
      s.entry? (rxJob f) = some e ∧ ((rxSetTakers f).length = e.offer.points.length ∧
      (∀ n ∈ rxSetTakers f, 1 ≤ n ∧ n ≤ 8) ∧ (rxSetTakers f).Nodup ∧
      (rxSetTakers f).head? = some f.src.toNat ∧ e.formed = false) ∧ s.rvu.current = some m ∧ s.rvu.next = none ∧
      m.job = e.offer.job ∧ m.state = .taken ∧ (rxSetTakers f)[m.role]? = some s.own ∧ s.isOwn f = false ∧
      m.role = 1) ∧
    (∃ (s : State) (f : RxFrame) (e : Entry) (m : Membership), s.Running ∧ s.Accepts .set f ∧
      s.entry? (rxJob f) = some e ∧ ((rxSetTakers f).length = e.offer.points.length ∧
      (∀ n ∈ rxSetTakers f, 1 ≤ n ∧ n ≤ 8) ∧ (rxSetTakers f).Nodup ∧
      (rxSetTakers f).head? = some f.src.toNat ∧ e.formed = false) ∧ s.rvu.current = some m ∧ s.rvu.next = none ∧
      m.job = e.offer.job ∧ m.state = .taken ∧ (rxSetTakers f)[m.role]? = some s.own ∧ s.isOwn f = true ∧
      m.role = 0) ∧
    (∃ (s : State) (f : RxFrame) (e : Entry) (m : Membership), s.Running ∧ s.Accepts .set f ∧
      s.entry? (rxJob f) = some e ∧ ((rxSetTakers f).length = e.offer.points.length ∧
      (∀ n ∈ rxSetTakers f, 1 ≤ n ∧ n ≤ 8) ∧ (rxSetTakers f).Nodup ∧
      (rxSetTakers f).head? = some f.src.toNat ∧ e.formed = false) ∧ s.rvu.current = some m ∧ s.rvu.next = none ∧
      m.job = e.offer.job ∧ m.state = .taken ∧ (rxSetTakers f)[m.role]? ≠ some s.own ∧ s.isOwn f = false) ∧
    (∃ (s : State) (f : RxFrame) (e : Entry), s.Running ∧ s.Accepts .set f ∧ s.entry? (rxJob f) = some e ∧
      ((rxSetTakers f).length = e.offer.points.length ∧ (∀ n ∈ rxSetTakers f, 1 ≤ n ∧ n ≤ 8) ∧
      (rxSetTakers f).Nodup ∧
      (rxSetTakers f).head? = some f.src.toNat ∧ e.formed = false) ∧ s.member? e.offer.job = none ∧
      s.isOwn f = false ∧ s.own ∈ rxSetTakers f) ∧
    (∃ (s : State) (f : RxFrame) (e : Entry), s.Running ∧ s.Accepts .set f ∧ s.AtWork ∧ s.entry? (rxJob f) = some e ∧
      ((rxSetTakers f).length = e.offer.points.length ∧ (∀ n ∈ rxSetTakers f, 1 ≤ n ∧ n ≤ 8) ∧
      (rxSetTakers f).Nodup ∧
      (rxSetTakers f).head? = some f.src.toNat ∧ e.formed = false) ∧ s.member? e.offer.job = none ∧
      s.isOwn f = true ∧ s.lif.silent = false) ∧
    (∃ (s : State) (m : Membership) (e : Entry) (p : Point), s.AtWork ∧ s.lif.silent = false ∧ s.meu.window = .off ∧
      s.claimStale = false ∧ s.msq.spaceEvent = false ∧
      s.rvu.current = some m ∧ m.state = .formed ∧ s.entry? m.job = some e ∧ e.offer.points[m.role]? = some p ∧
      s.msq.motion = .idle ∧ s.scu.doubt = false ∧ s.scu.replyQueued = false ∧ s.scu.pending = none ∧
      s.conflictsMap (corridor s.cfg .travel s.tipX s.tipY p.x p.y).rect = false ∧ s.lif.tx = none) ∧
    (∃ (s : State) (m : Membership) (e : Entry) (p : Point), s.AtWork ∧ s.lif.silent = false ∧ s.meu.window = .off ∧
      s.claimStale = false ∧ s.msq.spaceEvent = false ∧
      s.rvu.current = some m ∧ m.state = .formed ∧ s.entry? m.job = some e ∧ e.offer.points[m.role]? = some p ∧
      s.msq.motion = .parked ∧ s.scu.doubt = true) ∧
    (∃ (s : State) (m : Membership) (e : Entry) (p : Point), s.AtWork ∧ s.lif.silent = false ∧ s.meu.window = .off ∧
      s.claimStale = false ∧ s.msq.spaceEvent = false ∧
      s.rvu.current = some m ∧ m.state = .formed ∧ s.entry? m.job = some e ∧ e.offer.points[m.role]? = some p ∧
      s.msq.motion = .lift) ∧
    (∃ (s : State) (m : Membership), s.AtWork ∧ s.lif.silent = false ∧ s.meu.window = .off ∧ s.claimStale = false ∧
      s.msq.spaceEvent = false ∧
      s.rvu.current = some m ∧ m.state = .formed ∧ s.msq.motion = .frozen) ∧
    (∃ s : State, s.AtWork ∧ s.lif.silent = false ∧ s.meu.window = .off ∧ s.claimStale = false ∧ s.msq.spaceEvent = false ∧
      s.rvu.current = none ∧ s.msq.waiting = some (12100, 8000) ∧ s.msq.motion = .idle) ∧
    (∃ s : State, s.AtWork ∧ s.lif.silent = false ∧ s.meu.window = .off ∧ s.claimStale = false ∧ s.msq.spaceEvent = false ∧
      s.rvu.current = none ∧ s.msq.waiting = some (12100, 8000) ∧ s.msq.motion = .frozen) ∧
    (∃ s : State, s.Running ∧ s.meu.window = .off ∧ s.msq.motion = .parked ∧ s.halt = true ∧ s.rvu.current = none ∧
      s.msq.waiting = some (12100, 8000)) :=
  ⟨⟨withTable [entryOf 520 1 [some 4, some 3]] base, setF 5 4 3, entryOf 520 1 [some 4, some 3],
     runs (by decide +kernel), takes (by decide +kernel), by decide +kernel⟩,
   ⟨withMember (Membership.fresh 520 1 2) (withTable [entryOf 520 1 [some 4, some 3]] base), setF 4 4 3,
     entryOf 520 1 [some 4, some 3], Membership.fresh 520 1 2, runs (by decide +kernel),
     takes (by decide +kernel), by decide +kernel⟩,
   ⟨own (withMember (Membership.fresh 520 0 2) (withTable [entryOf 520 1 [some 3, some 4]] base)), setF 3 3 4,
     entryOf 520 1 [some 3, some 4], Membership.fresh 520 0 2, runs (by decide +kernel),
     takes (by decide +kernel), by decide +kernel⟩,
   ⟨withMember (Membership.fresh 520 1 2) (withTable [entryOf 520 1 [some 4, some 3]] base), setF 4 4 5,
     entryOf 520 1 [some 4, some 3], Membership.fresh 520 1 2, runs (by decide +kernel),
     takes (by decide +kernel), by decide +kernel⟩,
   ⟨withTable [entryOf 520 1 [some 4, some 3]] base, setF 4 4 3, entryOf 520 1 [some 4, some 3],
     runs (by decide +kernel), takes (by decide +kernel), by decide +kernel⟩,
   ⟨own (withTable [entryOf 520 1 [some 3, some 4]] base), setF 3 3 4, entryOf 520 1 [some 3, some 4],
     runs (by decide +kernel), takes (by decide +kernel), works (by decide +kernel), by decide +kernel⟩,
   ⟨down .idle 1 .formed, memberOf 520 1 .formed, formedOf 520 1 [some 4, some 3],
     { x := 12600, y := 8000, side := .top, tip := .any }, works (by decide +kernel), by decide +kernel⟩,
   ⟨setDoubt (down .parked 1 .formed), memberOf 520 1 .formed, formedOf 520 1 [some 4, some 3],
     { x := 12600, y := 8000, side := .top, tip := .any }, works (by decide +kernel), by decide +kernel⟩,
   ⟨down .lift 1 .formed, memberOf 520 1 .formed, formedOf 520 1 [some 4, some 3],
     { x := 12600, y := 8000, side := .top, tip := .any }, works (by decide +kernel), by decide +kernel⟩,
   ⟨down .frozen 1 .formed, memberOf 520 1 .formed, works (by decide +kernel), by decide +kernel⟩,
   ⟨pointWaits base, works (by decide +kernel), by decide +kernel⟩,
   ⟨pointWaits (inMotion .frozen), works (by decide +kernel), by decide +kernel⟩,
   ⟨halted (pointWaits (inMotion .parked)), runs (by decide +kernel), by decide +kernel⟩⟩

theorem witness_DropFreesOrRemoves :
    (∃ (s : State) (f : RxFrame) (e : Entry) (reason : DropReason), s.Running ∧ s.Accepts .drop f ∧
      s.isOwn f = false ∧ rxDropReason f = some reason ∧ s.entry? (rxJob f) = some e ∧
      s.member? e.offer.job = none ∧ s.lif.held = [] ∧ reason = .unplaced) ∧
    (∃ (s : State) (f : RxFrame) (e : Entry) (reason : DropReason), s.Running ∧ s.Accepts .drop f ∧
      s.isOwn f = false ∧ rxDropReason f = some reason ∧ s.entry? (rxJob f) = some e ∧
      s.member? e.offer.job = none ∧ s.lif.held = [] ∧ e.formed = true ∧ e.hasTaker f.src.toNat = true) ∧
    (∃ (s : State) (f : RxFrame) (e : Entry) (reason : DropReason), s.Running ∧ s.Accepts .drop f ∧
      s.isOwn f = false ∧ rxDropReason f = some reason ∧ s.entry? (rxJob f) = some e ∧
      s.member? e.offer.job = none ∧ s.lif.held = [] ∧ e.formed = true ∧ reason ≠ .unplaced ∧
      e.hasTaker f.src.toNat = false) ∧
    (∃ (s : State) (f : RxFrame) (e : Entry) (reason : DropReason), s.Running ∧ s.Accepts .drop f ∧
      s.isOwn f = false ∧ rxDropReason f = some reason ∧ s.entry? (rxJob f) = some e ∧
      s.member? e.offer.job = none ∧ s.lif.held = [] ∧ e.formed = false ∧ reason ≠ .unplaced ∧
      e.hasTaker f.src.toNat = false) ∧
    (∃ (s : State) (f : RxFrame) (e : Entry) (reason : DropReason), s.Running ∧ s.Accepts .drop f ∧
      s.isOwn f = false ∧ rxDropReason f = some reason ∧ s.entry? (rxJob f) = some e ∧
      s.member? e.offer.job = none ∧ s.lif.held = [] ∧ e.formed = false ∧ reason = .partnerLost ∧
      e.hasTaker f.src.toNat = true ∧ e.hasTaker (rxLost f) = true ∧ e.window.isSome = true) ∧
    (∃ (s : State) (f : RxFrame) (e : Entry) (reason : DropReason), s.Running ∧ s.Accepts .drop f ∧
      s.isOwn f = false ∧ rxDropReason f = some reason ∧ s.entry? (rxJob f) = some e ∧
      s.member? e.offer.job = none ∧ s.lif.held = [] ∧ e.formed = false ∧ reason = .space ∧
      e.hasTaker f.src.toNat = true ∧ e.window = none ∧ (s.cfg.catchFlag = true ∧
      ∃ p ∈ (e.takers.map fun t => if t = some f.src.toNat then none else t).zip e.servable,
      p.1 = none ∧ p.2 = true)) ∧
    (∃ (s : State) (f : RxFrame) (e : Entry) (reason : DropReason), s.Running ∧ s.Accepts .drop f ∧
      s.isOwn f = false ∧ rxDropReason f = some reason ∧ s.entry? (rxJob f) = some e ∧
      s.member? e.offer.job = none ∧ s.lif.held = [] ∧ e.formed = false ∧ reason = .space ∧
      e.hasTaker f.src.toNat = true ∧ e.window = none ∧ e.hasTaker s.own = false ∧ s.cfg.catchFlag = false ∧
      (e.takers.map fun t => if t = some f.src.toNat then none else t).all (·.isSome) = false) ∧
    (∃ (s : State) (f : RxFrame) (e : Entry) (m : Membership), s.AtWork ∧ s.LiftsSafely ∧ s.Accepts .drop f ∧
      s.isOwn f = false ∧
      rxDropReason f = some .partnerLost ∧ rxLost f = s.own ∧ s.entry? (rxJob f) = some e ∧ e.formed = false ∧
      e.hasTaker f.src.toNat = true ∧ e.hasTaker s.own = true ∧ s.rvu.current = some m ∧ m.job = e.offer.job ∧
      s.rvu.next = none) :=
  ⟨⟨withTable [entryOf 520 1 [none, none]] base, dropF 4 2 0, entryOf 520 1 [none, none], .unplaced,
     runs (by decide +kernel), takes (by decide +kernel), by decide +kernel⟩,
   ⟨withTable [formedOf 520 1 [some 4, some 5]] base, dropF 4 6 0, formedOf 520 1 [some 4, some 5], .holdExpired,
     runs (by decide +kernel), takes (by decide +kernel), by decide +kernel⟩,
   ⟨withTable [formedOf 520 1 [some 1, some 5]] base, dropF 4 0 0, formedOf 520 1 [some 1, some 5], .space,
     runs (by decide +kernel), takes (by decide +kernel), by decide +kernel⟩,
   ⟨withTable [entryOf 520 1 [none, none]] base, dropF 4 1 0, entryOf 520 1 [none, none], .late,
     runs (by decide +kernel), takes (by decide +kernel), by decide +kernel⟩,
   ⟨withTable [entryOf 520 1 [some 4, some 8]] base, dropF 4 3 8, entryOf 520 1 [some 4, some 8], .partnerLost,
     runs (by decide +kernel), takes (by decide +kernel), by decide +kernel⟩,
   ⟨withTable [{ entryOf 520 1 [some 4, none] with window := none, grace := some 25000000 }] catching, dropF 4 0 0,
     { entryOf 520 1 [some 4, none] with window := none, grace := some 25000000 }, .space,
     runs (by decide +kernel), takes (by decide +kernel), by decide +kernel⟩,
   ⟨withTable [{ entryOf 520 1 [some 4, none] with window := none, servable := [false, false] }] base, dropF 4 0 0,
     { entryOf 520 1 [some 4, none] with window := none, servable := [false, false] }, .space,
     runs (by decide +kernel), takes (by decide +kernel), by decide +kernel⟩,
   ⟨withMember (Membership.fresh 520 1 2) (withTable [entryOf 520 1 [some 4, some 3]] base), dropF 4 3 3,
     entryOf 520 1 [some 4, some 3], Membership.fresh 520 1 2, works (by decide +kernel), lifts (by decide +kernel),
     takes (by decide +kernel), by decide +kernel⟩⟩

theorem witness_RemovedJobEndsTheMembership :
    (∃ (s : State) (f : RxFrame) (e : Entry), s.Running ∧ s.Accepts .withdraw f ∧ s.entry? (rxJob f) = some e ∧
      s.boardActive = true ∧ s.member? e.offer.job = none ∧ s.lif.held = []) ∧
    (∃ (s : State) (f : RxFrame) (e : Entry) (m : Membership), s.Running ∧ s.AtWork ∧ s.Accepts .withdraw f ∧
      s.boardActive = true ∧ s.entry? (rxJob f) = some e ∧ s.msq.motion = .measure ∧ s.rvu.current = some m ∧
      m.job = e.offer.job ∧
      s.msq.lastReport ≠ none ∧ s.stand = s.tip) ∧
    (∃ (s : State) (f : RxFrame) (e : Entry), s.Running ∧ s.Accepts .result f ∧ s.entry? (rxJob f) = some e ∧
      rxResultBoard f ≠ e.offer.board) ∧
    (∃ (s : State) (f : RxFrame) (e : Entry), s.Running ∧ s.Accepts .result f ∧ s.entry? (rxJob f) = some e ∧
      rxResultBoard f = e.offer.board ∧ s.member? e.offer.job = none ∧ s.lif.held = []) ∧
    (∃ (s : State) (f : RxFrame) (e : Entry) (m : Membership), s.Running ∧ s.AtWork ∧ s.Accepts .result f ∧
      s.entry? (rxJob f) = some e ∧ s.msq.motion = .measure ∧ s.rvu.current = some m ∧ m.job = e.offer.job ∧
      s.msq.lastReport ≠ none ∧ s.stand = s.tip ∧ rxResultBoard f = e.offer.board) ∧
    (∃ (s : State) (f : RxFrame) (e : Entry), s.Running ∧ s.Accepts .withdraw f ∧ s.entry? (rxJob f) = some e ∧
      s.boardActive = false) :=
  ⟨⟨withTable [formedOf 520 1 [some 4, some 5]] base, withdrawF, formedOf 520 1 [some 4, some 5],
     runs (by decide +kernel), takes (by decide +kernel), by decide +kernel⟩,
   ⟨down .measure 1 .measuring, withdrawF, formedOf 520 1 [some 4, some 3], memberOf 520 1 .measuring,
     runs (by decide +kernel), works (by decide +kernel), takes (by decide +kernel), by decide +kernel⟩,
   ⟨withTable [formedOf 520 1 [some 4, some 5]] base, resultF 4 8, formedOf 520 1 [some 4, some 5],
     runs (by decide +kernel), takes (by decide +kernel), by decide +kernel⟩,
   ⟨withTable [formedOf 520 1 [some 4, some 5]] base, resultF 4 7, formedOf 520 1 [some 4, some 5],
     runs (by decide +kernel), takes (by decide +kernel), by decide +kernel⟩,
   ⟨down .measure 1 .measuring, resultF 4 7, formedOf 520 1 [some 4, some 3], memberOf 520 1 .measuring,
     runs (by decide +kernel), works (by decide +kernel), takes (by decide +kernel), by decide +kernel⟩,
   ⟨withTable [formedOf 520 1 [some 4, some 5]] (offlineHead 0x10), withdrawF, formedOf 520 1 [some 4, some 5],
     runs (by decide +kernel), takes (by decide +kernel), by decide +kernel⟩⟩

theorem witness_LandingsDecideThePass :
    (∃ (s : State) (f : RxFrame) (e : Entry) (m : Membership), s.AtWork ∧ s.Accepts .landed f ∧ s.lif.silent = false ∧
      s.entry? (rxJob f) = some e ∧ s.leadMember? e.offer.job = some m ∧ s.rvu.next = none ∧
      m.landings[rxLandedRole f]? ≠ some none) ∧
    (∃ (s : State) (f : RxFrame) (e : Entry) (m : Membership), s.AtWork ∧ s.Accepts .landed f ∧ s.lif.silent = false ∧
      s.entry? (rxJob f) = some e ∧ s.leadMember? e.offer.job = some m ∧ s.rvu.next = none ∧
      e.takerOf (rxLandedRole f) = some f.src.toNat ∧ rxLandedPass f = m.pass ∧
      m.landings[rxLandedRole f]? = some none ∧ none ∈ m.landings.set (rxLandedRole f) (some (rxNoContact f))) ∧
    (∃ (s : State) (f : RxFrame) (e : Entry) (m : Membership), s.AtWork ∧ s.Accepts .landed f ∧ s.lif.silent = false ∧
      s.entry? (rxJob f) = some e ∧ s.leadMember? e.offer.job = some m ∧ s.rvu.next = none ∧
      e.takerOf (rxLandedRole f) = some f.src.toNat ∧ rxLandedPass f = m.pass ∧
      m.landings[rxLandedRole f]? = some none ∧ none ∉ m.landings.set (rxLandedRole f) (some (rxNoContact f)) ∧
      some true ∉ m.landings.set (rxLandedRole f) (some (rxNoContact f))) ∧
    (∃ (s : State) (f : RxFrame) (e : Entry) (m : Membership), s.AtWork ∧ s.Accepts .landed f ∧ s.lif.silent = false ∧
      s.entry? (rxJob f) = some e ∧ s.leadMember? e.offer.job = some m ∧ s.rvu.next = none ∧
      e.takerOf (rxLandedRole f) = some f.src.toNat ∧ rxLandedPass f = m.pass ∧
      m.landings[rxLandedRole f]? = some none ∧ none ∉ m.landings.set (rxLandedRole f) (some (rxNoContact f)) ∧
      some true ∈ m.landings.set (rxLandedRole f) (some (rxNoContact f)) ∧ m.pass < e.offer.budget) ∧
    (∃ (s : State) (f : RxFrame) (e : Entry) (m : Membership), s.AtWork ∧ s.Accepts .landed f ∧ s.LiftsSafely ∧
      s.lif.silent = false ∧ s.entry? (rxJob f) = some e ∧ s.leadMember? e.offer.job = some m ∧
      s.rvu.next = none ∧ e.takerOf (rxLandedRole f) = some f.src.toNat ∧ rxLandedPass f = m.pass ∧
      m.landings[rxLandedRole f]? = some none ∧ none ∉ m.landings.set (rxLandedRole f) (some (rxNoContact f)) ∧
      some true ∈ m.landings.set (rxLandedRole f) (some (rxNoContact f)) ∧ e.offer.budget ≤ m.pass) :=
  ⟨⟨withMember (landedWith (some false) (some false) 0) (down .landed 0 .landed), landedF 4 1 0 0,
     formedOf 520 1 [some 3, some 4], landedWith (some false) (some false) 0, works (by decide +kernel),
     takes (by decide +kernel), by decide +kernel⟩,
   ⟨withMember (landedWith none none 0) (down .landed 0 .landed), landedF 4 1 0 0, formedOf 520 1 [some 3, some 4],
     landedWith none none 0, works (by decide +kernel), takes (by decide +kernel), by decide +kernel⟩,
   ⟨withMember (landedWith (some false) none 0) (down .landed 0 .landed), landedF 4 1 0 0,
     formedOf 520 1 [some 3, some 4], landedWith (some false) none 0, works (by decide +kernel),
     takes (by decide +kernel), by decide +kernel⟩,
   ⟨withMember (landedWith (some true) none 0) (down .landed 0 .landed), landedF 4 1 0 0,
     formedOf 520 1 [some 3, some 4], landedWith (some true) none 0, works (by decide +kernel),
     takes (by decide +kernel), by decide +kernel⟩,
   ⟨withMember (landedWith (some false) none 1) (down .landed 0 .landed), landedF 4 1 1 1,
     formedOf 520 1 [some 3, some 4], landedWith (some false) none 1, works (by decide +kernel),
     takes (by decide +kernel), lifts (by decide +kernel), by decide +kernel⟩⟩

theorem witness_StartOpensTheWindow :
    (∃ (s : State) (f : RxFrame) (e : Entry) (m : Membership), s.AtWork ∧ s.Accepts .start f ∧
      s.entry? (rxJob f) = some e ∧ s.rvu.current = some m ∧ m.job = e.offer.job ∧ s.rvu.next = none ∧
      rxPass f ≠ m.pass) ∧
    (∃ (s : State) (f : RxFrame) (e : Entry) (m : Membership), s.AtWork ∧ s.Accepts .start f ∧
      s.entry? (rxJob f) = some e ∧ s.rvu.current = some m ∧ m.job = e.offer.job ∧ s.rvu.next = none ∧
      (s.takersOf m).head? = some (some f.src.toNat) ∧ rxPass f = m.pass ∧ m.state = .landed) ∧
    (∃ (s : State) (f : RxFrame) (e : Entry) (m : Membership), s.AtWork ∧ s.Accepts .start f ∧
      s.entry? (rxJob f) = some e ∧ s.rvu.current = some m ∧ m.job = e.offer.job ∧ s.rvu.next = none ∧
      (s.takersOf m).head? = some (some f.src.toNat) ∧ rxPass f = m.pass ∧ m.state = .landed ∧ m.role = 0) :=
  ⟨⟨down .landed 1 .landed, startF 4 1, formedOf 520 1 [some 4, some 3], memberOf 520 1 .landed,
     works (by decide +kernel), takes (by decide +kernel), by decide +kernel⟩,
   ⟨down .landed 1 .landed, startF 4 0, formedOf 520 1 [some 4, some 3], memberOf 520 1 .landed,
     works (by decide +kernel), takes (by decide +kernel), by decide +kernel⟩,
   ⟨own (down .landed 0 .landed), startF 3 0, formedOf 520 1 [some 3, some 4], memberOf 520 0 .landed,
     works (by decide +kernel), takes (by decide +kernel), by decide +kernel⟩⟩

theorem witness_ReadingsDecideTheJob :
    (∃ (s : State) (e : Entry) (m : Membership), s.AtWork ∧ s.lif.silent = false ∧ s.entry? m.job = some e ∧
      s.leadMember? m.job = some m ∧ s.rvu.next = none ∧ m.deadline ≠ none ∧ m.pass < e.offer.budget ∧
      (judge e.offer.kind e.offer.low e.offer.high m.readings).1 = .missing) ∧
    (∃ (s : State) (e : Entry) (m : Membership), s.AtWork ∧ s.LiftsSafely ∧ s.lif.silent = false ∧
      s.entry? m.job = some e ∧ s.leadMember? m.job = some m ∧ s.rvu.next = none ∧ m.deadline ≠ none ∧
      e.offer.budget ≤ m.pass) ∧
    (∃ (s : State) (e : Entry) (m : Membership), s.AtWork ∧ s.lif.silent = false ∧ s.entry? m.job = some e ∧
      s.leadMember? m.job = some m ∧ s.rvu.next = none ∧ m.deadline = none) ∧
    (∃ (s : State) (e : Entry) (m : Membership) (f : RxFrame), s.AtWork ∧ s.Accepts .reading f ∧
      s.lif.silent = false ∧ s.entry? m.job = some e ∧ s.leadMember? m.job = some m ∧ s.rvu.next = none ∧
      rxJob f = m.job ∧ m.deadline = none) ∧
    (∃ (s : State) (e : Entry) (m : Membership) (f : RxFrame), s.AtWork ∧ s.Accepts .reading f ∧
      s.lif.silent = false ∧ s.entry? m.job = some e ∧ s.leadMember? m.job = some m ∧ s.rvu.next = none ∧
      rxJob f = m.job ∧ e.takerOf (rxReadingRole f) = some f.src.toNat ∧ rxReadingRole f ≠ 0 ∧
      rxReadingPass f = m.pass ∧ m.deadline ≠ none ∧ m.readings[rxReadingRole f]? = some none ∧
      none ∈ m.readings.set (rxReadingRole f) (some (rxReading f))) ∧
    (∃ (s : State) (e : Entry) (m : Membership) (f : RxFrame), s.AtWork ∧ s.Accepts .reading f ∧ s.LiftsSafely ∧
      s.lif.silent = false ∧ s.entry? m.job = some e ∧ s.leadMember? m.job = some m ∧ s.rvu.next = none ∧
      rxJob f = m.job ∧ e.takerOf (rxReadingRole f) = some f.src.toNat ∧ rxReadingRole f ≠ 0 ∧
      rxReadingPass f = m.pass ∧ m.deadline ≠ none ∧ m.readings[rxReadingRole f]? = some none ∧
      none ∉ m.readings.set (rxReadingRole f) (some (rxReading f)) ∧
      (judge e.offer.kind e.offer.low e.offer.high (m.readings.set (rxReadingRole f) (some (rxReading f)))).1 = .pass) :=
  ⟨⟨withMember (leadWith (some (reading 48210 1000100)) none (some 6160000) 0) (down .hold 0 .hold),
     formedOf 520 1 [some 3, some 4], leadWith (some (reading 48210 1000100)) none (some 6160000) 0,
     works (by decide +kernel), by decide +kernel⟩,
   ⟨withMember (leadWith (some (reading 48210 1000100)) none (some 6160000) 1) (down .hold 0 .hold),
     formedOf 520 1 [some 3, some 4], leadWith (some (reading 48210 1000100)) none (some 6160000) 1,
     works (by decide +kernel), lifts (by decide +kernel), by decide +kernel⟩,
   ⟨withMember (leadWith (some (reading 48210 1000100)) none none 0) (down .hold 0 .hold),
     formedOf 520 1 [some 3, some 4], leadWith (some (reading 48210 1000100)) none none 0,
     works (by decide +kernel), by decide +kernel⟩,
   ⟨withMember (leadWith (some (reading 48210 1000100)) none none 0) (down .hold 0 .hold),
     formedOf 520 1 [some 3, some 4], leadWith (some (reading 48210 1000100)) none none 0,
     readingF 4 1 0 310 999800, works (by decide +kernel), takes (by decide +kernel), by decide +kernel⟩,
   ⟨withMember (leadWith none none (some 6160000) 0) (down .hold 0 .hold), formedOf 520 1 [some 3, some 4],
     leadWith none none (some 6160000) 0, readingF 4 1 0 310 999800, works (by decide +kernel),
     takes (by decide +kernel), by decide +kernel⟩,
   ⟨withMember (leadWith (some (reading 48210 1000100)) none (some 6160000) 0) (down .hold 0 .hold),
     formedOf 520 1 [some 3, some 4], leadWith (some (reading 48210 1000100)) none (some 6160000) 0,
     readingF 4 1 0 310 999800, works (by decide +kernel), takes (by decide +kernel), lifts (by decide +kernel),
     by decide +kernel⟩⟩

theorem witness_AgainBeginsTheNextPass :
    (∃ (s : State) (f : RxFrame) (e : Entry) (m : Membership), s.AtWork ∧ s.Accepts .again f ∧ s.lif.silent = false ∧
      s.entry? (rxJob f) = some e ∧ s.rvu.current = some m ∧ m.job = e.offer.job ∧ s.rvu.next = none ∧
      m.state = .measuring) ∧
    (∃ (s : State) (f : RxFrame) (e : Entry) (m : Membership), s.AtWork ∧ s.Accepts .again f ∧ s.lif.silent = false ∧
      s.entry? (rxJob f) = some e ∧ s.rvu.current = some m ∧ m.job = e.offer.job ∧ s.rvu.next = none ∧
      m.state ≠ .measuring ∧ rxPass f ≠ m.pass + 1) ∧
    (∃ (s : State) (f : RxFrame) (e : Entry) (m : Membership), s.AtWork ∧ s.Accepts .again f ∧ s.lif.silent = false ∧
      s.entry? (rxJob f) = some e ∧ s.rvu.current = some m ∧ m.job = e.offer.job ∧ s.rvu.next = none ∧
      (s.takersOf m).head? = some (some f.src.toNat) ∧ rxPass f = m.pass + 1 ∧ m.state = .hold ∧
      rxRepeat f = false ∧ s.msq.lastReport ≠ none ∧ s.stand = s.tip) ∧
    (∃ (s : State) (f : RxFrame) (e : Entry) (m : Membership), s.AtWork ∧ s.Accepts .again f ∧ s.lif.silent = false ∧
      s.entry? (rxJob f) = some e ∧ s.rvu.current = some m ∧ m.job = e.offer.job ∧ s.rvu.next = none ∧
      (s.takersOf m).head? = some (some f.src.toNat) ∧ rxPass f = m.pass + 1 ∧ m.state = .landed ∧ m.role = 0 ∧
      rxRepeat f = false ∧ s.msq.lastReport ≠ none ∧ s.stand = s.tip) ∧
    (∃ (s : State) (f : RxFrame) (e : Entry) (m : Membership), s.AtWork ∧ s.Accepts .again f ∧ s.lif.silent = false ∧
      s.entry? (rxJob f) = some e ∧ s.rvu.current = some m ∧ m.job = e.offer.job ∧ s.rvu.next = none ∧
      (s.takersOf m).head? = some (some f.src.toNat) ∧ rxPass f = m.pass + 1 ∧ m.state = .hold ∧ m.role = 0 ∧
      rxRepeat f = true) :=
  ⟨⟨down .measure 1 .measuring, againF 4 0 1, formedOf 520 1 [some 4, some 3], memberOf 520 1 .measuring,
     works (by decide +kernel), takes (by decide +kernel), by decide +kernel⟩,
   ⟨down .hold 1 .hold, againF 4 0 0, formedOf 520 1 [some 4, some 3], memberOf 520 1 .hold,
     works (by decide +kernel), takes (by decide +kernel), by decide +kernel⟩,
   ⟨down .hold 1 .hold, againF 4 0 1, formedOf 520 1 [some 4, some 3], memberOf 520 1 .hold,
     works (by decide +kernel), takes (by decide +kernel), by decide +kernel⟩,
   ⟨own (down .landed 0 .landed), againF 3 0 1, formedOf 520 1 [some 3, some 4], memberOf 520 0 .landed,
     works (by decide +kernel), takes (by decide +kernel), by decide +kernel⟩,
   ⟨own (down .hold 0 .hold), againF 3 1 1, formedOf 520 1 [some 3, some 4], memberOf 520 0 .hold,
     works (by decide +kernel), takes (by decide +kernel), by decide +kernel⟩⟩

theorem witness_EntryTimersDecideTheEntry :
    (∃ (s : State) (job : Nat) (e : Entry), s.Running ∧ s.entry? job = some e ∧ e.formed = false ∧
      e.window.isSome = true ∧ (∃ t ∈ e.takers, t = some s.own)) ∧
    (∃ (s : State) (job : Nat) (e : Entry), s.Running ∧ s.entry? job = some e ∧ e.formed = false ∧
      e.window.isSome = true ∧ (s.cfg.catchFlag = true ∧ ∃ p ∈ e.takers.zip e.servable, p.1 = none ∧
      p.2 = true)) ∧
    (∃ (s : State) (job : Nat) (e : Entry), s.Running ∧ s.entry? job = some e ∧ e.formed = false ∧
      e.window.isSome = true ∧ (∀ t ∈ e.takers, t ≠ none) ∧ (¬ ∃ t ∈ e.takers, t = some s.own)) ∧
    (∃ (s : State) (job : Nat) (e : Entry), s.Running ∧ s.entry? job = some e ∧ e.formed = false ∧
      e.window.isSome = true ∧ s.cfg.catchFlag = false ∧ none ∈ e.takers ∧ (¬ ∃ t ∈ e.takers, t = some s.own)) ∧
    (∃ (s : State) (job : Nat) (e : Entry), s.Running ∧ s.entry? job = some e ∧ e.formed = false ∧
      e.grace.isSome = true ∧ s.member? job = none ∧ s.lif.held = []) ∧
    (∃ (s : State) (job : Nat) (e : Entry) (m : Membership), s.Running ∧ s.AtWork ∧ s.LiftsSafely ∧
      s.entry? job = some e ∧ e.formed = false ∧ e.grace.isSome = true ∧ s.lif.silent = false ∧
      s.rvu.current = some m ∧ m.job = job ∧ s.rvu.next = none ∧ none ∈ e.takers ∧
      e.takerOf m.role = some s.own ∧ (∀ x ∈ e.takers.take m.role, x = none)) :=
  ⟨⟨withTable [entryOf 520 1 [some 3, none]] base, 520, entryOf 520 1 [some 3, none], runs (by decide +kernel),
     by decide +kernel⟩,
   ⟨withTable [entryOf 520 1 [none, none]] catching, 520, entryOf 520 1 [none, none], runs (by decide +kernel),
     by decide +kernel⟩,
   ⟨withTable [entryOf 520 1 [some 4, some 5]] base, 520, entryOf 520 1 [some 4, some 5], runs (by decide +kernel),
     by decide +kernel⟩,
   ⟨withTable [entryOf 520 1 [none, none]] base, 520, entryOf 520 1 [none, none], runs (by decide +kernel),
     by decide +kernel⟩,
   ⟨withTable [lateEntry none] base, 520, lateEntry none, runs (by decide +kernel), by decide +kernel⟩,
   ⟨withMember (Membership.fresh 520 1 2) (withTable [lateEntry (some 3)] base), 520, lateEntry (some 3),
     Membership.fresh 520 1 2, runs (by decide +kernel), works (by decide +kernel), lifts (by decide +kernel),
     by decide +kernel⟩⟩

theorem witness_MembershipTimersDropTheJob :
    (∃ (s : State) (m : Membership), s.AtWork ∧ s.LiftsSafely ∧ s.lif.silent = false ∧ s.rvu.current = some m ∧
      s.rvu.next = none ∧ m.landingWait = none ∧ m.landingLimit = none ∧ m.holdLimit = none) ∧
    (∃ (s : State) (m : Membership), s.AtWork ∧ s.LiftsSafely ∧ s.lif.silent = false ∧ s.rvu.current = some m ∧
      s.rvu.next = none ∧ m.landingWait ≠ none) ∧
    (∃ (s : State) (m : Membership), s.AtWork ∧ s.LiftsSafely ∧ s.lif.silent = false ∧ s.rvu.current = some m ∧
      s.rvu.next = none ∧ m.landingLimit ≠ none) ∧
    (∃ (s : State) (m : Membership), s.AtWork ∧ s.LiftsSafely ∧ s.lif.silent = false ∧ s.rvu.current = some m ∧
      s.rvu.next = none ∧ m.holdLimit ≠ none) :=
  ⟨⟨down .landed 1 .landed, memberOf 520 1 .landed, works (by decide +kernel), lifts (by decide +kernel),
     by decide +kernel⟩,
   ⟨withMember { memberOf 520 0 .landed with landingWait := some 1 } (down .landed 0 .landed),
     { memberOf 520 0 .landed with landingWait := some 1 }, works (by decide +kernel), lifts (by decide +kernel),
     by decide +kernel⟩,
   ⟨withMember { memberOf 520 1 .moving with landingLimit := some 1 } (down .descend 1 .moving),
     { memberOf 520 1 .moving with landingLimit := some 1 }, works (by decide +kernel),
     lifts (by decide +kernel), by decide +kernel⟩,
   ⟨withMember { memberOf 520 1 .hold with holdLimit := some 1 } (down .hold 1 .hold),
     { memberOf 520 1 .hold with holdLimit := some 1 }, works (by decide +kernel), lifts (by decide +kernel),
     by decide +kernel⟩⟩

theorem witness_WindowTakesItsSamples :
    (∃ (s : State) (settleNs n : Nat), s.AtWork ∧ s.meu.window = .settle settleNs n) ∧
    (∃ (s : State) (settleNs n : Nat), s.AtWork ∧ s.meu.window = .sample settleNs n ∧ s.meu.frontEnd ≠ .off ∧
      s.meu.acc.count < n) ∧
    (∃ (s : State) (settleNs n : Nat), s.AtWork ∧ s.meu.window = .sample settleNs n ∧ n ≤ s.meu.acc.count) ∧
    (∃ (s : State) (settleNs n : Nat) (m : Membership) (e : Entry), s.AtWork ∧ s.meu.window = .sample settleNs n ∧
      s.rvu.current = some m ∧ s.entry? m.job = some e ∧ m.deferred = none ∧ s.rvu.next = none ∧
      s.lif.silent = false ∧ m.role ≠ 0 ∧ s.workFree = true) ∧
    (∃ (s : State) (settleNs n : Nat) (m : Membership) (e : Entry), s.AtWork ∧ s.meu.window = .sample settleNs n ∧
      s.rvu.current = some m ∧ s.entry? m.job = some e ∧ m.deferred = none ∧ s.rvu.next = none ∧
      s.lif.silent = false ∧ m.role ≠ 0 ∧ s.workFree = false) ∧
    (∃ (s : State) (settleNs n : Nat) (m : Membership) (e : Entry), s.AtWork ∧ s.meu.window = .sample settleNs n ∧
      s.rvu.current = some m ∧ s.entry? m.job = some e ∧ m.deferred = none ∧ s.rvu.next = none ∧
      s.lif.silent = false ∧ m.role = 0 ∧ none ∈ m.readings.set 0 (some (reading 0 0))) :=
  ⟨⟨windowed 1 .ret (.settle 1000000 16) 0, 1000000, 16, works (by decide +kernel), by decide +kernel⟩,
   ⟨windowed 1 .sense (.sample 1000000 16) 15, 1000000, 16, works (by decide +kernel), by decide +kernel⟩,
   ⟨windowed 1 .ret (.sample 1000000 16) 16, 1000000, 16, works (by decide +kernel), by decide +kernel⟩,
   ⟨windowed 1 .ret (.sample 1000000 16) 16, 1000000, 16, memberOf 520 1 .measuring,
     formedOf 520 1 [some 4, some 3], works (by decide +kernel), by decide +kernel⟩,
   ⟨(windowed 1 .ret (.sample 1000000 16) 16).onLif fun l => { l with work := List.replicate 8 .beacon }, 1000000,
     16, memberOf 520 1 .measuring, formedOf 520 1 [some 4, some 3], works (by decide +kernel),
     by decide +kernel⟩,
   ⟨windowed 0 .force (.sample 1000000 16) 16, 1000000, 16, memberOf 520 0 .measuring,
     formedOf 520 1 [some 3, some 4], works (by decide +kernel), by decide +kernel⟩⟩

theorem witness_ValuesFollowTheKind :
    (∃ r : Reading, r.amp.natAbs < 100) ∧
    (∃ f r : Reading, 100 ≤ r.amp.natAbs ∧ 0 < f.volt - r.volt ∧ r.amp < 0) ∧
    (∃ f r : Reading, 100 ≤ r.amp.natAbs ∧ (¬ (0 < f.volt - r.volt ∧ r.amp < 0 ∨ f.volt - r.volt < 0 ∧ 0 < r.amp)) ∧
      (compute .cont [some f, some r]).value < 4294967295) ∧
    (∃ f r : Reading, 100 ≤ r.amp.natAbs ∧ (compute .cont [some f, some r]).value = 4294967295) ∧
    (∃ r : Reading, r.amp.natAbs < 10) ∧
    (∃ f r : Reading, 10 ≤ r.amp.natAbs ∧ f.volt.natAbs ≤ 5000000 ∧ r.volt.natAbs ≤ 5000000) ∧
    (∃ (kind : JobKind) (low high : DataWord) (v : Int), (low.toNat : Int) ≤ v ∧ kind ≠ .isol ∧
      (high.toNat : Int) < low.toNat) ∧
    (∃ rows : List (Option Reading), none ∈ rows) ∧
    (∃ rows : List (Option Reading), none ∉ rows ∧
      (∃ x ∈ rows, (match x with | some r => r.lifted | none => false) = true)) ∧
    (∃ rows : List (Option Reading), none ∉ rows ∧
      (∀ x ∈ rows, (match x with | some r => r.lifted | none => false) = false) ∧
      (∃ x ∈ rows, (match x with | some r => r.isOver | none => false) = true)) ∧
    (∃ rows : List (Option Reading), none ∉ rows ∧
      (∀ x ∈ rows, (match x with | some r => r.lifted || r.isOver | none => false) = false) ∧
      (compute .cont rows).isOpen = true) ∧
    (∃ rows : List (Option Reading), none ∉ rows ∧
      (∀ x ∈ rows, (match x with | some r => r.lifted || r.isOver | none => false) = false) ∧
      (compute .cont rows).isOpen = false ∧ (compute .cont rows).leak = true) ∧
    (∃ rows : List (Option Reading), none ∉ rows ∧
      (∀ x ∈ rows, (match x with | some r => r.lifted || r.isOver | none => false) = false) ∧
      (compute .cont rows).isOpen = false ∧ (compute .cont rows).leak = false) :=
  ⟨⟨reading 0 99, by decide +kernel⟩,
   ⟨reading 1 100, reading 0 (-100), by decide +kernel⟩,
   ⟨reading 0 100, reading 0 100, by decide +kernel⟩,
   ⟨reading 5000000 100, reading (-5000000) 100, by decide +kernel⟩,
   ⟨reading 0 9, by decide +kernel⟩,
   ⟨reading 5000000 10, reading (-5000000) 10, by decide +kernel⟩,
   ⟨.cont, 16777215, 0, 16777215, by decide +kernel⟩,
   ⟨[some (reading 0 0), none], by decide +kernel⟩,
   ⟨[some (reading 0 0), some { reading 0 0 with lifted := true }], by decide +kernel⟩,
   ⟨[some { reading 5000000 0 with isOver := true }, some (reading 0 0)], by decide +kernel⟩,
   ⟨[some (reading 0 0), some (reading 0 0)], by decide +kernel⟩,
   ⟨[some (reading 0 1000000), some (reading 0 930000)], by decide +kernel⟩,
   ⟨[some (reading 0 1000000), some (reading 0 1000000)], by decide +kernel⟩⟩

theorem witness_CorridorsFollowTheMove :
    (∃ (c : ConfigRecord) (xc yc xt yt : Nat), 8 ≤ c.m ∧ xc ≤ 60000 ∧ yc ≤ 60000 ∧ xt ≤ 60000 ∧ yt ≤ 60000) ∧
    (∃ (c : ConfigRecord) (xc yc xt yt : Nat), 8 ≤ c.m ∧ xc ≤ 60000 ∧ yc ≤ 60000 ∧ xc = xt ∧ yc = yt) ∧
    (∃ a b : Rect, a.proper = true ∧ b.proper = true ∧ a.inside b = true) ∧
    (∃ a b : Rect, a.xmax = b.xmin) ∧
    (∃ a b : Rect, a.ymax = b.ymin) ∧
    (∃ (c : ConfigRecord) (x y : Nat), 8 ≤ c.m ∧ c.m ≤ 1000 ∧
      (corridor c .travel 12000 8000 15500 7200).region.contains x y = true ∧
      (x : Int) = (corridor c .travel 12000 8000 15500 7200).region.xmax) ∧
    (∃ (s : State) (r : Rect), s.conflictsMap r = true) :=
  ⟨⟨{ cfg with m := 8 }, 60000, 0, 0, 60000, by decide +kernel⟩,
   ⟨cfg, 60000, 60000, 60000, 60000, by decide +kernel⟩,
   ⟨far, wide, by decide +kernel⟩,
   ⟨near, { near with xmin := 13000, xmax := 14000 }, by decide +kernel⟩,
   ⟨near, { near with ymin := 9000, ymax := 9500 }, by decide +kernel⟩,
   ⟨cfg, 15705, 8205, by decide +kernel⟩,
   ⟨slotAs 4 (.frozen none (some far)) base, wide, by decide +kernel⟩⟩

theorem witness_OwnClaimFamilySetsTheOrdinal :
    (∃ (s : State) (f : RxFrame), s.Running ∧ s.Accepts .shrink f ∧ s.isOwn f = true ∧ rxRectSide f = s.stc.side) ∧
    (∃ (s : State) (f : RxFrame), s.Running ∧ s.Accepts .release f ∧ s.isOwn f = true ∧ rxAuxSide f = s.stc.side) ∧
    (∃ (s : State) (f : RxFrame), s.Running ∧ s.Accepts .claim f ∧ s.isOwn f = true ∧ rxRectSide f = s.stc.side ∧
      s.scu.pending = none) ∧
    (∃ (s : State) (f : RxFrame) (p : PendingClaim), s.Running ∧ s.Accepts .claim f ∧ s.isOwn f = true ∧
      rxRectSide f = s.stc.side ∧ s.scu.pending = some p ∧ p.stage = .queued ∧ p.claim.kind = rxClaimKind f ∧
      p.claim.rect = rxRect f ∧ s.claimWaits = false ∧ s.scu.doubt = false ∧
      s.conflictsMap p.claim.rect = false) ∧
    (∃ (s : State) (f : RxFrame) (p : PendingClaim), s.Running ∧ s.Accepts .claim f ∧ s.isOwn f = true ∧
      rxRectSide f = s.stc.side ∧ s.scu.pending = some p ∧ p.stage = .queued ∧ p.claim.kind = rxClaimKind f ∧
      p.claim.rect = rxRect f ∧ s.claimWaits = false ∧ s.scu.doubt = true) ∧
    (∃ (s : State) (f : RxFrame) (p : PendingClaim), s.Running ∧ s.Accepts .claim f ∧ s.isOwn f = true ∧
      rxRectSide f = s.stc.side ∧ s.scu.pending = some p ∧ p.stage = .queued ∧ p.claim.kind = rxClaimKind f ∧
      p.claim.rect = rxRect f ∧ s.claimWaits = false ∧ s.scu.doubt = false ∧ s.conflictsMap p.claim.rect = true) :=
  ⟨⟨own base, shrinkF 3 63 far, runs (by decide +kernel), takes (by decide +kernel), by decide +kernel⟩,
   ⟨own base, releaseF 3 0, runs (by decide +kernel), takes (by decide +kernel), by decide +kernel⟩,
   ⟨own base, claimF 3 6 1 move51.rect, runs (by decide +kernel), takes (by decide +kernel), by decide +kernel⟩,
   ⟨own (queued move51 base), claimF 3 6 1 move51.rect, { claim := move51, stage := .queued },
     runs (by decide +kernel), takes (by decide +kernel), by decide +kernel⟩,
   ⟨own (setDoubt (queued move51 base)), claimF 3 6 1 move51.rect, { claim := move51, stage := .queued },
     runs (by decide +kernel), takes (by decide +kernel), by decide +kernel⟩,
   ⟨own (slotAs 4 (.held near) (queued move51 base)), claimF 3 6 1 move51.rect,
     { claim := move51, stage := .queued }, runs (by decide +kernel), takes (by decide +kernel),
     by decide +kernel⟩⟩

theorem witness_ObjectionWindowGrantsTheClaim :
    (∃ s : State, s.AtWork ∧ s.windowOrdinal = none) ∧
    (∃ (s : State) (p : PendingClaim) (o d : Nat), s.AtWork ∧ s.scu.pending = some p ∧ p.stage = .window o d ∧
      s.msq.motion = .claiming ∧ s.msq.abandonMark = false ∧ p.claim.region.contains s.goal.1 s.goal.2 = true) ∧
    (∃ (s : State) (p : PendingClaim) (o d : Nat), s.AtWork ∧ s.scu.pending = some p ∧ p.stage = .window o d ∧
      s.msq.motion = .parking ∧ s.msq.park = .seek ∧ p.claim.region.contains s.cfg.parkX s.cfg.parkY = true) ∧
    (∃ (s : State) (p : PendingClaim) (o d : Nat), s.AtWork ∧ s.scu.pending = some p ∧ p.stage = .window o d ∧
      s.msq.motion = .claiming ∧ s.msq.abandonMark = true) ∧
    (∃ (s : State) (p : PendingClaim) (o d : Nat), s.AtWork ∧ s.scu.pending = some p ∧ p.stage = .window o d ∧
      s.msq.motion.engaged = true) :=
  ⟨⟨base, works (by decide +kernel), by decide +kernel⟩,
   ⟨claiming, { claim := move51, stage := .window 6 200000 }, 6, 200000, works (by decide +kernel),
     by decide +kernel⟩,
   ⟨inWindow (corridor cfg .travel 12000 8000 1000 1000) 6 (inMotion .parking),
     { claim := (corridor cfg .travel 12000 8000 1000 1000), stage := .window 6 200000 }, 6, 200000,
     works (by decide +kernel), by decide +kernel⟩,
   ⟨claiming.onMsq fun q => { q with abandonMark := true }, { claim := move51, stage := .window 6 200000 }, 6,
     200000, works (by decide +kernel), by decide +kernel⟩,
   ⟨inWindow move51 6 (inMotion .lift), { claim := move51, stage := .window 6 200000 }, 6, 200000,
     works (by decide +kernel), by decide +kernel⟩⟩

theorem witness_PeerClaimIsStoredOrObjected :
    (∃ (s : State) (f : RxFrame), s.Running ∧ s.Accepts .claim f ∧ s.isOwn f = false ∧ rxRectSide f = s.stc.side ∧
      slotConflict .claim f f.src.toNat (s.slotOf f.src.toNat).holds.thaw s = false ∧
      s.objection f.src.toNat (rxRect f) = none) ∧
    (∃ (s : State) (f : RxFrame), s.Running ∧ s.Accepts .claim f ∧ s.isOwn f = false ∧ rxRectSide f = s.stc.side ∧
      slotConflict .claim f f.src.toNat (s.slotOf f.src.toNat).holds.thaw s = false ∧
      s.objection f.src.toNat (rxRect f) = some (3, (standAt 12000 8000).rect) ∧ s.mayOffer = false) ∧
    (∃ (s : State) (f : RxFrame), s.Running ∧ s.Accepts .claim f ∧ s.AtWork ∧ s.isOwn f = false ∧
      rxRectSide f = s.stc.side ∧ slotConflict .claim f f.src.toNat (s.slotOf f.src.toNat).holds.thaw s = false ∧
      s.objection f.src.toNat (rxRect f) = some (3, (standAt 12000 8000).rect) ∧ s.mayOffer = true ∧
      s.lif.tx = none) ∧
    (∃ (s : State) (p : PendingClaim), s.AtWork ∧ s.lif.silent = false ∧ s.scu.pending = some p ∧ p.stage = .queued ∧
      s.lif.tx = none ∧ s.msq.spaceEvent = false ∧ s.rvu.current = none ∧ s.msq.motion = .claiming ∧
      s.msq.abandonMark = false ∧ s.msq.spaceExpired = false ∧ s.meu.window = .off ∧ s.scu.doubt = true) ∧
    (∃ (s : State) (p : PendingClaim), s.AtWork ∧ s.lif.silent = false ∧ s.scu.pending = some p ∧ p.stage = .queued ∧
      s.lif.tx = none ∧ s.msq.spaceEvent = false ∧ s.rvu.current = none ∧ s.msq.motion = .parking ∧
      s.msq.park = .seek ∧ s.msq.abandonMark = false ∧ s.msq.spaceExpired = false ∧ s.meu.window = .off ∧
      s.conflictsMap p.claim.rect = true) ∧
    (∃ (s : State) (p : PendingClaim), s.AtWork ∧ s.lif.silent = false ∧ s.scu.pending = some p ∧ p.stage = .queued ∧
      s.lif.tx = none ∧ s.msq.spaceEvent = false ∧ s.rvu.current = none ∧ s.msq.motion = .claiming ∧
      s.msq.abandonMark = false ∧ s.msq.spaceExpired = false ∧ s.lif.receiver ≠ .waitQuiet ∧ s.meu.window = .off ∧
      s.scu.doubt = false ∧ s.conflictsMap p.claim.rect = false) ∧
    (∃ (s : State) (p : PendingClaim) (f : RxFrame), s.Accepts .claim f ∧ s.AtWork ∧ s.lif.silent = false ∧
      s.scu.pending = some p ∧ p.stage = .queued ∧
      s.lif.tx = none ∧ s.msq.spaceEvent = false ∧ s.rvu.current = none ∧ 
      s.msq.motion = .claiming ∧ s.msq.abandonMark = false ∧ s.msq.spaceExpired = false ∧ s.isOwn f = false ∧
      rxRectSide f = s.stc.side ∧ s.objection f.src.toNat (rxRect f) = none ∧ p.claim.rect.conflicts (rxRect f) = true ∧
      p.claim.rect = (corridor s.cfg .travel s.tipX s.tipY s.goal.1 s.goal.2).rect) :=
  ⟨⟨base, claimF 4 9 1 far, runs (by decide +kernel), takes (by decide +kernel), by decide +kernel⟩,
   ⟨silentHead, claimF 4 9 1 near, runs (by decide +kernel), takes (by decide +kernel), by decide +kernel⟩,
   ⟨base, claimF 4 9 1 near, runs (by decide +kernel), takes (by decide +kernel), works (by decide +kernel),
     by decide +kernel⟩,
   ⟨setDoubt (claimQueued (inMotion .claiming)), { claim := move51, stage := .queued }, works (by decide +kernel),
     by decide +kernel⟩,
   ⟨slotAs 4 (.held near) (claimQueued ((inMotion .parking).onMsq fun q => { q with park := .seek })),
     { claim := move51, stage := .queued }, works (by decide +kernel), by decide +kernel⟩,
   ⟨claimQueued (inMotion .claiming), { claim := move51, stage := .queued }, works (by decide +kernel),
     by decide +kernel⟩,
   ⟨(claimQueued (inMotion .claiming)).onMsq fun q => { q with target := some (15500, 7200) },
     { claim := move51, stage := .queued }, claimF 4 9 1 { xmin := 16000, xmax := 20000, ymin := 5000, ymax := 7000 },
     takes (by decide +kernel), works (by decide +kernel), by decide +kernel⟩⟩

theorem witness_PeerShrinkReleaseAndWindowEnd :
    (∃ (s : State) (f : RxFrame), s.Running ∧ s.Accepts .shrink f ∧ s.isOwn f = false ∧ rxRectSide f = s.stc.side ∧
      (s.slotOf f.src.toNat).holds.reference = none ∧
      slotConflict .shrink f f.src.toNat (.held (rxRect f)) s = false) ∧
    (∃ (s : State) (f : RxFrame), s.Running ∧ s.Accepts .shrink f ∧ s.isOwn f = false ∧ rxRectSide f = s.stc.side ∧
      (s.slotOf f.src.toNat).holds.reference = none ∧
      slotConflict .shrink f f.src.toNat (.held (rxRect f)) s = true) ∧
    (∃ (s : State) (f : RxFrame), s.Running ∧ s.Accepts .shrink f ∧ s.isOwn f = false ∧ rxRectSide f = s.stc.side ∧
      (s.slotOf f.src.toNat).holds.reference = some wide ∧ (rxRect f).inside wide = true) ∧
    (∃ (s : State) (f : RxFrame), s.Running ∧ s.Accepts .shrink f ∧ s.isOwn f = false ∧ rxRectSide f = s.stc.side ∧
      (s.slotOf f.src.toNat).holds.reference = some far ∧ (rxRect f).inside far = false) ∧
    (∃ (s : State) (f : RxFrame), s.Running ∧ s.Accepts .release f ∧ s.isOwn f = false ∧ rxAuxSide f = s.stc.side ∧
      slotConflict .release f f.src.toNat .empty s = false) ∧
    (∃ (s : State) (n : Nat), s.Running ∧ (s.slotOf n).holds = .heldPending none far 9 200000) ∧
    (∃ (s : State) (n : Nat), s.Running ∧ (s.slotOf n).holds = .empty) :=
  ⟨⟨base, shrinkF 4 9 far, runs (by decide +kernel), takes (by decide +kernel), by decide +kernel⟩,
   ⟨claiming, shrinkF 4 9 near, runs (by decide +kernel), takes (by decide +kernel), by decide +kernel⟩,
   ⟨slotAs 4 (.held wide) base, shrinkF 4 9 far, runs (by decide +kernel), takes (by decide +kernel),
     by decide +kernel⟩,
   ⟨slotAs 4 (.held far) base, shrinkF 4 9 wide, runs (by decide +kernel), takes (by decide +kernel),
     by decide +kernel⟩,
   ⟨slotAs 4 (.held far) base, releaseF 4 9, runs (by decide +kernel), takes (by decide +kernel), by decide +kernel⟩,
   ⟨slotAs 4 (.heldPending none far 9 200000) base, 4, runs (by decide +kernel), by decide +kernel⟩,
   ⟨base, 4, runs (by decide +kernel), by decide +kernel⟩⟩

theorem witness_ObjectVoidsOrComesLate :
    (∃ (s : State) (f : RxFrame), s.Running ∧ s.Accepts .object f ∧ rxAuxSide f = s.stc.side ∧ rxClaimant f ≠ s.own ∧
      (s.slotOf (rxClaimant f)).holds = .heldPending (some wide) far 9 200000 ∧ rxOrdinal f = 9) ∧
    (∃ (s : State) (f : RxFrame), s.Running ∧ s.Accepts .object f ∧ rxAuxSide f = s.stc.side ∧ rxClaimant f ≠ s.own ∧
      (s.slotOf (rxClaimant f)).holds = .heldPending none far 9 200000 ∧ rxOrdinal f ≠ 9) ∧
    (∃ (s : State) (f : RxFrame), s.Running ∧ s.Accepts .object f ∧ rxAuxSide f = s.stc.side ∧ rxClaimant f ≠ s.own ∧
      (s.slotOf (rxClaimant f)).holds = .empty) ∧
    (∃ (s : State) (f : RxFrame), s.Running ∧ s.Accepts .object f ∧ (∀ c, s.scu.held = some c → c.placing = false) ∧
      rxAuxSide f = s.stc.side ∧ rxClaimant f = s.own ∧ s.pendingPlacing = false ∧
      s.windowOrdinal = some (rxOrdinal f)) ∧
    (∃ (s : State) (f : RxFrame), s.Running ∧ s.Accepts .object f ∧ (∀ c, s.scu.held = some c → c.placing = false) ∧
      s.AtWork ∧ rxAuxSide f = s.stc.side ∧ rxClaimant f = s.own ∧ s.pendingPlacing = false ∧
      s.windowOrdinal ≠ some (rxOrdinal f) ∧ s.scu.lastGranted = some (rxOrdinal f) ∧ s.msq.motion = .travel ∧
      (∃ c ∈ s.scu.held, c.kind = .travel)) ∧
    (∃ (s : State) (f : RxFrame), s.Running ∧ s.Accepts .object f ∧ (∀ c, s.scu.held = some c → c.placing = false) ∧
      rxAuxSide f = s.stc.side ∧ rxClaimant f = s.own ∧ s.pendingPlacing = false ∧
      s.windowOrdinal ≠ some (rxOrdinal f) ∧ s.scu.lastGranted ≠ some (rxOrdinal f)) :=
  ⟨⟨slotAs 4 (.heldPending (some wide) far 9 200000) base, objectF 2 9 near 4 2, runs (by decide +kernel),
     takes (by decide +kernel), by decide +kernel⟩,
   ⟨slotAs 4 (.heldPending none far 9 200000) base, objectF 2 8 near 4 2, runs (by decide +kernel),
     takes (by decide +kernel), by decide +kernel⟩,
   ⟨base, objectF 2 8 near 4 2, runs (by decide +kernel), takes (by decide +kernel), by decide +kernel⟩,
   ⟨claiming, objectF 2 6 near 3 2, runs (by decide +kernel), takes (by decide +kernel),
     (fun _ h => by cases h; rfl), by decide +kernel⟩,
   ⟨(inMotion .travel).onScu fun c => { c with held := some move51 }, objectF 2 5 near 3 2,
     runs (by decide +kernel), takes (by decide +kernel), (fun _ h => by cases h; rfl),
     works (by decide +kernel), by decide +kernel⟩,
   ⟨base, objectF 2 9 near 3 2, runs (by decide +kernel), takes (by decide +kernel), (fun _ h => by cases h; rfl),
     by decide +kernel⟩⟩

theorem witness_CensusRequestVoidsAndAsks :
    (∃ (s : State) (f : RxFrame), s.AtWork ∧ s.Accepts .censusReq f ∧ s.msq.motion ≠ .offline ∧ s.lif.silent = false ∧
      s.claimOnLane = false ∧ s.claimWaits = false ∧ rxAuxSide f = s.stc.side ∧ s.isOwn f = false ∧
      s.scu.replyQueued = false ∧ s.lif.tx = none ∧ s.windowOrdinal = some 6) ∧
    (∃ (s : State) (f : RxFrame), s.AtWork ∧ s.Accepts .censusReq f ∧ s.msq.motion ≠ .offline ∧ s.lif.silent = false ∧
      s.claimOnLane = false ∧ s.claimWaits = false ∧ rxAuxSide f = s.stc.side ∧ s.isOwn f = true ∧
      s.scu.censusPending = true) :=
  ⟨⟨claiming, censusF 4, works (by decide +kernel), takes (by decide +kernel), by decide +kernel⟩,
   ⟨own (base.onScu fun c => { c with doubt := true, censusPending := true }), censusF 3, works (by decide +kernel),
     takes (by decide +kernel), by decide +kernel⟩⟩

theorem witness_CensusReplyReplacesTheSlot :
    (∃ (s : State) (f : RxFrame), s.Running ∧ s.Accepts .censusReply f ∧ rxAuxSide f = s.stc.side ∧ s.isOwn f = true ∧
      rxNotes f = []) ∧
    (∃ (s : State) (f : RxFrame), s.Running ∧ s.Accepts .censusReply f ∧ rxAuxSide f = s.stc.side ∧
      s.isOwn f = false ∧ rxNotes f = [] ∧
      slotConflict .censusReply f f.src.toNat (match rxReplyHeld f with | some h => .held h | none => .empty) s = false) ∧
    (∃ (s : State) (f : RxFrame), s.Running ∧ s.Accepts .censusReply f ∧ rxAuxSide f = s.stc.side ∧
      s.isOwn f = false ∧ rxNotes f = [] ∧
      slotConflict .censusReply f f.src.toNat (match rxReplyHeld f with | some h => .held h | none => .empty) s = true) ∧
    (∃ (s : State) (f : RxFrame) (o : Nat) (rect : Rect) (e : RosterEntry), s.Running ∧ s.Accepts .censusReply f ∧
      rxAuxSide f = s.stc.side ∧ s.isOwn f = false ∧ rxNotes f = [(o, rect)] ∧ o ≠ f.src.toNat ∧
      s.stc.station ≠ some o ∧ (received .censusReply f s).stc.roster.at? o = some e) :=
  ⟨⟨own (base.onScu fun c => { c with replyQueued := true }), replyF 3 5 near [], runs (by decide +kernel),
     takes (by decide +kernel), by decide +kernel⟩,
   ⟨base, replyF 4 5 far [], runs (by decide +kernel), takes (by decide +kernel), by decide +kernel⟩,
   ⟨claiming, replyF 4 5 near [], runs (by decide +kernel), takes (by decide +kernel), by decide +kernel⟩,
   ⟨base, replyF 4 5 far [(8, wide)], 8, wide, .absent, runs (by decide +kernel), takes (by decide +kernel),
     by decide +kernel⟩⟩

theorem witness_CensusEndAndClearFrozen :
    (∃ s : State, s.AtWork ∧ s.scu.censusTimer.isSome = true ∧ s.scu.repeatMark = false) ∧
    (∃ s : State, s.AtWork ∧ s.scu.censusTimer.isSome = true ∧ s.scu.repeatMark = true ∧ s.mayOffer = true ∧
      s.lif.tx = none) ∧
    (∃ (s : State) (f : RxFrame), s.Running ∧ s.Accepts .clearFrozen f ∧ rxFrozenStation f = 0) ∧
    (∃ (s : State) (f : RxFrame), s.Running ∧ s.Accepts .clearFrozen f ∧ 8 < rxFrozenStation f) ∧
    (∃ (s : State) (f : RxFrame), s.Running ∧ s.Accepts .clearFrozen f ∧ s.stc.station = some (rxFrozenStation f)) ∧
    (∃ (s : State) (f : RxFrame), s.Running ∧ s.Accepts .clearFrozen f ∧ rxFrozenStation f = 1 ∧
      (s.slotOf (rxFrozenStation f)).holds = .held far) ∧
    (∃ (s : State) (f : RxFrame), s.Running ∧ s.Accepts .clearFrozen f ∧ s.stc.station ≠ some (rxFrozenStation f) ∧
      (s.slotOf (rxFrozenStation f)).holds = .frozen (some far) none) :=
  ⟨⟨base.onScu fun c => { c with doubt := true, censusPending := true, censusTimer := some 5000000 },
     works (by decide +kernel), by decide +kernel⟩,
   ⟨base.onScu fun c => { c with doubt := true, censusPending := true, censusTimer := some 5000000, repeatMark := true },
     works (by decide +kernel), by decide +kernel⟩,
   ⟨base, guardedFrame 15 [(4, 0)], runs (by decide +kernel), takes (by decide +kernel), by decide +kernel⟩,
   ⟨base, guardedFrame 15 [(4, 9)], runs (by decide +kernel), takes (by decide +kernel), by decide +kernel⟩,
   ⟨base, guardedFrame 15 [(4, 3)], runs (by decide +kernel), takes (by decide +kernel), by decide +kernel⟩,
   ⟨slotAs 1 (.held far) base, guardedFrame 15 [(4, 1)], runs (by decide +kernel), takes (by decide +kernel),
     by decide +kernel⟩,
   ⟨slotAs 8 (.frozen (some far) none) base, guardedFrame 15 [(4, 8)], runs (by decide +kernel),
     takes (by decide +kernel), by decide +kernel⟩⟩

theorem witness_BeaconsGiveStateAndOrdinal :
    (∃ (s : State) (f : RxFrame), s.Running ∧ s.Accepts .beacon f ∧ s.isOwn f = true) ∧
    (∃ (s : State) (f : RxFrame), s.Running ∧ s.Accepts .fault f ∧ s.isOwn f = true) ∧
    (∃ (s : State) (f : RxFrame) (e : RosterEntry), s.Running ∧ s.Accepts .fault f ∧ s.isOwn f = false ∧
      s.stc.roster.at? f.src.toNat = some e ∧ rxFaultMode f ≤ 1) ∧
    (∃ (s : State) (f : RxFrame) (e : RosterEntry), s.Running ∧ s.Accepts .fault f ∧ s.isOwn f = false ∧
      s.stc.roster.at? f.src.toNat = some e ∧ e.fence = some (.mode (rxFaultMode f)) ∧ rxFaultMode f = 3) ∧
    (∃ (s : State) (f : RxFrame) (e : RosterEntry), s.Running ∧ s.Accepts .beacon f ∧ s.isOwn f = false ∧
      s.stc.roster.at? f.src.toNat = some e ∧ rxBeaconFence f ≠ 2 ∧ rxBeaconFence f ≠ 3 ∧
      rxBeaconSide f ≠ s.stc.side) ∧
    (∃ (s : State) (f : RxFrame) (e : RosterEntry), s.Running ∧ s.Accepts .beacon f ∧ s.isOwn f = false ∧
      s.stc.roster.at? f.src.toNat = some e ∧ rxBeaconFence f ≠ 2 ∧ rxBeaconFence f ≠ 3 ∧
      rxBeaconSide f = s.stc.side ∧ (s.slotOf f.src.toNat).lastOrdinal = some (rxBeaconOrdinal f)) ∧
    (∃ (s : State) (f : RxFrame) (e : RosterEntry), s.Running ∧ s.Accepts .beacon f ∧ s.isOwn f = false ∧
      s.stc.roster.at? f.src.toNat = some e ∧ rxBeaconFence f ≠ 2 ∧ rxBeaconFence f ≠ 3 ∧
      rxBeaconSide f = s.stc.side ∧ (s.slotOf f.src.toNat).lastOrdinal = none) ∧
    (∃ (s : State) (f : RxFrame) (e : RosterEntry), s.Running ∧ s.Accepts .beacon f ∧ s.isOwn f = false ∧
      s.stc.roster.at? f.src.toNat = some e ∧ rxBeaconFence f ≠ 2 ∧ rxBeaconFence f ≠ 3 ∧
      rxBeaconSide f = s.stc.side ∧ (s.slotOf f.src.toNat).lastOrdinal = some 1 ∧ 1 ≠ rxBeaconOrdinal f) ∧
    (∃ (s : State) (f : RxFrame), s.Running ∧ s.Accepts .fault f ∧ s.isOwn f = true ∧ rxFaultMode f = 1 ∧
      s.flu.acting = some (rxFaultCode f) ∧ s.flu.awaitFault = true) :=
  ⟨⟨own base, beaconF 3 3 5 7 0, runs (by decide +kernel), takes (by decide +kernel), by decide +kernel⟩,
   ⟨own base, faultF 3 7 0, runs (by decide +kernel), takes (by decide +kernel), by decide +kernel⟩,
   ⟨base, faultF 4 7 1, heard .top .idle, runs (by decide +kernel), takes (by decide +kernel), by decide +kernel⟩,
   ⟨updRoster 4 (fun e => { e with fence := some (.mode 3) }) base, faultF 4 7 3,
     { heard .top .idle with fence := some (.mode 3) }, runs (by decide +kernel), takes (by decide +kernel),
     by decide +kernel⟩,
   ⟨base, beaconF 6 13 5 7 1, heard .bottom .idle, runs (by decide +kernel), takes (by decide +kernel),
     by decide +kernel⟩,
   ⟨slotAs 4 (.held far) base, beaconF 4 0 1 0 0, heard .top .idle, runs (by decide +kernel),
     takes (by decide +kernel), by decide +kernel⟩,
   ⟨base, beaconF 4 3 63 1 0, heard .top .idle, runs (by decide +kernel), takes (by decide +kernel),
     by decide +kernel⟩,
   ⟨slotAs 4 (.held far) base, beaconF 4 3 0 7 0, heard .top .idle, runs (by decide +kernel),
     takes (by decide +kernel), by decide +kernel⟩,
   ⟨own (base.onFlu fun u => { u with acting := some 6, awaitFault := true }), faultF 3 6 1, runs (by decide +kernel),
     takes (by decide +kernel), by decide +kernel⟩⟩

theorem witness_StationsThatAreOutFreeze :
    (∃ s : State, s.Running ∧ s.rvu.current = none ∧ s.rvu.next = none ∧ s.stc.station ≠ some 0 ∧
      s.stc.roster0.presence = .present ∧ s.stc.roster0.silence.isSome = true) ∧
    (∃ (s : State) (n : Nat), s.Running ∧ s.rvu.current = none ∧ s.rvu.next = none ∧
      (s.rosterOf n).presence ≠ .present) ∧
    (∃ (s : State) (n : Nat), s.Running ∧ s.rvu.current = none ∧ s.rvu.next = none ∧ (s.rosterOf n).silence = none ∧
      (s.rosterOf n).presence = .present) ∧
    (∃ (s : State) (n : Nat) (e : RosterEntry), s.Running ∧ s.rvu.current = none ∧ s.rvu.next = none ∧
      s.stc.station ≠ some n ∧ s.stc.roster.at? n = some e ∧ e.presence = .present ∧ e.silence.isSome = true ∧
      e.side ≠ some s.stc.side) ∧
    (∃ (s : State) (n : Nat) (e : RosterEntry), s.Running ∧ s.rvu.current = none ∧ s.rvu.next = none ∧
      s.stc.station ≠ some n ∧ s.stc.roster.at? n = some e ∧ e.presence = .present ∧ e.silence.isSome = true ∧
      e.side = some s.stc.side ∧ (s.slotOf n).holds = .heldPending (some wide) far 9 200000) ∧
    (∃ (s : State) (f : RxFrame) (e : RosterEntry), s.Running ∧ s.Accepts .fault f ∧ s.rvu.current = none ∧
      s.rvu.next = none ∧ s.isOwn f = false ∧ s.stc.roster.at? f.src.toNat = some e ∧ 2 ≤ rxFaultMode f ∧
      e.fence ≠ some (.mode (rxFaultMode f)) ∧ e.side = some s.stc.side) :=
  ⟨⟨base, runs (by decide +kernel), by decide +kernel⟩,
   ⟨base, 1, runs (by decide +kernel), by decide +kernel⟩,
   ⟨base, 3, runs (by decide +kernel), by decide +kernel⟩,
   ⟨base, 6, heard .bottom .idle, runs (by decide +kernel), by decide +kernel⟩,
   ⟨slotAs 4 (.heldPending (some wide) far 9 200000) base, 4, heard .top .idle, runs (by decide +kernel),
     by decide +kernel⟩,
   ⟨base, faultF 4 1 2, heard .top .idle, runs (by decide +kernel), takes (by decide +kernel), by decide +kernel⟩⟩

theorem witness_PartnerLossEndsTheSet :
    (∃ (s : State) (n : Nat) (e : RosterEntry) (m : Membership), s.AtWork ∧ s.LiftsSafely ∧ s.lif.silent = false ∧
      s.rvu.current = some m ∧ s.rvu.next = none ∧ s.stc.station ≠ some n ∧ s.stc.roster.at? n = some e ∧
      e.presence = .present ∧ e.silence.isSome = true ∧ s.scu.pending = none ∧ some n ∈ s.takersOf m ∧
      (∃ x ∈ (s.takersOf m).take m.role, x ≠ none ∧ x ≠ some n) ∧ s.msq.motion.engaged = true ∧
      m.state ≠ .formed) ∧
    (∃ (s : State) (n : Nat) (e : RosterEntry) (m : Membership), s.AtWork ∧ s.LiftsSafely ∧ s.lif.silent = false ∧
      s.rvu.current = some m ∧ s.rvu.next = none ∧ s.stc.station ≠ some n ∧ s.stc.roster.at? n = some e ∧
      e.presence = .present ∧ e.silence.isSome = true ∧ s.scu.pending = none ∧ some n ∈ s.takersOf m ∧
      (¬ ∃ x ∈ (s.takersOf m).take m.role, x ≠ none ∧ x ≠ some n) ∧ m.state ≠ .taken ∧ s.msq.motion = .landed) ∧
    (∃ (s : State) (n : Nat) (e : RosterEntry) (m : Membership), s.AtWork ∧ s.LiftsSafely ∧ s.lif.silent = false ∧
      s.rvu.current = some m ∧ s.rvu.next = none ∧ s.stc.station ≠ some n ∧ s.stc.roster.at? n = some e ∧
      e.presence = .present ∧ e.silence.isSome = true ∧ s.scu.pending = none ∧ some n ∈ s.takersOf m ∧
      (¬ ∃ x ∈ (s.takersOf m).take m.role, x ≠ none ∧ x ≠ some n) ∧ m.state = .taken ∧
      s.msq.motion.engaged = true) :=
  ⟨⟨withMember { memberOf 520 1 .landed with takers := [1, 3] ++ [4] } (down .landed 1 .landed), 4,
     heard .top .idle, { memberOf 520 1 .landed with takers := [1, 3] ++ [4] }, works (by decide +kernel),
     lifts (by decide +kernel), by decide +kernel⟩,
   ⟨down .landed 1 .landed, 4, heard .top .idle, memberOf 520 1 .landed, works (by decide +kernel),
     lifts (by decide +kernel), by decide +kernel⟩,
   ⟨withMember (Membership.fresh 520 1 2) (withTable [entryOf 520 1 [some 4, some 3]] (inMotion .lift)), 4,
     heard .top .idle, Membership.fresh 520 1 2, works (by decide +kernel), lifts (by decide +kernel),
     by decide +kernel⟩⟩

theorem witness_BoardSessionsEmptyTheTable :
    (∃ (s : State) (f : RxFrame), s.Running ∧ s.Accepts .boardOut f ∧ s.msq.motion = .offline) ∧
    (∃ (s : State) (f : RxFrame), s.Running ∧ s.Accepts .boardOut f ∧ s.AtWork ∧ s.msq.motion ≠ .offline ∧
      s.lif.silent = false ∧ s.msq.motion = .parked ∧ s.stc.station ≠ none ∧ s.rvu.next = none) ∧
    (∃ (s : State) (f : RxFrame), s.Running ∧ s.Accepts .boardOut f ∧ s.AtWork ∧ s.msq.motion ≠ .offline ∧
      s.lif.silent = false ∧ s.msq.motion = .lift) ∧
    (∃ (s : State) (f : RxFrame), s.Running ∧ s.Accepts .boardOut f ∧ s.AtWork ∧ s.msq.motion ≠ .offline ∧
      s.lif.silent = false ∧ s.msq.motion = .travel ∧ s.rvu.current ≠ none) ∧
    (∃ (s : State) (f : RxFrame), s.Running ∧ s.Accepts .boardOut f ∧ s.AtWork ∧ s.LiftsSafely ∧
      s.msq.motion ≠ .offline ∧ s.lif.silent = false ∧ s.msq.motion = .hold ∧ s.rvu.current ≠ none) ∧
    (∃ (s : State) (f : RxFrame), s.Running ∧ s.Accepts .boardIn f ∧ s.msq.motion = .offline) ∧
    (∃ (s : State) (f : RxFrame), s.Running ∧ s.Accepts .boardIn f ∧ s.msq.motion ≠ .offline ∧ s.boardActive = false) ∧
    (∃ (s : State) (f : RxFrame), s.Running ∧ s.Accepts .boardIn f ∧ s.msq.motion ≠ .offline ∧ s.boardActive = true ∧
      s.rvu.current = none ∧ s.rvu.next = none) ∧
    (∃ (s : State) (f : RxFrame), s.Running ∧ s.Accepts .boardIn f ∧ s.AtWork ∧ s.LiftsSafely ∧
      s.msq.motion ≠ .offline ∧ s.boardActive = true ∧ s.rvu.current ≠ none ∧ s.msq.motion = .descend) ∧
    (∃ (s : State) (f : RxFrame) (m n : Membership), s.Running ∧ s.Accepts .boardOut f ∧ s.AtWork ∧ s.LiftsSafely ∧
      s.lif.silent = false ∧ s.msq.motion = .hold ∧ s.rvu.current = some m ∧ s.rvu.next = some n ∧ m.job ≠ n.job) :=
  ⟨⟨offlineHead 0x10, guardedFrame 15 [], runs (by decide +kernel), takes (by decide +kernel), by decide +kernel⟩,
   ⟨inMotion .parked, guardedFrame 15 [], runs (by decide +kernel), takes (by decide +kernel),
     works (by decide +kernel), by decide +kernel⟩,
   ⟨inMotion .lift, guardedFrame 15 [], runs (by decide +kernel), takes (by decide +kernel),
     works (by decide +kernel), by decide +kernel⟩,
   ⟨down .travel 1 .moving, guardedFrame 15 [], runs (by decide +kernel), takes (by decide +kernel),
     works (by decide +kernel), by decide +kernel⟩,
   ⟨down .hold 1 .hold, guardedFrame 15 [], runs (by decide +kernel), takes (by decide +kernel),
     works (by decide +kernel), lifts (by decide +kernel), by decide +kernel⟩,
   ⟨offlineHead 0x10, guardedFrame 15 [(5, 31)], runs (by decide +kernel), takes (by decide +kernel),
     by decide +kernel⟩,
   ⟨base.onStc fun c => { c with board := .changing }, guardedFrame 15 [(5, 31)], runs (by decide +kernel),
     takes (by decide +kernel), by decide +kernel⟩,
   ⟨base, guardedFrame 15 [(5, 31)], runs (by decide +kernel), takes (by decide +kernel), by decide +kernel⟩,
   ⟨down .descend 1 .moving, guardedFrame 15 [(5, 31)], runs (by decide +kernel), takes (by decide +kernel),
     works (by decide +kernel), lifts (by decide +kernel), by decide +kernel⟩,
   ⟨(down .hold 1 .hold).onRvu fun r => { r with next := some (Membership.fresh 521 0 2) }, guardedFrame 15 [],
     memberOf 520 1 .hold, Membership.fresh 521 0 2, runs (by decide +kernel), takes (by decide +kernel),
     works (by decide +kernel), lifts (by decide +kernel), by decide +kernel⟩⟩

theorem witness_RestartLiftsThenRejoins :
    (∃ (s : State) (f : RxFrame), s.Accepts .restart f ∧ s.Running ∧ s.stc.inReset = false ∧
      s.stc.restart = .selfTest ∧ s.stc.selfTesting = true) ∧
    (∃ (s : State) (f : RxFrame), s.Accepts .restart f ∧ s.stc.inReset = false ∧ s.stc.restart = .noRestart ∧
      s.stc.selfTesting = true ∧ s.msq.motion = .offline ∧ s.stc.offlineReason = 0) ∧
    (∃ (s : State) (f : RxFrame), s.Accepts .restart f ∧ s.stc.inReset = false ∧ s.stc.restart = .noRestart ∧
      s.stc.selfTesting = false ∧ s.msq.motion ≠ .joining ∧ s.msq.motion ≠ .offline ∧ s.tipZ < s.cfg.zt) ∧
    (∃ (s : State) (f : RxFrame), s.Accepts .restart f ∧ s.stc.inReset = false ∧ s.stc.restart = .noRestart ∧
      s.stc.selfTesting = false ∧ s.cfg.zt ≤ s.tipZ ∧ s.msq.motion ≠ .offline) ∧
    (∃ (s : State) (f : RxFrame), s.Accepts .restart f ∧ s.stc.inReset = false ∧ s.stc.restart = .noRestart ∧
      s.stc.selfTesting = false ∧ s.msq.motion = .joining) ∧
    (∃ (s : State) (f : RxFrame), s.Accepts .restart f ∧ s.stc.inReset = false ∧ s.stc.restart = .noRestart ∧
      s.stc.selfTesting = false ∧ s.msq.motion = .offline ∧ s.stc.offlineReason = 0x13) ∧
    (∃ (s : State) (f : RxFrame) (prom : Option (List Byte)), s.Accepts .restart f ∧ s.stc.inReset = false ∧
      s.stc.restart = .noRestart ∧ s.stc.selfTesting = false ∧ s.msq.motion = .offline ∧
      s.stc.offlineReason = 0x10 ∧ readRecord prom = none) ∧
    (∃ (s : State) (f : RxFrame) (prom : Option (List Byte)), s.Accepts .restart f ∧ s.stc.inReset = false ∧
      s.stc.restart = .noRestart ∧ s.stc.selfTesting = false ∧ s.msq.motion = .offline ∧
      s.stc.offlineReason = 0x11 ∧ (readRecord prom).isSome = true) :=
  ⟨⟨(offlineHead 0).onStc fun c => { c with selfTesting := true, restart := .selfTest }, guardedFrame 3 [],
     takes (by decide +kernel), runs (by decide +kernel), by decide +kernel⟩,
   ⟨(offlineHead 0).onStc fun c => { c with join := .notStarted, selfTesting := true }, guardedFrame 3 [],
     takes (by decide +kernel), by decide +kernel⟩,
   ⟨lowHead, guardedFrame 3 [], takes (by decide +kernel), by decide +kernel⟩,
   ⟨base, guardedFrame 3 [], takes (by decide +kernel), by decide +kernel⟩,
   ⟨joining .census, guardedFrame 3 [], takes (by decide +kernel), by decide +kernel⟩,
   ⟨offlineHead 0x13, guardedFrame 3 [], takes (by decide +kernel), by decide +kernel⟩,
   ⟨offlineHead 0x10, guardedFrame 3 [], none, takes (by decide +kernel), by decide +kernel⟩,
   ⟨offlineHead 0x11, guardedFrame 3 [], some record, takes (by decide +kernel), by decide +kernel⟩⟩

theorem witness_RestartLiftEndsTheLift :
    (∃ s : State, s.stc.inReset = false ∧ s.lifting = false ∧ s.flu.fence = .restartWait ∧
      s.flu.restartWait.isSome = true ∧ s.msq.motion ≠ .offline ∧ s.msq.motion ≠ .joining ∧ s.tipZ < s.cfg.zt) ∧
    (∃ s : State, s.stc.inReset = false ∧ s.lifting = false ∧ s.flu.fence = .restartWait ∧
      s.flu.restartWait.isSome = true ∧ s.msq.motion ≠ .offline ∧ s.cfg.zt ≤ s.tipZ) ∧
    (∃ s : State, s.Running) ∧
    (∃ (s : State) (r : DriveReport), s.stc.inReset = false ∧ s.lifting = true ∧ s.msq.motion = .lift ∧
      r.fault = false ∧ s.breaches r = false ∧ s.completes r = true) ∧
    (∃ s : State, s.stc.inReset = false ∧ s.lifting = true ∧ s.msq.motion = .lift ∧ s.stc.restartLift.isSome = true ∧
      s.msq.driveReported = false) ∧
    (∃ s : State, s.stc.inReset = false ∧ s.lifting = true ∧ s.msq.motion = .lift ∧ s.stc.restartLift.isSome = true ∧
      s.msq.driveReported = true) ∧
    (∃ (s : State) (r : DriveReport), s.stc.inReset = false ∧ s.lifting = false ∧ s.lif.silent = false ∧
      s.msq.motion = .lift ∧ s.flu.fence = .acting 0 ∧ r.fault = false ∧ s.breaches r = false ∧ s.completes r = true) ∧
    (∃ (s : State) (r : DriveReport), s.stc.inReset = false ∧ s.lifting = false ∧ s.lif.silent = false ∧
      s.msq.motion = .lift ∧ s.flu.fence = .acting 1 ∧ r.fault = false ∧ s.breaches r = false ∧ s.completes r = true ∧
      s.flu.awaitDrops = [520]) ∧
    (∃ (s : State) (f : RxFrame), s.Accepts .fault f ∧ s.stc.inReset = false ∧ s.lifting = false ∧ s.halt = false ∧
      s.flu.fence = .restartWait ∧ s.msq.motion ≠ .offline ∧ s.msq.spaceEvent = false ∧ s.scu.pending = none ∧
      s.isOwn f = true ∧ s.flu.awaitFault = true ∧ rxFaultMode f = 1 ∧ s.flu.acting = some (rxFaultCode f) ∧
      s.flu.awaitDrops = []) ∧
    (∃ (s : State) (f : RxFrame), s.Accepts .fault f ∧ s.stc.inReset = false ∧ s.lifting = false ∧ s.halt = false ∧
      s.flu.fence = .restartWait ∧ s.msq.motion ≠ .offline ∧ s.msq.spaceEvent = false ∧ s.scu.pending = none ∧
      s.isOwn f = true ∧ s.flu.awaitFault = true ∧ rxFaultMode f = 1 ∧ s.flu.acting = some (rxFaultCode f) ∧
      s.flu.awaitDrops = [520]) ∧
    (∃ (s : State) (f : RxFrame), s.Accepts .fault f ∧ s.stc.inReset = false ∧ s.lifting = false ∧ s.halt = false ∧
      s.flu.fence = .restartWait ∧ s.msq.motion ≠ .offline ∧ s.msq.spaceEvent = false ∧ s.scu.pending = none ∧
      s.isOwn f = true ∧ s.flu.awaitFault = true ∧ rxFaultMode f = 0 ∧ s.flu.awaitDrops = []) ∧
    (∃ (s : State) (f : RxFrame), s.Accepts .drop f ∧ s.stc.inReset = false ∧ s.lifting = false ∧ s.halt = false ∧
      s.flu.fence = .restartWait ∧ s.msq.motion ≠ .offline ∧ s.msq.spaceEvent = false ∧ s.scu.pending = none ∧
      s.isOwn f = true ∧ rxDropReason f = some .fault ∧ s.entry? (rxJob f) = none ∧ s.flu.awaitFault = false ∧
      s.flu.awaitDrops = [rxJob f]) ∧
    (∃ (s : State) (f : RxFrame), s.Accepts .drop f ∧ s.stc.inReset = false ∧ s.lifting = false ∧ s.halt = false ∧
      s.flu.fence = .restartWait ∧ s.msq.motion ≠ .offline ∧ s.msq.spaceEvent = false ∧ s.scu.pending = none ∧
      s.isOwn f = true ∧ rxDropReason f = some .fault ∧ s.entry? (rxJob f) = none ∧ s.flu.awaitDrops = [rxJob f, 521]) :=
  ⟨⟨waiting lowHead, by decide +kernel⟩,
   ⟨waiting base, by decide +kernel⟩,
   ⟨base, runs (by decide +kernel)⟩,
   ⟨liftingHead, rep 12000 8000 4000 9, by decide +kernel⟩,
   ⟨liftingHead, by decide +kernel⟩,
   ⟨liftingHead.onMsq fun q => { q with driveReported := true }, by decide +kernel⟩,
   ⟨(inMotion .lift).onFlu fun u => { u with fence := .acting 0 }, rep 12000 8000 4000 9, by decide +kernel⟩,
   ⟨(inMotion .lift).onFlu fun u => { u with fence := .acting 1, awaitDrops := [520] }, rep 12000 8000 4000 9,
     by decide +kernel⟩,
   ⟨own (awaiting true [] lowHead), faultF 3 6 1, takes (by decide +kernel), by decide +kernel⟩,
   ⟨own (awaiting true [520] base), faultF 3 6 1, takes (by decide +kernel), by decide +kernel⟩,
   ⟨own (awaiting true [] base), faultF 3 7 0, takes (by decide +kernel), by decide +kernel⟩,
   ⟨own (awaiting false [520] base), dropF 3 5 0, takes (by decide +kernel), by decide +kernel⟩,
   ⟨own (awaiting false [520, 521] base), dropF 3 5 0, takes (by decide +kernel), by decide +kernel⟩⟩

theorem witness_PlanLossAndBeaconTimers :
    (∃ s : State, s.Running ∧ s.stc.planLoss = none ∧ s.stc.beaconTimer.isSome = true ∧ s.stc.station ≠ none) ∧
    (∃ s : State, s.Running ∧ s.stc.planLoss.isSome = true ∧ s.rvu.current = none ∧ s.rvu.next = none ∧
      s.msq.motion = .idle) ∧
    (∃ s : State, s.Running ∧ s.stc.planLoss.isSome = true ∧ s.rvu.current = none ∧ s.rvu.next = none ∧
      s.msq.motion = .parked) ∧
    (∃ (s : State) (m : Membership), s.Running ∧ s.AtWork ∧ s.LiftsSafely ∧ s.stc.planLoss.isSome = true ∧
      s.rvu.current = some m ∧ s.rvu.next = none ∧ s.lif.silent = false ∧ s.msq.motion = .hold) ∧
    (∃ s : State, s.Running ∧ s.stc.beaconTimer = none) ∧
    (∃ s : State, s.Running ∧ s.stc.beaconTimer.isSome = true ∧ s.stc.station ≠ none ∧ TxFrame.beacon ∈ s.lif.held) :=
  ⟨⟨base, runs (by decide +kernel), by decide +kernel⟩,
   ⟨planGone base, runs (by decide +kernel), by decide +kernel⟩,
   ⟨planGone (inMotion .parked), runs (by decide +kernel), by decide +kernel⟩,
   ⟨planGone (down .hold 1 .hold), memberOf 520 1 .hold, runs (by decide +kernel), works (by decide +kernel),
     lifts (by decide +kernel), by decide +kernel⟩,
   ⟨base.onStc fun c => { c with beaconTimer := none }, runs (by decide +kernel), by decide +kernel⟩,
   ⟨base.onLif fun l => { l with work := List.replicate 8 .beacon, held := [.beacon] }, runs (by decide +kernel),
     by decide +kernel⟩⟩

theorem witness_LogsClearAndQueriesAnswer :
    (∃ (s : State) (f : RxFrame), s.Running ∧ s.Accepts .clearLog f ∧ s.isOwn f = false) ∧
    (∃ (s : State) (f : RxFrame), s.Running ∧ s.Accepts .query f ∧ s.isOwn f = false ∧ s.stc.join = .listen) ∧
    (∃ (s : State) (f : RxFrame), s.Running ∧ s.Accepts .query f ∧ s.isOwn f = false ∧ s.lif.silent = true) ∧
    (∃ (s : State) (f : RxFrame), s.Running ∧ s.Accepts .query f ∧ s.isOwn f = false ∧ s.stc.station ≠ none ∧
      s.stc.join ≠ .notStarted ∧ s.stc.join ≠ .listen ∧ s.lif.silent = false ∧ s.lif.tx = none ∧ rxItem f = 3 ∧
      rxSelector f = 8) ∧
    (∃ (s : State) (f : RxFrame), s.Running ∧ s.Accepts .query f ∧ s.isOwn f = false ∧ s.stc.station ≠ none ∧
      s.stc.join ≠ .notStarted ∧ s.stc.join ≠ .listen ∧ s.lif.silent = false ∧ s.lif.tx = none ∧ rxItem f = 4 ∧
      rxSelector f = 5) ∧
    (∃ (s : State) (f : RxFrame) (x : Tx), s.Running ∧ s.Accepts .query f ∧ s.isOwn f = false ∧ s.stc.station ≠ none ∧
      s.stc.join ≠ .notStarted ∧ s.stc.join ≠ .listen ∧ s.lif.silent = false ∧ s.lif.tx = some x ∧
      x.place = .answer ∧ x.detached = false) :=
  ⟨⟨base, guardedFrame 15 [], runs (by decide +kernel), takes (by decide +kernel), by decide +kernel⟩,
   ⟨joining .listen, frameOf 0 3 [(3, 0), (4, 0)] [], runs (by decide +kernel), takes (by decide +kernel),
     by decide +kernel⟩,
   ⟨silentHead, frameOf 0 3 [(3, 0), (4, 0)] [], runs (by decide +kernel), takes (by decide +kernel),
     by decide +kernel⟩,
   ⟨base, frameOf 0 3 [(3, 3), (4, 8)] [], runs (by decide +kernel), takes (by decide +kernel), by decide +kernel⟩,
   ⟨base, frameOf 0 3 [(3, 4), (4, 5)] [], runs (by decide +kernel), takes (by decide +kernel), by decide +kernel⟩,
   ⟨sending (.status 1 0) .answer base, frameOf 0 3 [(3, 2), (4, 0)] [], theTx (sending (.status 1 0) .answer base),
     runs (by decide +kernel), takes (by decide +kernel), by decide +kernel⟩⟩

theorem witness_ReportsCompleteTheMoves :
    (∃ (s : State) (r : DriveReport), s.AtWork ∧ r.fault = false ∧ s.breaches r = false ∧ s.completes r = false) ∧
    (∃ (s : State) (r : DriveReport), s.AtWork ∧ r.fault = false ∧ s.breaches r = false ∧ s.completes r = true ∧
      s.msq.motion = .lift) ∧
    (∃ (s : State) (r : DriveReport) (h : Claim), s.AtWork ∧ r.fault = false ∧ s.breaches r = false ∧
      s.completes r = true ∧ s.msq.motion = .travel ∧ s.lif.silent = false ∧ s.scu.held = some h ∧
      (∃ g ∈ s.msq.grant, g.contains r.x.toNat r.y.toNat = true) ∧ s.msq.abandonMark = false ∧
      s.msq.lateStop = false ∧ s.lif.tx = none ∧ s.scu.replyQueued = false) ∧
    (∃ (s : State) (r : DriveReport) (h : Claim), s.AtWork ∧ r.fault = false ∧ s.breaches r = false ∧
      s.completes r = true ∧ s.msq.motion = .travel ∧ s.lif.silent = false ∧ s.scu.held = some h ∧
      s.msq.abandonMark = false ∧ s.msq.lateStop = true ∧ s.scu.doubt = true) ∧
    (∃ (s : State) (r : DriveReport) (h : Claim), s.AtWork ∧ r.fault = false ∧ s.breaches r = false ∧
      s.completes r = true ∧ s.msq.motion = .travel ∧ s.lif.silent = false ∧ s.scu.held = some h ∧
      s.msq.abandonMark = true ∧ s.boardActive = true ∧ s.msq.parkRequest = false ∧ s.msq.waiting = none) ∧
    (∃ (s : State) (r : DriveReport), s.AtWork ∧ r.fault = false ∧ s.breaches r = false ∧ s.completes r = true ∧
      s.msq.motion = .parking ∧ s.msq.park = .move ∧ s.msq.lateStop = false ∧ s.lif.silent = false ∧
      s.msq.waiting = none ∧ s.scu.replyQueued = false ∧ s.lif.tx = none ∧ s.stc.changeDue = true ∧
      s.stc.station ≠ none) ∧
    (∃ (s : State) (r : DriveReport) (c : DriveCommand), s.AtWork ∧ r.fault = false ∧ s.breaches r = false ∧
      s.completes r = true ∧ s.msq.motion = .landed ∧ s.msq.lastCommand = some c ∧ c.order = .stop) ∧
    (∃ (s : State) (r : DriveReport) (c : DriveCommand), s.AtWork ∧ r.fault = false ∧ s.breaches r = false ∧
      s.completes r = true ∧ s.msq.motion = .hold ∧ s.msq.lastCommand = some c ∧ c.order ≠ .stop) :=
  ⟨⟨base, rep 12150 8150 4000 8, works (by decide +kernel), by decide +kernel⟩,
   ⟨inMotion .lift, rep 12000 8000 4000 9, works (by decide +kernel), by decide +kernel⟩,
   ⟨inMotion .travel, rep 12000 8000 4000 9, standAt 12000 8000, works (by decide +kernel), by decide +kernel⟩,
   ⟨setDoubt ((inMotion .travel).onMsq fun q => { q with lateStop := true }), rep 12000 8000 4000 9,
     standAt 12000 8000, works (by decide +kernel), by decide +kernel⟩,
   ⟨(inMotion .travel).onMsq fun q => { q with abandonMark := true }, rep 12000 8000 4000 9, standAt 12000 8000,
     works (by decide +kernel), by decide +kernel⟩,
   ⟨((inMotion .parking).onMsq fun q => { q with park := .move }).onStc fun c => { c with changeDue := true },
     rep 12000 8000 4000 9, works (by decide +kernel), by decide +kernel⟩,
   ⟨(down .landed 1 .landed).onMsq fun q => { q with lastCommand := some { number := 9, order := .stop } },
     rep 12002 8000 900 9, { number := 9, order := .stop }, works (by decide +kernel), by decide +kernel⟩,
   ⟨down .hold 1 .hold, rep 12000 8000 4000 9, { number := 9, order := .move 12000 8000 4000 .travel },
     works (by decide +kernel), by decide +kernel⟩⟩

theorem witness_DescentFollowsTheDrive :
    (∃ (s : State) (r : DriveReport), s.AtWork ∧ s.msq.motion = .descend ∧ r.fault = false ∧ s.breaches r = false ∧
      s.msq.standing = some (12000, 8000) ∧ s.msq.target = some (12000, 8000) ∧ s.completes r = true ∧
      s.msq.descend = .approach ∧ s.pins.contact = false ∧
      ((standAt 12000 8000).region.contains 12000 8000) = true ∧
      s.msq.grant = some (standAt 12000 8000).region ∧
      s.scu.held = some (standAt 12000 8000)) ∧
    (∃ (s : State) (r : DriveReport) (m : Membership), s.AtWork ∧ s.msq.motion = .descend ∧ r.fault = false ∧
      s.breaches r = false ∧ s.msq.standing = some (12000, 8000) ∧ s.msq.target = some (12000, 8000) ∧
      s.completes r = true ∧ s.msq.descend = .approach ∧ s.pins.contact = true ∧ s.lif.silent = false ∧
      s.rvu.current = some m) ∧
    (∃ (s : State) (r : DriveReport) (m : Membership), s.AtWork ∧ s.msq.motion = .descend ∧ r.fault = false ∧
      s.breaches r = false ∧ s.msq.standing = some (12000, 8000) ∧ s.msq.target = some (12000, 8000) ∧
      s.completes r = true ∧ s.msq.descend = .search ∧ s.pins.contact = false ∧ r.x.toNat = 12000 ∧
      r.y.toNat = 8000 ∧ s.lif.silent = false ∧ s.rvu.current = some m) ∧
    (∃ (s : State) (r : DriveReport), s.AtWork ∧ s.msq.motion = .descend ∧ r.fault = false ∧ s.breaches r = false ∧
      s.msq.standing = some (12000, 8000) ∧ s.msq.target = some (12000, 8000) ∧ s.completes r = true ∧
      s.msq.descend = .search ∧ s.pins.contact = true) ∧
    (∃ (s : State) (r : DriveReport), s.AtWork ∧ s.msq.motion = .descend ∧ r.fault = false ∧ s.breaches r = false ∧
      s.msq.standing = some (12000, 8000) ∧ s.msq.target = some (12000, 8000) ∧ s.completes r = true ∧
      s.msq.descend = .rise ∧ s.msq.retouch = 6 ∧ ((standAt 12000 8000).region.contains 12000 8000) = true ∧
      s.msq.grant = some (standAt 12000 8000).region ∧
      s.scu.held = some (standAt 12000 8000)) ∧
    (∃ (s : State) (r : DriveReport), s.AtWork ∧ s.msq.motion = .descend ∧ r.fault = false ∧ s.breaches r = false ∧
      s.msq.standing = some (12000, 8000) ∧ s.msq.target = some (12000, 8000) ∧ s.completes r = true ∧
      s.msq.descend = .rise ∧ (standAt 12000 8000).region.contains (12000 + s.msq.retouch) 8000 = false ∧
      s.pins.contact = false ∧ ((standAt 12000 8000).region.contains 12000 8000) = true ∧
      s.msq.grant = some (standAt 12000 8000).region ∧
      s.scu.held = some (standAt 12000 8000)) ∧
    (∃ (s : State) (r : DriveReport), s.AtWork ∧ s.msq.motion = .descend ∧ r.fault = false ∧ s.breaches r = false ∧
      s.msq.standing = some (12000, 8000) ∧ s.msq.target = some (12000, 8000) ∧ s.completes r = true ∧
      s.msq.descend = .scrub ∧ s.pins.contact = false ∧
      (standAt 12000 8000).region.contains r.x.toNat r.y.toNat = true) :=
  ⟨⟨descending .approach 0 false, rep 12000 8000 900 9, works (by decide +kernel), by decide +kernel⟩,
   ⟨descending .approach 0 true, rep 12000 8000 900 9, memberOf 520 1 .moving, works (by decide +kernel),
     by decide +kernel⟩,
   ⟨descending .search 0 false, rep 12000 8000 900 9, memberOf 520 1 .moving, works (by decide +kernel),
     by decide +kernel⟩,
   ⟨descending .search 0 true, rep 12000 8000 900 9, works (by decide +kernel), by decide +kernel⟩,
   ⟨descending .rise 6 false, rep 12000 8000 900 9, works (by decide +kernel), by decide +kernel⟩,
   ⟨descending .rise 151 false, rep 12000 8000 900 9, works (by decide +kernel), by decide +kernel⟩,
   ⟨descending .scrub 0 false, rep 12002 8000 900 9, works (by decide +kernel), by decide +kernel⟩⟩

theorem witness_ContactEndsTheDescent :
    (∃ s : State, s.AtWork ∧ s.pins.contact = true ∧ s.msq.motion = .measure) ∧
    (∃ s : State, s.AtWork ∧ s.pins.contact = true ∧ s.msq.motion ≠ .measure) ∧
    (∃ s : State, s.AtWork ∧ s.pins.contact = false ∧ s.msq.motion = .landed) ∧
    (∃ (s : State) (m : Membership), s.AtWork ∧ s.pins.contact = false ∧ s.msq.motion = .descend ∧
      s.lif.silent = false ∧ s.rvu.current = some m) :=
  ⟨⟨(inMotion .measure).onPins fun p => { p with contact := true }, works (by decide +kernel), by decide +kernel⟩,
   ⟨base.onPins fun p => { p with contact := true }, works (by decide +kernel), by decide +kernel⟩,
   ⟨inMotion .landed, works (by decide +kernel), by decide +kernel⟩,
   ⟨down .descend 1 .moving, memberOf 520 1 .moving, works (by decide +kernel), by decide +kernel⟩⟩

theorem witness_IdleAndSpaceTimersEndTheWait :
    (∃ s : State, s.AtWork ∧ s.msq.idleTimer = none ∧ s.msq.spaceWait = none) ∧
    (∃ s : State, s.AtWork ∧ s.msq.idleTimer ≠ none ∧ s.msq.motion = .idle ∧ s.scu.doubt = true) ∧
    (∃ s : State, s.AtWork ∧ s.msq.idleTimer ≠ none ∧ s.msq.motion = .idle ∧ s.scu.doubt = false ∧
      s.scu.replyQueued = false ∧ s.scu.pending = none ∧
      s.conflictsMap (corridor s.cfg .travel s.tipX s.tipY s.cfg.parkX s.cfg.parkY).rect = false ∧
      s.lif.silent = false ∧ s.lif.tx = none) ∧
    (∃ s : State, s.AtWork ∧ s.msq.spaceWait ≠ none ∧ s.msq.motion = .claiming) ∧
    (∃ s : State, s.AtWork ∧ s.msq.spaceWait ≠ none ∧ s.msq.motion = .parking) ∧
    (∃ (s : State) (m : Membership), s.AtWork ∧ s.msq.spaceWait ≠ none ∧ s.msq.motion = .waitSpace ∧
      s.rvu.next = none ∧ s.msq.waiting = none ∧ s.scu.held ≠ none ∧ s.boardActive = true ∧
      s.lif.silent = false ∧ s.rvu.current = some m) ∧
    (∃ (s : State) (m : Membership), s.AtWork ∧ s.msq.spaceWait ≠ none ∧ s.msq.motion = .waitSpace ∧
      s.rvu.next = none ∧ s.msq.waiting = none ∧ s.scu.held = none ∧ s.lif.silent = false ∧
      s.rvu.current = some m) :=
  ⟨⟨base, works (by decide +kernel), by decide +kernel⟩,
   ⟨setDoubt (base.onMsq fun q => { q with idleTimer := some 5000000000 }), works (by decide +kernel),
     by decide +kernel⟩,
   ⟨base.onMsq fun q => { q with idleTimer := some 5000000000 }, works (by decide +kernel), by decide +kernel⟩,
   ⟨spaceWaiting (inMotion .claiming), works (by decide +kernel), by decide +kernel⟩,
   ⟨spaceWaiting (inMotion .parking), works (by decide +kernel), by decide +kernel⟩,
   ⟨spaceWaiting (down .waitSpace 1 .moving), memberOf 520 1 .moving, works (by decide +kernel), by decide +kernel⟩,
   ⟨(spaceWaiting (down .waitSpace 1 .moving)).onScu fun c => { c with held := none }, memberOf 520 1 .moving,
     works (by decide +kernel), by decide +kernel⟩⟩

theorem witness_HaltFreezesAndResumeFrees :
    (∃ s : State, s.Running ∧ s.msq.motion = .parked) ∧
    (∃ (s : State) (p : PendingClaim), s.Running ∧ s.msq.motion = .claiming ∧ s.scu.pending = some p ∧
      p.stage = .queued ∧ s.lif.tx = none) ∧
    (∃ s : State, s.Running ∧ s.pins.haltIn = true) ∧
    (∃ s : State, s.Running ∧ s.msq.motion = .parked ∧ s.msq.waiting = some (12100, 8000) ∧ s.flu.haltDrive = false ∧
      s.rvu.current = none) ∧
    (∃ (s : State) (f : RxFrame), s.Running ∧ s.Accepts .resume f ∧ s.halt = true) ∧
    (∃ (s : State) (f : RxFrame), s.Running ∧ s.Accepts .resume f ∧ s.halt = false ∧ s.flu.fence = .silent) ∧
    (∃ (s : State) (f : RxFrame), s.Running ∧ s.Accepts .resume f ∧ s.halt = false ∧ s.flu.fence = .noFence ∧
      s.msq.motion = .frozen ∧ s.msq.frozen = .still) ∧
    (∃ (s : State) (f : RxFrame), s.Running ∧ s.Accepts .resume f ∧ s.halt = false ∧ s.flu.fence = .noFence ∧
      s.msq.motion = .frozen ∧ s.msq.frozen ≠ .still) :=
  ⟨⟨inMotion .parked, runs (by decide +kernel), by decide +kernel⟩,
   ⟨queued move51 (inMotion .claiming), { claim := move51, stage := .queued }, runs (by decide +kernel),
     by decide +kernel⟩,
   ⟨halted (inMotion .frozen), runs (by decide +kernel), by decide +kernel⟩,
   ⟨halted ((inMotion .parked).onMsq fun q => { q with waiting := some (12100, 8000) }), runs (by decide +kernel),
     by decide +kernel⟩,
   ⟨halted (inMotion .frozen), guardedFrame 15 [], runs (by decide +kernel), takes (by decide +kernel),
     by decide +kernel⟩,
   ⟨silentHead, guardedFrame 15 [], runs (by decide +kernel), takes (by decide +kernel), by decide +kernel⟩,
   ⟨inMotion .frozen, guardedFrame 15 [], runs (by decide +kernel), takes (by decide +kernel), by decide +kernel⟩,
   ⟨(inMotion .frozen).onMsq fun q => { q with frozen := .stopping }, guardedFrame 15 [], runs (by decide +kernel),
     takes (by decide +kernel), by decide +kernel⟩⟩

theorem witness_StopsEndInStill :
    (∃ (s : State) (r : DriveReport) (c : DriveCommand), s.Running ∧ s.lif.silent = false ∧ s.msq.motion = .frozen ∧
      s.msq.resumeMark = false ∧ r.fault = false ∧ s.breaches r = false ∧ s.msq.lastCommand = some c ∧
      r.inPosition = true ∧ r.number.toNat = c.number ∧ s.msq.frozen = .lifting) ∧
    (∃ (s : State) (r : DriveReport) (c : DriveCommand), s.Running ∧ s.lif.silent = false ∧ s.msq.motion = .frozen ∧
      s.msq.resumeMark = false ∧ r.fault = false ∧ s.breaches r = false ∧ s.msq.lastCommand = some c ∧
      r.inPosition = true ∧ r.number.toNat = c.number ∧ s.msq.frozen = .stopping ∧ s.cfg.zt ≤ r.z.toNat) ∧
    (∃ (s : State) (r : DriveReport) (c : DriveCommand), s.Running ∧ s.lif.silent = false ∧ s.msq.motion = .frozen ∧
      s.msq.resumeMark = false ∧ r.fault = false ∧ s.breaches r = false ∧ s.msq.lastCommand = some c ∧
      r.inPosition = true ∧ r.number.toNat = c.number ∧ s.msq.frozen = .stopping ∧ r.z.toNat < s.cfg.zt) :=
  ⟨⟨(inMotion .frozen).onMsq fun q => { q with frozen := .lifting }, rep 12000 8000 4000 9,
     { number := 9, order := .move 12000 8000 4000 .travel }, runs (by decide +kernel), by decide +kernel⟩,
   ⟨(inMotion .frozen).onMsq fun q => { q with frozen := .stopping }, rep 12150 8150 4000 9,
     { number := 9, order := .move 12000 8000 4000 .travel }, runs (by decide +kernel), by decide +kernel⟩,
   ⟨(inMotion .frozen).onMsq fun q => { q with frozen := .stopping }, rep 12150 8150 3999 9,
     { number := 9, order := .move 12000 8000 4000 .travel }, runs (by decide +kernel), by decide +kernel⟩⟩

theorem witness_StartReadsStrapsAndRecord :
    (∃ (st : BitVec 4) (prom : Option (List Byte)), 1 ≤ st.toNat ∧ st.toNat ≤ 8 ∧ readRecord prom = none) ∧
    (∃ (st : BitVec 4) (prom : Option (List Byte)), 1 ≤ st.toNat ∧ st.toNat ≤ 8 ∧ (readRecord prom).isSome = true) ∧
    (∃ st : BitVec 4, (¬ (1 ≤ st.toNat ∧ st.toNat ≤ 8))) ∧
    (∃ st : BitVec 4, (¬ (1 ≤ st.toNat ∧ st.toNat ≤ 8))) ∧
    (∃ prom : Option (List Byte), (readRecord prom).isSome = true ∧ promWord prom 32 = 0xFFFF) :=
  ⟨⟨8, none, by decide +kernel⟩,
   ⟨1, some record, by decide +kernel⟩,
   ⟨9, by decide +kernel⟩,
   ⟨0, by decide +kernel⟩,
   ⟨some record, by decide +kernel⟩⟩

theorem witness_SelfTestAndListenBeginTheJoin :
    (∃ s : State, s.Running ∧ s.stc.selfTesting = false ∧ (¬ (s.stc.join = .listen ∧ s.msq.motion = .joining))) ∧
    (∃ (s : State) (volts amps : List Int), s.Running ∧ s.stc.selfTesting = true ∧ s.stc.driveSeen = true ∧
      s.stc.contactSeen = false ∧ volts.sum.natAbs ≤ 2000 * 16 ∧ amps.sum.natAbs ≤ 50 * 16) ∧
    (∃ (s : State) (volts : List Int), s.Running ∧ s.stc.selfTesting = true ∧ (¬ volts.sum.natAbs ≤ 2000 * 16)) ∧
    (∃ s : State, s.Running ∧ s.stc.join = .listen ∧ s.msq.motion = .joining ∧ 4 ≤ s.sideCount) ∧
    (∃ s : State, s.Running ∧ s.stc.join = .listen ∧ s.msq.motion = .joining ∧ s.sideCount < 4 ∧ s.scu.doubt = true ∧
      s.scu.censusPending = false ∧ s.lif.silent = false ∧ s.lif.tx = none) ∧
    (∃ s : State, s.Running ∧ s.stc.selfTesting = true ∧ s.stc.restart = .selfTest ∧
      (s.slotOf 4).holds = .frozen (some far) none) :=
  ⟨⟨base, runs (by decide +kernel), by decide +kernel⟩,
   ⟨(offlineHead 0).onStc fun c => { c with join := .notStarted, selfTesting := true, driveSeen := true },
     List.replicate 16 (-2000), List.replicate 16 50, runs (by decide +kernel), by decide +kernel⟩,
   ⟨(offlineHead 0).onStc fun c => { c with join := .notStarted, selfTesting := true, driveSeen := true },
     List.replicate 15 2000 ++ [2001], runs (by decide +kernel), by decide +kernel⟩,
   ⟨crowd (joining .listen), runs (by decide +kernel), by decide +kernel⟩,
   ⟨joining .listen, runs (by decide +kernel), by decide +kernel⟩,
   ⟨slotAs 4 (.frozen (some far) none) ((offlineHead 0).onStc fun c =>
      { c with join := .notStarted, selfTesting := true, restart := .selfTest }), runs (by decide +kernel),
     by decide +kernel⟩⟩

theorem witness_PlacingSettlesTheHead :
    (∃ (s : State) (f : RxFrame) (c : Claim), s.AtWork ∧ s.Accepts .object f ∧ s.lif.silent = false ∧
      s.msq.motion ≠ .offline ∧ rxAuxSide f = s.stc.side ∧ rxClaimant f = s.own ∧ s.scu.held = some c ∧
      c.kind = .standing ∧ c.placing = true ∧ s.windowOrdinal ≠ some (rxOrdinal f) ∧
      s.scu.lastGranted = some (rxOrdinal f)) ∧
    (∃ s : State, s.Running ∧ s.msq.motion = .joining ∧ s.rvu.current = none ∧ s.rvu.next = none ∧
      s.msq.waiting = none ∧ s.lif.silent = false ∧ s.flu.fence = .noFence ∧ s.stc.join = .census ∧
      s.scu.censusTimer.isSome = true ∧
      s.scu.repeatMark = false ∧ 4 ≤ s.sideCount) ∧
    (∃ s : State, s.Running ∧ s.msq.motion = .joining ∧ s.rvu.current = none ∧ s.rvu.next = none ∧
      s.msq.waiting = none ∧ s.lif.silent = false ∧ s.flu.fence = .noFence ∧ s.stc.join = .census ∧
      s.scu.censusTimer.isSome = true ∧
      s.scu.repeatMark = false ∧ s.sideCount < 4 ∧ s.cfg.parkX ≤ s.tipX + s.cfg.m ∧
      s.tipX ≤ s.cfg.parkX + s.cfg.m ∧ s.cfg.parkY ≤ s.tipY + s.cfg.m ∧
      s.tipY ≤ s.cfg.parkY + s.cfg.m ∧ s.cfg.zt ≤ s.tipZ + s.cfg.m) ∧
    (∃ s : State, s.Running ∧ s.msq.motion = .joining ∧ s.rvu.current = none ∧ s.rvu.next = none ∧
      s.msq.waiting = none ∧ s.lif.silent = false ∧ s.flu.fence = .noFence ∧ s.stc.join = .census ∧
      s.scu.censusTimer.isSome = true ∧
      s.scu.repeatMark = false ∧ s.sideCount < 4 ∧
      (¬ s.cfg.parkX ≤ s.tipX + s.cfg.m ∨ ¬ s.tipX ≤ s.cfg.parkX + s.cfg.m) ∧ s.scu.pending = none ∧
      s.scu.replyQueued = false ∧
      s.conflictsMap (corridor s.cfg .standing s.tipX s.tipY s.tipX s.tipY).rect = true) ∧
    (∃ s : State, s.Running ∧ s.msq.motion = .joining ∧ s.rvu.current = none ∧ s.rvu.next = none ∧
      s.msq.waiting = none ∧ s.lif.silent = false ∧ s.flu.fence = .noFence ∧ s.stc.join = .census ∧
      s.scu.censusTimer.isSome = true ∧
      s.scu.repeatMark = false ∧ s.sideCount < 4 ∧
      (¬ s.cfg.parkX ≤ s.tipX + s.cfg.m ∨ ¬ s.tipX ≤ s.cfg.parkX + s.cfg.m) ∧ s.scu.pending = none ∧
      s.scu.replyQueued = false ∧
      s.conflictsMap (corridor s.cfg .standing s.tipX s.tipY s.tipX s.tipY).rect = false ∧ s.lif.tx = none) ∧
    (∃ (s : State) (p : PendingClaim) (o d x y z : Nat), s.Running ∧ s.msq.motion = .joining ∧ s.rvu.current = none ∧
      s.rvu.next = none ∧ s.msq.waiting = none ∧ s.lif.silent = false ∧ s.flu.fence = .noFence ∧ s.stc.join = .placing ∧
      s.scu.pending = some p ∧ p.stage = .window o d ∧ s.stc.placeAt = some (x, y, z) ∧
      p.claim.region.contains x y = true ∧ s.halt = true ∧ z < s.cfg.zt) ∧
    (∃ (s : State) (p : PendingClaim) (o d x y z : Nat), s.Running ∧ s.msq.motion = .joining ∧ s.rvu.current = none ∧
      s.rvu.next = none ∧ s.msq.waiting = none ∧ s.lif.silent = false ∧ s.flu.fence = .noFence ∧ s.stc.join = .placing ∧
      s.scu.pending = some p ∧ p.stage = .window o d ∧ s.stc.placeAt = some (x, y, z) ∧
      p.claim.region.contains x y = true ∧ s.halt = true ∧ s.cfg.zt ≤ z) ∧
    (∃ (s : State) (p : PendingClaim) (o d x y z : Nat), s.Running ∧ s.msq.motion = .joining ∧ s.rvu.current = none ∧
      s.rvu.next = none ∧ s.msq.waiting = none ∧ s.lif.silent = false ∧ s.flu.fence = .noFence ∧ s.stc.join = .placing ∧
      s.scu.pending = some p ∧ p.stage = .window o d ∧ s.stc.placeAt = some (x, y, z) ∧
      p.claim.region.contains x y = true ∧ s.halt = false ∧ z < s.cfg.zt) ∧
    (∃ (s : State) (p : PendingClaim) (o d x y z : Nat), s.Running ∧ s.msq.motion = .joining ∧ s.rvu.current = none ∧
      s.rvu.next = none ∧ s.msq.waiting = none ∧ s.lif.silent = false ∧ s.flu.fence = .noFence ∧ s.stc.join = .placing ∧
      s.scu.pending = some p ∧ p.stage = .window o d ∧ s.stc.placeAt = some (x, y, z) ∧
      p.claim.region.contains x y = true ∧ s.halt = false ∧ s.cfg.zt ≤ z) ∧
    (∃ (s : State) (f : RxFrame), s.Running ∧ s.Accepts .object f ∧ s.msq.motion = .joining ∧ s.rvu.current = none ∧
      s.rvu.next = none ∧ s.msq.waiting = none ∧ s.lif.silent = false ∧ s.flu.fence = .noFence ∧ rxAuxSide f = s.stc.side ∧
      rxClaimant f = s.own ∧ s.stc.join = .placing ∧ s.windowOrdinal = some (rxOrdinal f) ∧
      s.pendingPlacing = true) :=
  ⟨⟨base.onScu fun u => { u with held := some { standAt 12000 8000 with placing := true }, lastGranted := some 6 },
     objectF 4 6 wide 3 4, { standAt 12000 8000 with placing := true }, works (by decide +kernel),
     takes (by decide +kernel), by decide +kernel⟩,
   ⟨crowd census, runs (by decide +kernel), by decide +kernel⟩,
   ⟨census.onMsq fun q => { q with lastReport := some (rep 1150 850 3850 9) }, runs (by decide +kernel),
     by decide +kernel⟩,
   ⟨slotAs 4 (.held near) census, runs (by decide +kernel), by decide +kernel⟩,
   ⟨census, runs (by decide +kernel), by decide +kernel⟩,
   ⟨halted (placingAt 3999), { claim := { standAt 12000 8000 with placing := true }, stage := .window 6 200000 }, 6,
     200000, 12000, 8000, 3999, runs (by decide +kernel), by decide +kernel⟩,
   ⟨halted (placingAt 4000), { claim := { standAt 12000 8000 with placing := true }, stage := .window 6 200000 }, 6,
     200000, 12000, 8000, 4000, runs (by decide +kernel), by decide +kernel⟩,
   ⟨placingAt 3999, { claim := { standAt 12000 8000 with placing := true }, stage := .window 6 200000 }, 6, 200000,
     12000, 8000, 3999, runs (by decide +kernel), by decide +kernel⟩,
   ⟨placingAt 4000, { claim := { standAt 12000 8000 with placing := true }, stage := .window 6 200000 }, 6, 200000,
     12000, 8000, 4000, runs (by decide +kernel), by decide +kernel⟩,
   ⟨placingAt 4000, objectF 4 6 near 3 4, runs (by decide +kernel), takes (by decide +kernel), by decide +kernel⟩⟩

theorem witness_FramesDecodeToTheirCommands :
    (∃ (i : Instr) (k : Kind) (f : RxFrame), (∀ g p, i = .restart g p → p = none) ∧ i.frame? = some (k, f) ∧
      i.wellFormed = true ∧ f.errors ≠ []) ∧
    (∃ (i : Instr) (k : Kind) (f : RxFrame) (p : Option (List Byte)), i = .restart f p ∧ i.frame? = some (k, f) ∧
      i.wellFormed = true ∧ p = none) ∧
    (∃ levels, startsSync levels = false ∧ levels ≠ []) ∧
    (∃ s : State, s.lif.tx = none) ∧
    (∃ (s : State) (x : Tx) (i : Nat), s.lif.tx = some x ∧ x.coded ≠ [] ∧ 0 < i ∧ i < x.coded.length) :=
  ⟨⟨.take { takeExample with errors := [(0, 0x107E203E)] }, .take, { takeExample with errors := [(0, 0x107E203E)] },
     (fun _ _ h => nomatch h), by decide +kernel⟩,
   ⟨.restart (guardedFrame 3 []) none, .restart, guardedFrame 3 [], none, by decide +kernel⟩,
   ⟨[true, false], by decide⟩, ⟨base, by decide +kernel⟩,
   ⟨own base, theTx (own base), 1, by decide +kernel⟩⟩

/-- A FORCE member in its window, its stimulus driven. -/
theorem witness_StimulusStaysSafe : ∃ s : State, s.StimulusSafe ∧ s.meu.stimulus ≠ .off :=
  ⟨(windowed 0 .force (.settle 1000000 16) 0).onMeu fun u => { u with stimulus := .current 1000000 },
    ⟨fun _ => ⟨by decide, by decide, memberOf 520 0 .measuring, rfl, rfl⟩, fun _ h => nomatch h⟩, by decide⟩

/-- A silent head, an OFFLINE one, a joining one, and a FORCE member whose stimulus is driven. -/
def safeHeads : List State :=
  [silentHead, offlineHead 0x10, joining .census,
   (windowed 0 .force (.settle 1000000 16) 0).onMeu fun u => { u with stimulus := .current 1000000 }]

theorem safe_heads : ∀ s ∈ safeHeads, s.Safe := by
  have h : ∀ s ∈ safeHeads, s.FenceSafe ∧ s.FaultSafe ∧ s.CountersSafe ∧ s.WorkQueueSafe ∧ s.TableSafe ∧ s.OfflineSafe ∧
      s.JoinSafe := by
    unfold State.FenceSafe State.FaultSafe State.CountersSafe State.WorkQueueSafe State.TableSafe State.OfflineSafe
      State.JoinSafe
    decide +kernel
  exact fun s m => safe (h s m) (by revert s; decide +kernel)

/-- A silent head with every counter at its end and a full WORK queue; and heads that meet every safety condition. -/
theorem witness_StatusStaysConsistent :
    (∃ s : State, s.FenceSafe ∧ s.FaultSafe ∧ s.CountersSafe ∧ s.WorkQueueSafe ∧ s.lif.silent = true ∧
      s.lif.work.length = 8 ∧ s.flu.count = 255) ∧
    (∃ s : State, s.Safe ∧ s.lif.silent = true) ∧ (∃ s : State, s.Safe ∧ s.msq.motion = .offline) ∧
    (∃ s : State, s.Safe ∧ s.msq.motion = .joining) ∧ ∃ s : State, s.Safe ∧ s.meu.stimulus ≠ .off :=
  ⟨⟨(silentHead.onLif fun l => { l with
      work := List.replicate 8 .beacon, k := 16
      counters := ⟨65535, 65535, 65535, 65535, 65535, 65535⟩ }).onFlu fun u => { u with count := 255 },
    by unfold State.FenceSafe State.FaultSafe State.CountersSafe State.WorkQueueSafe; decide +kernel⟩,
   ⟨_, safe_heads _ (.head _), by decide +kernel⟩,
   ⟨_, safe_heads _ (.tail _ (.head _)), by decide +kernel⟩,
   ⟨_, safe_heads _ (.tail _ (.tail _ (.head _))), by decide +kernel⟩,
   ⟨_, safe_heads _ (.tail _ (.tail _ (.tail _ (.head _)))), by decide +kernel⟩⟩

/-- A full table, and a claim in its window. -/
theorem witness_TableAndMapStaySound :
    (∃ s : State, s.TableSafe ∧ s.jtb.entries.length = 24) ∧ ∃ s : State, s.WindowSafe ∧ s.windowOrdinal ≠ none :=
  ⟨⟨withTable ((List.range 24).map fun i => entryOf (i + 1) i [none, none]) base,
      by unfold State.TableSafe; decide +kernel⟩,
    ⟨claiming, (fun _ _ _ h _ => by cases h; decide +kernel), by decide⟩⟩

/-- A step that sends a MOVE, a step of an OFFLINE head, and a step of a halted head that sends STOP. -/
theorem witness_CommandsStayInsideTheClaim :
    (match step { claiming with pending := [.objectionWindowExpiry] } with
      | .next t => t.msq.lastCommand != claiming.msq.lastCommand && t.msq.motion == .travel
      | _ => false) = true ∧
    (match step { offlineHead 0x10 with pending := [.driveReport (rep 0 0 0 9)] } with
      | .next t => t.msq.motion == .offline
      | _ => false) = true ∧
    (match step { base with pending := [.haltAsserted] } with
      | .next t => t.msq.lastCommand == some { number := 10, order := .stop } && t.halt
      | _ => false) = true := by decide +kernel

end Sys2Proof.Tests
end

section
/-! SUPPORT. Which safety conditions an operation keeps (`SafeKept`), and the rules for an update of one block. -/

namespace Sys2Proof.Machine

open Sys2Proof

variable {s t u : State}

/-! ## The conditions by block -/

/-- R11, R25: LIF's counters are in range. -/
def Lif.InRange (l : Lif) : Prop :=
  l.counters.corrected ≤ 65535 ∧ l.counters.spoiled ≤ 65535 ∧ l.counters.broken ≤ 65535 ∧
    l.counters.collisions ≤ 65535 ∧ l.counters.discarded ≤ 65535 ∧ l.counters.late ≤ 65535 ∧ l.k ≤ 16

/-- R16: what a silent LIF has to send. -/
def Lif.Quiet (l : Lif) : Prop :=
  l.silent = true →
    l.safety = [] ∧ l.answer = none ∧ l.post = [] ∧
    (∀ f ∈ l.work, f.silentOk = true) ∧ (∀ f ∈ l.held, f = .beacon) ∧
    ∀ t, l.tx = some t → t.replacement = none ∧ (t.detached = true ∨ t.place = .work)

theorem countersSafe_iff :
    s.CountersSafe ↔ s.lif.InRange ∧ s.rvu.mismatches ≤ 255 ∧ s.flu.count ≤ 255 := by
  simp only [State.CountersSafe, Lif.InRange, and_assoc]

/-- R32, R118: SCU of an OFFLINE head. -/
def Scu.Resting (c : Scu) : Prop :=
  c.held = none ∧ c.pending = none ∧ c.doubt = true ∧ c.censusPending = false ∧ c.censusTimer = none

/-- R68, R77: no membership. -/
def Rvu.Idle (r : Rvu) : Prop := r.current = none ∧ r.next = none

theorem offlineSafe_iff : s.OfflineSafe ↔
    (s.msq.motion = .offline → s.stc.board = .noBoard ∧ s.rvu.Idle ∧ s.scu.Resting ∧ s.flu.fence = .noFence) := by
  simp only [State.OfflineSafe, Rvu.Idle, Scu.Resting, and_assoc]

/-- The conditions on an OFFLINE and on a joining head. -/
def State.HeadSafe (s : State) : Prop := s.OfflineSafe ∧ s.JoinSafe

/-! ## What an operation keeps -/

/-- The conditions of the blocks' own fields that hold of `s` hold of `t`. -/
structure BlockKept (s t : State) : Prop where
  fault    : s.FaultSafe → t.FaultSafe
  counters : s.CountersSafe → t.CountersSafe
  work     : s.WorkQueueSafe → t.WorkQueueSafe
  silent   : s.SilentSafe → t.SilentSafe
  window   : s.WindowSafe → t.WindowSafe
  table    : s.TableSafe → t.TableSafe
  stimulus : s.StimulusSafe → t.StimulusSafe

/-- Every safety condition that holds of `s` holds of `t`, those of the OFFLINE and the joining head together. -/
structure SafeKept (s t : State) : Prop extends BlockKept s t where
  fence : s.FenceSafe → t.FenceSafe
  head  : s.HeadSafe → t.HeadSafe

theorem BlockKept.refl (s : State) : BlockKept s s := ⟨id, id, id, id, id, id, id⟩

theorem BlockKept.trans (h : BlockKept s t) (k : BlockKept t u) : BlockKept s u where
  fault := k.fault ∘ h.fault
  counters := k.counters ∘ h.counters
  work := k.work ∘ h.work
  silent := k.silent ∘ h.silent
  window := k.window ∘ h.window
  table := k.table ∘ h.table
  stimulus := k.stimulus ∘ h.stimulus

theorem SafeKept.refl (s : State) : SafeKept s s := ⟨.refl s, id, id⟩

theorem SafeKept.trans (h : SafeKept s t) (k : SafeKept t u) : SafeKept s u :=
  ⟨h.toBlockKept.trans k.toBlockKept, k.fence ∘ h.fence, k.head ∘ h.head⟩

/-- What is done last named first. -/
theorem SafeKept.after (k : SafeKept t u) (h : SafeKept s t) : SafeKept s u := h.trans k

/-- A fold of operations that each keep the safety conditions. -/
theorem SafeKept.foldl {α : Type} {g : State → α → State} (h : ∀ t a, SafeKept t (g t a)) (l : List α) (s : State) :
    SafeKept s (l.foldl g s) := by
  induction l generalizing s with
  | nil => exact .refl s
  | cons a l ih => exact (h s a).trans (ih _)

/-- The input levels, the free values drawn and the waiting commands are in no condition. -/
theorem SafeKept.outer (s : State) (p : Pins) (d : Nat) (q : List Instr) :
    SafeKept s { s with pins := p, drawn := d, pending := q } :=
  ⟨⟨id, id, id, id, id, id, id⟩, id, id⟩

/-! ## One block updated -/

/-- What an update of LIF alone keeps. -/
structure LifKept (l m : Lif) : Prop where
  silent   : m.silent = l.silent
  counters : l.InRange → m.InRange
  work     : l.work.length ≤ 8 → m.work.length ≤ 8
  quiet    : l.Quiet → m.Quiet

theorem LifKept.refl (l : Lif) : LifKept l l := ⟨rfl, id, id, id⟩

theorem SafeKept.onLif {g : Lif → Lif} (h : LifKept s.lif (g s.lif)) : SafeKept s (s.onLif g) where
  fence := by simp [State.FenceSafe, h.silent]
  fault := id
  counters hc := by
    obtain ⟨hl, hr⟩ := countersSafe_iff.1 hc
    exact countersSafe_iff.2 ⟨h.counters hl, hr⟩
  work := h.work
  silent := h.quiet
  window := id
  table := id
  stimulus := id
  head := id

theorem SafeKept.of_lif (ht : t = { s with lif := t.lif }) (h : LifKept s.lif t.lif) : SafeKept s t :=
  ht ▸ SafeKept.onLif (g := fun _ => t.lif) h

/-- An update of LIF outside the fields that the conditions read. -/
theorem LifKept.of_same {l m : Lif} (h1 : m.silent = l.silent) (h2 : m.counters = l.counters) (h3 : m.k = l.k)
    (h4 : m.work = l.work) (h5 : m.safety = l.safety) (h6 : m.answer = l.answer) (h7 : m.post = l.post)
    (h8 : m.held = l.held) (h9 : m.tx = l.tx) : LifKept l m where
  silent := h1
  counters := by simp [Lif.InRange, h2, h3]
  work := by simp [h4]
  quiet := by simp [Lif.Quiet, h1, h4, h5, h6, h7, h8, h9]

/-- An update of LIF outside the fields that the conditions read. -/
theorem SafeKept.of_lif_same (ht : t = { s with lif := t.lif }) (h1 : t.lif.silent = s.lif.silent)
    (h2 : t.lif.counters = s.lif.counters) (h3 : t.lif.k = s.lif.k) (h4 : t.lif.work = s.lif.work)
    (h5 : t.lif.safety = s.lif.safety) (h6 : t.lif.answer = s.lif.answer) (h7 : t.lif.post = s.lif.post)
    (h8 : t.lif.held = s.lif.held) (h9 : t.lif.tx = s.lif.tx) : SafeKept s t :=
  .of_lif ht (.of_same h1 h2 h3 h4 h5 h6 h7 h8 h9)

/-- The queues of a LIF that is not silent, and the frame on the lane, may change in any way. -/
theorem LifKept.of_loud {l m : Lif} (h : l.Quiet → l.silent = false) (h1 : m.silent = l.silent) (h2 : m.counters = l.counters)
    (h3 : m.k = l.k) (h4 : l.work.length ≤ 8 → m.work.length ≤ 8) : LifKept l m where
  silent := h1
  counters := by simp [Lif.InRange, h2, h3]
  work := h4
  quiet hq hs := by simp [h1, h hq] at hs

theorem BlockKept.onStc (g : Stc → Stc) : BlockKept s (s.onStc g) := ⟨id, id, id, id, id, id, id⟩

theorem SafeKept.onStc {g : Stc → Stc} (hj : (g s.stc).join = s.stc.join)
    (ht : (g s.stc).selfTesting = true → s.stc.selfTesting = true)
    (hb : s.msq.motion = .offline → s.stc.board = .noBoard → (g s.stc).board = .noBoard) :
    SafeKept s (s.onStc g) where
  toBlockKept := .onStc g
  fence := id
  head := by
    rintro ⟨ho, hw, hm, hst⟩
    refine ⟨fun h => ⟨hb h (ho h).1, (ho h).2⟩, ?_, hm, fun h => hst (ht h)⟩
    simpa [hj] using hw

theorem SafeKept.onMsq {g : Msq → Msq} (h : (g s.msq).motion = s.msq.motion) : SafeKept s (s.onMsq g) where
  fence := id
  fault := id
  counters := id
  work := id
  silent := id
  window := id
  table := id
  stimulus := by simp [State.StimulusSafe, h]
  head := by simp [State.HeadSafe, State.OfflineSafe, State.JoinSafe, h]

/-- The motion state is neither OFFLINE nor JOINING. -/
def MotionState.moves : MotionState → Bool
  | .offline | .joining => false
  | _ => true

/-- The head's motion state may turn to another in which it moves or may move: it is neither OFFLINE nor joining, and no
stimulus is driven. -/
structure State.MayTurn (s : State) : Prop where
  head     : s.HeadSafe → s.msq.motion.moves = true
  stimulus : s.StimulusSafe → s.meu.stimulus = .off

/-- The stimulus is off in every motion state but MEASURE. -/
theorem State.StimulusSafe.off (h : s.StimulusSafe) (hm : s.msq.motion ≠ .measure) : s.meu.stimulus = .off := by
  by_contra hs
  exact hm (h.1 hs).2.1

/-- A head with a membership is neither OFFLINE nor joining. -/
theorem State.HeadSafe.moves {m : Membership} (h : s.HeadSafe) (hm : s.rvu.current = some m) :
    s.msq.motion.moves = true := by
  obtain ⟨ho, -, hj, -⟩ := h
  cases hs : s.msq.motion <;> first | rfl | skip
  · simp [(ho hs).2.1] at hm
  · simp [(hj hs).1] at hm

theorem mayTurn_of_motion (h : s.msq.motion.moves = true) (hm : s.msq.motion ≠ .measure) : s.MayTurn :=
  ⟨fun _ => h, fun hs => hs.off hm⟩

theorem mayTurn_of_off (h : s.msq.motion.moves = true) (hm : s.meu.stimulus = .off) : s.MayTurn :=
  ⟨fun _ => h, fun _ => hm⟩

theorem MotionState.moves_iff {m : MotionState} : m.moves = true ↔ m ≠ .offline ∧ m ≠ .joining := by
  cases m <;> simp [moves]

/-- A head that moves, before and after. -/
theorem State.HeadSafe.of_moves (h : s.HeadSafe) (hs : s.msq.motion.moves = true) (ht : t.msq.motion.moves = true)
    (hj : t.stc.join = s.stc.join) (hst : t.stc.selfTesting = true → s.stc.selfTesting = true) : t.HeadSafe := by
  obtain ⟨-, hw, -, hr⟩ := h
  obtain ⟨h1, h2⟩ := MotionState.moves_iff.1 hs
  obtain ⟨h3, h4⟩ := MotionState.moves_iff.1 ht
  refine ⟨fun h => absurd h h3, ?_, fun h => absurd h h4, fun h => absurd (hr (hst h)) h1⟩
  simpa [h2, h4, hj] using hw

/-- A head whose join is complete. -/
theorem State.HeadSafe.of_joined (h : s.HeadSafe) (hs : s.msq.motion = .joining) (ht : t.msq.motion.moves = true)
    (hj : t.stc.join = .complete) (hst : t.stc.selfTesting = true → s.stc.selfTesting = true) : t.HeadSafe := by
  obtain ⟨-, -, -, hr⟩ := h
  obtain ⟨h3, h4⟩ := MotionState.moves_iff.1 ht
  refine ⟨fun h => absurd h h3, by simp [h4, hj], fun h => absurd h h4, fun h => ?_⟩
  simp [hs] at hr
  simp [hst h] at hr

theorem BlockKept.turn {g : Msq → Msq} (h : s.StimulusSafe → s.meu.stimulus = .off) : BlockKept s (s.onMsq g) where
  fault := id
  counters := id
  work := id
  silent := id
  window := id
  table := id
  stimulus hs := ⟨fun hn => absurd (h hs) hn, hs.2⟩

/-- The motion state turns. -/
theorem SafeKept.turn {g : Msq → Msq} (h : s.MayTurn) (hg : (g s.msq).motion.moves = true) :
    SafeKept s (s.onMsq g) where
  toBlockKept := .turn h.stimulus
  fence := id
  head hh := hh.of_moves (h.head hh) hg rfl id

theorem SafeKept.onRvu {g : Rvu → Rvu} (hm : (g s.rvu).mismatches = s.rvu.mismatches)
    (hs : s.StimulusSafe → (s.onRvu g).StimulusSafe)
    (hi : s.msq.motion.moves = false → s.rvu.Idle → (g s.rvu).Idle) : SafeKept s (s.onRvu g) where
  fence := id
  fault := id
  counters := by simp [State.CountersSafe, hm]
  work := id
  silent := id
  window := id
  table := id
  stimulus := hs
  head := by
    rintro ⟨ho, hw, hj, ht⟩
    refine ⟨fun h => ?_, hw, fun h => ?_, ht⟩
    · obtain ⟨hb, hc, hn, hr⟩ := ho h
      obtain ⟨hc', hn'⟩ := hi (by rw [show s.msq.motion = _ from h]; rfl) ⟨hc, hn⟩
      exact ⟨hb, hc', hn', hr⟩
    · obtain ⟨hc, hn, hf⟩ := hj h
      obtain ⟨hc', hn'⟩ := hi (by rw [show s.msq.motion = _ from h]; rfl) ⟨hc, hn⟩
      exact ⟨hc', hn', hf⟩

/-- An update of RVU that leaves the memberships and the count of mismatches. -/
theorem SafeKept.onRvu_same {g : Rvu → Rvu} (hm : (g s.rvu).mismatches = s.rvu.mismatches)
    (hc : (g s.rvu).current = s.rvu.current) (hn : (g s.rvu).next = s.rvu.next) : SafeKept s (s.onRvu g) :=
  .onRvu hm (by simp [State.StimulusSafe, hc, hn]) (by simp [Rvu.Idle, hc, hn])

theorem BlockKept.onScu {g : Scu → Scu} (hw : s.WindowSafe → (s.onScu g).WindowSafe) : BlockKept s (s.onScu g) :=
  ⟨id, id, id, id, hw, id, id⟩

theorem SafeKept.onScu {g : Scu → Scu} (hw : s.WindowSafe → (s.onScu g).WindowSafe)
    (hr : s.msq.motion = .offline → s.scu.Resting → (g s.scu).Resting) : SafeKept s (s.onScu g) where
  toBlockKept := .onScu hw
  fence := id
  head := by
    rintro ⟨ho, hj⟩
    refine ⟨offlineSafe_iff.2 fun h => ?_, hj⟩
    obtain ⟨hb, hi, hs, hf⟩ := offlineSafe_iff.1 ho h
    exact ⟨hb, hi, hr h hs, hf⟩

theorem windowSafe_congr (hp : t.scu.pending = s.scu.pending ∨ t.scu.pending = none) (hm : t.scu.map = s.scu.map) (h : s.WindowSafe) :
    t.WindowSafe := by
  intro p o w h1 h2
  rcases hp with hp | hp
  · have := h p o w (hp ▸ h1) h2
    simpa [State.conflictsMap, State.mapRects, hm] using this
  · simp [hp] at h1

/-- Without a claim in its window the condition on it holds. -/
theorem windowSafe_of_none (h : t.scu.pending = none) : t.WindowSafe := by
  intro p o w h1
  simp [h] at h1

theorem SafeKept.onMeu {g : Meu → Meu}
    (h : (g s.meu).stimulus = .off ∨ (g s.meu).stimulus = s.meu.stimulus ∧ (s.meu.window ≠ .off → (g s.meu).window ≠ .off)) :
    SafeKept s (s.onMeu g) where
  fence := id
  fault := id
  counters := id
  work := id
  silent := id
  window := id
  table := id
  stimulus hs := by
    refine ⟨fun hn => ?_, hs.2⟩
    rcases h with h | ⟨h, hw⟩
    · exact absurd h hn
    · obtain ⟨hw', hm, hc⟩ := hs.1 (h ▸ hn)
      exact ⟨hw hw', hm, hc⟩
  head := id

theorem BlockKept.onFlu {g : Flu → Flu} (hr : s.flu.faultN = s.flu.record.isSome → (g s.flu).faultN = (g s.flu).record.isSome)
    (hc : s.flu.count ≤ 255 → (g s.flu).count ≤ 255) : BlockKept s (s.onFlu g) where
  fault := hr
  counters h := by
    obtain ⟨hl, hr, hx⟩ := countersSafe_iff.1 h
    exact countersSafe_iff.2 ⟨hl, hr, hc hx⟩
  work := id
  silent := id
  window := id
  table := id
  stimulus := id

theorem SafeKept.onFlu {g : Flu → Flu} (hf : (g s.flu).fence = s.flu.fence) (hh : (g s.flu).haltDrive = s.flu.haltDrive)
    (hr : s.flu.faultN = s.flu.record.isSome → (g s.flu).faultN = (g s.flu).record.isSome)
    (hc : s.flu.count ≤ 255 → (g s.flu).count ≤ 255) : SafeKept s (s.onFlu g) where
  toBlockKept := .onFlu hr hc
  fence := by simp [State.FenceSafe, hf, hh]
  head := by simp [State.HeadSafe, State.OfflineSafe, State.JoinSafe, hf]

theorem SafeKept.onJtb {g : Jtb → Jtb} (h : s.TableSafe → (s.onJtb g).TableSafe) : SafeKept s (s.onJtb g) where
  fence := id
  fault := id
  counters := id
  work := id
  silent := id
  window := id
  table := h
  stimulus := id
  head := id

end Sys2Proof.Machine
end

section
/-! SUPPORT. The safety conditions of a part whose blocks stand at their power-on values, and O56. -/

namespace Sys2Proof.Machine

open Sys2Proof

/-- The head after power-on start: OFFLINE, with nothing held, claimed or tested. -/
theorem headSafe_powerOn (s : State) : s.powerOn.HeadSafe := by
  refine ⟨fun _ => ⟨rfl, rfl, rfl, rfl, rfl, rfl, rfl, rfl, rfl⟩, ?_, ?_, ?_⟩ <;>
    simp [State.powerOn, State.reset, Msq.powerOn, Stc.powerOn]

/-- The claim map, the table and the stimulus after power-on start are empty and off. -/
theorem safe_powerOn (s : State) : s.powerOn.Safe where
  stimulus := ⟨fun h => absurd rfl h, fun _ h => nomatch h⟩
  fence := by simp [State.FenceSafe, State.powerOn, State.reset, Lif.powerOn, Flu.powerOn]
  fault := rfl
  counters := by
    simp [State.CountersSafe, State.powerOn, State.reset, Lif.powerOn, Flu.powerOn, Rvu.powerOn, Counters.zero]
  work := Nat.zero_le 8
  silent h := nomatch h
  window := windowSafe_of_none rfl
  table := by simp [State.TableSafe, State.powerOn, State.reset, Jtb.powerOn]
  offline := (headSafe_powerOn s).1
  join := (headSafe_powerOn s).2
  reset _ := rfl

/-- Settles O56: the state after reset is the power-on state of itself. -/
theorem resetIsSafe : Obligations.ResetIsSafe := safe_powerOn State.reset

end Sys2Proof.Machine
end

section
/-! SUPPORT. The operations of the lane interface, the roster and the job table keep the safety conditions. -/

namespace Sys2Proof.Machine

open Sys2Proof

variable {s t u : State}

/-! ## Counters -/

theorem saturate16_le {n : Nat} (h : n ≤ 65535) : saturate16 n ≤ 65535 := by
  unfold saturate16
  split <;> omega

theorem saturate8_le {n : Nat} (h : n ≤ 255) : saturate8 n ≤ 255 := by
  unfold saturate8
  split <;> omega

/-- Counters, the frames to send left as they are. -/
theorem LifKept.of_counters {l m : Lif} (h1 : m.silent = l.silent) (h2 : l.InRange → m.InRange)
    (h4 : m.work = l.work) (h5 : m.safety = l.safety) (h6 : m.answer = l.answer) (h7 : m.post = l.post)
    (h8 : m.held = l.held) (h9 : m.tx = l.tx ∨ m.tx = none) : LifKept l m where
  silent := h1
  counters := h2
  work := by simp [h4]
  quiet hq hs := by
    obtain ⟨q1, q2, q3, q4, q5, q6⟩ := hq (h1 ▸ hs)
    refine ⟨h5 ▸ q1, h6 ▸ q2, h7 ▸ q3, h4 ▸ q4, h8 ▸ q5, fun t ht => ?_⟩
    rcases h9 with h9 | h9
    · exact q6 t (h9 ▸ ht)
    · simp [h9] at ht

theorem countDiscard_safeKept (s : State) : SafeKept s (countDiscard s) :=
  .of_lif rfl <| .of_counters rfl (by simp only [Lif.InRange, countDiscard, State.onCounters, State.onLif_lif]; grind [saturate16_le]) rfl rfl rfl rfl rfl (.inl rfl)

theorem logCorrected_safeKept (p k r y : Nat) (s : State) : SafeKept s (logCorrected p k r y s) :=
  .of_lif rfl <| .of_counters rfl (by simp only [Lif.InRange, logCorrected, State.onLif_lif]; grind [saturate16_le]) rfl rfl rfl rfl rfl (.inl rfl)

theorem decodeInto_safeKept (k r p : Nat) (w : CodedWord) (s : State) : SafeKept s (decodeInto k r p w s) := by
  unfold decodeInto
  split
  · exact logCorrected_safeKept ..
  · exact .refl s

theorem logErrors_safeKept (k : Kind) (f : RxFrame) (s : State) : SafeKept s (logErrors k f s) :=
  .foldl (fun _ _ => decodeInto_safeKept ..) _ _

theorem decodeFollowing_safeKept (k r i : Nat) (ws : List CodedWord) (s : State) :
    SafeKept s (decodeFollowing k r i ws s) := by
  induction ws generalizing i s with
  | nil => exact .refl s
  | cons w ws ih =>
    unfold decodeFollowing
    split
    · exact .refl s
    · exact (decodeInto_safeKept ..).trans (ih ..)

theorem decodeWords_safeKept (ws : List CodedWord) (s : State) : SafeKept s (decodeWords ws s) := by
  unfold decodeWords
  split
  · exact .refl s
  · split
    · exact (decodeInto_safeKept ..).trans (decodeFollowing_safeKept ..)
    · exact (decodeInto_safeKept ..).trans (decodeFollowing_safeKept ..)
    · exact .refl s

/-! ## Queues -/

theorem quiet_loud_of_replacement {l : Lif} {x : Tx} {g : TxFrame} (hx : l.tx = some x) (hr : x.replacement = some g) :
    l.Quiet → l.silent = false := by
  intro hq
  by_contra hs
  have := ((hq (by simpa using hs)).2.2.2.2.2 x hx).1
  simp [hr] at this

theorem offerSafety_safeKept (f : TxFrame) (s : State) : SafeKept s (offerSafety f s) := by
  dsimp only [offerSafety]
  split
  · exact .refl s
  next h =>
    have hs : s.lif.silent = false := by simp_all
    (repeat' split) <;> exact .of_lif rfl (.of_loud (fun _ => hs) rfl rfl rfl id)

theorem placeAnswer_safeKept (f : TxFrame) (s : State) : SafeKept s (placeAnswer f s) := by
  unfold placeAnswer
  split
  · exact .refl s
  next h =>
    have hs : s.lif.silent = false := by simp_all
    split <;> exact .of_lif rfl (.of_loud (fun _ => hs) rfl rfl rfl id)

theorem postResult_safeKept (r : ResultRecord) (s : State) : SafeKept s (postResult r s) := by
  unfold postResult
  split
  · exact .refl s
  next h => exact .of_lif rfl (.of_loud (fun _ => by simp_all) rfl rfl rfl id)

/-- A frame that a silent head may send enters a WORK queue that has a place. -/
theorem pushWork_safeKept {f : TxFrame} (h : s.lif.work.length < 8) (hf : s.lif.silent = true → f.silentOk = true) :
    SafeKept s (pushWork f s) := by
  refine .onLif ⟨rfl, id, fun _ => by simpa using h, fun hq hs => ?_⟩
  obtain ⟨q1, q2, q3, q4, q5, q6⟩ := hq hs
  refine ⟨q1, q2, q3, fun g hg => ?_, q5, q6⟩
  rcases List.mem_append.1 hg with hg | hg
  · exact q4 g hg
  · exact List.mem_singleton.1 hg ▸ hf hs

theorem offerWork_safeKept (f : TxFrame) (s : State) : SafeKept s (offerWork f s) := by
  unfold offerWork
  split
  · exact .refl s
  next h =>
    have hf : s.lif.silent = true → f = .beacon := fun hs => by simp_all
    split
    next hw => exact pushWork_safeKept (by simp_all [State.workFree]) fun hs => by rw [hf hs]; rfl
    · split
      · exact .refl s
      · refine .onLif ⟨rfl, id, id, fun hq hs => ?_⟩
        obtain ⟨q1, q2, q3, q4, q5, q6⟩ := hq hs
        refine ⟨q1, q2, q3, q4, fun g hg => ?_, q6⟩
        rcases List.mem_append.1 hg with hg | hg
        · exact q5 g hg
        · exact (List.mem_singleton.1 hg).trans (hf hs)

theorem emptyQueues_lifKept (s : State) : LifKept s.lif (emptyQueues s).lif where
  silent := rfl
  counters := id
  work _ := Nat.zero_le 8
  quiet _ _ := by
    refine ⟨rfl, rfl, rfl, nofun, nofun, fun t ht => ?_⟩
    simp only [emptyQueues, State.onLif_lif, detachTx, Option.map_eq_some_iff] at ht
    obtain ⟨x, -, rfl⟩ := ht
    exact ⟨rfl, .inl rfl⟩

theorem emptyQueues_safeKept (s : State) : SafeKept s (emptyQueues s) := .onLif (emptyQueues_lifKept s)

/-- Fewer frames to send. -/
theorem LifKept.of_fewer {l m : Lif} (h1 : m.silent = l.silent) (h2 : m.counters = l.counters) (h3 : m.k = l.k)
    (h4 : m.work.Sublist l.work) (h5 : m.safety.Sublist l.safety) (h6 : m.answer = l.answer ∨ m.answer = none)
    (h7 : m.post.Sublist l.post) (h8 : m.held.Sublist l.held)
    (h9 : ∀ x, m.tx = some x → ∃ y, l.tx = some y ∧ (y.replacement = none → x.replacement = none) ∧
      (y.detached = true → x.detached = true) ∧ x.place = y.place) :
    LifKept l m where
  silent := h1
  counters := by simp [Lif.InRange, h2, h3]
  work h := h4.length_le.trans h
  quiet hq hs := by
    obtain ⟨q1, q2, q3, q4, q5, q6⟩ := hq (h1 ▸ hs)
    refine ⟨List.sublist_nil.1 (q1 ▸ h5), by grind, List.sublist_nil.1 (q3 ▸ h7), fun f hf => q4 f (h4.subset hf),
      fun f hf => q5 f (h8.subset hf), fun x hx => ?_⟩
    obtain ⟨y, hy, hr, hd, hp⟩ := h9 x hx
    exact ⟨hr (q6 y hy).1, (q6 y hy).2.imp hd hp.trans⟩

theorem regap_safeKept (s : State) : SafeKept s (regap s) := .onLif (.of_same rfl rfl rfl rfl rfl rfl rfl rfl rfl)

theorem leavePlace_lifKept (p : Place) (s : State) : LifKept s.lif (leavePlace p s).lif := by
  have htx : ∀ x, s.lif.tx = some x → ∃ y, s.lif.tx = some y ∧ (y.replacement = none → x.replacement = none) ∧
      (y.detached = true → x.detached = true) ∧ x.place = y.place := fun x hx => ⟨x, hx, id, id, rfl⟩
  cases p
  · exact .of_fewer rfl rfl rfl (.refl _) (List.tail_sublist _) (.inl rfl) (.refl _) (.refl _) htx
  · exact .of_fewer rfl rfl rfl (List.tail_sublist _) (.refl _) (.inl rfl) (.refl _) (.refl _) htx
  · exact .of_fewer rfl rfl rfl (.refl _) (.refl _) (.inr rfl) (.refl _) (.refl _) htx
  · exact .of_fewer rfl rfl rfl (.refl _) (.refl _) (.inl rfl) (List.tail_sublist _) (.refl _) htx

theorem leavePlace_safeKept (p : Place) (s : State) : SafeKept s (leavePlace p s) := .onLif (leavePlace_lifKept p s)

theorem enterReplacement_safeKept (p : Place) (f : TxFrame) (s : State) : SafeKept s (enterReplacement p f s) := by
  cases p
  · exact offerSafety_safeKept f s
  · exact .refl s
  · exact placeAnswer_safeKept f s
  · exact .refl s

/-- A silent LIF contends with the head of its WORK queue alone. -/
theorem choice_place_of_quiet {p : Place} {c : AccessClass} {f : TxFrame} (h : s.choice = some (p, c, f))
    (hq : s.lif.Quiet) (hs : s.lif.silent = true) : p = .work := by
  obtain ⟨q1, q2, q3, -⟩ := hq hs
  simp only [State.choice, q1, q2, q3] at h
  cases hw : s.lif.work <;> simp_all

theorem startTx_safeKept {p : Place} {c : AccessClass} {f : TxFrame} (b : Nat) (h : s.choice = some (p, c, f)) :
    SafeKept s (startTx p f b s) := by
  refine SafeKept.trans (.onLif ⟨rfl, id, id, fun hq hs => ?_⟩) (.outer _ _ _ _)
  obtain ⟨q1, q2, q3, q4, q5, -⟩ := hq hs
  refine ⟨q1, q2, q3, q4, q5, fun t ht => ?_⟩
  cases ht
  exact ⟨rfl, .inr (choice_place_of_quiet h hq hs)⟩

/-! ## Roster -/

/-- The roster is in no condition. -/
theorem SafeKept.onStc_same {g : Stc → Stc} (hj : (g s.stc).join = s.stc.join)
    (ht : (g s.stc).selfTesting = s.stc.selfTesting) (hb : (g s.stc).board = s.stc.board) : SafeKept s (s.onStc g) :=
  .onStc hj (fun h => ht ▸ h) (fun _ h => hb.trans h)

theorem updRoster_safeKept (n : Nat) (g : RosterEntry → RosterEntry) (s : State) : SafeKept s (updRoster n g s) := by
  unfold updRoster
  (repeat' split) <;> first | exact .refl s | exact .onStc_same rfl rfl rfl

/-! ## Memberships -/

/-- The membership that stands in for another of the same job and state. -/
theorem StimulusSafe_of_members (h : s.StimulusSafe) (hm : t.meu = s.meu) (hq : t.msq.motion = s.msq.motion)
    (hc : ∀ m, s.rvu.current = some m → ∃ m', t.rvu.current = some m' ∧ m'.job = m.job ∧
      (s.meu.stimulus ≠ .off → m'.state = m.state))
    (hn : ∀ n, t.rvu.next = some n → ∃ n', s.rvu.next = some n' ∧ n'.job = n.job ∧
      (n'.state = .taken ∨ n'.state = .formed → n.state = .taken ∨ n.state = .formed)) : t.StimulusSafe := by
  constructor
  · rw [hm, hq]
    intro hs
    obtain ⟨hw, hmo, m, hm', hst⟩ := h.1 hs
    obtain ⟨m', h1, -, h3⟩ := hc m hm'
    exact ⟨hw, hmo, m', h1, (h3 hs).trans hst⟩
  · intro n hn'
    obtain ⟨n', h1, h2, h3⟩ := hn n hn'
    obtain ⟨hst, m, hm', hne⟩ := h.2 n' h1
    obtain ⟨m', h4, h5, -⟩ := hc m hm'
    exact ⟨h3 hst, m', h4, by rw [h5, ← h2]; exact hne⟩

/-- The memberships are changed one by one. -/
theorem map_members_safeKept {g : Membership → Membership} {s t : State}
    (ht : t = s.onRvu fun r => { r with current := r.current.map g, next := r.next.map g })
    (hj : ∀ m, (g m).job = m.job)
    (hc : s.StimulusSafe → ∀ m, s.rvu.current = some m → s.meu.stimulus ≠ .off → (g m).state = m.state)
    (hn : s.StimulusSafe → ∀ n, s.rvu.next = some n → n.state = .taken ∨ n.state = .formed →
      (g n).state = .taken ∨ (g n).state = .formed) : SafeKept s t := by
  subst ht
  refine .onRvu rfl (fun h => StimulusSafe_of_members h rfl rfl ?_ ?_) (fun _ => ?_)
  · intro m hm
    exact ⟨g m, by simp [hm], hj m, hc h m hm⟩
  · intro n hn'
    simp only [State.onRvu_rvu, Option.map_eq_some_iff] at hn'
    obtain ⟨n', h1, rfl⟩ := hn'
    exact ⟨n', h1, (hj n').symm, hn h n' h1⟩
  · simp only [Rvu.Idle, Option.map_eq_none_iff]
    exact id

/-- A change of the membership in a job that leaves its job and its state. -/
theorem updMember_safeKept (job : Nat) {g : Membership → Membership} (hj : ∀ m, (g m).job = m.job)
    (hs : ∀ m, (g m).state = m.state) (s : State) : SafeKept s (updMember job g s) :=
  map_members_safeKept (g := fun m => if m.job = job then g m else m) rfl (fun m => by split <;> simp [hj])
    (fun _ m _ _ => by split <;> simp [hs]) (fun _ n _ h => by split <;> simpa [hs] using h)

end Sys2Proof.Machine
end

section
/-! SUPPORT. The operations of the blocks on one another keep the safety conditions: faults, memberships, claims, silence,
fences, drive commands, abandonment and the restart. -/

namespace Sys2Proof.Machine

open Sys2Proof

variable {s t u : State}

/-! ## Fault record, measurement, memberships -/

theorem recordFault_safeKept (code : Nat) (s : State) : SafeKept s (recordFault code s) :=
  .onFlu rfl rfl (fun _ => by cases s.flu.record <;> rfl) saturate8_le

theorem meuAbort_safeKept (s : State) : SafeKept s (meuAbort s) := by
  refine SafeKept.trans (.onMeu (g := fun _ => Meu.powerOn) (.inl rfl)) ?_
  refine .onRvu rfl (fun h => ⟨fun hs => absurd rfl hs, fun n hn => ?_⟩) fun _ hi => ⟨congrArg (Option.map _) hi.1, hi.2⟩
  obtain ⟨hst, m, hm, hne⟩ := h.2 n hn
  exact ⟨hst, _, congrArg (Option.map _) hm, hne⟩

/-- The membership in a job ends where no stimulus is driven, or not in this job. -/
theorem endMember_safeKept {job : Nat}
    (h : s.StimulusSafe → s.meu.stimulus = .off ∨ ∀ m, s.rvu.current = some m → m.job ≠ job) :
    SafeKept s (endMember job s) := by
  have hheld : SafeKept s (s.onLif fun l => { l with held := l.held.filter fun f => !isReadingOf job f }) :=
    .of_lif rfl <| .of_fewer rfl rfl rfl (.refl _) (.refl _) (.inl rfl) (.refl _) List.filter_sublist
      fun x hx => ⟨x, hx, id, id, rfl⟩
  dsimp only [endMember]
  refine hheld.trans (.onRvu ?_ (fun hs => ?_) fun _ hi => ?_)
  · (repeat' split) <;> rfl
  · cases hc : s.rvu.current with
    | none => simpa [State.StimulusSafe, hc] using hs
    | some m =>
      by_cases hj : m.job = job
      · have hoff : s.meu.stimulus = .off := (h hs).resolve_right fun hne => hne m hc hj
        simp [State.StimulusSafe, hc, hj, hoff]
      · refine ⟨?_, fun n hn => ?_⟩
        · simpa [hc, hj] using hs.1
        · have hn' : s.rvu.next = some n := by
            cases hx : s.rvu.next with
            | none => simp [hc, hj, hx] at hn
            | some y => by_cases hy : y.job = job <;> simp_all
          obtain ⟨hst, m', hm', hne⟩ := hs.2 n hn'
          exact ⟨hst, m', by simp_all, hne⟩
  · obtain ⟨hc, hn⟩ : s.rvu.Idle := hi
    simp [hc, hn, Rvu.Idle]

theorem releaseReadings_safeKept (s : State) : SafeKept s (releaseReadings s) :=
  .of_lif rfl <| .of_fewer rfl rfl rfl (.refl _) (.refl _) (.inl rfl) (.refl _) List.filter_sublist
    fun x hx => ⟨x, hx, id, id, rfl⟩

theorem endMembers_safeKept (h : s.meu.stimulus = .off) : SafeKept s (endMembers s) := by
  refine (releaseReadings_safeKept s).trans (.onRvu rfl (fun _ => ?_) fun _ _ => ⟨rfl, rfl⟩)
  exact ⟨fun hs => absurd h hs, fun _ hn => nomatch hn⟩

/-! ## Beacon, PARKED and IDLE -/

theorem offerBeacon_safeKept (s : State) : SafeKept s (offerBeacon s) := by
  unfold offerBeacon
  split
  · exact .refl s
  · exact offerWork_safeKept ..

theorem changeBeacon_safeKept (s : State) : SafeKept s (changeBeacon s) := by
  unfold changeBeacon
  split
  · refine SafeKept.trans (.onStc rfl id fun _ hb => ?_) (offerBeacon_safeKept _)
    simp [hb]
  · exact .refl s

theorem enterParked_safeKept (h : s.MayTurn) : SafeKept s (enterParked s) :=
  (SafeKept.turn h rfl).trans (changeBeacon_safeKept _)

theorem enterIdle_safeKept (h : s.MayTurn) : SafeKept s (enterIdle s) := .turn h rfl

theorem idleOrParked_safeKept (h : s.MayTurn) : SafeKept s (idleOrParked s) := by
  unfold idleOrParked
  split
  · exact enterIdle_safeKept h
  · exact enterParked_safeKept h

/-! ## Reports of SCU to MSQ -/

theorem startSpaceWait_safeKept (s : State) : SafeKept s (startSpaceWait s) := .onMsq rfl

theorem enterWaitSpace_safeKept (h : s.MayTurn) : SafeKept s (enterWaitSpace s) :=
  (SafeKept.turn h rfl).trans (startSpaceWait_safeKept _)

theorem spaceDrop_safeKept (h : s.msq.motion.moves = true) (hm : s.msq.motion ≠ .measure) : SafeKept s (spaceDrop s) := by
  unfold spaceDrop
  split
  · next m _ =>
    have hend : SafeKept (offerWork (.drop m.job .space 0) s) (endMember m.job (offerWork (.drop m.job .space 0) s)) :=
      endMember_safeKept fun hs => .inl (hs.off (by simpa using hm))
    exact (offerWork_safeKept ..).trans (hend.trans (idleOrParked_safeKept (mayTurn_of_motion (by simpa using h) (by simpa using hm))))
  · exact idleOrParked_safeKept (mayTurn_of_motion h hm)

theorem reportVoid_safeKept (s : State) : SafeKept s (reportVoid s) := by
  unfold reportVoid
  split
  · next hm =>
    have h1 : s.msq.motion.moves = true := by rw [hm]; rfl
    have h2 : s.msq.motion ≠ .measure := by rw [hm]; decide
    have ht := mayTurn_of_motion h1 h2
    (repeat' split) <;>
      first | exact idleOrParked_safeKept ht | exact spaceDrop_safeKept h1 h2 | exact enterWaitSpace_safeKept ht
  · exact .onMsq rfl
  · exact .refl s

/-! ## Own claim -/

theorem setHeld_safeKept {q : Option Claim} (h : s.scu.held = none → q = none) : SafeKept s (setHeld q s) := by
  refine SafeKept.trans (.onScu (windowSafe_congr (.inl rfl) rfl) fun _ hr => ?_) (.onMsq rfl)
  obtain ⟨h1, h2⟩ := hr
  exact ⟨h h1, h2⟩

theorem filterSafety_safeKept (keep : TxFrame → Bool) (s : State) : SafeKept s (filterSafety keep s) :=
  .of_lif rfl <| .of_fewer rfl rfl rfl (.refl _) List.filter_sublist (.inl rfl) (.refl _) (.refl _)
    fun x hx => ⟨x, hx, id, id, rfl⟩

/-- A change of the frame on the lane that asks for no replacement. -/
theorem updTx_safeKept {g : Tx → Tx} (hr : ∀ x : Tx, x.replacement = none → (g x).replacement = none)
    (hd : ∀ x : Tx, x.detached = true → (g x).detached = true) (hp : ∀ x, (g x).place = x.place) (s : State) :
    SafeKept s (updTx g s) := by
  refine .of_lif rfl <| .of_fewer rfl rfl rfl (.refl _) (.refl _) (.inl rfl) (.refl _) (.refl _) fun x hx => ?_
  simp only [updTx, State.onLif_lif, Option.map_eq_some_iff] at hx
  obtain ⟨y, hy, rfl⟩ := hx
  exact ⟨y, hy, hr y, hd y, hp y⟩

/-- The pending claim goes. -/
theorem dropPending_safeKept (s : State) : SafeKept s (s.onScu fun c => { c with pending := none }) :=
  .onScu (fun _ => windowSafe_of_none rfl) fun _ hr => by
    obtain ⟨h1, -, h3⟩ := hr
    exact ⟨h1, rfl, h3⟩

theorem withdrawClaim_safeKept (s : State) : SafeKept s (withdrawClaim s) := by
  unfold withdrawClaim
  (repeat' split)
  · refine SafeKept.trans (updTx_safeKept ?_ ?_ ?_ s) (dropPending_safeKept _)
    · exact fun _ _ => rfl
    · exact fun _ h => h
    · exact fun _ => rfl
  · refine updTx_safeKept ?_ ?_ ?_ s
    · exact fun _ h => h
    · exact fun _ h => h
    · exact fun _ => rfl
  · exact (filterSafety_safeKept _ s).trans (dropPending_safeKept _)
  · exact .refl s
  · exact .refl s

theorem withdrawAndReport_safeKept (s : State) : SafeKept s (withdrawAndReport s) := by
  dsimp only [withdrawAndReport]
  split
  · exact (withdrawClaim_safeKept s).trans (reportVoid_safeKept _)
  · exact withdrawClaim_safeKept s

theorem endPending_safeKept (s : State) : SafeKept s (endPending s) := by
  unfold endPending
  split
  · exact (withdrawClaim_safeKept s).trans ((dropPending_safeKept _).trans (reportVoid_safeKept _))
  · exact .refl s

theorem takeRelease_safeKept (s : State) : SafeKept s (takeRelease s) := by
  dsimp only [takeRelease]
  have h : SafeKept s (endPending (setHeld none s)) := (setHeld_safeKept fun _ => rfl).trans (endPending_safeKept _)
  (repeat' split)
  · exact .refl s
  · exact h
  · exact h.trans (offerSafety_safeKept ..)

theorem takeShrink_safeKept (x y : Nat) (s : State) : SafeKept s (takeShrink x y s) := by
  dsimp only [takeShrink]
  split
  · exact .refl s
  · split
    · exact takeRelease_safeKept s
    next c hc =>
      have h : SafeKept s (endPending (setHeld (some (standingWithin s.cfg c x y)) s)) :=
        (setHeld_safeKept fun hn => by simp [hc] at hn).trans (endPending_safeKept _)
      split
      · exact h
      · exact h.trans (offerSafety_safeKept ..)

theorem setDoubt_safeKept (s : State) : SafeKept s (setDoubt s) :=
  .onScu (windowSafe_congr (.inl rfl) rfl) fun _ hr => by
    obtain ⟨h1, h2, -, h4⟩ := hr
    exact ⟨h1, h2, rfl, h4⟩

theorem selfVoid_safeKept (s : State) : SafeKept s (selfVoid s) :=
  (dropPending_safeKept s).trans ((setDoubt_safeKept _).trans (reportVoid_safeKept _))

theorem mapChanged_safeKept (s : State) : SafeKept s (mapChanged s) := by
  dsimp only [mapChanged]
  have h : SafeKept s (s.onMsq fun m => { m with spaceEvent := true }) := .onMsq rfl
  split
  · exact h.trans (selfVoid_safeKept _)
  · exact h

/-! ## OFFLINE -/

theorem goOffline_blockKept (code : Nat) (h : s.StimulusSafe → s.meu.stimulus = .off) :
    BlockKept s (goOffline code s) := by
  have h1 := (filterSafety_safeKept (fun f => !isJoinFrame f) s).toBlockKept
  dsimp only [goOffline]
  refine h1.trans (BlockKept.trans (SafeKept.toBlockKept (.of_lif rfl ?_)) ((BlockKept.onScu fun _ => windowSafe_of_none rfl).trans
    ((BlockKept.turn ?_).trans (BlockKept.onStc _))))
  · refine .of_fewer rfl rfl rfl (.refl _) (.refl _) (.inl rfl) (.refl _) (.refl _) fun x hx => ?_
    simp only [State.onLif_lif, Option.map_eq_some_iff] at hx
    obtain ⟨y, hy, rfl⟩ := hx
    exact ⟨y, hy, fun hr => by simp [hr], fun hd => by simp [hd], rfl⟩
  · exact h

/-- A head without membership and fence is well OFFLINE. -/
theorem goOffline_headSafe (code : Nat) (h : s.rvu.Idle) (hf : s.flu.fence = .noFence) : (goOffline code s).HeadSafe := by
  obtain ⟨hc, hn⟩ := h
  refine ⟨fun _ => ⟨rfl, hc, hn, rfl, rfl, rfl, rfl, rfl, hf⟩, ?_, ?_, ?_⟩ <;> simp [goOffline]

/-- The head goes OFFLINE, from JOINING or without membership, fence and stimulus. -/
theorem goOffline_safeKept (code : Nat)
    (h : s.msq.motion = .joining ∨ s.rvu.Idle ∧ s.flu.fence = .noFence ∧ s.meu.stimulus = .off) :
    SafeKept s (goOffline code s) where
  toBlockKept := goOffline_blockKept code fun hs =>
    h.elim (fun hm => hs.off (by simp [hm])) fun hi => hi.2.2
  fence := id
  head hh := by
    rcases h with hm | ⟨hi, hf, -⟩
    · obtain ⟨-, -, hj, -⟩ := hh
      obtain ⟨hc, hn, hf⟩ := hj hm
      exact goOffline_headSafe code ⟨hc, hn⟩ hf
    · exact goOffline_headSafe code hi hf

theorem startFault_safeKept (code : Nat)
    (h : s.msq.motion = .joining ∨ s.rvu.Idle ∧ s.flu.fence = .noFence ∧ s.meu.stimulus = .off) :
    SafeKept s (startFault code s) :=
  (recordFault_safeKept code s).trans (goOffline_safeKept code h)

/-! ## Drive commands and the freeze -/

theorem sendCommand_safeKept (o : DriveOrder) (s : State) : SafeKept s (sendCommand o s) := .onMsq rfl

theorem freeze_safeKept (h : s.MayTurn) : SafeKept s (freeze s) :=
  (SafeKept.turn h rfl).trans (sendCommand_safeKept ..)

theorem haltFreeze_safeKept (h : s.msq.motion.moves = true) : SafeKept s (haltFreeze s) :=
  (meuAbort_safeKept s).trans <| (endMembers_safeKept rfl).trans <|
    (freeze_safeKept (mayTurn_of_off (by simpa using h) rfl)).trans (withdrawClaim_safeKept _)

theorem silenceScu_safeKept (s : State) : SafeKept s (silenceScu s) := by
  refine .onScu (windowSafe_congr ?_ rfl) fun _ hr => ?_
  · dsimp only [State.onScu_scu]
    (repeat' split) <;> simp_all
  · obtain ⟨h1, h2, h3, h4, h5⟩ := hr
    exact ⟨h1, by simp [h2], h3, by simp [h4], h5⟩

theorem freezeForFence_blockKept (h : s.meu.stimulus = .off) : BlockKept s (freezeForFence s) := by
  unfold freezeForFence
  split
  · exact .refl s
  · exact .refl s
  · exact (SafeKept.onMsq rfl).toBlockKept
  · exact (BlockKept.turn fun _ => h).trans (sendCommand_safeKept ..).toBlockKept

/-- LIF falls silent with a FAULT frame as its only one. -/
theorem lifSilence_blockKept (c m : Nat) (q : MotionState) (j : Nat) (s : State) :
    BlockKept s (lifSilence (.fault c m q j) s) where
  fault := id
  counters := id
  work _ := by simp [State.WorkQueueSafe, lifSilence, pushWork, emptyQueues]
  silent _ _ := by
    refine ⟨rfl, rfl, rfl, ?_, nofun, fun t ht => ?_⟩
    · simp [lifSilence, pushWork, emptyQueues, TxFrame.silentOk]
    · simp only [lifSilence, pushWork, emptyQueues, State.onLif_lif, detachTx, Option.map_eq_some_iff] at ht
      obtain ⟨x, -, rfl⟩ := ht
      exact ⟨rfl, .inl rfl⟩
  window := id
  table := id
  stimulus := id

@[simp] theorem meuAbort_stimulus (s : State) : (meuAbort s).meu.stimulus = .off := rfl

theorem silentFence_blockKept (mode code : Nat) (s : State) : BlockKept s (silentFence mode code s) := by
  dsimp only [silentFence]
  refine BlockKept.trans (meuAbort_safeKept s).toBlockKept (BlockKept.trans (lifSilence_blockKept ..)
    (BlockKept.trans (endMembers_safeKept ?_).toBlockKept (BlockKept.trans (silenceScu_safeKept _).toBlockKept
      (BlockKept.trans (SafeKept.onRvu_same rfl rfl rfl).toBlockKept (BlockKept.trans (freezeForFence_blockKept ?_)
        (BlockKept.trans (BlockKept.onStc _) (BlockKept.onFlu id id)))))))
  · rfl
  · rfl

theorem silentFence_fenceSafe (mode code : Nat) (s : State) : (silentFence mode code s).FenceSafe := by
  dsimp only [silentFence]
  constructor
  · simp [endMembers, releaseReadings, lifSilence, pushWork]
  · simp only [State.onFlu_flu, State.onStc_flu, freezeForFence_flu, State.onRvu_flu, silenceScu_flu, endMembers_flu,
      lifSilence_flu, meuAbort_flu]
    by_cases h : mode = 3 <;> simp [h]

end Sys2Proof.Machine
end

section
/-! SUPPORT. Fences, abandonment and the restart keep the safety conditions. -/

namespace Sys2Proof.Machine

open Sys2Proof

variable {s t u : State}

/-! ## Fences of mode 2 and 3 -/

/-- The freeze of a fence leaves a head that moves in FROZEN. -/
theorem freezeForFence_motion (h : s.msq.motion.moves = true) : (freezeForFence s).msq.motion = .frozen := by
  unfold freezeForFence
  split <;> simp_all [MotionState.moves, freeze, sendCommand]

theorem silentFence_motion (mode code : Nat) (h : s.msq.motion.moves = true) :
    (silentFence mode code s).msq.motion = .frozen := by
  dsimp only [silentFence]
  exact freezeForFence_motion (by simpa using h)

theorem silentFence_selfTesting (mode code : Nat) (s : State) :
    (silentFence mode code s).stc.selfTesting = s.stc.selfTesting := by
  simp [silentFence]

theorem silentFence_safeKept (mode code : Nat) (h : s.msq.motion.moves = true) :
    SafeKept s (silentFence mode code s) where
  toBlockKept := silentFence_blockKept mode code s
  fence _ := silentFence_fenceSafe mode code s
  head hh := hh.of_moves h (by rw [silentFence_motion _ _ h]; rfl) (silentFence_stc_join ..)
    (by rw [silentFence_selfTesting]; exact id)

theorem takeFault3_safeKept (code : Nat) (s : State) : SafeKept s (takeFault3 code s) := by
  refine (recordFault_safeKept code s).trans ?_
  dsimp only [takeFault3]
  split
  · exact .refl _
  next hm => exact goOffline_safeKept code (.inl hm)
  · split
    · exact .refl _
    · exact silentFence_safeKept 3 code (MotionState.moves_iff.2 ⟨by assumption, by assumption⟩)

/-! ## Drive commands -/

theorem sendMove_safeKept (x y z : Nat) (p : Profile) (s : State) : SafeKept s (sendMove x y z p s) := by
  unfold sendMove
  split
  · exact sendCommand_safeKept ..
  · exact takeFault3_safeKept ..

theorem enterLift_safeKept (h : s.MayTurn) : SafeKept s (enterLift s) :=
  (SafeKept.turn h rfl).trans (sendMove_safeKept ..)

/-! ## Abandonment -/

theorem msqAbandon_safeKept (s : State) : SafeKept s (msqAbandon s) := by
  dsimp only [msqAbandon]
  have lift (h : s.msq.motion.moves = true) : SafeKept s (enterLift (meuAbort s)) :=
    (meuAbort_safeKept s).trans (enterLift_safeKept (mayTurn_of_off (by simpa using h) rfl))
  split
  next hm =>
    have h : SafeKept s (withdrawClaim (s.onMsq fun m => { m with spaceWait := none, spaceExpired := false })) :=
      (SafeKept.onMsq rfl).trans (withdrawClaim_safeKept _)
    split
    · exact h.trans (idleOrParked_safeKept (mayTurn_of_motion (by simp [hm, MotionState.moves]) (by simp [hm])))
    · exact h.trans (.onMsq rfl)
  next hm => exact idleOrParked_safeKept (mayTurn_of_motion (by rw [hm]; rfl) (by simp [hm]))
  · exact .onMsq rfl
  next hm => exact lift (by rw [hm]; rfl)
  next hm => exact lift (by rw [hm]; rfl)
  next hm => exact lift (by rw [hm]; rfl)
  next hm => exact lift (by rw [hm]; rfl)
  · exact .refl s

/-- A membership ends with the measurement it may have been in. -/
theorem endMember_meuAbort_safeKept (job : Nat) (s : State) :
    SafeKept s (meuAbort ((endMember job s).onMsq fun q => { q with waiting := none })) := by
  have h1 : SafeKept s (s.onMeu fun _ => Meu.powerOn) := .onMeu (.inl rfl)
  have h2 := endMember_safeKept (s := s.onMeu fun _ => Meu.powerOn) (job := job) fun _ => .inl rfl
  have h3 := meuAbort_safeKept ((endMember job (s.onMeu fun _ => Meu.powerOn)).onMsq fun q => { q with waiting := none })
  exact h1.trans (h2.trans (SafeKept.trans (.onMsq rfl) h3))

theorem abandonMember_safeKept (job : Nat) (s : State) : SafeKept s (abandonMember job s) := by
  unfold abandonMember
  split
  · next m hc =>
    split
    · by_cases hm : s.msq.motion = .measure
      · have hx : msqAbandon ((endMember job s).onMsq fun q => { q with waiting := none }) =
            enterLift (meuAbort ((endMember job s).onMsq fun q => { q with waiting := none })) := by
          simp [msqAbandon, hm]
        rw [hx]
        exact (endMember_meuAbort_safeKept job s).trans
          (enterLift_safeKept (mayTurn_of_off (by simp [hm, MotionState.moves]) rfl))
      · have hend : SafeKept s (endMember job s) := endMember_safeKept fun hs => .inl (hs.off hm)
        exact hend.trans (SafeKept.trans (.onMsq rfl) (msqAbandon_safeKept _))
    next hj =>
      refine endMember_safeKept fun _ => .inr fun m' hm' => ?_
      cases hc.symm.trans hm'
      exact hj
  · exact .refl s

theorem dropMember_safeKept (job : Nat) (r : DropReason) (lost : Nat) (s : State) :
    SafeKept s (dropMember job r lost s) :=
  (offerWork_safeKept ..).trans (abandonMember_safeKept ..)

theorem abandonAll_safeKept (s : State) : SafeKept s (abandonAll s) := .foldl (fun _ _ => abandonMember_safeKept ..) _ _

/-! ## Fences of mode 0 and 1, and the remaining faults -/

/-- A fence of mode 0 or 1 begins, its fence state and the mode 1 frames it awaits. -/
theorem beginFence_safeKept {g : Flu → Flu} (h : s.msq.motion.moves = true) (hf : s.flu.fence = .noFence)
    (hh : (g s.flu).haltDrive = s.flu.haltDrive) (hr : (g s.flu).record = s.flu.record) (hn : (g s.flu).faultN = s.flu.faultN)
    (hc : (g s.flu).count = s.flu.count) (m : Nat) (hg : (g s.flu).fence = .acting m) : SafeKept s (s.onFlu g) where
  toBlockKept := .onFlu (by rw [hr, hn]; exact id) (by rw [hc]; exact id)
  fence := by simp [State.FenceSafe, hf, hh, hg]
  head hh := hh.of_moves h h rfl id

theorem reportFence_safeKept (mode code : Nat) (h : s.msq.motion.moves = true) (hf : s.flu.fence = .noFence) :
    SafeKept s (reportFence mode code s) := by
  dsimp only [reportFence]
  refine (meuAbort_safeKept s).trans (SafeKept.trans (beginFence_safeKept (by simpa using h) (by simpa using hf) rfl rfl rfl rfl
    mode rfl) ((offerWork_safeKept _ _).trans (.foldl (fun _ _ => dropMember_safeKept ..) _ _)))

theorem enterFence_safeKept (code : Nat) (h : s.msq.motion.moves = true) (hf : s.flu.fence = .noFence) :
    SafeKept s (enterFence code s) := by
  dsimp only [enterFence]
  split
  · exact reportFence_safeKept _ _ h hf
  · exact silentFence_safeKept _ _ h

/-! ## Restart -/

theorem enterJoining_blockKept (h : s.meu.stimulus = .off) : BlockKept s (enterJoining s) := by
  dsimp only [enterJoining]
  exact (BlockKept.turn fun _ => h).trans ((setDoubt_safeKept _).toBlockKept.trans (BlockKept.onStc _))

/-- A head without membership and fence joins well. -/
theorem enterJoining_headSafe (h : s.rvu.Idle) (hf : s.flu.fence = .noFence) : (enterJoining s).HeadSafe := by
  obtain ⟨hc, hn⟩ := h
  refine ⟨nofun, ?_, fun _ => ⟨hc, hn, hf⟩, nofun⟩
  simp [enterJoining, setDoubt]

theorem enterJoining_safeKept (h : s.rvu.Idle) (hf : s.flu.fence = .noFence) (hs : s.meu.stimulus = .off) :
    SafeKept s (enterJoining s) where
  toBlockKept := enterJoining_blockKept hs
  fence := id
  head _ := enterJoining_headSafe h hf

theorem beginSelfTest_safeKept (h : s.msq.motion = .offline) : SafeKept s (beginSelfTest s) where
  toBlockKept := .onStc _
  fence := id
  head := by
    rintro ⟨ho, hw, hj, -⟩
    exact ⟨ho, hw, hj, fun _ => h⟩

@[simp] theorem clearDynamic_motion (s : State) : (clearDynamic s).msq.motion = s.msq.motion := rfl
@[simp] theorem clearDynamic_fence (s : State) : (clearDynamic s).flu.fence = .noFence := rfl
@[simp] theorem clearDynamic_meu (s : State) : (clearDynamic s).meu = Meu.powerOn := rfl

theorem clearDynamic_safeKept (s : State) : SafeKept s (clearDynamic s) where
  fault := id
  counters := by
    simp only [countersSafe_iff, Lif.InRange]
    rintro ⟨⟨h1, h2, h3, h4, h5, h6, -⟩, h8⟩
    exact ⟨⟨h1, h2, h3, h4, h5, h6, Nat.zero_le 16⟩, h8⟩
  work _ := Nat.zero_le 8
  silent _ hs := nomatch hs
  window _ := windowSafe_of_none rfl
  table _ := ⟨Nat.zero_le 24, .nil, .nil, .nil, fun _ he => nomatch he⟩
  stimulus _ := ⟨fun hs => absurd rfl hs, fun _ hn => nomatch hn⟩
  fence _ := by constructor <;> simp [clearDynamic]
  head := by
    rintro ⟨ho, hw, -, ht⟩
    refine ⟨offlineSafe_iff.2 fun hm => ⟨rfl, ⟨rfl, rfl⟩, ?_, rfl⟩, hw, fun _ => ⟨rfl, rfl, rfl⟩, ht⟩
    obtain ⟨-, -, -, -, -, hd, -⟩ := ho hm
    exact ⟨rfl, rfl, hd, by simp [clearDynamic, show s.msq.motion = .offline from hm], rfl⟩

theorem clearPhase_safeKept (failed : Bool) (prom : Option (List Byte)) (s : State) :
    SafeKept s (clearPhase failed prom s) := by
  dsimp only [clearPhase]
  refine (clearDynamic_safeKept s).trans ?_
  have hi : (clearDynamic s).rvu.Idle ∧ (clearDynamic s).flu.fence = .noFence ∧ (clearDynamic s).meu.stimulus = .off :=
    ⟨⟨rfl, rfl⟩, rfl, rfl⟩
  split
  next ha =>
    have hm : s.msq.motion = .offline := by simp_all [State.rereads]
    split
    · exact SafeKept.trans (.onStc_same rfl rfl rfl) (startFault_safeKept _ (.inr hi))
    · exact SafeKept.trans (.onStc_same rfl rfl rfl) (beginSelfTest_safeKept (by simpa using hm))
  · split
    · exact goOffline_safeKept _ (.inr hi)
    · exact enterJoining_safeKept hi.1 hi.2.1 hi.2.2

/-- A fence of mode 0 or 1 goes over to the restart. -/
theorem restarting_safeKept (s : State) : SafeKept s (s.onFlu fun u =>
    { u with restartWait := none
             fence := match u.fence with | .acting _ | .restartWait => .restarting | f => f }) where
  toBlockKept := .onFlu id id
  fence := by
    simp only [State.FenceSafe, State.onFlu_flu, State.onFlu_lif]
    cases s.flu.fence <;> simp
  head := by
    rintro ⟨ho, hw, hj, ht⟩
    refine ⟨offlineSafe_iff.2 fun hm => ?_, hw, fun hm => ?_, ht⟩
    · obtain ⟨hb, hi, hr, hf⟩ := offlineSafe_iff.1 ho hm
      exact ⟨hb, hi, hr, by simp [hf]⟩
    · obtain ⟨hc, hn, hf⟩ := hj hm
      exact ⟨hc, hn, by simp [hf]⟩

/-- What a restart does before it is known whether the tip has to be lifted (R46, R166, R184). -/
def restartBegun (s : State) : State :=
  ((releaseReadings (meuAbort s)).onFlu fun u =>
    { u with restartWait := none
             fence := match u.fence with | .acting _ | .restartWait => .restarting | f => f }).onLif fun l =>
    { l with deafness := none }

/-- A restart clears at once, or lifts first (R47). -/
theorem startRestart_eq (prom : Option (List Byte)) (s : State) : startRestart prom s =
    if s.msq.motion = .joining ∨ s.msq.motion = .offline ∨ s.cfg.zt ≤ s.tipZ then clearPhase false prom (restartBegun s)
    else sendCommand (.move s.tipX s.tipY s.cfg.zt .lift) (((restartBegun s).onStc fun c =>
      { c with restart := .lifting, restartLift := some restartLiftTime }).onMsq fun m => { m with motion := .lift }) :=
  rfl

theorem restartBegun_safeKept (s : State) : SafeKept s (restartBegun s) :=
  (meuAbort_safeKept s).trans <| (releaseReadings_safeKept _).trans <| (restarting_safeKept _).trans <|
    .of_lif_same rfl rfl rfl rfl rfl rfl rfl rfl rfl rfl

theorem startRestart_safeKept (prom : Option (List Byte)) (s : State) : SafeKept s (startRestart prom s) := by
  rw [startRestart_eq]
  refine (restartBegun_safeKept s).trans ?_
  split
  · exact clearPhase_safeKept ..
  next hm =>
    have hmoves : s.msq.motion.moves = true := by
      simp only [not_or] at hm
      exact MotionState.moves_iff.2 ⟨hm.2.1, hm.1⟩
    refine SafeKept.trans (.onStc_same rfl rfl rfl) (SafeKept.trans (.turn ?_ rfl) (sendCommand_safeKept ..))
    exact mayTurn_of_off hmoves rfl

theorem takeFault_safeKept (code : Nat) (s : State) : SafeKept s (takeFault code s) := by
  refine (recordFault_safeKept code s).trans ?_
  dsimp only [takeFault]
  split
  · exact .refl _
  next hm => exact goOffline_safeKept code (.inl hm)
  · have hmoves := MotionState.moves_iff.2 ⟨‹(recordFault code s).msq.motion = .offline → False›, by assumption⟩
    (repeat' split)
    · exact clearPhase_safeKept ..
    · exact .refl _
    · exact enterFence_safeKept code hmoves (by assumption)
    · exact .refl _

/-! ## The end of the join -/

theorem startDeafness_safeKept (s : State) : SafeKept s (startDeafness s) :=
  .of_lif_same rfl rfl rfl rfl rfl rfl rfl rfl rfl rfl

theorem completeJoin_blockKept (s : State) : BlockKept s (completeJoin s) :=
  (BlockKept.onStc _).trans (startDeafness_safeKept _).toBlockKept

theorem startConflict_safeKept (s : State) : SafeKept s (startConflict s) := by
  refine (recordFault_safeKept 0x04 s).trans ?_
  dsimp only [startConflict]
  split
  · exact .refl _
  next hm =>
    have hb := (completeJoin_blockKept (recordFault 0x04 s)).trans (silentFence_blockKept (s.effectiveMode 4) 4 _)
    refine ⟨hb.trans (.turn fun _ => ?_), fun _ => ?_, fun hh => hh.of_joined hm rfl ?_ ?_⟩
    · simp [silentFence]
    · exact silentFence_fenceSafe ..
    · simp [completeJoin]
    · simp [silentFence_selfTesting, completeJoin]
  · have hmoves := MotionState.moves_iff.2 ⟨‹(recordFault 4 s).msq.motion = .offline → False›, by assumption⟩
    (repeat' split)
    · exact .refl _
    · exact silentFence_safeKept _ _ hmoves
    · exact .refl _

end Sys2Proof.Machine
end

section
/-! SUPPORT. The blocks' own action after a command, and the reception of a frame, keep the safety conditions. -/

namespace Sys2Proof.Machine

open Sys2Proof

variable {s t u : State} {k : Kind} {f : RxFrame}

/-! ## Corridors -/

/-- A claim that is queued stands in no window. -/
theorem queuePending_safeKept (c : Claim) (h : s.msq.motion ≠ .offline) :
    SafeKept s (s.onScu fun x => { x with pending := some { claim := c, stage := .queued } }) := by
  refine .onScu (fun _ p o w hp hw => ?_) fun hm => absurd hm h
  cases hp
  simp at hw

theorem queueClaim_safeKept (c : Claim) (h : s.msq.motion ≠ .offline) : SafeKept s (queueClaim c s) :=
  (queuePending_safeKept c h).trans (offerSafety_safeKept ..)

theorem moves_ne_offline (h : s.msq.motion.moves = true) : s.msq.motion ≠ .offline := (MotionState.moves_iff.1 h).1

theorem askTravel_safeKept (h : s.msq.motion.moves = true) (hm : s.msq.motion ≠ .measure) : SafeKept s (askTravel s) := by
  dsimp only [askTravel]
  split
  · exact enterWaitSpace_safeKept (mayTurn_of_motion h hm)
  · exact (queueClaim_safeKept _ (moves_ne_offline h)).trans
      (.turn (mayTurn_of_motion (by simpa using h) (by simpa using hm)) rfl)

theorem askPark_safeKept (h : s.msq.motion.moves = true) : SafeKept s (askPark s) := by
  dsimp only [askPark]
  split
  · exact .onMsq rfl
  · exact (queueClaim_safeKept _ (moves_ne_offline h)).trans (.onMsq rfl)

/-! ## The steps of the blocks' own action -/

theorem settleHalt_safeKept (s : State) : SafeKept s (settleHalt s) := by
  unfold settleHalt
  split
  next h =>
    refine haltFreeze_safeKept ?_
    cases hm : s.msq.motion <;> simp_all [MotionState.haltActs, MotionState.moves]
  · exact .refl s

theorem settleClaim_safeKept (s : State) : SafeKept s (settleClaim s) := by
  unfold settleClaim
  split
  · exact withdrawAndReport_safeKept s
  · exact .refl s

/-- The action of a fence of mode 0 or 1 ends; a head in it is neither OFFLINE nor joining. -/
theorem endAction_safeKept {g : Flu → Flu} {m : Nat} (hf : s.flu.fence = .acting m)
    (hg : (g s.flu).fence = .noFence ∨ (g s.flu).fence = .restartWait) (hh : (g s.flu).haltDrive = s.flu.haltDrive)
    (hr : (g s.flu).record = s.flu.record) (hn : (g s.flu).faultN = s.flu.faultN) (hc : (g s.flu).count = s.flu.count) :
    SafeKept s (s.onFlu g) where
  toBlockKept := .onFlu (by rw [hr, hn]; exact id) (by rw [hc]; exact id)
  fence := by rcases hg with hg | hg <;> simp [State.FenceSafe, hf, hh, hg]
  head := by
    rintro ⟨ho, hw, hj, ht⟩
    refine ⟨offlineSafe_iff.2 fun hm => ?_, hw, fun hm => ?_, ht⟩
    · obtain ⟨-, -, -, hx⟩ := offlineSafe_iff.1 ho hm
      simp [hf] at hx
    · obtain ⟨-, -, hx⟩ := hj hm
      simp [hf] at hx

theorem settleAction_safeKept (s : State) : SafeKept s (settleAction s) := by
  unfold settleAction
  (repeat' split)
  next hf _ _ => exact endAction_safeKept hf (.inl rfl) rfl rfl rfl rfl
  next hf _ _ => exact endAction_safeKept hf (.inr rfl) rfl rfl rfl rfl
  · exact .refl s
  · exact .refl s

theorem settleRestart_safeKept (s : State) : SafeKept s (settleRestart s) := by
  unfold settleRestart
  split
  · exact startRestart_safeKept ..
  · exact .refl s

theorem settlePlacing_safeKept (s : State) : SafeKept s (settlePlacing s) := by
  dsimp only [settlePlacing]
  (repeat' split)
  · exact .refl s
  · exact startConflict_safeKept s
  next h _ => exact queueClaim_safeKept _ fun hm => by simp [hm] at h
  · exact .refl s

theorem settleHandover_safeKept (s : State) : SafeKept s (settleHandover s) := by
  unfold settleHandover
  split
  next m hm =>
    (repeat' split)
    next h _ _ _ =>
      refine SafeKept.trans (.onRvu rfl (fun hs => ?_) fun _ hi => ?_) (.onMsq rfl)
      · refine StimulusSafe_of_members hs rfl rfl (fun m' hm' => ⟨_, rfl, ?_, fun hn => ?_⟩) fun n hn => ⟨n, hn, rfl, id⟩
        · cases hm.symm.trans hm'
          rfl
        · obtain ⟨-, -, m'', h1, h2⟩ := hs.1 hn
          cases hm.symm.trans h1
          simp [h2] at h
      · simp [hi.1] at hm
    · exact .refl s
    · exact .refl s
  · exact .refl s

theorem settleServe_safeKept (s : State) : SafeKept s (settleServe s) := by
  unfold settleServe
  (repeat' split)
  next h =>
    refine SafeKept.trans (.onMsq rfl) (askTravel_safeKept ?_ ?_) <;>
      rcases h with h | ⟨h, -⟩ <;> simp [h, MotionState.moves]
  · exact .refl s
  · exact .refl s

theorem settleIdle_safeKept (s : State) : SafeKept s (settleIdle s) := by
  unfold settleIdle
  split
  next h =>
    split
    · exact SafeKept.trans (.turn (mayTurn_of_motion (by rw [h]; rfl) (by simp [h])) rfl) (askPark_safeKept rfl)
    · exact .onMsq rfl
  · exact .onMsq rfl

theorem settleSpace_safeKept (s : State) : SafeKept s (settleSpace s) := by
  dsimp only [settleSpace]
  have h0 : SafeKept s (s.onMsq fun m => { m with spaceEvent := false }) := .onMsq rfl
  (repeat' split)
  next h => exact h0.trans (askTravel_safeKept (by rw [h]; rfl) (by rw [h]; decide))
  next h _ => exact h0.trans (askPark_safeKept (by rw [h]; rfl))
  · exact h0
  · exact h0
  · exact .refl s

theorem offerTake_safeKept (c : Candidate) (b : Bool) (s : State) : SafeKept s (offerTake c b s) :=
  SafeKept.trans (.onRvu_same rfl rfl rfl) (offerWork_safeKept ..)

theorem settleTake_safeKept (s : State) : SafeKept s (settleTake s) := by
  unfold settleTake
  (repeat' split)
  · exact offerTake_safeKept ..
  · exact offerTake_safeKept ..
  · exact .refl s
  · exact .refl s

/-- A census is pending at a head that may offer one. -/
theorem pendCensus_safeKept (h : s.msq.motion ≠ .offline) :
    SafeKept s (s.onScu fun c => { c with censusPending := true }) :=
  .onScu (windowSafe_congr (.inl rfl) rfl) fun hm => absurd hm h

theorem settleCensus_safeKept (s : State) : SafeKept s (settleCensus s) := by
  unfold settleCensus
  split
  next h => exact (pendCensus_safeKept (by simp_all [State.mayOffer])).trans (offerSafety_safeKept ..)
  · exact .refl s

/-- The blocks' own action keeps every safety condition. -/
theorem settle_safeKept (s : State) : SafeKept s (settle s) := by
  unfold settle
  split
  · exact SafeKept.trans (.onMsq rfl) (regap_safeKept _)
  · exact (settleHalt_safeKept _).trans <| (settleClaim_safeKept _).trans <| (settleAction_safeKept _).trans <|
      (settleRestart_safeKept _).trans <| (settlePlacing_safeKept _).trans <| (settleHandover_safeKept _).trans <|
      (settleServe_safeKept _).trans <| (settleIdle_safeKept _).trans <| (settleSpace_safeKept _).trans <|
      (settleTake_safeKept _).trans <| (settleCensus_safeKept _).trans (regap_safeKept _)

/-! ## Reception -/

theorem unlessLift_safeKept {act : State → State} (h : SafeKept s (act s)) : SafeKept s (unlessLift act s) := by
  unfold unlessLift
  split
  · exact .refl s
  · exact h

theorem hearOther_safeKept (s : State) : SafeKept s (hearOther s) := by
  unfold hearOther
  split
  · exact startDeafness_safeKept s
  · exact .refl s

theorem hearPresence_safeKept (n : Nat) (s : State) : SafeKept s (hearPresence n s) := by
  dsimp only [hearPresence]
  split
  · exact (updRoster_safeKept ..).trans (.onStc_same rfl rfl rfl)
  · exact updRoster_safeKept ..

theorem storeSide_safeKept (k : Kind) (f : RxFrame) (s : State) : SafeKept s (storeSide k f s) := by
  unfold storeSide
  (repeat' split) <;> first | exact updRoster_safeKept .. | exact .refl s

theorem moveTracker_safeKept (k : Kind) (n : Nat) (s : State) : SafeKept s (moveTracker k n s) := by
  unfold moveTracker
  (repeat' split)
  · exact .of_lif_same rfl rfl rfl rfl rfl rfl rfl rfl rfl rfl
  · exact .refl s
  · exact .refl s

theorem frameEnd_safeKept (own : Bool) (s : State) : SafeKept s (frameEnd own s) :=
  .of_lif_same rfl rfl rfl rfl rfl rfl rfl rfl rfl rfl

theorem markHeard_safeKept (s : State) : SafeKept s (markHeard s) := by
  refine .of_lif rfl <| .of_fewer rfl rfl rfl (.refl _) (.refl _) (.inl rfl) (.refl _) (.refl _) fun x hx => ?_
  simp only [markHeard, State.onLif_lif, Option.map_eq_some_iff] at hx
  obtain ⟨y, hy, rfl⟩ := hx
  exact ⟨y, hy, id, id, rfl⟩

theorem received_safeKept (k : Kind) (f : RxFrame) (s : State) : SafeKept s (received k f s) := by
  dsimp only [received]
  have h : SafeKept s (moveTracker k f.src.toNat (frameEnd (s.isOwn f) (logErrors k f s))) :=
    (logErrors_safeKept ..).trans ((frameEnd_safeKept ..).trans (moveTracker_safeKept ..))
  (repeat' split)
  · exact h.trans (markHeard_safeKept _)
  · exact h
  · exact h.trans ((hearPresence_safeKept ..).trans ((hearOther_safeKept _).trans (storeSide_safeKept ..)))
  · exact h.trans (storeSide_safeKept ..)

theorem refuse_safeKept (b : Bool) (k : Kind) (f : RxFrame) (s : State) : SafeKept s (refuse b k f s) := by
  unfold refuse
  split
  · exact placeAnswer_safeKept ..
  · exact .refl s

theorem checkCode_safeKept {act : State → State} (h : ∀ s, SafeKept s (act s)) (s : State) :
    SafeKept s (checkCode k f act s) := by
  unfold checkCode
  (repeat' split)
  · exact countDiscard_safeKept s
  · exact h s
  · exact (countDiscard_safeKept s).trans (refuse_safeKept ..)
  · exact h s

theorem checkFrame_safeKept {act : State → State} (h : ∀ s, SafeKept s (act s)) (s : State) :
    SafeKept s (checkFrame k f act s) := by
  unfold checkFrame
  (repeat' split)
  · exact checkCode_safeKept h s
  · exact countDiscard_safeKept s
  · exact countDiscard_safeKept s
  · exact .refl s

/-- A frame that reaches its frame end keeps the safety conditions where its own effect does. -/
theorem hear_safeKept {act : State → State} (h : ∀ s, SafeKept s (act s)) (s : State) : SafeKept s (hear k f act s) := by
  unfold hear
  (repeat' split)
  · exact (received_safeKept ..).trans (takeFault3_safeKept ..)
  · exact (received_safeKept ..).trans (checkFrame_safeKept h _)
  · exact .refl s

/-! ## Lost frames, transmission -/

theorem frameLost_safeKept (s : State) : SafeKept s (frameLost s) := unlessLift_safeKept (setDoubt_safeKept s)

theorem frameBroke_safeKept (s : State) : SafeKept s (frameBroke s) := by
  refine (frameLost_safeKept _).after (.of_lif rfl (.of_counters rfl ?_ rfl rfl rfl rfl rfl (.inl rfl)))
  simp only [Lif.InRange, State.onCounters, State.onLif_lif]
  grind [saturate16_le]

theorem takeQuiet_safeKept (s : State) : SafeKept s (takeQuiet s) := by
  dsimp only [takeQuiet]
  have h (t : State) : SafeKept t ((t.onLif fun l => { l with receiver := .idle, readbackDue := false, burst := none }).onLif
      fun l => { l with gap := (t.onLif fun l => { l with receiver := .idle, readbackDue := false, burst := none }).gapNow }) :=
    .of_lif_same rfl rfl rfl rfl rfl rfl rfl rfl rfl rfl
  (repeat' split)
  · exact .refl s
  · exact (frameBroke_safeKept s).trans (h _)
  · exact h s

theorem takeNoise_safeKept (s : State) : SafeKept s (takeNoise s) := by
  unfold takeNoise
  split
  · exact .of_lif_same rfl rfl rfl rfl rfl rfl rfl rfl rfl rfl
  · exact .refl s

theorem takeFollow_safeKept (s : State) : SafeKept s (takeFollow s) := by
  unfold takeFollow
  split
  · exact .of_lif_same rfl rfl rfl rfl rfl rfl rfl rfl rfl rfl
  · exact .refl s

theorem takeSync_safeKept (s : State) : SafeKept s (takeSync s) := by
  unfold takeSync
  (repeat' split)
  · exact .refl s
  · exact takeFollow_safeKept s
  · exact .of_lif_same rfl rfl rfl rfl rfl rfl rfl rfl rfl rfl
  · exact takeFollow_safeKept s

theorem takeGapEnd_safeKept (s : State) : SafeKept s (takeGapEnd s) := by
  unfold takeGapEnd
  (repeat' split)
  next h => exact startTx_safeKept _ h
  · exact .refl s
  · exact .refl s

theorem takeBurstGapEnd_safeKept (s : State) : SafeKept s (takeBurstGapEnd s) := by
  unfold takeBurstGapEnd
  (repeat' split)
  next h => exact startTx_safeKept _ h
  · exact .refl s
  · exact .of_lif_same rfl rfl rfl rfl rfl rfl rfl rfl rfl rfl
  · exact .refl s

theorem loseDetached_safeKept (f : TxFrame) (s : State) : SafeKept s (loseDetached f s) := by
  unfold loseDetached
  split
  · exact .onRvu_same rfl rfl rfl
  · refine .onScu (windowSafe_congr (.inl rfl) rfl) fun _ hr => ?_
    obtain ⟨h1, h2, h3, -, h5⟩ := hr
    exact ⟨h1, h2, h3, rfl, h5⟩
  · exact .onScu (windowSafe_congr (.inl rfl) rfl) fun _ hr => hr
  · exact .refl s

theorem loseClaim_safeKept (f : TxFrame) (r : Option TxFrame) (s : State) : SafeKept s (loseClaim f r s) := by
  have h : SafeKept s (reportVoid (s.onScu fun c => { c with pending := none })) :=
    (dropPending_safeKept s).trans (reportVoid_safeKept _)
  unfold loseClaim
  (repeat' split) <;> first | exact h | exact .refl s

/-- LIF as a collision leaves it, before the frame's place is looked at. -/
def collidedLif (l : Lif) : Lif :=
  { l with tx := none, k := min (l.k + 1) 16, receiver := .waitQuiet, burst := none, gap := none
           counters := { l.counters with collisions := saturate16 l.counters.collisions } }

theorem collidedLif_inRange {l : Lif} (h : l.InRange) : (collidedLif l).InRange := by
  revert h
  simp only [Lif.InRange, collidedLif]
  grind [saturate16_le]

theorem collidedLif_kept (l : Lif) : LifKept l (collidedLif l) :=
  .of_counters rfl collidedLif_inRange rfl rfl rfl rfl rfl (.inr rfl)

/-- What a collision does, step by step. -/
theorem takeCollision_eq {x : Tx} (h : s.lif.tx = some x) : takeCollision s =
    if s.lif.k == 15 then takeFault 0x05 (frameLost (settleCollided x (s.onLif collidedLif)))
    else frameLost (settleCollided x (s.onLif collidedLif)) := by
  simp only [takeCollision, h]
  rfl

/-- A head frame that is replaced stood in a LIF that is not silent. -/
theorem replaceCollided_safeKept {x : Tx} {g : TxFrame} (h : s.lif.tx = some x) (hr : x.replacement = some g) :
    SafeKept s (replaceHead x.place g (s.onLif collidedLif)) := by
  have hk : LifKept s.lif (replaceHead x.place g (s.onLif collidedLif)).lif := by
    refine ⟨?_, fun hc => ?_, fun hw => ?_, fun hq hs => ?_⟩
    · cases x.place <;> rfl
    · have := collidedLif_inRange hc
      cases x.place <;> exact this
    · cases x.place <;> simp only [replaceHead, State.onLif_lif, collidedLif] <;> first | exact hw | skip
      simp only [List.length_cons, List.length_tail]
      omega
    · have hs' : s.lif.silent = true := by cases hp : x.place <;> simpa [hp, replaceHead, collidedLif] using hs
      simp [quiet_loud_of_replacement h hr hq] at hs'
  cases hp : x.place <;> rw [hp] at hk <;> exact .of_lif rfl hk

theorem takeCollision_safeKept (s : State) : SafeKept s (takeCollision s) := by
  cases h : s.lif.tx with
  | none => simpa [takeCollision, h] using SafeKept.refl s
  | some x =>
    have hc : SafeKept s (s.onLif collidedLif) := .of_lif rfl (collidedLif_kept _)
    have hs : SafeKept s (settleCollided x (s.onLif collidedLif)) := by
      unfold settleCollided
      (repeat' split)
      · exact hc.trans (loseDetached_safeKept ..)
      next hr => exact (replaceCollided_safeKept h hr).trans (loseClaim_safeKept ..)
      · exact hc.trans ((leavePlace_safeKept ..).trans (loseClaim_safeKept ..))
      · exact hc
    rw [takeCollision_eq h]
    split
    · exact hs.trans ((frameLost_safeKept _).trans (takeFault_safeKept ..))
    · exact hs.trans (frameLost_safeKept _)

theorem takeSent_safeKept (s : State) : SafeKept s (takeSent s) := by
  dsimp only [takeSent]
  split
  next x hx =>
    have h1 : SafeKept s (s.onLif fun l =>
        { l with tx := none, k := 0, readbackDue := !x.heard
                 burst := match x.place with
                   | .answer | .post => some (x.burstAt + x.time)
                   | .safety | .work => none }) := by
      refine .of_lif rfl (.of_counters rfl ?_ rfl rfl rfl rfl rfl (.inr rfl))
      simp only [Lif.InRange, State.onLif_lif]
      rintro ⟨c1, c2, c3, c4, c5, c6, -⟩
      exact ⟨c1, c2, c3, c4, c5, c6, Nat.zero_le 16⟩
    refine SafeKept.after (.onStc_same rfl rfl rfl) ?_
    split
    · refine (enterReplacement_safeKept ..).after ?_
      split
      · exact h1
      · exact h1.trans (leavePlace_safeKept ..)
    · split
      · exact h1
      · exact h1.trans (leavePlace_safeKept ..)
  · exact .refl s

theorem takeStall_safeKept (q : StallQueue) (s : State) : SafeKept s (takeStall q s) := by
  have h (t : State) (ht : SafeKept s t) : SafeKept s (takeFault 0x05 t) := ht.trans (takeFault_safeKept ..)
  unfold takeStall
  (repeat' split)
  · exact h _ (.of_lif_same rfl rfl rfl rfl rfl rfl rfl rfl rfl rfl)
  · exact .refl s
  · exact h _ (.of_lif_same rfl rfl rfl rfl rfl rfl rfl rfl rfl rfl)
  · exact .refl s

theorem unlessWaiting_safeKept {act : State → State} (h : SafeKept s (act s)) : SafeKept s (unlessWaiting act s) := by
  unfold unlessWaiting
  split
  · exact .refl s
  · exact h

theorem takeSpoiled_safeKept (ws : List CodedWord) (r : SpoiledRest) (s : State) : SafeKept s (takeSpoiled ws r s) := by
  dsimp only [takeSpoiled]
  refine (decodeWords_safeKept ws s).trans ((frameLost_safeKept _).after
    (.of_lif rfl (.of_counters rfl ?_ rfl rfl rfl rfl rfl (.inl rfl))))
  simp only [Lif.InRange, State.onCounters, State.onLif_lif]
  grind [saturate16_le]

theorem takeBroken_safeKept (ws : List CodedWord) (s : State) : SafeKept s (takeBroken ws s) :=
  (decodeWords_safeKept ws s).trans <| (frameBroke_safeKept _).after
    (.of_lif_same rfl rfl rfl rfl rfl rfl rfl rfl rfl rfl)

theorem takeDeafness_safeKept (s : State) : SafeKept s (takeDeafness s) := by
  unfold takeDeafness
  split
  · exact (takeFault_safeKept ..).after (.of_lif_same rfl rfl rfl rfl rfl rfl rfl rfl rfl rfl)
  · exact .refl s

end Sys2Proof.Machine
end

section
/-! SUPPORT. The motion sequencer's operations, a measurement and the memberships keep the safety conditions. -/

namespace Sys2Proof.Machine

open Sys2Proof

variable {s t u : State}

/-! ## Descent -/

theorem standAtTip_safeKept (s : State) : SafeKept s (standAtTip s) := .onMsq rfl

/-- The current membership is replaced by one of its job, where no stimulus is driven. -/
theorem setCurrent_safeKept {m m' : Membership} (hm : s.rvu.current = some m) (hj : m'.job = m.job)
    (hs : s.StimulusSafe → s.meu.stimulus = .off) : SafeKept s (s.onRvu fun r => { r with current := some m' }) := by
  refine .onRvu rfl (fun h => StimulusSafe_of_members h rfl rfl (fun x hx => ⟨m', rfl, ?_, fun hn => ?_⟩)
    fun n hn => ⟨n, hn, rfl, id⟩) fun _ hi => ?_
  · cases hm.symm.trans hx
    exact hj
  · exact absurd (hs h) hn
  · simp [hi.1] at hm

theorem descentEnd_safeKept (b : Bool) (h : s.msq.motion.moves = true) (hm : s.msq.motion ≠ .measure) :
    SafeKept s (descentEnd b s) := by
  dsimp only [descentEnd]
  split
  next m hc =>
    have h1 : SafeKept (offerWork (.landed m.job m.role m.pass b) s)
        ((offerWork (.landed m.job m.role m.pass b) s).onRvu fun r => { r with current := some { m with state := .landed } }) :=
      setCurrent_safeKept (m := m) (by simpa using hc) rfl fun hs => hs.off (by simpa using hm)
    refine (offerWork_safeKept ..).trans (h1.trans (.turn (mayTurn_of_motion ?_ ?_) rfl))
    · simpa using h
    · simpa using hm
  · exact .turn (mayTurn_of_motion h hm) rfl

theorem touchdown_safeKept (h : s.msq.motion.moves = true) (hm : s.msq.motion ≠ .measure) : SafeKept s (touchdown s) :=
  (sendCommand_safeKept .stop s).trans (descentEnd_safeKept false h hm)

theorem startSearch_safeKept (h : s.MayTurn) : SafeKept s (startSearch s) := by
  dsimp only [startSearch]
  have h0 : SafeKept s (s.onMsq fun m => { m with motion := .descend, descend := .search }) := .turn h rfl
  split
  · exact h0.trans (touchdown_safeKept rfl (by simp))
  · exact h0.trans (sendMove_safeKept ..)

theorem startApproach_safeKept (h : s.MayTurn) : SafeKept s (startApproach s) :=
  (SafeKept.turn h rfl).trans (sendMove_safeKept ..)

theorem startRise_safeKept (pass : Nat) (h : s.MayTurn) : SafeKept s (startRise pass s) :=
  (SafeKept.turn h rfl).trans (sendMove_safeKept ..)

theorem startScrub_safeKept (h : s.MayTurn) : SafeKept s (startScrub s) := by
  dsimp only [startScrub]
  split
  · exact (sendCommand_safeKept ..).after (.onMsq rfl)
  · exact startSearch_safeKept h

/-- A fault of floor 3 leaves a head that moves moving, and out of MEASURE where it was. -/
theorem takeFault3_moves (code : Nat) (h : s.msq.motion.moves = true) (hm : s.msq.motion ≠ .measure) :
    (takeFault3 code s).msq.motion.moves = true ∧ (takeFault3 code s).msq.motion ≠ .measure := by
  obtain ⟨h1, h2⟩ := MotionState.moves_iff.1 h
  dsimp only [takeFault3]
  split
  next hx => exact absurd hx h1
  next hx => exact absurd hx h2
  · split
    · exact ⟨h, hm⟩
    · rw [silentFence_motion 3 code (by simpa using h)]
      exact ⟨rfl, by simp⟩

theorem sendMove_moves (x y z : Nat) (p : Profile) (h : s.msq.motion.moves = true) (hm : s.msq.motion ≠ .measure) :
    (sendMove x y z p s).msq.motion.moves = true ∧ (sendMove x y z p s).msq.motion ≠ .measure := by
  unfold sendMove
  split
  · exact ⟨h, hm⟩
  · exact takeFault3_moves 2 h hm

theorem overtravel_safeKept (h : s.msq.motion.moves = true) (hm : s.msq.motion ≠ .measure) : SafeKept s (overtravel s) := by
  have hx := sendMove_moves s.stand.1 s.stand.2 s.cfg.zs .lift h hm
  exact (sendMove_safeKept ..).trans (descentEnd_safeKept true hx.1 hx.2)

theorem descendComplete_safeKept (h : s.msq.motion = .descend) : SafeKept s (descendComplete s) := by
  have h1 : s.msq.motion.moves = true := by rw [h]; rfl
  have h2 : s.msq.motion ≠ .measure := by rw [h]; decide
  unfold descendComplete
  split
  · exact startSearch_safeKept (mayTurn_of_motion h1 h2)
  · split
    · exact .refl s
    · exact overtravel_safeKept h1 h2
  · exact startScrub_safeKept (mayTurn_of_motion h1 h2)
  · exact (standAtTip_safeKept s).trans (startSearch_safeKept (mayTurn_of_motion h1 h2))

/-! ## Travel, stops and parking -/

theorem arrive_safeKept (s : State) : SafeKept s (arrive s) := (takeShrink_safeKept ..).trans (standAtTip_safeKept _)

/-- VOID leaves the motion state outside CLAIMING. -/
theorem reportVoid_motion (h : s.msq.motion ≠ .claiming) : (reportVoid s).msq.motion = s.msq.motion := by
  unfold reportVoid
  split
  next hx => exact absurd hx h
  · rfl
  · rfl

theorem endPending_motion (h : s.msq.motion ≠ .claiming) : (endPending s).msq.motion = s.msq.motion := by
  unfold endPending
  split
  · rw [reportVoid_motion (by simpa using h)]
    simp
  · rfl

theorem takeRelease_motion (h : s.msq.motion ≠ .claiming) : (takeRelease s).msq.motion = s.msq.motion := by
  have hh : (endPending (setHeld none s)).msq.motion = s.msq.motion := endPending_motion (s := setHeld none s) h
  simp only [takeRelease]
  (repeat' split) <;> simp [hh]

theorem takeShrink_motion (x y : Nat) (h : s.msq.motion ≠ .claiming) : (takeShrink x y s).msq.motion = s.msq.motion := by
  have hh (q : Option Claim) : (endPending (setHeld q s)).msq.motion = s.msq.motion :=
    endPending_motion (s := setHeld q s) h
  simp only [takeShrink]
  (repeat' split) <;> simp [hh, takeRelease_motion h]

theorem arrive_motion (h : s.msq.motion ≠ .claiming) : (arrive s).msq.motion = s.msq.motion := takeShrink_motion _ _ h

theorem travelComplete_safeKept (h : s.msq.motion = .travel) : SafeKept s (travelComplete s) := by
  dsimp only [travelComplete]
  have hm : (arrive s).msq.motion = .travel := (arrive_motion (by rw [h]; decide)).trans h
  have h0 : SafeKept s ((arrive s).onMsq fun m => { m with lateStop := false }) := (arrive_safeKept s).trans (.onMsq rfl)
  have h1 : ((arrive s).onMsq fun m => { m with lateStop := false }).MayTurn :=
    mayTurn_of_motion (by simp [hm, MotionState.moves]) (by simp [hm])
  (repeat' split)
  · exact h0.trans (enterIdle_safeKept h1)
  · refine h0.trans ((enterWaitSpace_safeKept (mayTurn_of_motion ?_ ?_)).after (.onMsq rfl)) <;>
      simp [hm, MotionState.moves]
  · exact h0.trans (startApproach_safeKept h1)

theorem parkComplete_safeKept (h : s.msq.motion = .parking) : SafeKept s (parkComplete s) := by
  have hp : SafeKept s (enterParked (takeRelease s)) := by
    have hm : (takeRelease s).msq.motion = .parking := (takeRelease_motion (by rw [h]; decide)).trans h
    exact (takeRelease_safeKept s).trans (enterParked_safeKept (mayTurn_of_motion (by rw [hm]; rfl) (by rw [hm]; decide)))
  unfold parkComplete
  (repeat' split) <;> first | exact hp | exact .refl s | exact (arrive_safeKept s).trans (.onMsq rfl)

theorem enterStill_safeKept (h : s.msq.motion = .frozen) : SafeKept s (enterStill s) := by
  have h0 : SafeKept s (s.onMsq fun m => { m with frozen := .still }) := .onMsq rfl
  dsimp only [enterStill]
  split
  · refine h0.trans ((enterIdle_safeKept (mayTurn_of_motion ?_ ?_)).after (.onMsq rfl)) <;> simp [h, MotionState.moves]
  · exact h0

theorem frozenComplete_safeKept (h : s.msq.motion = .frozen) : SafeKept s (frozenComplete s) := by
  dsimp only [frozenComplete]
  split
  · split
    · exact (arrive_safeKept s).trans ((sendMove_safeKept ..).after (.onMsq rfl))
    · exact (arrive_safeKept s).trans (enterStill_safeKept ((arrive_motion (by rw [h]; decide)).trans h))
  · exact enterStill_safeKept h
  · exact .refl s

theorem lateComplete_safeKept (s : State) : SafeKept s (lateComplete s) := by
  unfold lateComplete
  split
  · exact (arrive_safeKept s).trans (.onMsq rfl)
  · exact .refl s

theorem downComplete_safeKept (s : State) : SafeKept s (downComplete s) := by
  unfold downComplete
  (repeat' split)
  · exact standAtTip_safeKept s
  · exact .refl s
  · exact .refl s

theorem commandComplete_safeKept (s : State) : SafeKept s (commandComplete s) := by
  unfold commandComplete
  split
  · exact clearPhase_safeKept ..
  · split
    next h => exact travelComplete_safeKept h
    next h => exact descendComplete_safeKept h
    next h => exact enterIdle_safeKept (mayTurn_of_motion (by rw [h]; rfl) (by rw [h]; decide))
    next h => exact parkComplete_safeKept h
    next h => exact frozenComplete_safeKept h
    · exact lateComplete_safeKept s
    · exact lateComplete_safeKept s
    · exact lateComplete_safeKept s
    · exact downComplete_safeKept s
    · exact downComplete_safeKept s
    · exact downComplete_safeKept s
    · exact .refl s
    · exact .refl s
    · exact .refl s

theorem lateObjection_safeKept (s : State) : SafeKept s (lateObjection s) := by
  have h : SafeKept s ((sendCommand .stop s).onMsq fun m => { m with lateStop := true }) :=
    (sendCommand_safeKept .stop s).trans (.onMsq rfl)
  dsimp only [lateObjection]
  (repeat' split) <;> first | exact h | exact .refl s

theorem startTravel_safeKept (h : s.MayTurn) : SafeKept s (startTravel s) :=
  (SafeKept.turn h rfl).trans (sendMove_safeKept ..)

theorem startParkMove_safeKept (s : State) : SafeKept s (startParkMove s) := (sendMove_safeKept ..).after (.onMsq rfl)

/-! ## Reports -/

theorem keepReport_safeKept (r : DriveReport) (s : State) : SafeKept s (keepReport r s) := by
  dsimp only [keepReport]
  exact SafeKept.trans (.onStc_same rfl rfl rfl) (.onMsq rfl)

theorem reportDrive_safeKept (s : State) : SafeKept s (reportDrive s) := by
  unfold reportDrive
  split
  · exact .refl s
  · exact (takeFault_safeKept ..).after (.onMsq rfl)

theorem reportBreach_safeKept (s : State) : SafeKept s (reportBreach s) := by
  unfold reportBreach
  split
  · exact .refl s
  · exact (takeFault3_safeKept ..).after (.onMsq rfl)

theorem reportFaults_safeKept (d b : Bool) (s : State) : SafeKept s (reportFaults d b s) := by
  have h : SafeKept s { s with drawn := s.drawn + 1 } := .outer s _ _ _
  dsimp only [reportFaults]
  split
  · exact .refl s
  · exact reportDrive_safeKept s
  · exact reportBreach_safeKept s
  · split
    · exact h.trans ((reportDrive_safeKept _).trans (reportBreach_safeKept _))
    · exact h.trans ((reportBreach_safeKept _).trans (reportDrive_safeKept _))

theorem takeReport_safeKept (r : DriveReport) (s : State) : SafeKept s (takeReport r s) := by
  have h := (keepReport_safeKept r s).trans (reportFaults_safeKept (s.supervises && r.fault) (s.breaches r) _)
  dsimp only [takeReport]
  split
  · exact h.trans (commandComplete_safeKept _)
  · exact h

theorem driveSilent_safeKept (s : State) : SafeKept s (driveSilent s) := by
  unfold driveSilent
  split
  · exact (reportDrive_safeKept _).after (.onMsq rfl)
  · exact .refl s

theorem liftTimeout_safeKept (s : State) : SafeKept s (liftTimeout s) := by
  unfold liftTimeout
  (repeat' split)
  · exact clearPhase_safeKept ..
  · exact reportDrive_safeKept s
  · exact .refl s

/-! ## Contact, timers, HALT and RESUME -/

theorem takeClosing_safeKept (s : State) : SafeKept s (takeClosing s) := by
  unfold takeClosing
  (repeat' split)
  next h => exact touchdown_safeKept (by rw [h]; rfl) (by rw [h]; decide)
  · exact .refl s
  · exact takeFault3_safeKept ..

theorem contactClose_safeKept (s : State) : SafeKept s (contactClose s) := by
  have h : SafeKept s (s.onPins fun p => { p with contact := true }) := .outer s _ _ _
  dsimp only [contactClose]
  (repeat' split)
  · exact .refl s
  · exact h
  · exact h.trans (((takeClosing_safeKept _).trans (settle_safeKept _)).after (.onStc_same rfl rfl rfl))

theorem contactOpen_safeKept (s : State) : SafeKept s (contactOpen s) := by
  have h : SafeKept s (s.onPins fun p => { p with contact := false }) := .outer s _ _ _
  dsimp only [contactOpen]
  (repeat' split)
  · exact h
  · exact h.trans ((settle_safeKept _).after (.onMeu (.inr ⟨rfl, id⟩)))
  · exact h.trans (settle_safeKept _)
  · exact .refl s

theorem idlePark_safeKept (s : State) : SafeKept s (idlePark s) := by
  unfold idlePark
  split
  next h =>
    exact (askPark_safeKept rfl).after (.turn (mayTurn_of_motion (by rw [h.2]; rfl) (by rw [h.2]; decide)) rfl)
  · exact .refl s

theorem endSpaceWait_safeKept (s : State) : SafeKept s (endSpaceWait s) := by
  have h0 : SafeKept s (s.onMsq fun m => { m with spaceWait := none }) := .onMsq rfl
  dsimp only [endSpaceWait]
  (repeat' split)
  next h => exact h0.trans (spaceDrop_safeKept (by rw [h]; rfl) (by rw [h]; decide))
  · exact h0.trans (.onMsq rfl)
  · exact h0
  · exact .refl s

theorem haltSeen_safeKept (s : State) : SafeKept s (haltSeen s) := by
  have h : SafeKept s (s.onPins fun p => { p with haltIn := true }) := .outer s _ _ _
  dsimp only [haltSeen]
  split
  · exact h
  · exact h.trans ((settle_safeKept _).after (.onMsq rfl))

theorem haltGone_safeKept (s : State) : SafeKept s (haltGone s) := by
  have h : SafeKept s (s.onPins fun p => { p with haltIn := false }) := .outer s _ _ _
  dsimp only [haltGone]
  split
  · exact h
  · exact h.trans (settle_safeKept _)

theorem takeResume_safeKept (s : State) : SafeKept s (takeResume s) := by
  unfold takeResume
  (repeat' split)
  · exact countDiscard_safeKept s
  · exact .refl s
  next h _ =>
    exact (enterIdle_safeKept (mayTurn_of_motion (by simp [h, MotionState.moves]) (by simp [h]))).after (.onMsq rfl)
  · exact .onMsq rfl
  · exact .refl s

/-! ## The window -/

theorem beginSampling_safeKept (s : State) : SafeKept s (beginSampling s) := by
  unfold beginSampling
  split
  · exact .onMeu (.inr ⟨rfl, fun _ => by simp⟩)
  · exact .refl s

theorem takeSample_safeKept (v a : Int) (s : State) : SafeKept s (takeSample v a s) := by
  unfold takeSample
  (repeat' split)
  · exact .onMeu (.inr ⟨rfl, id⟩)
  · exact .refl s
  · exact .refl s

end Sys2Proof.Machine
end

section
/-! SUPPORT. The job table stays in order (R54, R69): entries that leave, change or enter. -/

namespace Sys2Proof.Machine

open Sys2Proof

variable {s t u : State}

/-! ## Table order -/

theorem Entry.before_iff {a b : Entry} : a.before b = true ↔
    b.offer.priority < a.offer.priority ∨ a.offer.priority = b.offer.priority ∧ a.rank < b.rank := by
  simp [Entry.before]

theorem Entry.before_trans {a b c : Entry} (h : a.before b = true) (k : b.before c = true) : a.before c = true := by
  rw [before_iff] at *
  omega

/-- Of two entries of different arrival ranks one stands before the other. -/
theorem Entry.before_of_not {a b : Entry} (h : a.before b ≠ true) (hr : a.rank ≠ b.rank) : b.before a = true := by
  rw [ne_eq, before_iff] at h
  rw [before_iff]
  omega

theorem insertEntry_perm (e : Entry) (l : List Entry) : (insertEntry e l).Perm (e :: l) := by
  induction l with
  | nil => exact .refl _
  | cons x xs ih =>
    unfold insertEntry
    split
    · exact (ih.cons x).trans (.swap e x xs)
    · exact .refl _

/-- An entry put at its place leaves the table in order. -/
theorem insertEntry_pairwise {e : Entry} {l : List Entry} (h : l.Pairwise fun a b => a.before b = true)
    (hr : ∀ x ∈ l, x.rank ≠ e.rank) : (insertEntry e l).Pairwise fun a b => a.before b = true := by
  induction l with
  | nil => exact List.pairwise_singleton _ _
  | cons x xs ih =>
    obtain ⟨hx, hxs⟩ := List.pairwise_cons.1 h
    unfold insertEntry
    split
    next hb =>
      refine List.pairwise_cons.2 ⟨fun y hy => ?_, ih hxs fun y hy => hr y (.tail x hy)⟩
      rcases List.mem_cons.1 ((insertEntry_perm e xs).mem_iff.1 hy) with rfl | hy
      · exact hb
      · exact hx y hy
    next hb =>
      have hex := Entry.before_of_not hb (hr x (.head xs))
      refine List.pairwise_cons.2 ⟨fun y hy => ?_, h⟩
      rcases List.mem_cons.1 hy with rfl | hy
      · exact hex
      · exact Entry.before_trans hex (hx y hy)

/-! ## The table -/

/-- The takers of an entry: one for each role at most, and each of one role at most. -/
def Entry.TakersOk (e : Entry) : Prop := e.takers.length = e.offer.points.length ∧ (e.takers.filterMap id).Nodup

theorem tableSafe_iff : s.TableSafe ↔ s.jtb.entries.length ≤ 24 ∧ (s.jtb.entries.map (·.offer.job)).Nodup ∧
    (s.jtb.entries.map (·.rank)).Nodup ∧ s.jtb.entries.Pairwise (fun a b => a.before b = true) ∧
    ∀ e ∈ s.jtb.entries, e.rank < s.jtb.nextRank ∧ e.TakersOk := .rfl

/-- Entries leave the table. -/
theorem tableSafe_of_sublist (h : s.TableSafe) (hl : t.jtb.entries.Sublist s.jtb.entries)
    (hn : t.jtb.nextRank = s.jtb.nextRank) : t.TableSafe := by
  obtain ⟨h1, h2, h3, h4, h5⟩ := tableSafe_iff.1 h
  exact ⟨hl.length_le.trans h1, h2.sublist (hl.map _), h3.sublist (hl.map _), h4.sublist hl,
    fun e he => hn ▸ h5 e (hl.subset he)⟩

/-- Entries change in what neither order nor identity reads, and keep their takers in order. -/
theorem tableSafe_of_map {g : Entry → Entry} (h : s.TableSafe) (hl : t.jtb.entries = s.jtb.entries.map g)
    (hn : t.jtb.nextRank = s.jtb.nextRank) (ho : ∀ e, (g e).offer = e.offer) (hr : ∀ e, (g e).rank = e.rank)
    (ht : ∀ e ∈ s.jtb.entries, e.TakersOk → (g e).TakersOk) : t.TableSafe := by
  obtain ⟨h1, h2, h3, h4, h5⟩ := tableSafe_iff.1 h
  have hb (a b : Entry) : (g a).before (g b) = a.before b := by simp only [Entry.before, ho, hr]
  refine tableSafe_iff.2 ⟨by simpa [hl] using h1, ?_, ?_, ?_, ?_⟩
  · simpa [hl, Function.comp_def, ho] using h2
  · simpa [hl, Function.comp_def, hr] using h3
  · rw [hl, List.pairwise_map]
    simpa only [hb] using h4
  · rw [hl, hn]
    intro e he
    obtain ⟨x, hx, rfl⟩ := List.mem_map.1 he
    obtain ⟨hxr, hxt⟩ := h5 x hx
    exact ⟨(hr x).symm ▸ hxr, ht x hx hxt⟩

/-- A new entry enters a table that has a place and does not know its job and its rank. -/
theorem tableSafe_of_insert {e : Entry} (h : s.TableSafe) (hl : t.jtb.entries = insertEntry e s.jtb.entries)
    (hn : s.jtb.nextRank ≤ t.jtb.nextRank) (he : e.rank < t.jtb.nextRank) (hlen : s.jtb.entries.length < 24)
    (hj : ∀ x ∈ s.jtb.entries, x.offer.job ≠ e.offer.job) (hr : ∀ x ∈ s.jtb.entries, x.rank ≠ e.rank)
    (ht : e.TakersOk) : t.TableSafe := by
  obtain ⟨h1, h2, h3, h4, h5⟩ := tableSafe_iff.1 h
  have hp := insertEntry_perm e s.jtb.entries
  refine tableSafe_iff.2 ⟨?_, ?_, ?_, hl ▸ insertEntry_pairwise h4 hr, fun x hx => ?_⟩
  · simpa [hl, hp.length_eq] using hlen
  · rw [hl, (hp.map _).nodup_iff, List.map_cons, List.nodup_cons]
    refine ⟨fun hm => ?_, h2⟩
    obtain ⟨x, hx, hxe⟩ := List.mem_map.1 hm
    exact hj x hx hxe
  · rw [hl, (hp.map _).nodup_iff, List.map_cons, List.nodup_cons]
    refine ⟨fun hm => ?_, h3⟩
    obtain ⟨x, hx, hxe⟩ := List.mem_map.1 hm
    exact hr x hx hxe
  · rcases List.mem_cons.1 (hp.mem_iff.1 (hl ▸ hx)) with rfl | hx
    · exact ⟨he, ht⟩
    · exact ⟨(h5 x hx).1.trans_le hn, (h5 x hx).2⟩

/-! ## Entries -/

theorem entry?_mem {job : Nat} {e : Entry} (h : s.entry? job = some e) : e ∈ s.jtb.entries ∧ e.offer.job = job := by
  exact ⟨List.mem_of_find?_eq_some h, by simpa using List.find?_some h⟩

theorem entry?_none {job : Nat} (h : s.entry? job = none) : ∀ x ∈ s.jtb.entries, x.offer.job ≠ job := by
  simpa [State.entry?] using h

/-- A job stands in the table once. -/
theorem TableSafe_unique (h : s.TableSafe) {a b : Entry} (ha : a ∈ s.jtb.entries) (hb : b ∈ s.jtb.entries)
    (hj : a.offer.job = b.offer.job) : a = b :=
  List.inj_on_of_nodup_map h.2.1 ha hb hj

theorem TableSafe_rank_unique (h : s.TableSafe) {a b : Entry} (ha : a ∈ s.jtb.entries) (hb : b ∈ s.jtb.entries)
    (hr : a.rank = b.rank) : a = b :=
  List.inj_on_of_nodup_map h.2.2.1 ha hb hr

theorem dropEntry_safeKept (job : Nat) (s : State) : SafeKept s (dropEntry job s) :=
  .onJtb fun h => tableSafe_of_sublist h List.filter_sublist rfl

theorem emptyTable_safeKept (s : State) : SafeKept s (emptyTable s) :=
  .onJtb fun h => tableSafe_of_sublist h (List.nil_sublist _) rfl

/-- A change of the entry of a job that keeps its takers in order where it stands. -/
theorem updEntry_safeKept {job : Nat} {g : Entry → Entry} (ho : ∀ e, (g e).offer = e.offer) (hr : ∀ e, (g e).rank = e.rank)
    (ht : s.TableSafe → ∀ e ∈ s.jtb.entries, e.offer.job = job → e.TakersOk → (g e).TakersOk) :
    SafeKept s (updEntry job g s) := by
  refine .onJtb fun h => tableSafe_of_map (g := fun e => if e.offer.job = job then g e else e) h rfl rfl ?_ ?_ ?_
  · intro e
    split
    · exact ho e
    · rfl
  · intro e
    split
    · exact hr e
    · rfl
  · intro e he hok
    split
    next hj => exact ht h e he hj hok
    · exact hok

/-- The entry of a job out of the table leaves a place. -/
theorem dropEntry_length {job : Nat} {e : Entry} (h : s.TableSafe) (he : e ∈ s.jtb.entries) (hj : e.offer.job = job) :
    (dropEntry job s).jtb.entries.length < 24 := by
  refine lt_of_lt_of_le (List.length_filter_lt_length_iff_exists.2 ⟨e, he, ?_⟩) h.1
  simp [hj]

theorem mem_dropEntry {job : Nat} {x : Entry} (h : x ∈ (dropEntry job s).jtb.entries) :
    x ∈ s.jtb.entries ∧ x.offer.job ≠ job := by
  simpa [dropEntry] using h

/-! ## Admission -/

theorem newEntry_takersOk (s : State) (o : Offer) (rank : Nat) : (s.newEntry o rank).TakersOk := by
  constructor
  · simp [State.newEntry]
  · simp [State.newEntry]

theorem admitOffer_safeKept {o : Offer} (hlen : s.TableSafe → s.jtb.entries.length < 24)
    (hj : ∀ x ∈ s.jtb.entries, x.offer.job ≠ o.job) : SafeKept s (admitOffer o s) :=
  .onJtb fun h => tableSafe_of_insert h rfl (Nat.le_succ _) (Nat.lt_succ_self _) (hlen h) hj
    (fun x hx hr => by have := (h.2.2.2.2 x hx).1; exact absurd hr (by simp only [State.newEntry]; omega))
    (newEntry_takersOk ..)

/-- What a search that keeps one of the elements answers is in the list. -/
theorem foldl_choice_mem {α : Type} {g : Option α → α → Option α} (hg : ∀ b e, g b e = b ∨ g b e = some e) {l : List α}
    {b : Option α} {v : α} (h : l.foldl g b = some v) : b = some v ∨ v ∈ l := by
  induction l generalizing b with
  | nil => exact .inl h
  | cons a l ih =>
    rcases ih h with h | h
    · rcases hg b a with hb | hb
      · exact .inl (hb ▸ h)
      · exact .inr (by simp_all)
    · exact .inr (.tail a h)

theorem victim_mem {p : Nat} {v : Entry} (h : s.victim p = some v) : v ∈ s.jtb.entries := by
  refine (List.mem_filter.1 ((foldl_choice_mem (fun b e => ?_) h).resolve_left (by simp))).1
  (repeat' split) <;> simp

theorem replaceOffer_safeKept {o : Offer} {e : Entry} (h : s.entry? o.job = some e) : SafeKept s (replaceOffer o e s) := by
  obtain ⟨he, hj⟩ := entry?_mem h
  dsimp only [replaceOffer]
  (repeat' split)
  · have hd := dropEntry_safeKept o.job s
    refine ⟨⟨hd.fault, hd.counters, hd.work, hd.silent, hd.window, fun ht => ?_, hd.stimulus⟩, hd.fence, hd.head⟩
    refine tableSafe_of_insert (hd.table ht) rfl (le_refl _) (ht.2.2.2.2 e he).1 (dropEntry_length ht he hj)
      (fun x hx => (mem_dropEntry hx).2) (fun x hx hr => ?_) (newEntry_takersOk ..)
    obtain ⟨hx1, hx2⟩ := mem_dropEntry hx
    exact hx2 (TableSafe_rank_unique ht hx1 he hr ▸ hj)
  · exact dropEntry_safeKept o.job s
  · exact countDiscard_safeKept s

theorem takeOffer_safeKept (o : Offer) (s : State) : SafeKept s (takeOffer o s) := by
  unfold takeOffer
  split
  · exact countDiscard_safeKept s
  · split
    next h => exact replaceOffer_safeKept h
    next h =>
      have hn := entry?_none h
      split
      · exact .refl s
      · split
        next hl => exact admitOffer_safeKept (fun _ => hl) hn
        · split
          next v hv =>
            have hd := dropEntry_safeKept v.offer.job s
            have ha (x : Entry) (hx : x ∈ (dropEntry v.offer.job s).jtb.entries) : x.offer.job ≠ o.job :=
              hn x (mem_dropEntry hx).1
            refine ⟨⟨hd.fault, hd.counters, hd.work, hd.silent, hd.window, fun ht => ?_, hd.stimulus⟩, hd.fence, hd.head⟩
            exact (admitOffer_safeKept (fun _ => dropEntry_length ht (victim_mem hv) rfl) ha).table (hd.table ht)
          · exact .refl s

/-! ## Takers -/

/-- A taker recorded for a role, the station being none of the others. -/
theorem filterMap_set_nodup {l : List (Option Nat)} (h : (l.filterMap id).Nodup) {n : Nat} (hn : some n ∉ l) (i : Nat) :
    ((l.set i (some n)).filterMap id).Nodup := by
  induction l generalizing i with
  | nil => simp
  | cons a l ih =>
    have hl : (l.filterMap id).Nodup := h.sublist (by simpa using (List.sublist_cons_self a l).filterMap id)
    simp only [List.mem_cons, not_or] at hn
    have hx : n ∉ l.filterMap id := by simpa using hn.2
    cases i with
    | zero => simpa [List.nodup_cons] using ⟨hn.2, hl⟩
    | succ i =>
      cases a with
      | none => simpa using ih hl hn.2 i
      | some b =>
        simp only [List.filterMap_cons_some (f := id) rfl, List.nodup_cons] at h
        simp only [List.set_cons_succ, List.filterMap_cons_some (f := id) rfl, List.nodup_cons]
        refine ⟨fun hb => ?_, ih hl hn.2 i⟩
        simp only [List.mem_filterMap, id, exists_eq_right] at hb h
        rcases List.mem_or_eq_of_mem_set hb with hb | hb
        · exact h.1 hb
        · exact hn.1 hb.symm

theorem clearTaker_takers (n : Nat) (ts : List (Option Nat)) :
    ((clearTaker n ts).filterMap id).Sublist (ts.filterMap id) := by
  induction ts with
  | nil => exact .refl _
  | cons a ts ih =>
    cases a with
    | none => simpa [clearTaker] using ih
    | some b =>
      by_cases hb : b = n
      · simpa [clearTaker, hb] using ih.trans (List.sublist_cons_self _ _)
      · simpa [clearTaker, hb] using ih

end Sys2Proof.Machine
end

section
/-! SUPPORT. The rendezvous unit, the lead and the measurement window keep the safety conditions. -/

namespace Sys2Proof.Machine

open Sys2Proof

variable {s t u : State} {job : Nat} {f : RxFrame}

/-! ## The membership in a job -/

/-- The membership in a job is the current one, or the next one behind a current one of another job. -/
theorem member?_cases {m : Membership} (h : s.member? job = some m) :
    s.rvu.current = some m ∧ m.job = job ∨
      s.rvu.next = some m ∧ m.job = job ∧ ∃ c, s.rvu.current = some c ∧ c.job ≠ job := by
  unfold State.member? at h
  split at h
  next c hc =>
    split at h
    · cases h
      exact .inl ⟨hc, by assumption⟩
    next hj =>
      split at h
      next n hn =>
        split at h
        · cases h
          exact .inr ⟨hn, by assumption, c, hc, hj⟩
        · cases h
      · cases h
  · cases h

theorem member?_congr (h : t.rvu = s.rvu) (job : Nat) : t.member? job = s.member? job := by
  simp only [State.member?, h]

theorem member?_updMember {g : Membership → Membership} (hj : ∀ m, (g m).job = m.job) :
    (updMember job g s).member? job = (s.member? job).map g := by
  cases hc : s.rvu.current with
  | none => simp [State.member?, updMember, hc]
  | some c =>
    by_cases h : c.job = job
    · simp [State.member?, updMember, hc, h, hj]
    · cases hn : s.rvu.next with
      | none => simp [State.member?, updMember, hc, hn, h]
      | some n => by_cases k : n.job = job <;> simp [State.member?, updMember, hc, hn, h, k, hj]

/-- The current membership stands in its job when it is changed. -/
theorem updMember_current {g : Membership → Membership} {c : Membership} (hc : s.rvu.current = some c)
    (hj : ∀ m, (g m).job = m.job) : ∃ c', (updMember job g s).rvu.current = some c' ∧ c'.job = c.job := by
  refine ⟨if c.job = job then g c else c, by simp [updMember, hc], ?_⟩
  split
  · exact hj c
  · rfl

/-- A head with a membership neither is OFFLINE nor joins. -/
theorem moves_of_member {m : Membership} (h : s.member? job = some m) (hh : s.HeadSafe) : s.msq.motion.moves = true := by
  obtain ⟨hc, -⟩ | ⟨-, -, c, hc, -⟩ := member?_cases h
  · exact hh.moves hc
  · exact hh.moves hc

/-- The membership in the job is the one that is down at the table, with no stimulus driven: it has landed, holds, or has its
window behind it. -/
def State.Down (s : State) (job : Nat) : Prop :=
  (∃ c, s.rvu.current = some c ∧ c.job = job) ∧ s.meu.stimulus = .off ∨
    ∃ m, s.member? job = some m ∧
      (m.state = .landed ∨ m.state = .hold ∨ m.state = .measuring ∧ s.meu.window = .off)

theorem State.Down.quiet (h : s.Down job) (hs : s.StimulusSafe) :
    s.meu.stimulus = .off ∧ ∃ c, s.rvu.current = some c ∧ c.job = job := by
  obtain ⟨hc, ho⟩ | ⟨m, hm, hst⟩ := h
  · exact ⟨ho, hc⟩
  obtain ⟨hc, hj⟩ | ⟨hn, -⟩ := member?_cases hm
  · refine ⟨?_, m, hc, hj⟩
    by_contra hne
    obtain ⟨hw, -, m', hm', hst'⟩ := hs.1 hne
    cases hc.symm.trans hm'
    simp [hst', hw] at hst
  · obtain ⟨hst', -⟩ := hs.2 m hn
    rcases hst' with h | h <;> simp [h] at hst

theorem State.Down.mayTurn (h : s.Down job) : s.MayTurn where
  head hh := by
    obtain ⟨⟨c, hc, -⟩, -⟩ | ⟨m, hm, -⟩ := h
    · exact hh.moves hc
    · exact moves_of_member hm hh
  stimulus hs := (h.quiet hs).1

theorem State.Down.congr (h : s.Down job) (hr : t.rvu = s.rvu) (hm : t.meu = s.meu) : t.Down job := by
  simpa only [State.Down, member?_congr hr, hr, hm] using h

/-- A membership that is down is changed to one that is. -/
theorem State.Down.updMember {g : Membership → Membership} (h : s.Down job) (hj : ∀ m, (g m).job = m.job)
    (hg : ∀ m, (g m).state = .landed ∨ (g m).state = .hold) : (Machine.updMember job g s).Down job := by
  obtain ⟨⟨c, hc, hcj⟩, ho⟩ | ⟨m, hm, -⟩ := h
  · exact .inl ⟨hcj ▸ updMember_current hc hj, ho⟩
  · refine .inr ⟨g m, by rw [member?_updMember hj, hm]; rfl, ?_⟩
    rcases hg m with h | h <;> simp [h]

/-- Where the membership in a job is down, it may change its state. -/
theorem updDown_safeKept {g : Membership → Membership} (h : s.StimulusSafe → s.meu.stimulus = .off ∧ ∃ c, s.rvu.current = some c ∧ c.job = job)
    (hj : ∀ m, (g m).job = m.job) : SafeKept s (updMember job g s) := by
  refine map_members_safeKept (g := fun m => if m.job = job then g m else m) rfl (fun m => by split <;> simp [hj]) ?_ ?_
  · intro hs m _ hne
    exact absurd (h hs).1 hne
  · intro hs n hn hst
    obtain ⟨-, c, hc, hcj⟩ := h hs
    obtain ⟨-, c', hc', hne⟩ := hs.2 n hn
    cases hc.symm.trans hc'
    rw [if_neg (by rw [← hcj]; exact hne.symm)]
    exact hst

/-! ## Removal -/

theorem removeJob_safeKept (job : Nat) (s : State) : SafeKept s (removeJob job s) :=
  (dropEntry_safeKept ..).trans (abandonMember_safeKept ..)

theorem decideWindow_safeKept (e : Entry) (s : State) : SafeKept s (decideWindow e s) := by
  unfold decideWindow
  split
  · exact updEntry_safeKept (fun _ => rfl) (fun _ => rfl) fun _ _ _ _ h => h
  · exact dropEntry_safeKept ..

/-! ## Taking -/

/-- A membership in state TAKEN is made at a head that moves. -/
theorem makeMember_safeKept {m : Membership} (hst : m.state = .taken) (h : s.msq.motion.moves = true) :
    SafeKept s (makeMember m s) := by
  unfold makeMember
  split
  · exact .refl s
  next hno =>
    refine .onRvu (by split <;> rfl) (fun hs => ?_) (by simp [h])
    cases hc : s.rvu.current with
    | none =>
      refine ⟨fun hn => ?_, fun n hn => ?_⟩
      · obtain ⟨-, -, c, hc', -⟩ := hs.1 hn
        simp [hc] at hc'
      · have hn' : s.rvu.next = some n := by simpa [hc] using hn
        obtain ⟨-, c, hc', -⟩ := hs.2 n hn'
        simp [hc] at hc'
    | some c =>
      refine ⟨by simpa [hc] using hs.1, fun n hn => ?_⟩
      obtain rfl : m = n := by simpa [hc] using hn
      refine ⟨.inl hst, c, by simp [hc], fun hj => hno ?_⟩
      simp [State.member?, hc, hj]

theorem ownWin_safeKept (e : Entry) (role : Nat) (s : State) : SafeKept s (ownWin e role s) := by
  unfold ownWin
  split
  · exact .refl s
  next h =>
    split
    · exact makeMember_safeKept rfl (MotionState.moves_iff.2 (by simp_all))
    · exact offerWork_safeKept ..

theorem offerSet_safeKept (job : Nat) (s : State) : SafeKept s (offerSet job s) := by
  unfold offerSet
  split
  · split
    · exact (offerWork_safeKept ..).trans (updMember_safeKept job (by intro; rfl) (by intro; rfl) _)
    · exact .refl s
  · exact .refl s

theorem clearPending_safeKept (own : Bool) (s : State) : SafeKept s (clearPending own s) := by
  unfold clearPending
  split
  · exact .onRvu_same rfl rfl rfl
  · exact .refl s

/-- A TAKE that wins names a station that takes no role yet. -/
theorem judgeTake_won {e : Entry} {src role : Nat} {c : Bool} (h : e.judgeTake src role c = .won) :
    some src ∉ e.takers := by
  unfold Entry.judgeTake at h
  repeat' split at h
  all_goals first | exact TakeOutcome.noConfusion h | skip
  next hn => simpa [Entry.hasTaker] using hn

theorem takeRole_safeKept {e : Entry} (src role : Nat) (c : Bool) (h : s.entry? job = some e) :
    SafeKept s (takeRole e src role c s) := by
  obtain ⟨he, -⟩ := entry?_mem h
  dsimp only [takeRole]
  split
  · exact countDiscard_safeKept s
  · exact .refl s
  next hw =>
    have hu : SafeKept s (updEntry e.offer.job (fun e => { e with takers := e.takers.set role (some src) }) s) := by
      refine updEntry_safeKept (fun _ => rfl) (fun _ => rfl) fun ht x hx hj hok => ?_
      obtain rfl : x = e := TableSafe_unique ht hx he hj
      exact ⟨by simpa using hok.1, filterMap_set_nodup hok.2 (judgeTake_won hw) role⟩
    refine hu.trans ((offerSet_safeKept ..).after ?_)
    split
    · exact ownWin_safeKept ..
    · exact .refl _

/-! ## Working sets -/

theorem countMismatch_safeKept (s : State) : SafeKept s (countMismatch s) where
  fence := id
  fault := id
  counters hc := by
    obtain ⟨hl, hm, hf⟩ := countersSafe_iff.1 hc
    exact countersSafe_iff.2 ⟨hl, saturate8_le hm, hf⟩
  work := id
  silent := id
  window := id
  table := id
  stimulus := id
  head := id

/-- A TAKEN membership drives no stimulus. -/
theorem off_of_taken {m : Membership} (hm : s.member? job = some m) (hst : m.state = .taken) (hs : s.StimulusSafe) :
    s.meu.stimulus = .off ∨ ∀ m, s.rvu.current = some m → m.job ≠ job := by
  obtain ⟨hc, -⟩ | ⟨-, -, c, hc, hne⟩ := member?_cases hm
  · refine .inl ?_
    by_contra hn
    obtain ⟨-, -, m', hm', hst'⟩ := hs.1 hn
    cases hc.symm.trans hm'
    simp [hst] at hst'
  · refine .inr fun m' hm' => ?_
    cases hc.symm.trans hm'
    exact hne

/-- The TAKEN membership in a job is FORMED. -/
theorem formMember_safeKept {m : Membership} {g : Membership → Membership} (hm : s.member? job = some m)
    (hst : m.state = .taken) (hj : ∀ m, (g m).job = m.job) (hg : ∀ m, (g m).state = .formed) :
    SafeKept s (updMember job g s) := by
  refine map_members_safeKept (g := fun m => if m.job = job then g m else m) rfl (fun m => by split <;> simp [hj]) ?_ ?_
  · intro hs c hc hn
    rw [if_neg ((off_of_taken hm hst hs).resolve_left hn c hc)]
  · intro _ n _ hn
    split
    · exact .inr (hg n)
    · exact hn

theorem compareSet_safeKept (job : Nat) (ts : List Nat) (s : State) : SafeKept s (compareSet job ts s) := by
  unfold compareSet
  split
  next m hm =>
    split
    · exact .refl s
    next hst =>
      have hst : m.state = .taken := by simpa using hst
      split
      · exact formMember_safeKept hm hst (fun _ => rfl) fun _ => rfl
      · exact (endMember_safeKept fun hs => off_of_taken hm hst hs).trans (countMismatch_safeKept _)
  · split
    · exact countMismatch_safeKept s
    · exact .refl s

theorem ownSet_safeKept (job : Nat) (s : State) : SafeKept s (ownSet job s) := by
  unfold ownSet
  (repeat' split)
  · exact updMember_safeKept job (by intro; rfl) (by intro; rfl) s
  · exact .refl s
  · exact .refl s
  · exact offerWork_safeKept ..

/-- The takers of a SET that is accepted are in order. -/
theorem acceptsSet_takersOk {e : Entry} {src : Nat} {ts : List Nat} (h : e.acceptsSet src ts = true) {x : Entry}
    (ho : x.offer = e.offer) (ht : x.takers = ts.map some) : x.TakersOk := by
  simp only [Entry.acceptsSet, Bool.and_eq_true, beq_iff_eq, decide_eq_true_eq] at h
  obtain ⟨⟨⟨⟨hl, -⟩, hn⟩, -⟩, -⟩ := h
  exact ⟨by simp [ht, ho, hl], by simpa [ht, List.filterMap_map] using hn⟩

theorem takeSet_safeKept {e : Entry} (src : Nat) (ts : List Nat) (h : s.entry? job = some e) :
    SafeKept s (takeSet e src ts s) := by
  obtain ⟨he, -⟩ := entry?_mem h
  dsimp only [takeSet]
  split
  next ha =>
    have hu : SafeKept s (updEntry e.offer.job (fun e =>
        { e with takers := ts.map some, formed := true, window := none, grace := none }) s) := by
      refine updEntry_safeKept (fun _ => rfl) (fun _ => rfl) fun ht x hx hj _ => ?_
      obtain rfl : x = e := TableSafe_unique ht hx he hj
      exact acceptsSet_takersOk ha rfl rfl
    split
    · exact hu.trans ((compareSet_safeKept ..).trans (ownSet_safeKept ..))
    · exact hu.trans (compareSet_safeKept ..)
  · exact countDiscard_safeKept s

/-! ## DROP and partner loss -/

theorem freeRole_safeKept (e : Entry) (n : Nat) (s : State) : SafeKept s (freeRole e n s) := by
  dsimp only [freeRole]
  have hu : SafeKept s (updEntry e.offer.job (fun e => { e with takers := clearTaker n e.takers }) s) :=
    updEntry_safeKept (fun _ => rfl) (fun _ => rfl) fun _ _ _ _ hok =>
      ⟨by simpa [clearTaker] using hok.1, hok.2.sublist (clearTaker_takers ..)⟩
  (repeat' split)
  · exact hu.trans (abandonMember_safeKept ..)
  · exact hu
  · exact hu.trans ((abandonMember_safeKept ..).trans (decideWindow_safeKept ..))
  · exact hu.trans (decideWindow_safeKept ..)
  · exact .refl s

theorem takeDrop_safeKept (e : Entry) (src : Nat) (r : DropReason) (lost : Nat) (s : State) :
    SafeKept s (takeDrop e src r lost s) := by
  dsimp only [takeDrop]
  split
  · split
    · exact removeJob_safeKept ..
    · exact countDiscard_safeKept s
  · split
    · exact removeJob_safeKept ..
    · split
      · exact freeRole_safeKept ..
      · exact .refl s

theorem partnerLoss_safeKept (out : Nat) (s : State) : SafeKept s (partnerLoss out s) := by
  refine .foldl (fun t job => ?_) _ _
  dsimp only
  (repeat' split)
  · exact offerWork_safeKept ..
  · exact dropMember_safeKept ..
  · exact .refl t
  · exact .refl t

/-! ## The lead's results -/

theorem postJob_safeKept (e : Entry) (m : Membership) (v : Verdict) (x : Int) (n : Bool) (s : State) :
    SafeKept s (postJob e m v x n s) := (postResult_safeKept ..).trans (abandonMember_safeKept ..)

theorem landingDecision_safeKept (e : Entry) (m : Membership) (s : State) : SafeKept s (landingDecision e m s) := by
  dsimp only [landingDecision]
  have hu := updMember_safeKept m.job (g := fun m => { m with landingWait := none }) (fun _ => rfl) (fun _ => rfl) s
  (repeat' split)
  · exact hu.trans (offerWork_safeKept ..)
  · exact hu.trans (postJob_safeKept ..)
  · exact hu.trans (offerWork_safeKept ..)
  · exact .refl s

theorem takeLanding_safeKept (e : Entry) (m : Membership) (src role pass : Nat) (n : Bool) (s : State) :
    SafeKept s (takeLanding e m src role pass n s) := by
  dsimp only [takeLanding]
  split
  · exact countDiscard_safeKept s
  · exact (updMember_safeKept m.job (by intro; rfl) (by intro; rfl) s).trans (landingDecision_safeKept ..)

theorem leadDecision_safeKept (e : Entry) (m : Membership) (s : State) : SafeKept s (leadDecision e m s) := by
  dsimp only [leadDecision]
  have hu := updMember_safeKept m.job (g := fun m => { m with deadline := none }) (fun _ => rfl) (fun _ => rfl) s
  split
  · exact hu.trans (offerWork_safeKept ..)
  · exact hu.trans (postJob_safeKept ..)

theorem decideIfComplete_safeKept (job : Nat) (s : State) : SafeKept s (decideIfComplete job s) := by
  unfold decideIfComplete
  (repeat' split)
  · exact leadDecision_safeKept ..
  · exact .refl s
  · exact .refl s

theorem takeReading_safeKept (e : Entry) (m : Membership) (src role pass : Nat) (r : Reading) (s : State) :
    SafeKept s (takeReading e m src role pass r s) := by
  unfold takeReading
  split
  · exact countDiscard_safeKept s
  · exact (updMember_safeKept m.job (by intro; rfl) (by intro; rfl) s).trans (decideIfComplete_safeKept ..)

/-! ## AGAIN and HOLD -/

/-- The membership as an AGAIN has it (R89). -/
def Membership.toPass (rep : Bool) (pass : Nat) (m : Membership) : Membership :=
  { m with
    state := .landed, pass := pass, holdLimit := none, deferred := none
    landingLimit := if m.lead then none else some landingLimitTime
    readings := if m.lead then m.readings.map (fun _ => none) else m.readings
    landings := if m.lead then m.landings.map (fun _ => if rep then some false else none) else m.landings
    landingWait := if m.lead && !rep then some landingWaitTime else m.landingWait }

theorem applyAgain_eq (job : Nat) (rep : Bool) (pass : Nat) (s : State) : applyAgain job rep pass s =
    if rep then
      match ((updMember job (·.toPass rep pass) s).onMsq fun q => { q with motion := .landed }).leadMember? job with
      | some _ => offerWork (.start job pass) ((updMember job (·.toPass rep pass) s).onMsq fun q => { q with motion := .landed })
      | none => (updMember job (·.toPass rep pass) s).onMsq fun q => { q with motion := .landed }
    else startRise pass (updMember job (·.toPass rep pass) s) := rfl

/-- The membership as its window's end has it (R88, R90). -/
def Membership.toHold (e : Entry) (m : Membership) : Membership :=
  { m with state := .hold, deferred := none
           holdLimit := if m.lead then none else some (holdLimitTime e.offer.settle e.offer.sample) }

/-- The membership as its window's opening has it (R88, R155). -/
def Membership.toMeasuring (e : Entry) (m : Membership) : Membership :=
  { m with state := .measuring, landingLimit := none
           deadline := if m.lead then some (deadlineTime e.offer.settle e.offer.sample) else none }

theorem applyAgain_safeKept (rep : Bool) (pass : Nat) (h : s.Down job) : SafeKept s (applyAgain job rep pass s) := by
  have hu : SafeKept s (updMember job (·.toPass rep pass) s) := updDown_safeKept h.quiet fun _ => rfl
  have hd : (updMember job (·.toPass rep pass) s).Down job := h.updMember (fun _ => rfl) fun _ => .inl rfl
  have ht := hd.mayTurn
  have hl := hu.trans (.turn (g := fun q => { q with motion := .landed }) ht rfl)
  rw [applyAgain_eq]
  (repeat' split)
  · exact hl.trans (offerWork_safeKept ..)
  · exact hl
  · exact hu.trans (startRise_safeKept _ ht)

theorem takeAgain_safeKept {m : Membership} (src : Nat) (rep : Bool) (pass : Nat)
    (h : m.state = .landed ∨ m.state = .hold → s.Down m.job) : SafeKept s (takeAgain m src rep pass s) := by
  unfold takeAgain
  split
  · exact updMember_safeKept m.job (by intro; rfl) (by intro; rfl) s
  · split
    next hx => exact applyAgain_safeKept rep pass (h hx.2.2)
    · exact countDiscard_safeKept s

theorem member?_job {m : Membership} (h : s.member? job = some m) : m.job = job := by
  obtain ⟨-, hj⟩ | ⟨-, hj, -⟩ := member?_cases h <;> exact hj

/-- An AGAIN heard at the head's membership. -/
theorem heardAgain_safeKept {m : Membership} (src : Nat) (rep : Bool) (pass : Nat) (h : s.member? job = some m) :
    SafeKept s (takeAgain m src rep pass s) :=
  takeAgain_safeKept src rep pass fun hst => .inr ⟨m, (member?_job h).symm ▸ h, hst.imp_right .inl⟩

theorem enterHold_safeKept (h : s.Down job) : SafeKept s (enterHold job s) := by
  dsimp only [enterHold]
  split
  next e m _ hm =>
    have hd : (updMember job (·.toHold e) s).Down job := h.updMember (fun _ => rfl) fun _ => .inr rfl
    have hu : SafeKept s (updMember job (·.toHold e) s) := updDown_safeKept h.quiet fun _ => rfl
    have ht := hu.trans (.turn (g := fun q => { q with motion := .hold }) hd.mayTurn rfl)
    split
    · exact ht.trans (takeAgain_safeKept _ _ _ fun _ => member?_job hm ▸ hd.congr rfl rfl)
    · exact ht
  · exact .refl s

/-! ## The window -/

/-- The window's front end is set up last. -/
theorem openWindow_eq (e : Entry) (m : Membership) (s : State) : openWindow e m s =
    (updMember m.job (·.toMeasuring e) (s.onMsq fun q => { q with motion := .measure })).onMeu fun u =>
    { frontEnd := frontEndOf m.role
      stimulus := if m.role = 0 then stimulusOf e.offer.kind e.offer.stimulus else .off
      window := .settle (settleTime e.offer.settle) (sampleCount e.offer.sample), acc := .clear
      ownReading := u.ownReading } := rfl

theorem openWindow_safeKept {m : Membership} (e : Entry) (hm : s.member? m.job = some m) (hst : m.state = .landed) :
    SafeKept s (openWindow e m s) := by
  have hd : s.Down m.job := .inr ⟨m, hm, .inl hst⟩
  have h1 : SafeKept s (s.onMsq fun q => { q with motion := .measure }) := .turn hd.mayTurn rfl
  have hd1 : (s.onMsq fun q => { q with motion := .measure }).Down m.job := hd.congr rfl rfl
  have h : SafeKept s (updMember m.job (·.toMeasuring e) (s.onMsq fun q => { q with motion := .measure })) :=
    h1.trans (updDown_safeKept hd1.quiet fun _ => rfl)
  rw [openWindow_eq]
  refine ⟨⟨h.fault, h.counters, h.work, h.silent, h.window, h.table, fun hs => ⟨fun _ => ⟨nofun, rfl, ?_⟩, (h.stimulus hs).2⟩⟩,
    h.fence, h.head⟩
  obtain ⟨-, c, hc, hj⟩ := hd.quiet hs
  exact ⟨c.toMeasuring e, by simp [updMember, hc, hj], rfl⟩

theorem takeStart_safeKept {m : Membership} (e : Entry) (src pass : Nat) (hm : s.member? job = some m) :
    SafeKept s (takeStart e m src pass s) := by
  unfold takeStart
  split
  next h => exact openWindow_safeKept e (member?_job hm ▸ hm) h.2.2
  · exact countDiscard_safeKept s

theorem closeWindow_safeKept (n : Nat) (s : State) : SafeKept s (closeWindow n s) := by
  have h0 (o : Option OwnReading) : SafeKept s (s.onMeu fun u =>
    { u with frontEnd := .off, stimulus := .off, window := .off, ownReading := o }) := .onMeu (.inl rfl)
  dsimp only [closeWindow]
  split
  next m hm =>
    split
    · refine (h0 _).trans ((updMember_safeKept m.job (by intro; rfl) (by intro; rfl) _).trans
        ((decideIfComplete_safeKept ..).after (enterHold_safeKept (.inl ⟨?_, rfl⟩))))
      exact updMember_current (by exact hm) (by intro; rfl)
    · split
      · exact (enterHold_safeKept (.inl ⟨⟨m, by simpa using hm, rfl⟩, by simp⟩)).after
          ((offerWork_safeKept ..).after (h0 _))
      · exact (offerWork_safeKept ..).after (h0 _)
  · exact h0 _

theorem endWindow_safeKept (s : State) : SafeKept s (endWindow s) := by
  unfold endWindow
  split
  · exact closeWindow_safeKept ..
  · exact .refl s

theorem holdIfMeasuring_safeKept (job : Nat) (s : State) : SafeKept s (holdIfMeasuring job s) := by
  unfold holdIfMeasuring
  split
  next m hm =>
    split
    next h => exact enterHold_safeKept (.inr ⟨m, hm, .inr (.inr h)⟩)
    · exact .refl s
  · exact .refl s

/-- The frame first held enters the WORK queue. -/
theorem acceptHeld_safeKept {g : TxFrame} {rest : List TxFrame} (h : s.lif.held = g :: rest) (hw : s.lif.work.length < 8) :
    SafeKept s (pushWork (stampLifted s g) (s.onLif fun l => { l with held := rest })) := by
  refine .of_lif rfl ⟨rfl, id, fun _ => by simpa [pushWork] using hw, fun hq hs => ?_⟩
  obtain ⟨q1, q2, q3, q4, q5, q6⟩ := hq hs
  rw [h] at q5
  refine ⟨q1, q2, q3, fun f hf => ?_, fun f hf => q5 f (.tail g hf), q6⟩
  rcases List.mem_append.1 hf with hf | hf
  · exact q4 f hf
  · rw [List.mem_singleton.1 hf, q5 g (.head rest)]
    rfl

theorem stampOwnReading_safeKept (s : State) : SafeKept s (stampOwnReading s) := .onMeu (.inr ⟨rfl, id⟩)

theorem takeHeld_safeKept (s : State) : SafeKept s (takeHeld s) := by
  dsimp only [takeHeld]
  split
  next g rest hh =>
    split
    next hw =>
      split
      · exact (acceptHeld_safeKept hh hw).trans ((stampOwnReading_safeKept _).trans (holdIfMeasuring_safeKept ..))
      · exact acceptHeld_safeKept hh hw
    · exact .refl s
  · exact .refl s

/-! ## Frames that name a job -/

theorem atEntry_safeKept {act : Entry → State → State} (h : ∀ e, s.entry? (rxJob f) = some e → SafeKept s (act e s)) :
    SafeKept s (atEntry f act s) := by
  refine unlessLift_safeKept ?_
  split
  next e he => exact h e he
  · exact .refl s

theorem atMember_safeKept {act : Entry → Membership → State → State}
    (h : ∀ e m, s.member? e.offer.job = some m → SafeKept s (act e m s)) : SafeKept s (atMember f act s) := by
  refine atEntry_safeKept fun e _ => ?_
  split
  next m hm => exact h e m hm
  · exact .refl s

theorem atLead_safeKept {act : Entry → Membership → State → State} (h : ∀ e m, SafeKept s (act e m s)) :
    SafeKept s (atLead f act s) := by
  refine atEntry_safeKept fun e _ => ?_
  split
  · exact h e _
  · exact .refl s

theorem hearOffer_safeKept (f : RxFrame) (s : State) : SafeKept s (hearOffer f s) := by
  unfold hearOffer
  split
  · exact takeOffer_safeKept ..
  · exact countDiscard_safeKept s

theorem takeWithdraw_safeKept (e : Entry) (s : State) : SafeKept s (takeWithdraw e s) := by
  unfold takeWithdraw
  split
  · exact removeJob_safeKept ..
  · exact .refl s

theorem hearTake_safeKept (f : RxFrame) (s : State) : SafeKept s (hearTake f s) :=
  (clearPending_safeKept ..).trans (atEntry_safeKept fun _ he => takeRole_safeKept _ _ _ he)

theorem hearSet_safeKept (f : RxFrame) (s : State) : SafeKept s (hearSet f s) := by
  unfold hearSet
  split
  next e he => exact takeSet_safeKept _ _ he
  · split
    · exact ownSet_safeKept ..
    · exact .refl s

theorem dropHeard_safeKept (own : Bool) (job : Nat) (r : DropReason) (s : State) : SafeKept s (dropHeard own job r s) := by
  unfold dropHeard
  split
  · exact .onFlu rfl rfl id id
  · exact .refl s

theorem hearDrop_safeKept (f : RxFrame) (s : State) : SafeKept s (hearDrop f s) := by
  unfold hearDrop
  split
  · exact (dropHeard_safeKept ..).trans (atEntry_safeKept fun _ _ => takeDrop_safeKept ..)
  · exact .refl s

theorem takeResult_safeKept (b : Nat) (e : Entry) (s : State) : SafeKept s (takeResult b e s) := by
  unfold takeResult
  split
  · exact removeJob_safeKept ..
  · exact .refl s

/-! ## Timers -/

theorem endTakeWindow_safeKept (job : Nat) (s : State) : SafeKept s (endTakeWindow job s) := by
  unfold endTakeWindow
  (repeat' split)
  · exact decideWindow_safeKept ..
  · exact .refl s
  · exact .refl s

theorem endCatchGrace_safeKept (job : Nat) (s : State) : SafeKept s (endCatchGrace job s) := by
  dsimp only [endCatchGrace]
  split
  · split
    · split
      · split
        · exact (offerWork_safeKept ..).trans (removeJob_safeKept ..)
        · exact removeJob_safeKept ..
      · exact removeJob_safeKept ..
    · exact .refl s
  · exact .refl s

theorem endMembershipTimer_safeKept (job : Nat) (runs : Membership → Bool) (r : DropReason) (s : State) :
    SafeKept s (endMembershipTimer job runs r s) := by
  unfold endMembershipTimer
  (repeat' split)
  · exact dropMember_safeKept ..
  · exact .refl s
  · exact .refl s

theorem endDeadline_safeKept (job : Nat) (s : State) : SafeKept s (endDeadline job s) := by
  unfold endDeadline
  (repeat' split)
  · exact leadDecision_safeKept ..
  · exact .refl s
  · exact .refl s

end Sys2Proof.Machine
end

section
/-! SUPPORT. The space claim unit keeps the safety conditions: what enters the claim map is tested against the claim in its
window (R100, R101). -/

namespace Sys2Proof.Machine

open Sys2Proof

variable {s t u : State} {n : Nat}

/-! ## All conditions but that on the window -/

/-- Every safety condition but that on a claim in its window is kept. -/
structure MapKept (s t : State) : Prop where
  fault    : s.FaultSafe → t.FaultSafe
  counters : s.CountersSafe → t.CountersSafe
  work     : s.WorkQueueSafe → t.WorkQueueSafe
  silent   : s.SilentSafe → t.SilentSafe
  table    : s.TableSafe → t.TableSafe
  stimulus : s.StimulusSafe → t.StimulusSafe
  fence    : s.FenceSafe → t.FenceSafe
  head     : s.HeadSafe → t.HeadSafe

theorem SafeKept.but (h : SafeKept s t) : MapKept s t :=
  ⟨h.fault, h.counters, h.work, h.silent, h.table, h.stimulus, h.fence, h.head⟩

theorem MapKept.refl (s : State) : MapKept s s := (SafeKept.refl s).but

theorem MapKept.trans (h : MapKept s t) (k : MapKept t u) : MapKept s u :=
  ⟨k.fault ∘ h.fault, k.counters ∘ h.counters, k.work ∘ h.work, k.silent ∘ h.silent, k.table ∘ h.table,
    k.stimulus ∘ h.stimulus, k.fence ∘ h.fence, k.head ∘ h.head⟩

theorem MapKept.foldl {α : Type} {g : State → α → State} (h : ∀ t a, MapKept t (g t a)) (l : List α) (s : State) :
    MapKept s (l.foldl g s) := by
  induction l generalizing s with
  | nil => exact .refl s
  | cons a l ih => exact (h s a).trans (ih _)

theorem MapKept.safe (h : MapKept s t) (hw : s.WindowSafe → t.WindowSafe) : SafeKept s t :=
  ⟨⟨h.fault, h.counters, h.work, h.silent, hw, h.table, h.stimulus⟩, h.fence, h.head⟩

theorem MapKept.onScu {g : Scu → Scu} (hr : s.msq.motion = .offline → s.scu.Resting → (g s.scu).Resting) :
    MapKept s (s.onScu g) where
  fault := id
  counters := id
  work := id
  silent := id
  table := id
  stimulus := id
  fence := id
  head := by
    rintro ⟨ho, hj⟩
    refine ⟨offlineSafe_iff.2 fun h => ?_, hj⟩
    obtain ⟨hb, hi, hs, hf⟩ := offlineSafe_iff.1 ho h
    exact ⟨hb, hi, hr h hs, hf⟩

theorem putSlot_mapKept (n : Nat) (sl : Slot) (s : State) : MapKept s (putSlot n sl s) := .onScu fun _ h => h

theorem setSlot_mapKept (n : Nat) (h : SlotHolds) (o : Nat) (s : State) : MapKept s (setSlot n h o s) :=
  putSlot_mapKept ..

/-- Without a claim in a window that conflicts with the map, the window's condition holds. -/
theorem windowSafe_of_not_conflict (h : ¬ s.windowConflict = true) : s.WindowSafe := by
  intro p o w hp hw
  simpa [State.windowConflict, hp, hw] using h

theorem selfVoid_pending (s : State) : (selfVoid s).scu.pending = none := by simp [selfVoid, setDoubt]

/-- A changed map leaves no claim in its window that conflicts with it (R100). -/
theorem mapChanged_windowSafe (s : State) : (mapChanged s).WindowSafe := by
  dsimp only [mapChanged]
  split
  · exact windowSafe_of_none (selfVoid_pending _)
  next h => exact windowSafe_of_not_conflict h

theorem MapKept.mapChanged (h : MapKept s t) : SafeKept s (mapChanged t) :=
  (h.trans (mapChanged_safeKept t).but).safe fun _ => mapChanged_windowSafe t

/-! ## Slots -/

theorem Heads.mem_list_put {α : Type} {h : Heads α} {a : α} {p : Nat × α} (hp : p ∈ (h.put n a).list) :
    p ∈ h.list ∨ p = (n, a) ∧ (h.at? n).isSome := by
  unfold Heads.put at hp
  unfold Heads.at?
  split at hp <;> simp only [Heads.list, List.mem_cons, List.not_mem_nil, or_false, Option.isSome_some, and_true] at hp ⊢ <;>
    grind

theorem Heads.mem_list_of_at {α : Type} {h : Heads α} {a : α} (ha : h.at? n = some a) : (n, a) ∈ h.list := by
  unfold Heads.at? at ha
  split at ha <;> simp_all [Heads.list]

theorem Heads.list_map {α β : Type} (h : Heads α) (f : α → β) : (h.map f).list = h.list.map fun p => (p.1, f p.2) := rfl

theorem conflictsMap_iff {r : Rect} : s.conflictsMap r = true ↔
    ∃ p ∈ s.scu.map.list, ∃ x ∈ p.2.holds.rects, r.conflicts x = true := by
  simp only [State.conflictsMap, State.mapRects, List.any_eq_true, List.mem_flatMap, List.mem_map]
  constructor
  · rintro ⟨q, ⟨p, hp, x, hx, rfl⟩, hc⟩
    exact ⟨p, hp, x, hx, hc⟩
  · rintro ⟨p, hp, x, hx, hc⟩
    exact ⟨_, ⟨p, hp, x, hx, rfl⟩, hc⟩

/-- The claims in the map leave, or shrink to some of their rectangles. -/
theorem windowSafe_of_subset (h : s.WindowSafe) (hp : t.scu.pending = s.scu.pending)
    (hm : ∀ p ∈ t.scu.map.list, ∀ x ∈ p.2.holds.rects, ∃ q ∈ s.scu.map.list, x ∈ q.2.holds.rects) : t.WindowSafe := by
  intro p o w h1 h2
  have := h p o w (hp ▸ h1) h2
  rw [← Bool.not_eq_true, conflictsMap_iff] at this ⊢
  rintro ⟨q, hq, x, hx, hc⟩
  obtain ⟨q', hq', hx'⟩ := hm q hq x hx
  exact this ⟨q', hq', x, hx', hc⟩

/-- What a slot holds when it stands in the map. -/
theorem slotOf_mem (h : (s.scu.map.at? n).isSome) : (n, s.slotOf n) ∈ s.scu.map.list := by
  obtain ⟨sl, hsl⟩ := Option.isSome_iff_exists.1 h
  rw [State.slotOf, hsl]
  exact Heads.mem_list_of_at hsl

/-- A slot that comes to hold no rectangle but its own ones. -/
theorem putSlot_safeKept {sl : Slot} (h : ∀ x ∈ sl.holds.rects, x ∈ (s.slotOf n).holds.rects) :
    SafeKept s (putSlot n sl s) := by
  refine (putSlot_mapKept n sl s).safe fun hw => windowSafe_of_subset hw rfl fun p hp x hx => ?_
  rcases Heads.mem_list_put hp with hp | ⟨rfl, hn⟩
  · exact ⟨p, hp, hx⟩
  · exact ⟨_, slotOf_mem hn, h x hx⟩

theorem rects_ofHeld (r : Option Rect) : (SlotHolds.ofHeld r).rects = r.toList := by
  cases r <;> rfl

/-- A slot that is not frozen holds its reference rectangle. -/
theorem reference_mem_rects {h : SlotHolds} (hf : ∀ a b, h ≠ .frozen a b) : ∀ x ∈ h.reference.toList, x ∈ h.rects := by
  intro x hx
  cases h with
  | frozen a b => exact absurd rfl (hf a b)
  | _ => simp_all [SlotHolds.reference, SlotHolds.rects]

theorem thaw_ne_frozen (h : SlotHolds) (a b : Option Rect) : h.thaw ≠ .frozen a b := by
  unfold SlotHolds.thaw
  split
  · split <;> simp
  next hf => exact hf a b

theorem Rect.conflicts_comm (a b : Rect) : a.conflicts b = b.conflicts a := by
  unfold Rect.conflicts
  ac_rfl

/-! ## Claims heard -/

theorem setOrdinal_safeKept (n : Nat) (s : State) : SafeKept s (setOrdinal n s) :=
  .onScu (windowSafe_congr (.inl rfl) rfl) fun _ h => h

/-- A claim that is pending is so at a head that is not OFFLINE. -/
theorem pending_not_resting {p : PendingClaim} (h : s.scu.pending = some p) (hr : s.scu.Resting) : False := by
  obtain ⟨-, hp, -⟩ := hr
  simp [h] at hp

theorem ownClaim_safeKept (o : Nat) (k : ClaimKind) (r : Rect) (s : State) : SafeKept s (ownClaim o k r s) := by
  dsimp only [ownClaim]
  refine (setOrdinal_safeKept o s).trans ?_
  split
  next p hp =>
    split
    · have hm (q : Option PendingClaim) : MapKept (setOrdinal o s) ((setOrdinal o s).onScu fun c => { c with pending := q }) :=
        .onScu fun _ hr => (pending_not_resting hp hr).elim
      split
      · exact ((hm _).trans (selfVoid_safeKept _).but).safe fun _ => windowSafe_of_none (selfVoid_pending _)
      next hc =>
        refine (hm _).safe fun _ => ?_
        intro p' o' w h1 h2
        cases h1
        simp only [Bool.or_eq_true, not_or, Bool.not_eq_true] at hc
        exact hc.2
    · exact .refl _
  · exact .refl _

/-- A new rectangle without an objection does not conflict with the head's claim in its window (R101). -/
theorem objection_none {r : Rect} (h : s.objection n r = none) {p : PendingClaim} {o w : Nat} (hp : s.scu.pending = some p)
    (hw : p.stage = .window o w) : p.claim.rect.conflicts r = false := by
  have hm : p.claim.rect ∈ s.ownRects := by simp [State.ownRects, hp, hw]
  rw [Rect.conflicts_comm]
  simpa using List.find?_eq_none.1 h (s.own, p.claim.rect)
    (List.mem_append.2 (.inl (List.mem_map.2 ⟨_, hm, rfl⟩)))

/-- A peer's claim without an objection enters its slot as pending. -/
theorem enterClaim_safeKept {r : Rect} (o w : Nat) (h : s.objection n r = none)
    (hf : ∀ a b, (s.slotOf n).holds ≠ .frozen a b) :
    SafeKept s (setSlot n (.heldPending (s.slotOf n).holds.reference r o w) o s) := by
  refine (setSlot_mapKept ..).safe fun hw p o' w' h1 h2 => ?_
  have hs := hw p o' w' h1 h2
  have hr := objection_none h h1 h2
  rw [← Bool.not_eq_true, conflictsMap_iff] at hs ⊢
  rintro ⟨q, hq, x, hx, hc⟩
  rcases Heads.mem_list_put hq with hq | ⟨rfl, hn⟩
  · exact hs ⟨q, hq, x, hx, hc⟩
  · rcases List.mem_append.1 hx with hx | hx
    · exact hs ⟨_, slotOf_mem hn, x, reference_mem_rects hf x hx, hc⟩
    · rw [List.mem_singleton.1 hx, hr] at hc
      simp at hc

theorem slotOf_congr (h : t.scu.map = s.scu.map) (n : Nat) : t.slotOf n = s.slotOf n := by
  simp only [State.slotOf, h]

/-- A slot after it was put: it holds what it was given, or is no head's. -/
theorem slotOf_putSlot (n : Nat) (sl : Slot) (s : State) : (putSlot n sl s).slotOf n = sl ∨ (putSlot n sl s).slotOf n = .empty := by
  cases h : s.scu.map.at? n with
  | some e => exact .inl (by simp [State.slotOf, putSlot, Heads.at_put sl h])
  | none =>
    refine .inr ?_
    have hp : s.scu.map.put n sl = s.scu.map := by
      unfold Heads.at? at h
      unfold Heads.put
      split at h <;> simp_all
    simp [State.slotOf, putSlot, hp, h]

theorem peerClaim_safeKept (n o : Nat) (r : Rect) (s : State) : SafeKept s (peerClaim n o r s) := by
  dsimp only [peerClaim]
  have h0 : SafeKept s (mapChanged (setSlot n (s.slotOf n).holds.thaw o s)) := (setSlot_mapKept ..).mapChanged
  have hf (a b : Option Rect) :
      ((mapChanged (setSlot n (s.slotOf n).holds.thaw o s)).slotOf n).holds ≠ .frozen a b := by
    rw [slotOf_congr (mapChanged_space _)]
    rcases slotOf_putSlot n { holds := (s.slotOf n).holds.thaw, lastOrdinal := some o } s with h | h
    · simpa [setSlot, h] using thaw_ne_frozen _ a b
    · simp [setSlot, h, Slot.empty]
  have hk : ∀ x ∈ (SlotHolds.ofHeld ((mapChanged (setSlot n (s.slotOf n).holds.thaw o s)).slotOf n).holds.reference).rects,
      x ∈ ((mapChanged (setSlot n (s.slotOf n).holds.thaw o s)).slotOf n).holds.rects := fun x hx =>
    reference_mem_rects hf x (by simpa [rects_ofHeld] using hx)
  split
  next h => exact h0.trans (enterClaim_safeKept _ _ h hf)
  · split
    · exact h0.trans ((putSlot_safeKept hk).trans (offerSafety_safeKept ..))
    · exact h0.trans (putSlot_safeKept hk)

theorem peerShrink_safeKept (n o : Nat) (r : Rect) (s : State) : SafeKept s (peerShrink n o r s) := by
  unfold peerShrink
  split
  · exact (setSlot_mapKept ..).mapChanged
  · split
    · exact (setSlot_mapKept ..).mapChanged
    · exact ((setSlot_mapKept ..).trans (countDiscard_safeKept _).but).mapChanged

theorem peerRelease_safeKept (n o : Nat) (s : State) : SafeKept s (peerRelease n o s) := (setSlot_mapKept ..).mapChanged

/-! ## Objections -/

theorem install_mapKept (n : Nat) (r : Rect) (s : State) : MapKept s (install n r s) := by
  dsimp only [install]
  split
  · exact .refl s
  · exact putSlot_mapKept ..

theorem lateObject_safeKept (s : State) : SafeKept s (lateObject s) := by
  dsimp only [lateObject]
  have hc : SafeKept s (s.onCounters fun c => { c with late := saturate16 c.late }) := by
    refine .of_lif rfl <| .of_counters rfl ?_ rfl rfl rfl rfl rfl (.inl rfl)
    simp only [Lif.InRange, State.onCounters, State.onLif_lif]
    grind [saturate16_le]
  (repeat' split)
  · exact hc.trans (lateObjection_safeKept _)
  · exact hc.trans (startConflict_safeKept _)
  · exact hc
  · exact hc

theorem objectAtClaimant_safeKept (o : Nat) (r : Rect) (n : Nat) (s : State) : SafeKept s (objectAtClaimant o r n s) := by
  dsimp only [objectAtClaimant]
  have h0 : MapKept s (install n r (setDoubt s)) := (setDoubt_safeKept s).but.trans (install_mapKept ..)
  have hd := (dropPending_safeKept (install n r (setDoubt s))).but
  (repeat' split)
  · exact (h0.trans (hd.trans (startConflict_safeKept _).but)).mapChanged
  · exact (h0.trans (hd.trans (reportVoid_safeKept _).but)).mapChanged
  · exact (h0.trans (lateObject_safeKept _).but).mapChanged
  · exact h0.mapChanged

theorem objectAtObserver_safeKept (c o : Nat) (s : State) : SafeKept s (objectAtObserver c o s) := by
  dsimp only [objectAtObserver]
  (repeat' split)
  · exact (putSlot_mapKept ..).mapChanged
  · exact .refl s
  · exact .refl s

/-! ## Census -/

theorem censusVoid_safeKept (s : State) : SafeKept s (censusVoid s) := by
  unfold censusVoid
  (repeat' split)
  · exact withdrawAndReport_safeKept s
  · exact (dropPending_safeKept s).trans (reportVoid_safeKept _)
  · exact .refl s

theorem queueReply_safeKept (s : State) : SafeKept s (queueReply s) := by
  unfold queueReply
  split
  · exact .refl s
  · exact SafeKept.trans (.onScu (windowSafe_congr (.inl rfl) rfl) fun _ h => h) (offerSafety_safeKept ..)

theorem censusRequest_safeKept (s : State) : SafeKept s (censusRequest s) := by
  dsimp only [censusRequest]
  have hm (t : State) : MapKept t (t.onScu fun c =>
      { c with map := c.map.map fun sl => { sl with holds := sl.holds.dropPending } }) := .onScu fun _ h => h
  exact ((censusVoid_safeKept s).but.trans ((hm _).trans (queueReply_safeKept _).but)).mapChanged

theorem ownCensus_safeKept (s : State) : SafeKept s (ownCensus s) := by
  refine SafeKept.trans ?_ (censusRequest_safeKept _)
  split
  next h =>
    refine .onScu (windowSafe_congr (.inl rfl) rfl) fun _ hr => ?_
    obtain ⟨-, -, -, hp, -⟩ := hr
    simp [hp] at h
  · exact .refl s

theorem replyHeard_safeKept (s : State) : SafeKept s (replyHeard s) :=
  SafeKept.trans (.onScu (windowSafe_congr (.inl rfl) rfl) fun _ h => h) (.onMsq rfl)

theorem takeNote_mapKept (note : Nat × Rect) (s : State) : MapKept s (takeNote note s) := by
  dsimp only [takeNote]
  (repeat' split) <;> first | exact .refl s | exact putSlot_mapKept ..

theorem peerReply_safeKept (n o : Nat) (h : Option Rect) (notes : List (Nat × Rect)) (s : State) :
    SafeKept s (peerReply n o h notes s) :=
  ((setSlot_mapKept ..).trans (.foldl (fun _ _ => takeNote_mapKept ..) _ _)).mapChanged

theorem noteOwners_safeKept (side : Side) (notes : List (Nat × Rect)) (s : State) : SafeKept s (noteOwners side notes s) :=
  .foldl (fun _ _ => updRoster_safeKept ..) _ _

/-! ## Frozen slots and stations that are out -/

theorem freezeSlot_safeKept (n : Nat) (s : State) : SafeKept s (freezeSlot n s) := by
  dsimp only [freezeSlot]
  split
  · exact (putSlot_mapKept ..).mapChanged
  · exact .refl s

theorem stationOut_safeKept (n : Nat) (s : State) : SafeKept s (stationOut n s) :=
  (freezeSlot_safeKept n s).trans (unlessLift_safeKept (partnerLoss_safeKept ..))

theorem storeFence_safeKept (n : Nat) (m : FenceReport) (s : State) : SafeKept s (storeFence n m s) := by
  dsimp only [storeFence]
  split
  · exact (updRoster_safeKept ..).trans (stationOut_safeKept ..)
  · exact updRoster_safeKept ..

theorem beaconOrdinal_safeKept (n o : Nat) (s : State) : SafeKept s (beaconOrdinal n o s) := by
  dsimp only [beaconOrdinal]
  (repeat' split)
  · exact putSlot_safeKept fun _ h => h
  · exact .refl s
  · exact (setDoubt_safeKept s).trans (putSlot_safeKept fun _ h => h)

/-! ## The grant -/

/-- A head leaves JOINING with its join complete, to a motion state in which it moves. -/
theorem leaveJoin_safeKept {g : Msq → Msq} (hm : s.msq.motion = .joining) (hg : (g s.msq).motion.moves = true) :
    SafeKept s ((completeJoin s).onMsq g) where
  toBlockKept := (completeJoin_blockKept s).trans (.turn fun hs => hs.off (by simp [hm]))
  fence := id
  head hh := hh.of_joined hm hg rfl id

theorem placed_safeKept (x y z : Nat) (h : s.msq.motion = .joining) : SafeKept s (placed x y z s) := by
  have hx (q : MotionState) (hq : q.moves = true) (g : Msq → Msq) (hg : ∀ m, (g m).motion = q) :
      SafeKept s (((completeJoin s).onMsq fun m => { m with standing := some (x, y) }).onMsq g) :=
    leaveJoin_safeKept (g := fun m => g { m with standing := some (x, y) }) h (by rw [hg]; exact hq)
  dsimp only [placed]
  split
  · split
    · exact (hx .frozen rfl _ fun _ => rfl).trans (sendMove_safeKept ..)
    · exact hx .frozen rfl _ fun _ => rfl
  · split
    · exact (sendMove_safeKept ..).after (hx .lift rfl _ fun _ => rfl)
    · exact hx .idle rfl _ fun _ => rfl

theorem granted_safeKept (c : Claim) (s : State) : SafeKept s (granted c s) := by
  dsimp only [granted]
  have h0 : SafeKept s (s.onMsq fun m => { m with grant := some c.region }) := .onMsq rfl
  split
  · exact .refl s
  split
  next h =>
    split
    · exact h0.trans (placed_safeKept _ _ _ h)
    · exact h0
  next h =>
    have hm := mayTurn_of_motion (s := s.onMsq fun m => { m with grant := some c.region }) (by rw [h]; rfl) (by rw [h]; decide)
    split
    · exact h0.trans (enterIdle_safeKept hm)
    · exact h0.trans (startTravel_safeKept hm)
  · split
    · exact h0.trans (startParkMove_safeKept _)
    · exact h0
  · exact h0

theorem windowExpires_safeKept (s : State) : SafeKept s (windowExpires s) := by
  unfold windowExpires
  split
  next p hp =>
    split
    next o w hst =>
      have hq : SafeKept s ((setHeld (some p.claim) s).onScu fun c => { c with pending := none, lastGranted := some o }) := by
        refine SafeKept.trans (t := s.onMsq fun m => { m with breachReported := false }) (.onMsq rfl)
          (.onScu (g := fun c => { c with held := some p.claim, pending := none, lastGranted := some o })
            (fun _ => windowSafe_of_none rfl) fun _ hr => ?_)
        exact (pending_not_resting hp hr).elim
      exact hq.trans (granted_safeKept ..)
    · exact .refl s
  · exact .refl s

/-! ## The end of a census in a join -/

theorem reportVoid_joining (h : s.msq.motion = .joining) : reportVoid s = s := by simp [reportVoid, h]

theorem endPending_stc (h : s.msq.motion = .joining) : (endPending s).stc = s.stc := by
  unfold endPending
  split
  · rw [reportVoid_joining (by simpa using h)]
    simp
  · rfl

/-- A head that joins releases its claim without a report to the stations. -/
theorem takeRelease_stc (h : s.msq.motion = .joining) : (takeRelease s).stc = s.stc := by
  have he : (endPending (setHeld none s)).stc = s.stc := endPending_stc (s := setHeld none s) h
  simp only [takeRelease]
  (repeat' split) <;> simp [he]

theorem changeBeacon_selfTesting (s : State) : (changeBeacon s).stc.selfTesting = s.stc.selfTesting := by
  unfold changeBeacon
  split
  · simp [offerBeacon, apply_ite State.stc]
  · rfl

theorem placeParked_safeKept (h : s.msq.motion = .joining) : SafeKept s (placeParked s) := by
  have hm : (takeRelease (completeJoin s)).msq.motion = .joining :=
    (takeRelease_motion (by simp [completeJoin, h])).trans h
  have hs : (takeRelease (completeJoin s)).stc = (completeJoin s).stc := takeRelease_stc h
  refine ⟨?_, fun hf => ?_, fun hh => hh.of_joined h ?_ ?_ ?_⟩
  · exact (completeJoin_blockKept s).trans ((takeRelease_safeKept _).toBlockKept.trans
      ((BlockKept.turn fun hs => hs.off (by simp [hm])).trans (changeBeacon_safeKept _).toBlockKept))
  · exact (changeBeacon_safeKept _).fence ((takeRelease_safeKept (completeJoin s)).fence hf)
  · simp [placeParked, enterParked, MotionState.moves]
  · simp [placeParked, enterParked, hs]
    simp [completeJoin]
  · simp [placeParked, enterParked, changeBeacon_selfTesting, hs]
    simp [completeJoin]

/-- The join goes on from one of its states to another. -/
theorem joinOn_safeKept {g : Stc → Stc} (hm : s.msq.motion = .joining)
    (hj : (g s.stc).join = .listen ∨ (g s.stc).join = .census ∨ (g s.stc).join = .placing)
    (ht : (g s.stc).selfTesting = s.stc.selfTesting) : SafeKept s (s.onStc g) where
  toBlockKept := .onStc g
  fence := id
  head := by
    rintro ⟨-, -, hi, hst⟩
    refine ⟨fun h => absurd (hm.symm.trans h) (by decide), iff_of_true hm hj, hi, fun h => hst (ht ▸ h)⟩

theorem censusJoin_safeKept (h : s.msq.motion = .joining) : SafeKept s (censusJoin s) := by
  unfold censusJoin
  split
  · exact startFault_safeKept _ (.inl h)
  · split
    · exact placeParked_safeKept h
    · exact joinOn_safeKept h (.inr (.inr rfl)) rfl

theorem endCensus_safeKept (s : State) : SafeKept s (endCensus s) := by
  dsimp only [endCensus]
  split
  next hc =>
    have h0 : SafeKept s (s.onScu fun c =>
        { c with censusTimer := none, censusPending := false, repeatMark := false, doubt := s.scu.repeatMark }) := by
      refine .onScu (windowSafe_congr (.inl rfl) rfl) fun _ hr => ?_
      obtain ⟨-, -, -, -, ht⟩ := hr
      simp [ht] at hc
    split
    · exact h0
    · refine h0.trans (SafeKept.trans (.onMsq (g := fun m => { m with spaceEvent := true }) rfl) ?_)
      split
      next h => exact censusJoin_safeKept h.2
      · exact .refl _
  · exact .refl s

/-! ## Frames and windows -/

theorem onSide_safeKept {side : Side} {f : RxFrame} {own : State → State} {peer : Nat → State → State}
    (ho : SafeKept s (own s)) (hp : ∀ n, SafeKept s (peer n s)) : SafeKept s (onSide side f own peer s) := by
  refine unlessLift_safeKept ?_
  (repeat' split)
  · exact ho
  · exact hp _
  · exact .refl s

theorem hearObject_safeKept (f : RxFrame) (s : State) : SafeKept s (hearObject f s) := by
  unfold hearObject
  split
  · exact objectAtClaimant_safeKept ..
  · exact objectAtObserver_safeKept ..

theorem hearReply_safeKept (f : RxFrame) (s : State) : SafeKept s (hearReply f s) :=
  (noteOwners_safeKept ..).trans (onSide_safeKept (replyHeard_safeKept _) fun _ => peerReply_safeKept ..)

theorem endSlotWindow_safeKept (n : Nat) (s : State) : SafeKept s (endSlotWindow n s) := by
  dsimp only [endSlotWindow]
  split
  · exact (putSlot_mapKept ..).mapChanged
  · exact .refl s

theorem clearSlot_safeKept (n : Nat) (s : State) : SafeKept s (clearSlot n s) := by
  unfold clearSlot
  (repeat' split)
  · exact countDiscard_safeKept s
  · exact .refl s
  · exact (putSlot_mapKept ..).mapChanged
  · exact .refl s

end Sys2Proof.Machine
end

section
/-! SUPPORT. Station control, the start, and then every command and every step keep the safety conditions. -/

namespace Sys2Proof.Machine

open Sys2Proof

variable {s t u : State} {n : Nat}

/-! ## Stations -/

theorem storeMotion_safeKept (n : Nat) (m : Option MotionState) (s : State) : SafeKept s (storeMotion n m s) := by
  unfold storeMotion
  split
  · exact updRoster_safeKept ..
  · exact .refl s

theorem hearBeacon_safeKept (f : RxFrame) (s : State) : SafeKept s (hearBeacon f s) := by
  dsimp only [hearBeacon]
  have h0 : SafeKept s (storeFence f.src.toNat (fenceOfCode (rxBeaconFence f))
      (storeMotion f.src.toNat (motionOfCode (rxBeaconMotion f)) s)) :=
    (storeMotion_safeKept ..).trans (storeFence_safeKept ..)
  split
  · exact h0
  · exact h0.trans (unlessLift_safeKept (beaconOrdinal_safeKept ..))

theorem hearFault_safeKept (f : RxFrame) (s : State) : SafeKept s (hearFault f s) := by
  unfold hearFault
  split
  · exact .onFlu rfl rfl id id
  · exact storeFence_safeKept ..

theorem hearStatus_safeKept (f : RxFrame) (s : State) : SafeKept s (hearStatus f s) := by
  unfold hearStatus
  split
  · exact storeMotion_safeKept ..
  · exact .refl s

theorem takeBoardOut_safeKept (s : State) : SafeKept s (takeBoardOut s) := by
  dsimp only [takeBoardOut]
  split
  · exact emptyTable_safeKept s
  next hm =>
    have h0 : SafeKept s (withdrawAndReport (abandonAll (emptyTable (s.onStc fun c =>
        { c with board := .changing, changeDue := true })))) :=
      SafeKept.trans (.onStc rfl id fun h => absurd h hm)
        ((emptyTable_safeKept _).trans ((abandonAll_safeKept _).trans (withdrawAndReport_safeKept _)))
    unfold beaconIfParked
    split
    · exact h0.trans (changeBeacon_safeKept _)
    · exact h0

theorem takeBoardIn_safeKept (n : Nat) (s : State) : SafeKept s (takeBoardIn n s) := by
  dsimp only [takeBoardIn]
  split
  · exact emptyTable_safeKept s
  next hm =>
    have h0 : SafeKept s ((emptyTable s).onStc fun c => { c with board := .active n }) :=
      (emptyTable_safeKept s).trans (.onStc rfl id fun h => absurd h hm)
    split
    · exact h0.trans (abandonAll_safeKept _)
    · exact h0

theorem takeRestart_safeKept (prom : Option (List Byte)) (s : State) : SafeKept s (takeRestart prom s) := by
  unfold takeRestart
  split
  · exact .refl s
  · exact startRestart_safeKept ..

theorem endRestartWait_safeKept (s : State) : SafeKept s (endRestartWait s) := by
  unfold endRestartWait
  split
  · exact startRestart_safeKept ..
  · exact .refl s

theorem clearLogs_safeKept (s : State) : SafeKept s (clearLogs s) := by
  refine SafeKept.trans (t := s.onLif fun l => { l with counters := .zero, checkLog := .empty })
    (.of_lif rfl (.of_counters rfl ?_ rfl rfl rfl rfl rfl (.inl rfl)))
    (.onFlu rfl rfl (fun _ => rfl) fun _ => Nat.zero_le 255)
  rintro ⟨-, -, -, -, -, -, hk⟩
  exact ⟨Nat.zero_le _, Nat.zero_le _, Nat.zero_le _, Nat.zero_le _, Nat.zero_le _, Nat.zero_le _, hk⟩

theorem answerQuery_safeKept (f : RxFrame) (s : State) : SafeKept s (answerQuery f s) := by
  unfold answerQuery
  (repeat' split)
  · exact placeAnswer_safeKept ..
  · exact .refl s
  · exact refuse_safeKept ..

theorem loseStation_safeKept (n : Nat) (s : State) : SafeKept s (loseStation n s) := by
  dsimp only [loseStation]
  split
  · split
    · exact (updRoster_safeKept ..).trans (.onStc_same rfl rfl rfl)
    · exact (updRoster_safeKept ..).trans (stationOut_safeKept ..)
  · exact .refl s

theorem planLost_safeKept (s : State) : SafeKept s (planLost s) := by
  dsimp only [planLost]
  have h0 : SafeKept s (s.memberJobs.foldl (fun t j => dropMember j .planLost 0 t) s) :=
    .foldl (fun _ _ => dropMember_safeKept ..) _ _
  split
  · exact h0
  · exact h0.trans (.onMsq rfl)

theorem endPlanLoss_safeKept (s : State) : SafeKept s (endPlanLoss s) := by
  unfold endPlanLoss
  split
  · exact SafeKept.trans (.onStc_same rfl rfl rfl) (unlessLift_safeKept (planLost_safeKept _))
  · exact .refl s

theorem dueBeacon_safeKept (s : State) : SafeKept s (dueBeacon s) := by
  unfold dueBeacon
  split
  · exact SafeKept.trans (.onStc_same rfl rfl rfl) (offerBeacon_safeKept _)
  · exact .refl s

/-! ## Start -/

/-- The memories of a self-test are restored: nothing is left in a table, a queue or a claim map that was not there. -/
theorem restoreMemories_mapKept (s : State) : MapKept s (restoreMemories s) := by
  refine MapKept.trans ((meuAbort_safeKept s).trans (emptyQueues_safeKept _)).but ?_
  refine ⟨id, id, id, id, fun h => tableSafe_of_sublist h (List.nil_sublist _) rfl,
    fun h => ⟨fun hs => absurd rfl hs, fun _ hn => nomatch hn⟩, id, ?_⟩
  rintro ⟨ho, hw, hj, ht⟩
  refine ⟨fun hm => ?_, hw, fun hm => ⟨rfl, rfl, (hj hm).2.2⟩, ht⟩
  obtain ⟨hb, -, -, hr⟩ := ho hm
  exact ⟨hb, rfl, rfl, hr⟩

/-- The slots a self-test keeps are frozen as they were. -/
theorem restoreMemories_safeKept (s : State) : SafeKept s (restoreMemories s) := by
  refine (restoreMemories_mapKept s).safe fun hw => windowSafe_of_subset hw rfl fun p hp x hx => ?_
  simp only [restoreMemories] at hp
  split at hp
  · obtain ⟨q, hq, rfl⟩ := List.mem_map.1 (Heads.list_map _ _ ▸ hp)
    refine ⟨q, by simpa [emptyQueues, meuAbort] using hq, ?_⟩
    unfold Slot.atRestart at hx
    split at hx
    · exact hx
    · exact absurd hx List.not_mem_nil
  · simp only [Heads.all, Heads.list, List.mem_cons, List.not_mem_nil, or_false] at hp
    obtain rfl | rfl | rfl | rfl | rfl | rfl | rfl | rfl := hp <;> exact absurd hx (List.not_mem_nil)

/-- The self-test is over. -/
theorem endTest_safeKept (r : SelfTest) (s : State) :
    SafeKept s (s.onStc fun c => { c with selfTest := r, selfTesting := false }) :=
  .onStc rfl nofun fun _ h => h

theorem endSelfTest_safeKept (m : Bool) (v a : List Int) (s : State) : SafeKept s (endSelfTest m v a s) := by
  dsimp only [endSelfTest]
  split
  next ht =>
    have h0 := (restoreMemories_safeKept s).trans (endTest_safeKept (s.testResult m v a) _)
    have hf (hh : s.HeadSafe) : s.flu.fence = .noFence := by
      obtain ⟨ho, -, -, hst⟩ := hh
      exact (offlineSafe_iff.1 ho (hst ht)).2.2.2
    split
    · exact ⟨h0.toBlockKept.trans (enterJoining_blockKept rfl), h0.fence, fun hh => enterJoining_headSafe ⟨rfl, rfl⟩ (hf hh)⟩
    · exact ⟨h0.toBlockKept.trans ((recordFault_safeKept ..).toBlockKept.trans (goOffline_blockKept _ fun _ => rfl)), h0.fence,
        fun hh => goOffline_headSafe _ ⟨rfl, rfl⟩ (hf hh)⟩
  · exact .refl s

theorem askCensus_safeKept (h : s.msq.motion = .joining) : SafeKept s (askCensus s) := by
  unfold askCensus
  split
  · exact .refl s
  · exact (pendCensus_safeKept (by simp [h])).trans (offerSafety_safeKept ..)

theorem endListen_safeKept (s : State) : SafeKept s (endListen s) := by
  dsimp only [endListen]
  split
  next h =>
    have h0 : SafeKept s (s.onStc fun c => { c with listen := none, beaconTimer := some beaconPeriod }) :=
      .onStc_same rfl rfl rfl
    split
    · exact h0.trans (startFault_safeKept _ (.inl h.2))
    · exact (askCensus_safeKept (by exact h.2)).after
        ((joinOn_safeKept (by exact h.2) (.inr (.inl rfl)) rfl).after h0)
  · exact .refl s

theorem releaseReset_safeKept (side : Side) (s : State) :
    SafeKept s (s.powerOn.onStc fun c => { c with inReset := false, side := side }) := by
  have h := safe_powerOn s
  exact ⟨⟨fun _ => h.fault, fun _ => h.counters, fun _ => h.work, fun _ => h.silent, fun _ => h.window, fun _ => h.table,
    fun _ => h.stimulus⟩, fun _ => h.fence, fun _ => headSafe_powerOn s⟩

theorem powerOnStart_safeKept (st : BitVec 4) (side : Side) (prom : Option (List Byte)) (s : State) :
    SafeKept s (powerOnStart st side prom s) := by
  dsimp only [powerOnStart]
  refine (releaseReset_safeKept side s).trans ?_
  split
  · refine SafeKept.trans (.onStc_same (g := fun c => { c with station := some st.toNat }) rfl rfl rfl) ?_
    split
    · exact startFault_safeKept _ (.inr ⟨⟨rfl, rfl⟩, rfl, rfl⟩)
    · exact (beginSelfTest_safeKept rfl).after (.onStc_same rfl rfl rfl)
  · exact startFault_safeKept _ (.inr ⟨⟨rfl, rfl⟩, rfl, rfl⟩)

/-! ## Every command -/

/-- A command answers a state in which the safety conditions are kept, that on a part in reset among them. -/
def KeepsSafe (s : State) (r : Result) : Prop := ∃ t, r = .next t ∧ SafeKept s t ∧ (s.ResetSafe → t.ResetSafe)

/-- A part that is not in reset meets the condition on one that is. -/
theorem resetSafe_of_running (h : t.stc.inReset = false) : t.ResetSafe := fun hr => by simp [h] at hr

theorem inReset_of_identity (h : t.identity = s.identity) : t.stc.inReset = s.stc.inReset := congrArg Prod.fst h

theorem keepsSafe_live {act : State → State} (h : SafeKept s (act s)) (hi : (act s).identity = s.identity) :
    KeepsSafe s (live act s) := by
  refine ⟨_, rfl, ?_⟩
  split
  · exact ⟨.refl s, id⟩
  next hr =>
    refine ⟨h.trans (settle_safeKept _), fun _ => resetSafe_of_running ?_⟩
    rw [inReset_of_identity (settle_identity _), inReset_of_identity hi]
    simpa using hr

@[simp] theorem unlessLift_identity {act : State → State} (h : (act s).identity = s.identity) :
    (unlessLift act s).identity = s.identity := by
  unfold unlessLift
  split
  · rfl
  · exact h

@[simp] theorem unlessWaiting_identity {act : State → State} (h : (act s).identity = s.identity) :
    (unlessWaiting act s).identity = s.identity := by
  unfold unlessWaiting
  split
  · rfl
  · exact h

theorem checkFrame_identity {k : Kind} {f : RxFrame} {act : State → State} (h : ∀ s, (act s).identity = s.identity) (s : State) :
    (checkFrame k f act s).identity = s.identity := by
  unfold checkFrame checkCode
  (repeat' split) <;> simp [h]

@[simp] theorem hear_identity {k : Kind} {f : RxFrame} {act : State → State} (h : ∀ s, (act s).identity = s.identity) (s : State) :
    (hear k f act s).identity = s.identity := by
  unfold hear
  (repeat' split) <;> simp [checkFrame_identity h]

@[simp] theorem atEntry_identity {f : RxFrame} {act : Entry → State → State} (h : ∀ e s, (act e s).identity = s.identity) (s : State) :
    (atEntry f act s).identity = s.identity := by
  refine unlessLift_identity ?_
  split <;> simp [h]

@[simp] theorem atMember_identity {f : RxFrame} {act : Entry → Membership → State → State}
    (h : ∀ e m s, (act e m s).identity = s.identity) (s : State) : (atMember f act s).identity = s.identity := by
  refine atEntry_identity (fun e s => ?_) s
  split <;> simp [h]

@[simp] theorem atLead_identity {f : RxFrame} {act : Entry → Membership → State → State}
    (h : ∀ e m s, (act e m s).identity = s.identity) (s : State) : (atLead f act s).identity = s.identity := by
  refine atEntry_identity (fun e s => ?_) s
  split <;> simp [h]

@[simp] theorem onSide_identity {side : Side} {f : RxFrame} {own : State → State} {peer : Nat → State → State}
    (ho : ∀ s, (own s).identity = s.identity) (hp : ∀ n s, (peer n s).identity = s.identity) (s : State) :
    (onSide side f own peer s).identity = s.identity := by
  refine unlessLift_identity ?_
  (repeat' split) <;> simp [ho, hp]

theorem keepsSafe_hear {k : Kind} {f : RxFrame} {act : State → State} (h : ∀ s, SafeKept s (act s))
    (hi : ∀ s, (act s).identity = s.identity) : KeepsSafe s (live (hear k f act) s) :=
  keepsSafe_live (hear_safeKept h s) (hear_identity hi s)

/-- A command that changes the input levels of a part in reset and no more. -/
theorem keepsSafe_pins (h : SafeKept s t) (hi : t.identity = s.identity)
    (hr : s.stc.inReset = true → t = { s with pins := t.pins }) : KeepsSafe s (.next t) := by
  refine ⟨t, rfl, h, fun hs ht => ?_⟩
  have hin : s.stc.inReset = true := (inReset_of_identity hi).symm.trans ht
  rw [hr hin]
  conv_lhs => rw [hs hin]

theorem contactClose_inReset (h : s.stc.inReset = true) : contactClose s = { s with pins := (contactClose s).pins } := by
  unfold contactClose
  split
  · rfl
  · simp [h, State.onPins]

theorem contactOpen_inReset (h : s.stc.inReset = true) : contactOpen s = { s with pins := (contactOpen s).pins } := by
  unfold contactOpen
  split <;> simp [h, State.onPins]

theorem haltSeen_inReset (h : s.stc.inReset = true) : haltSeen s = { s with pins := (haltSeen s).pins } := by
  simp [haltSeen, h, State.onPins]

theorem haltGone_inReset (h : s.stc.inReset = true) : haltGone s = { s with pins := (haltGone s).pins } := by
  simp [haltGone, h, State.onPins]

theorem resetNAssert_keepsSafe (s : State) : KeepsSafe s (execResetNAssert s) := by
  have h := safe_powerOn s
  exact ⟨_, rfl, ⟨⟨fun _ => h.fault, fun _ => h.counters, fun _ => h.work, fun _ => h.silent, fun _ => h.window,
    fun _ => h.table, fun _ => h.stimulus⟩, fun _ => h.fence, fun _ => headSafe_powerOn s⟩, fun _ => h.reset⟩

theorem resetNRelease_keepsSafe (st : BitVec 4) (side : Side) (prom : Option (List Byte)) (s : State) :
    KeepsSafe s (execResetNRelease st side prom s) := by
  refine ⟨_, rfl, (powerOnStart_safeKept ..).trans (settle_safeKept _), fun _ => resetSafe_of_running ?_⟩
  rw [inReset_of_identity (settle_identity _)]
  simp only [powerOnStart]
  (repeat' split) <;> simp [startFault, goOffline, beginSelfTest, filterSafety, recordFault]

/-- Every command keeps the safety conditions. -/
theorem exec_keepsSafe (c : Instr) (s : State) : KeepsSafe s (exec c s) := by
  cases c with
  | resetNAssert => exact resetNAssert_keepsSafe s
  | resetNRelease st side prom => exact resetNRelease_keepsSafe st side prom s
  | selftestEnd m v a => exact keepsSafe_live (endSelfTest_safeKept ..) (by simp)
  | listenTimerExpiry => exact keepsSafe_live (endListen_safeKept _) (by simp)
  | lineQuiet => exact keepsSafe_live (takeQuiet_safeKept _) (by simp)
  | lineNoise => exact keepsSafe_live (takeNoise_safeKept _) (by simp)
  | syncDetected => exact keepsSafe_live (takeSync_safeKept _) (by simp)
  | gapEnd => exact keepsSafe_live (takeGapEnd_safeKept _) (by simp)
  | postBurstGapEnd => exact keepsSafe_live (takeBurstGapEnd_safeKept _) (by simp)
  | laneCollision => exact keepsSafe_live (takeCollision_safeKept _) (by simp)
  | frameSent => exact keepsSafe_live (takeSent_safeKept _) (by simp)
  | heldFrameAccepted => exact keepsSafe_live (unlessLift_safeKept (takeHeld_safeKept _)) (by simp)
  | stallTimerExpiry q => exact keepsSafe_live (takeStall_safeKept ..) (by simp)
  | frameSpoiled ws r => exact keepsSafe_live (unlessWaiting_safeKept (takeSpoiled_safeKept ..)) (by simp)
  | frameBroken ws => exact keepsSafe_live (unlessWaiting_safeKept (takeBroken_safeKept ..)) (by simp)
  | deafnessTimerExpiry => exact keepsSafe_live (takeDeafness_safeKept _) (by simp)
  | offer f => exact keepsSafe_hear (fun _ => unlessLift_safeKept (hearOffer_safeKept ..)) (by simp)
  | withdraw f =>
    exact keepsSafe_hear (fun _ => atEntry_safeKept fun _ _ => takeWithdraw_safeKept ..)
      (by simp [takeWithdraw, apply_ite State.identity])
  | take f => exact keepsSafe_hear (fun _ => hearTake_safeKept ..) (by simp)
  | set f => exact keepsSafe_hear (fun _ => unlessLift_safeKept (hearSet_safeKept ..)) (by simp)
  | drop f => exact keepsSafe_hear (fun _ => hearDrop_safeKept ..) (by simp)
  | landed f => exact keepsSafe_hear (fun _ => atLead_safeKept fun _ _ => takeLanding_safeKept ..) (by simp)
  | start f => exact keepsSafe_hear (fun _ => atMember_safeKept fun _ _ hm => takeStart_safeKept _ _ _ hm) (by simp)
  | reading f => exact keepsSafe_hear (fun _ => atLead_safeKept fun _ _ => takeReading_safeKept ..) (by simp)
  | again f => exact keepsSafe_hear (fun _ => atMember_safeKept fun _ _ hm => heardAgain_safeKept _ _ _ hm) (by simp)
  | result f => exact keepsSafe_hear (fun _ => atEntry_safeKept fun _ _ => takeResult_safeKept ..) (by simp)
  | beacon f => exact keepsSafe_hear (fun _ => hearBeacon_safeKept ..) (by simp)
  | fault f => exact keepsSafe_hear (fun _ => hearFault_safeKept ..) (by simp)
  | status f => exact keepsSafe_hear (fun _ => hearStatus_safeKept ..) (by simp)
  | refused f => exact keepsSafe_hear (fun _ => .refl _) (by simp)
  | planBeacon f => exact keepsSafe_hear (fun _ => .refl _) (by simp)
  | claim f =>
    exact keepsSafe_hear (fun _ => onSide_safeKept (ownClaim_safeKept ..) fun _ => peerClaim_safeKept ..) (by simp)
  | shrink f =>
    exact keepsSafe_hear (fun _ => onSide_safeKept (setOrdinal_safeKept ..) fun _ => peerShrink_safeKept ..) (by simp)
  | release f =>
    exact keepsSafe_hear (fun _ => onSide_safeKept (setOrdinal_safeKept ..) fun _ => peerRelease_safeKept ..) (by simp)
  | object f =>
    exact keepsSafe_hear (fun _ => onSide_safeKept (hearObject_safeKept ..) fun _ => hearObject_safeKept ..) (by simp)
  | censusReq f =>
    exact keepsSafe_hear (fun _ => onSide_safeKept (ownCensus_safeKept _) fun _ => censusRequest_safeKept _) (by simp)
  | censusReply f => exact keepsSafe_hear (fun _ => hearReply_safeKept ..) (by simp)
  | censusTimerExpiry => exact keepsSafe_live (endCensus_safeKept _) (by simp)
  | objectionWindowExpiry => exact keepsSafe_live (windowExpires_safeKept _) (by simp)
  | slotWindowExpiry n => exact keepsSafe_live (endSlotWindow_safeKept ..) (by simp)
  | boardOut f => exact keepsSafe_hear (fun _ => unlessLift_safeKept (takeBoardOut_safeKept _)) (by simp)
  | boardIn f => exact keepsSafe_hear (fun _ => unlessLift_safeKept (takeBoardIn_safeKept ..)) (by simp)
  | restart f prom => exact keepsSafe_hear (fun _ => takeRestart_safeKept ..) (by simp)
  | resume f => exact keepsSafe_hear (fun _ => unlessLift_safeKept (takeResume_safeKept _)) (by simp)
  | clearFrozen f => exact keepsSafe_hear (fun _ => unlessLift_safeKept (clearSlot_safeKept ..)) (by simp)
  | clearLog f => exact keepsSafe_hear (fun _ => clearLogs_safeKept _) (by simp)
  | query f => exact keepsSafe_hear (fun _ => answerQuery_safeKept ..) (by simp)
  | silenceTimerExpiry n => exact keepsSafe_live (loseStation_safeKept ..) (by simp)
  | planLossTimerExpiry => exact keepsSafe_live (endPlanLoss_safeKept _) (by simp)
  | beaconTimerExpiry => exact keepsSafe_live (dueBeacon_safeKept _) (by simp)
  | takeWindowExpiry job => exact keepsSafe_live (endTakeWindow_safeKept ..) (by simp)
  | catchGraceExpiry job => exact keepsSafe_live (endCatchGrace_safeKept ..) (by simp)
  | landingWaitExpiry job => exact keepsSafe_live (unlessLift_safeKept (endMembershipTimer_safeKept ..)) (by simp)
  | holdLimitExpiry job => exact keepsSafe_live (unlessLift_safeKept (endMembershipTimer_safeKept ..)) (by simp)
  | landingLimitExpiry job => exact keepsSafe_live (unlessLift_safeKept (endMembershipTimer_safeKept ..)) (by simp)
  | readingDeadlineExpiry job => exact keepsSafe_live (unlessLift_safeKept (endDeadline_safeKept ..)) (by simp)
  | settleEnd => exact keepsSafe_live (beginSampling_safeKept _) (by simp)
  | sampleInstant v a => exact keepsSafe_live (takeSample_safeKept ..) (by simp)
  | windowEnd => exact keepsSafe_live (endWindow_safeKept _) (by simp)
  | driveReport r => exact keepsSafe_live (takeReport_safeKept ..) (by simp)
  | driveSilenceExpiry => exact keepsSafe_live (driveSilent_safeKept _) (by simp)
  | restartLiftTimeout => exact keepsSafe_live (liftTimeout_safeKept _) (by simp)
  | contactClosing => exact keepsSafe_pins (contactClose_safeKept s) (by simp) contactClose_inReset
  | contactOpening => exact keepsSafe_pins (contactOpen_safeKept s) (by simp) contactOpen_inReset
  | idleParkTimerExpiry => exact keepsSafe_live (unlessLift_safeKept (idlePark_safeKept _)) (by simp)
  | spaceWaitExpiry => exact keepsSafe_live (unlessLift_safeKept (endSpaceWait_safeKept _)) (by simp)
  | haltAsserted => exact keepsSafe_pins (haltSeen_safeKept s) (by simp) haltSeen_inReset
  | haltReleased => exact keepsSafe_pins (haltGone_safeKept s) (by simp) haltGone_inReset
  | restartWaitExpiry => exact keepsSafe_live (endRestartWait_safeKept _) (by simp)
  | unassignedKindFrame code f => exact keepsSafe_hear (fun _ => .refl _) (by simp)

/-- Every step keeps the safety conditions. -/
theorem step_keepsSafe (s : State) : KeepsSafe s (step s) := by
  unfold step
  split
  · exact ⟨s, rfl, .refl s, id⟩
  next c rest _ =>
    obtain ⟨t, ht, hk, hr⟩ := exec_keepsSafe c { s with pending := rest }
    refine ⟨t, ht, (SafeKept.outer s _ _ _).trans hk, fun hs => hr fun hin => ?_⟩
    conv_lhs => rw [hs hin]

/-- Settles O58: each safety condition is kept by every step (`step_keepsSafe`). -/
theorem statusStaysConsistent : Obligations.StatusStaysConsistent := by
  refine ⟨fun s hf hr hc hw => ?_, fun s hs => ?_⟩
  · obtain ⟨t, ht, hk, -⟩ := step_keepsSafe s
    exact ⟨t, ht, hk.fence hf, hk.fault hr, hk.counters hc, hk.work hw⟩
  · obtain ⟨t, ht, hk, hreset⟩ := step_keepsSafe s
    obtain ⟨ho, hj⟩ := hk.head ⟨hs.offline, hs.join⟩
    exact ⟨t, ht, hk.stimulus hs.stimulus, hk.fence hs.fence, hk.fault hs.fault, hk.counters hs.counters, hk.work hs.work,
      hk.silent hs.silent, hk.window hs.window, hk.table hs.table, ho, hj, hreset hs.reset⟩

end Sys2Proof.Machine
end

section
/-! SUPPORT. The gap that LIF counts through the blocks' own action, and the statements on the line: O3, O4, O5 and O7. -/

namespace Sys2Proof.Machine

open Sys2Proof

variable {s t u : State} {k : Kind} {f : RxFrame}

/-! ## Frame commands -/

/-- What the blocks that own a frame's kind do of it, for each frame command. -/
def Instr.effect : Instr → State → State
  | .offer f => unlessLift (hearOffer f)
  | .withdraw f => atEntry f takeWithdraw
  | .take f => hearTake f
  | .set f => unlessLift (hearSet f)
  | .drop f => hearDrop f
  | .landed f => atLead f fun e m s => takeLanding e m f.src.toNat (rxLandedRole f) (rxLandedPass f) (rxNoContact f) s
  | .start f => atMember f fun e m s => takeStart e m f.src.toNat (rxPass f) s
  | .reading f => atLead f fun e m s =>
      takeReading e m f.src.toNat (rxReadingRole f) (rxReadingPass f) (rxReading f) s
  | .again f => atMember f fun _ m s => takeAgain m f.src.toNat (rxRepeat f) (rxPass f) s
  | .result f => atEntry f fun e s => takeResult (rxResultBoard f) e s
  | .beacon f => hearBeacon f
  | .fault f => hearFault f
  | .status f => hearStatus f
  | .claim f => onSide (rxRectSide f) f (ownClaim (rxOrdinal f) (rxClaimKind f) (rxRect f))
      fun n => peerClaim n (rxOrdinal f) (rxRect f)
  | .shrink f => onSide (rxRectSide f) f (setOrdinal (rxOrdinal f)) fun n => peerShrink n (rxOrdinal f) (rxRect f)
  | .release f => onSide (rxAuxSide f) f (setOrdinal (rxOrdinal f)) fun n => peerRelease n (rxOrdinal f)
  | .object f => onSide (rxAuxSide f) f (hearObject f) fun _ => hearObject f
  | .censusReq f => onSide (rxAuxSide f) f ownCensus fun _ => censusRequest
  | .censusReply f => hearReply f
  | .boardOut _ => unlessLift takeBoardOut
  | .boardIn f => unlessLift (takeBoardIn (rxBoard f))
  | .restart _ prom => takeRestart prom
  | .resume _ => unlessLift takeResume
  | .clearFrozen f => unlessLift (clearSlot (rxFrozenStation f))
  | .clearLog _ => clearLogs
  | .query f => answerQuery f
  | _ => id

/-- Every frame command is heard, and its kind alone tells who acts on it. -/
theorem exec_frame {c : Instr} (h : c.frame? = some (k, f)) (s : State) : exec c s = live (hear k f (Instr.effect c)) s := by
  cases c <;> cases h <;> rfl

/-! ## The gap -/

@[simp] theorem offerSafety_gap (g : TxFrame) (s : State) : (offerSafety g s).lif.gap = s.lif.gap := by
  dsimp only [offerSafety]
  (repeat' split) <;> rfl

@[simp] theorem offerWork_gap (g : TxFrame) (s : State) : (offerWork g s).lif.gap = s.lif.gap := by
  unfold offerWork
  (repeat' split) <;> rfl

@[simp] theorem changeBeacon_gap (s : State) : (changeBeacon s).lif.gap = s.lif.gap := by
  unfold changeBeacon offerBeacon
  (repeat' split) <;> simp

@[simp] theorem idleOrParked_gap (s : State) : (idleOrParked s).lif.gap = s.lif.gap := by
  unfold idleOrParked
  split
  · rfl
  · simp [enterParked]

@[simp] theorem spaceDrop_gap (s : State) : (spaceDrop s).lif.gap = s.lif.gap := by
  unfold spaceDrop
  (repeat' split) <;> simp [endMember]

@[simp] theorem reportVoid_gap (s : State) : (reportVoid s).lif.gap = s.lif.gap := by
  unfold reportVoid
  (repeat' split) <;> simp [enterWaitSpace]

@[simp] theorem withdrawClaim_gap (s : State) : (withdrawClaim s).lif.gap = s.lif.gap := by
  unfold withdrawClaim
  (repeat' split) <;> rfl

@[simp] theorem settleHalt_gap (s : State) : (settleHalt s).lif.gap = s.lif.gap := by
  unfold settleHalt
  split
  · simp [haltFreeze, freeze, sendCommand, endMembers, releaseReadings]
  · rfl

@[simp] theorem settleClaim_gap (s : State) : (settleClaim s).lif.gap = s.lif.gap := by
  dsimp only [settleClaim, withdrawAndReport]
  (repeat' split) <;> simp

@[simp] theorem settleAction_gap (s : State) : (settleAction s).lif.gap = s.lif.gap := by
  unfold settleAction
  (repeat' split) <;> rfl

@[simp] theorem silenceScu_gap (s : State) : (silenceScu s).lif.gap = s.lif.gap := rfl

@[simp] theorem freezeForFence_gap (s : State) : (freezeForFence s).lif.gap = s.lif.gap := by
  unfold freezeForFence
  split <;> rfl

@[simp] theorem silentFence_gap (mode code : Nat) (s : State) : (silentFence mode code s).lif.gap = s.lif.gap := by
  simp [silentFence, endMembers, releaseReadings, lifSilence, pushWork, emptyQueues]

@[simp] theorem startConflict_gap (s : State) : (startConflict s).lif.gap = s.lif.gap := by
  dsimp only [startConflict]
  (repeat' split) <;> simp [completeJoin, startDeafness]

@[simp] theorem settlePlacing_gap (s : State) : (settlePlacing s).lif.gap = s.lif.gap := by
  dsimp only [settlePlacing]
  (repeat' split) <;> simp [queueClaim]

@[simp] theorem askTravel_gap (s : State) : (askTravel s).lif.gap = s.lif.gap := by
  dsimp only [askTravel]
  split <;> simp [enterWaitSpace, queueClaim]

@[simp] theorem askPark_gap (s : State) : (askPark s).lif.gap = s.lif.gap := by
  dsimp only [askPark]
  split <;> simp [queueClaim]

@[simp] theorem settleServe_gap (s : State) : (settleServe s).lif.gap = s.lif.gap := by
  unfold settleServe
  (repeat' split) <;> simp

@[simp] theorem settleIdle_gap (s : State) : (settleIdle s).lif.gap = s.lif.gap := by
  unfold settleIdle
  (repeat' split) <;> simp

@[simp] theorem settleSpace_gap (s : State) : (settleSpace s).lif.gap = s.lif.gap := by
  dsimp only [settleSpace]
  (repeat' split) <;> simp

@[simp] theorem settleTake_gap (s : State) : (settleTake s).lif.gap = s.lif.gap := by
  unfold settleTake
  (repeat' split) <;> simp [offerTake]

@[simp] theorem settleCensus_gap (s : State) : (settleCensus s).lif.gap = s.lif.gap := by
  unfold settleCensus
  split <;> simp

/-- The gap after the blocks' own action in a running part: counted anew where one was counted (R8). -/
theorem settle_gap (h : s.Running) : (settle s).lif.gap = if s.lif.gap.isSome then (settle s).gapNow else none := by
  have hf : (settleAction (settleClaim (settleHalt s))).flu.fence ≠ .restartWait :=
    settleAction_fence (by simpa using h.noFence1)
  have hg (t : State) (ht : t.lif.gap = s.lif.gap) :
      (regap t).lif.gap = if s.lif.gap.isSome then (regap t).gapNow else none := by
    rw [← ht]
    rfl
  rw [settle, if_neg (by simp [h.noLift]), settleRestart_idle hf]
  exact hg _ (by simp)

/-- A running part's burst waits through the blocks' own action. -/
theorem settle_burst (h : s.Running) : (settle s).lif.burst = s.lif.burst := by
  have hf : (settleAction (settleClaim (settleHalt s))).flu.fence ≠ .restartWait :=
    settleAction_fence (by simpa using h.noFence1)
  rw [settle, if_neg (by simp [h.noLift]), settleRestart_idle hf]
  simp

/-! ## Noise and syncs -/

/-- A command whose own effect is none. -/
theorem live_nothing {act : State → State} (h : s.Running) (ha : act s = s) :
    live act s = .next (settle s) ∧ RunKept s (settle s) := live_run h.noReset ha h

/-- Settles O3, receiver state by receiver state. -/
theorem lineWatchFollowsTheLine : Obligations.LineWatchFollowsTheLine := by
  intro s hr nothing follow
  have hfollow (hm : takeSync s = takeFollow s) (hh : s.lif.receiver = .header) :
      exec .syncDetected s = .next (settle follow) ∧ RunKept follow (settle follow) :=
    live_run hr.noReset (by simp [hm, takeFollow, hh, follow]) (hr.congr rfl rfl rfl)
  refine ⟨fun hx => ⟨fun hi => ⟨?_, ?_⟩, fun hh => ?_, fun hw => ⟨?_, ?_⟩⟩, fun x hx => ⟨?_, fun hb hh => ?_, fun hb => ?_⟩,
    fun hw => ⟨fun ws rest => ?_, fun ws => ?_, fun c k f hc ho => ?_⟩⟩
  · exact live_run hr.noReset (by simp [takeNoise, hx, hi]) (hr.congr rfl rfl rfl)
  · exact live_run hr.noReset (by simp [takeSync, hx, hi]) (hr.congr rfl rfl rfl)
  · exact hfollow (by simp [takeSync, hx, hh]) hh
  · exact live_nothing hr (by simp [takeNoise, hw])
  · exact live_nothing hr (by simp [takeSync, takeFollow, hx, hw])
  · exact live_nothing hr (by simp [takeNoise, hx])
  · exact hfollow (by simp [takeSync, hx, hb]) hh
  · refine live_nothing hr ?_
    rcases hb with hb | hb <;> simp [takeSync, takeFollow, hx, hb]
  · exact live_nothing hr (by simp [unlessWaiting, hw])
  · exact live_nothing hr (by simp [unlessWaiting, hw])
  · have hrec : s.receives f = false := by
      rcases ho with ho | ho <;> simp [State.receives, hw, ho]
    simp only [nothing, exec_frame hc]
    exact live_nothing hr (hear_deaf _ hrec)

/-! ## Quiet -/

/-- A station's rotation position against a tracker, as a residue (R9). -/
theorem rotation_eq {n t : Nat} (ht : t ≤ 8) : rotation n t = (((n : Int) - t - 1) % 9).toNat := by
  unfold rotation
  omega

/-- Quiet at a receiver that takes no frame. -/
theorem takeQuiet_eq (hx : s.lif.tx = none) (hr : s.lif.receiver = .idle ∨ s.lif.receiver = .waitQuiet) :
    takeQuiet s = (s.onLif fun l => { l with receiver := .idle, readbackDue := false, burst := none }).onLif fun l =>
      { l with gap := s.gapNow } := by
  rcases hr with hr | hr <;> simp only [takeQuiet, hx, hr] <;> rfl

/-- Settles O4: the gap is counted anew after the blocks' own action (`settle_gap`). -/
theorem quietStartsTheGap : Obligations.QuietStartsTheGap := by
  intro s n hr hn h1 h8 htr hx hrec hc
  have hq := takeQuiet_eq hx hrec
  have hru : (takeQuiet s).Running := hr.congr (by rw [hq]; rfl) (by rw [hq]; rfl) (by rw [hq]; rfl)
  obtain ⟨hex, hk⟩ := live_run (g := takeQuiet) hr.noReset rfl hru
  have hk' : RunKept (s.onLif fun l => { l with receiver := .idle }) (settle (takeQuiet s)) :=
    RunKept.trans (by rw [hq]; constructor <;> rfl) hk
  refine ⟨_, hex, by rw [hk'.receiver]; rfl, ?_, hk', ?_⟩
  · rw [settle_burst hru, hq]
    rfl
  · have hg : (takeQuiet s).lif.gap.isSome = true := by
      rw [hq]
      simp [State.gapNow, hn, Option.isSome_iff_ne_none, hc]
    have hst : (settle (takeQuiet s)).stc.station = some n := (identity_station hk'.identity).trans hn
    have htk : (settle (takeQuiet s)).lif.trackers = s.lif.trackers := congrArg (·.2.2) hk'.log
    rw [settle_gap hru, if_pos hg, State.gapNow, hst]
    refine congrArg (fun g => Option.map g _) (funext fun x => ?_)
    simp only [State.gapFor, State.own, hst, Option.getD_some, htk, hk'.collisions, State.onLif_lif, backoff, gapStep,
      rotation_eq (htr x.2.1)]

/-! ## The start of a sync -/

/-- A frame of class POST is chosen where no other class has one. -/
theorem choice_post {p : Place} {g : TxFrame} (h : s.choice = some (p, .post, g)) :
    s.lif.safety = [] ∧ s.lif.work = [] ∧ (s.lif.answer.isSome = true ∨ s.lif.post ≠ []) := by
  unfold State.choice at h
  split at h <;> simp_all

/-- A frame of another class is chosen from its queue. -/
theorem choice_not_post {p : Place} {c : AccessClass} {g : TxFrame} (h : s.choice = some (p, c, g)) (hc : c ≠ .post) :
    s.lif.safety ≠ [] ∨ s.lif.work ≠ [] := by
  unfold State.choice at h
  split at h <;> simp_all

/-- A post burst goes on where the frame chosen is of class POST and the limit is not passed (R12). -/
theorem burstGoesOn_iff {b : Nat} {p : Place} {c : AccessClass} {g : TxFrame} (h : s.choice = some (p, c, g)) :
    s.burstGoesOn b = true ↔ c = .post ∧ s.cfg.postBurst ≠ 0 ∧ b + 1000 < s.cfg.postBurst * 1000 := by
  have hiff : s.burstGoesOn b = true ↔ s.cfg.postBurst ≠ 0 ∧ b + 1000 < s.cfg.postBurst * 1000 ∧ s.lif.safety = [] ∧
      s.lif.work = [] ∧ (s.lif.answer.isSome = true ∨ s.lif.post ≠ []) := by
    simp [State.burstGoesOn, burstGap, us, and_assoc]
  rw [hiff]
  by_cases hc : c = .post
  · subst hc
    have := choice_post h
    tauto
  · have := choice_not_post h hc
    tauto

/-- Settles O5 from what a normal gap's end and a burst's short gap do (R10, R12). -/
theorem gapEndStartsTheSync : Obligations.GapEndStartsTheSync := by
  intro s hr hx
  refine ⟨fun p c g hg hi hc => ?_, fun b p c g hb hc => ⟨fun hp h0 hl => ?_, fun hn => ?_⟩⟩
  · exact live_run (g := takeGapEnd) hr.noReset (by simp [takeGapEnd, hg, hx, hi, hc, startTx]) (hr.congr rfl rfl rfl)
  · have hgo : s.burstGoesOn b = true := (burstGoesOn_iff hc).2 ⟨hp, h0, hl⟩
    exact live_run (g := takeBurstGapEnd) hr.noReset (by simp [takeBurstGapEnd, hb, hgo, hx, hc, startTx, burstGap, us])
      (hr.congr rfl rfl rfl)
  · have hgo : ¬ s.burstGoesOn b = true := by
      rw [burstGoesOn_iff hc]
      rintro ⟨hp, h0, hl⟩
      obtain h | h | h := hn
      · exact h hp
      · exact h0 h
      · omega
    exact live_run (g := takeBurstGapEnd) hr.noReset (by simp [takeBurstGapEnd, hb, hgo]) (hr.congr rfl rfl rfl)

/-! ## A frame sent -/

theorem safetyStall_eq (q : List TxFrame) : safetyStall q = if q = [] then none else some 2000000 := by
  cases q <;> rfl

theorem workStall_eq (q : List TxFrame) : workStall q = if q = [] then none else some 20000000 := by
  cases q <;> rfl

/-- Settles O7, place by place. -/
theorem sentFrameLeavesItsPlace : Obligations.SentFrameLeavesItsPlace := by
  intro s x hr hx hd hn sent stall burst u
  refine live_run (g := takeSent) hr.noReset ?_ (hr.congr rfl rfl rfl)
  simp only [takeSent, hx, hd, hn, leavePlace, safetyStall_eq, workStall_eq, u, sent, stall, burst]
  cases x.place <;> rfl

end Sys2Proof.Machine
end

section
/-! SUPPORT. The frames of presence alone, the checks of a frame, and the logs and queries: O10, O11 and O45. -/

namespace Sys2Proof.Machine

open Sys2Proof

variable {s t u : State} {k : Kind} {f : RxFrame}

/-! ## Reception -/

@[simp] theorem received_join (k : Kind) (f : RxFrame) (s : State) : (received k f s).stc.join = s.stc.join := by
  simp only [received, storeSide, hearOther, hearPresence, startDeafness, markHeard]
  (repeat' split) <;> simp [updRoster_stc_join]

@[simp] theorem decodeInto_tx (n r p : Nat) (w : CodedWord) (s : State) : (decodeInto n r p w s).lif.tx = s.lif.tx := by
  unfold decodeInto
  split <;> rfl

@[simp] theorem logErrors_tx (k : Kind) (f : RxFrame) (s : State) : (logErrors k f s).lif.tx = s.lif.tx := by
  unfold logErrors
  induction f.errors generalizing s with
  | nil => rfl
  | cons e es ih => simpa using ih (decodeInto k.code f.src.toNat e.1 e.2 s)

/-- A frame of another station leaves the frame on the lane. -/
theorem received_tx (ho : s.isOwn f = false) : (received k f s).lif.tx = s.lif.tx := by
  have hm (t : State) : (moveTracker k f.src.toNat (frameEnd false t)).lif.tx = t.lif.tx := by
    unfold moveTracker
    (repeat' split) <;> rfl
  have hh (t : State) : (hearOther t).lif.tx = t.lif.tx := by
    unfold hearOther
    split <;> rfl
  simp only [received, ho, Bool.false_eq_true, if_false, storeSide_lif]
  split <;> simp [hm, hh]

theorem received_silent (k : Kind) (f : RxFrame) (s : State) : (received k f s).lif.silent = s.lif.silent :=
  congrArg (·.1) (received_fenceState k f s)

@[simp] theorem received_canAnswer (k : Kind) (f : RxFrame) (s : State) : (received k f s).canAnswer = s.canAnswer := by
  simp [State.canAnswer, received_silent, identity_station (received_identity k f s)]

@[simp] theorem received_isFor (k : Kind) (f : RxFrame) (s : State) : (received k f s).isFor k f = s.isFor k f := by
  simp [State.isFor, received_own]

/-- A frame that is received, the head's own being awaited, goes on to its checks. -/
theorem hear_checked {act : State → State} (hr : s.receives f = true) (hb : s.isOwn f = true → s.awaitsReadback = true) :
    hear k f act s = checkFrame k f act (received k f s) := by
  have h : (s.isOwn f && !s.awaitsReadback) = false := by
    cases ho : s.isOwn f
    · rfl
    · simp [hb ho]
  rw [hear, if_pos hr, if_neg (by simp [h])]

/-! ## The checks -/

/-- Settles O11, check by check in their order. -/
theorem checksDiscardOrPassOver : Obligations.ChecksDiscardOrPassOver := by
  intro c k f s hc hr hrec hb r u
  have hrr : r.Running := hr.received
  have hfor : r.isFor k f = s.isFor k f := received_isFor ..
  have hgo {v : State} (hv : checkFrame k f (Instr.effect c) r = v) (hvr : v.Running) :
      exec c s = .next (settle v) ∧ RunKept v (settle v) := by
    rw [exec_frame hc]
    exact live_run hr.noReset ((hear_checked hrec hb).trans hv) hvr
  have hur : u.Running := hrr.congr rfl rfl rfl
  refine ⟨fun hf => hgo (by rw [checkFrame, hfor, if_neg (by simp [hf])]) hrr, fun hf h => hgo ?_ hur, fun hf h1 h2 h3 hg hcode hd => ?_⟩
  · rw [checkFrame, hfor, if_pos hf]
    split
    next hff =>
      split
      next hsrc =>
        obtain ⟨hg, hd⟩ : k.guarded = true ∧ f.dst.toNat = 15 ∧ (k = .restart ∨ codeOk f = false) := by
          simp only [Bool.and_eq_true] at hff
          simpa [hff.1, hff.2, hsrc] using h
        rw [checkCode, if_pos hg, if_pos hd]
        rfl
      · rfl
    · rfl
  · have hch : checkFrame k f (Instr.effect c) r =
        if s.canAnswer then placeAnswer (.refused false k.code f.aux f.dst.toNat) u else u := by
      have hca : u.canAnswer = s.canAnswer := received_canAnswer k f s
      rw [checkFrame, hfor, if_pos hf, if_pos (by simp [h1, h2]), if_pos h3, checkCode, if_pos hg, if_neg (by simp [hd]),
        if_neg (by simp [hcode]), ← hca]
      rfl
    rw [exec_frame hc, live_eq _ hr.noReset, hear_checked hrec hb, hch]

/-! ## Presence -/

/-- A state that differs in LIF and STC alone. -/
theorem received_eq {l : Lif} {c : Stc} (hl : (received k f s).lif = l) (hc : (received k f s).stc = c) :
    received k f s = (s.onLif fun _ => l).onStc fun _ => c :=
  State.ext_blocks (by simpa using hl) (by simpa using hc) (by simp) (by simp) (by simp) (by simp) (by simp) (by simp)
    ((received_outer k f s).trans rfl)

/-- STC after a frame of another head that carries no side. -/
theorem received_stc_sideless {e : RosterEntry} (ho : s.isOwn f = false) (he : f.errors = []) (h1 : 1 ≤ f.src.toNat)
    (h8 : f.src.toNat ≤ 8) (hat : s.stc.roster.at? f.src.toNat = some e) (hk : carriedSide k f = none) :
    (received k f s).stc = { s.stc with
      roster := s.stc.roster.put f.src.toNat { e with presence := .present, silence := some silenceTime } } := by
  rw [received_stc_head ho he h1 h8 hat, hk]

/-- The code of a motion state is 13 at most. -/
theorem motionOfCode_isSome {n : Nat} : (motionOfCode n).isSome = true ↔ n ≤ 13 := by
  by_cases h : n ≤ 13
  · interval_cases n <;> simp [motionOfCode]
  · simp only [h, iff_false]
    unfold motionOfCode
    split <;> simp_all

/-- Settles O10: what the reception leaves (`received_lif_other`, `received_stc_head`, `received_stc_plan`) is all. -/
theorem framesOfPresenceAlone : Obligations.FramesOfPresenceAlone := by
  intro s f hr ho he heard
  refine ⟨fun ha => ?_, ?_⟩
  · have hn : f.src.toNat = 0 := by simpa [sourceOk, Kind.accessClass] using ha.source
    refine live_run hr.noReset ?_ (hr.congr rfl rfl rfl)
    rw [hear_accepts _ ha, id]
    refine (received_eq (received_lif_other (ha.receiver ho) ho he (by omega))
      (received_stc_plan ho he hn (by simp [carriedSide]))).trans ?_
    rw [hn]
    rfl
  intro e hat from'
  refine ⟨fun ha => ?_, fun ha => ?_⟩
  · obtain ⟨h1, h8⟩ : 1 ≤ f.src.toNat ∧ f.src.toNat ≤ 8 := by simpa [sourceOk, Kind.accessClass] using ha.source
    refine live_run hr.noReset ?_ (hr.congr rfl rfl rfl)
    rw [hear_accepts _ ha, id]
    exact received_eq (received_lif_other (ha.receiver ho) ho he h8)
      (received_stc_sideless ho he h1 h8 hat (by simp [carriedSide]))
  · obtain ⟨h1, h8⟩ : 1 ≤ f.src.toNat ∧ f.src.toNat ≤ 8 := by simpa [sourceOk, Kind.accessClass] using ha.source
    have hrec : received .status f s = from' e.motion :=
      received_eq (received_lif_other (ha.receiver ho) ho he h8)
        (received_stc_sideless ho he h1 h8 hat (by simp [carriedSide]))
    have hst : s.stc.station ≠ some f.src.toNat := by
      intro h
      simp [State.isOwn, State.own, h] at ho
    have hstore (m : MotionState) :
        updRoster f.src.toNat (fun x => { x with motion := some m }) (from' e.motion) = from' (some m) := by
      have hput : (from' e.motion).stc.roster.at? f.src.toNat =
          some { e with presence := .present, silence := some 30000000 } := Heads.at_put _ hat
      rw [updRoster_head (s := from' e.motion) _ (by omega) hst hput]
      simp only [from', heard, State.onStc, Heads.put_put]
    intro m
    refine live_run hr.noReset ?_ (hr.congr rfl rfl rfl)
    rw [hear_accepts _ ha, hrec]
    simp only [hearStatus, storeMotion, m]
    by_cases hi : rxStatusItem f = 0 ∧ f.body.length = 15
    · rw [if_pos hi]
      cases hm : motionOfCode (rxStatusMotion f) with
      | some x =>
        have h13 := motionOfCode_isSome.1 (by rw [hm]; rfl)
        simp only [hi, h13, and_self, if_true]
        exact hstore x
      | none =>
        have h13 : ¬ rxStatusMotion f ≤ 13 := fun h => by simpa [hm] using motionOfCode_isSome.2 h
        simp [h13]
    · rw [if_neg hi, if_neg (by tauto)]

/-! ## Logs and queries -/

theorem itemTaken_iff (i n : Nat) : itemTaken i n = true ↔ i ≤ 2 ∧ n = 0 ∨ i = 3 ∧ n ≤ 8 ∨ i = 4 ∧ n ≤ 4 := by
  unfold itemTaken
  split
  case h_6 h0 h1 h2 h3 h4 =>
    simp only [imp_false] at h0 h1 h2 h3 h4
    simp only [Bool.false_eq_true, false_iff]
    omega
  all_goals simp

theorem canAnswer_iff (h : s.lifting = false) : s.canAnswer = true ↔
    s.stc.station ≠ none ∧ s.stc.join ≠ .notStarted ∧ s.stc.join ≠ .listen ∧ s.lif.silent = false := by
  simp [State.canAnswer, h, Option.isSome_iff_ne_none, and_assoc]

/-- A QUERY puts the answer to its item, or the refusal, in the answer slot where the head is able to answer. -/
theorem answerQuery_eq (f : RxFrame) (s : State) : answerQuery f s =
    if s.canAnswer then placeAnswer (if itemTaken (rxItem f) (rxSelector f) then .status (rxItem f) (rxSelector f)
      else .refused true 0x15 f.aux f.dst.toNat) s else s := by
  unfold answerQuery refuse
  by_cases h : itemTaken (rxItem f) (rxSelector f) <;> simp [h, Kind.code]

/-- Settles O45. -/
theorem logsClearAndQueriesAnswer : Obligations.LogsClearAndQueriesAnswer := by
  intro s f hr ho
  refine ⟨fun ha => ?_, fun ha => ?_⟩
  · exact live_run hr.noReset ((hear_accepts _ ha).trans rfl) (hr.received.congr rfl rfl rfl)
  · intro r item sel taken answer able
    have hrr : r.Running := hr.received
    have hable : r.canAnswer = true ↔ able := (received_canAnswer .query f s ▸ canAnswer_iff hr.noLift)
    have hans : answerQuery f r = if r.canAnswer then placeAnswer answer r else r := by
      simp only [answerQuery_eq, answer, taken, item, sel, itemTaken_iff]
    have htx : r.lif.tx = s.lif.tx := received_tx ho
    have hgo {v : State} (hv : answerQuery f r = v) (hvr : v.Running) :
        exec (.query f) s = .next (settle v) ∧ RunKept v (settle v) :=
      live_run hr.noReset ((hear_accepts _ ha).trans hv) hvr
    refine ⟨fun hn => hgo (by rw [hans, if_neg (by rwa [hable])]) hrr, fun hy hx => ?_, fun x hy hx hp hd => ?_⟩
    · have hlane : r.onLane .answer = false := by
        simp only [State.onLane, htx]
        split
        next y hy =>
          rcases hx y hy with h | h <;> simp [h]
        · rfl
      have hsil : r.lif.silent = false := (received_silent ..).trans hy.2.2.2
      exact hgo (by rw [hans, if_pos (hable.2 hy), placeAnswer, if_neg (by simp [hsil]), if_neg (by simp [hlane])])
        (hrr.congr rfl rfl rfl)
    · have hlane : r.onLane .answer = true := by simp [State.onLane, htx, hx, hp, hd]
      have hsil : r.lif.silent = false := (received_silent ..).trans hy.2.2.2
      refine hgo ?_ (hrr.congr rfl rfl rfl)
      rw [hans, if_pos (hable.2 hy), placeAnswer, if_neg (by simp [hsil]), if_pos hlane]
      simp only [askReplacement, updTx, State.onLif, htx, hx, Option.map_some]

end Sys2Proof.Machine
end

section
/-! SUPPORT. The check log and the corrected words of a frame that did not stay intact: O9. -/

namespace Sys2Proof.Machine

open Sys2Proof

variable {s t u : State}

/-! ## The check log -/

/-- The log entries of the corrected words of a frame, up to its first uncorrectable one (R5). -/
def corrections (kind source : Nat) : Nat → List CodedWord → List LogEntry
  | _, [] => []
  | i, w :: ws =>
    match decodeWord w with
    | .uncorrectable => []
    | .corrected _ syn =>
      { syndrome := syn, parityWrong := true, position := i, kind := kind, source := source } ::
        corrections kind source (i + 1) ws
    | .clean _ => corrections kind source (i + 1) ws

/-- The check log after the corrected words of a frame: the first fills it where it is empty (R5). -/
def CheckLog.after (c : CheckLog) : List LogEntry → CheckLog
  | [] => c
  | e :: es => match c.entry with
    | some _ => { c with more := true }
    | none => { entry := some e, more := c.more || !es.isEmpty }

/-- LIF with the corrected words counted and logged. -/
def Lif.logging (es : List LogEntry) (l : Lif) : Lif :=
  { l with counters := { l.counters with corrected := min 65535 (l.counters.corrected + es.length) }
           checkLog := l.checkLog.after es }

theorem saturate16_eq {n : Nat} (h : n ≤ 65535) : saturate16 n = min 65535 (n + 1) := by
  unfold saturate16
  split <;> omega

/-- One more corrected word before the others. -/
theorem logging_cons (e : LogEntry) (es : List LogEntry) {l : Lif} (h : l.counters.corrected ≤ 65535) :
    (l.logging [e]).logging es = l.logging (e :: es) := by
  have hn : min 65535 (min 65535 (l.counters.corrected + 1) + es.length) =
      min 65535 (l.counters.corrected + (es.length + 1)) := by omega
  cases hc : l.checkLog.entry <;> cases es <;>
    simp [Lif.logging, CheckLog.after, hc] at hn ⊢ <;> exact hn

theorem logging_nil {l : Lif} (h : l.counters.corrected ≤ 65535) : l.logging [] = l := by
  simp [Lif.logging, CheckLog.after, h]

theorem logCorrected_eq (p k r y : Nat) (h : s.lif.counters.corrected ≤ 65535) : logCorrected p k r y s =
    s.onLif (Lif.logging [{ syndrome := y, parityWrong := true, position := p, kind := k, source := r }]) := by
  cases hc : s.lif.checkLog.entry <;>
    simp [logCorrected, State.onLif, Lif.logging, CheckLog.after, hc, saturate16_eq h]

/-- The words of a frame that did not stay intact, from a position on, are counted and logged up to the uncorrectable one. -/
theorem decodeFollowing_eq (k r i : Nat) (ws : List CodedWord) (h : s.lif.counters.corrected ≤ 65535) :
    decodeFollowing k r i ws s = s.onLif (Lif.logging (corrections k r i ws)) := by
  induction ws generalizing i s with
  | nil => simp [decodeFollowing, corrections, State.onLif, logging_nil h]
  | cons w ws ih =>
    unfold decodeFollowing corrections
    cases hd : decodeWord w with
    | uncorrectable => simp [State.onLif, logging_nil h]
    | clean d => simp [decodeInto, hd, ih _ h]
    | corrected d syn =>
      have h' : (s.onLif (Lif.logging [{ syndrome := syn, parityWrong := true, position := i, kind := k, source := r }])).lif.counters.corrected
          ≤ 65535 := Nat.min_le_left ..
      simp only [decodeInto, hd, logCorrected_eq _ _ _ _ h, ih _ h']
      simp only [State.onLif, logging_cons _ _ h]

/-- The data of a frame's header, whose kind and source its log entries name. -/
def headerOf (ws : List CodedWord) : DataWord :=
  match ws.head?.map decodeWord with
  | some (.clean d) | some (.corrected d _) => d
  | _ => 0

theorem decodeWords_eq (ws : List CodedWord) (h : s.lif.counters.corrected ≤ 65535) : decodeWords ws s =
    s.onLif (Lif.logging (corrections (headerKind (headerOf ws)) (headerSource (headerOf ws)) 0 ws)) := by
  cases ws with
  | nil => simp [decodeWords, corrections, State.onLif, logging_nil h]
  | cons w ws =>
    have hf := decodeFollowing_eq (headerKind (headerOf (w :: ws))) (headerSource (headerOf (w :: ws))) 0 (w :: ws) h
    rw [← hf]
    cases hd : decodeWord w <;> simp [decodeWords, decodeFollowing, headerOf, hd]

/-- The number of corrected words of a frame. -/
def fixedWords (ws : List CodedWord) : Nat :=
  (ws.filter fun w => match decodeWord w with | .corrected .. => true | _ => false).length

/-- All corrected words are logged where only the last word may be uncorrectable. -/
theorem length_corrections (k r i : Nat) {ws : List CodedWord} (h : ∀ w ∈ ws.dropLast, decodeWord w ≠ .uncorrectable) :
    (corrections k r i ws).length = fixedWords ws := by
  induction ws generalizing i with
  | nil => rfl
  | cons w ws ih =>
    cases ws with
    | nil => cases hd : decodeWord w <;> simp [corrections, fixedWords, hd]
    | cons v vs =>
      have hw : decodeWord w ≠ .uncorrectable := h w (by simp)
      have hr := ih (i + 1) fun x hx => h x (by simp [hx])
      unfold corrections
      cases hd : decodeWord w with
      | uncorrectable => exact absurd hd hw
      | clean d => simpa [fixedWords, hd] using hr
      | corrected d syn => simpa [fixedWords, hd] using hr

/-- The first corrected word, those before it being clean, is the first one logged. -/
theorem corrections_first (k r i : Nat) {ws : List CodedWord} {j : Nat} {w : CodedWord} {d : DataWord} {syn : Nat}
    (hj : ws[j]? = some w) (hd : decodeWord w = .corrected d syn) (hc : ∀ v ∈ ws.take j, ∃ c, decodeWord v = .clean c) :
    ∃ es, corrections k r i ws =
      { syndrome := syn, parityWrong := true, position := i + j, kind := k, source := r } :: es := by
  induction ws generalizing i j with
  | nil => simp at hj
  | cons v vs ih =>
    cases j with
    | zero =>
      cases hj
      exact ⟨corrections k r (i + 1) vs, by simp [corrections, hd]⟩
    | succ j =>
      obtain ⟨c, hv⟩ := hc v (by simp)
      obtain ⟨es, hes⟩ := ih (i + 1) (by simpa using hj) fun x hx => hc x (by simp [hx])
      exact ⟨es, by simp [corrections, hv, hes, Nat.add_comm, Nat.add_left_comm]⟩

/-- What the check log shows after the corrected words of a frame (R5). -/
theorem checkLog_after {l : CheckLog} {ws : List CodedWord} (hok : ∀ w ∈ ws.dropLast, decodeWord w ≠ .uncorrectable)
    {c : CheckLog} (hc : c = l.after (corrections (headerKind (headerOf ws)) (headerSource (headerOf ws)) 0 ws)) :
    (fixedWords ws = 0 → c = l) ∧
    (l.entry ≠ none → 1 ≤ fixedWords ws → c = { l with more := true }) ∧
    (l.entry = none → ∀ i w, ws[i]? = some w → ∀ d syn, decodeWord w = .corrected d syn →
      (∀ v ∈ ws.take i, ∃ c, decodeWord v = .clean c) → ∀ h e, ws.head? = some h →
      (decodeWord h = .clean e ∨ ∃ n, decodeWord h = .corrected e n) →
      c = {
        entry := some { syndrome := syn, parityWrong := true, position := i, kind := e.toNat / 2 ^ 19 % 32
                        source := e.toNat / 2 ^ 15 % 16 }
        more := l.more || decide (2 ≤ fixedWords ws) }) := by
  rw [← length_corrections (headerKind (headerOf ws)) (headerSource (headerOf ws)) 0 hok]
  subst hc
  refine ⟨fun h0 => ?_, fun hl h1 => ?_, fun hl i w hi d syn hd hcl h e hh he => ?_⟩
  · rw [List.length_eq_zero_iff.1 h0]
    rfl
  · obtain ⟨x, hx⟩ := Option.ne_none_iff_exists'.1 hl
    cases hes : corrections (headerKind (headerOf ws)) (headerSource (headerOf ws)) 0 ws with
    | nil => simp [hes] at h1
    | cons y ys => simp [CheckLog.after, hx]
  · obtain ⟨es, hes⟩ := corrections_first (headerKind (headerOf ws)) (headerSource (headerOf ws)) 0 hi hd hcl
    have hhd : headerOf ws = e := by
      rcases he with he | ⟨n, he⟩ <;> simp [headerOf, hh, he]
    rw [hes, hhd]
    cases es <;> simp [CheckLog.after, hl, headerKind, headerSource]

/-! ## Counting the frame -/

/-- The words of a SPOILED frame before its last are correctable, and the last is not (R6). -/
theorem spoiledOk_iff {ws : List CodedWord} (h : spoiledOk ws = true) :
    (∀ w ∈ ws.dropLast, decodeWord w ≠ .uncorrectable) ∧ (headerLost ws = true ↔ ws.length = 1) := by
  simp only [spoiledOk, Bool.and_eq_true, List.all_eq_true, bne_iff_ne, ne_eq] at h
  obtain ⟨⟨-, hd⟩, hl⟩ := h
  refine ⟨hd, ?_⟩
  cases ws with
  | nil => simp at hl
  | cons w ws =>
    cases ws with
    | nil => simpa [headerLost] using hl
    | cons v vs => simpa [headerLost] using hd w (by simp)

theorem brokenOk_iff {ws : List CodedWord} (h : brokenOk ws = true) : ∀ w ∈ ws.dropLast, decodeWord w ≠ .uncorrectable := by
  simp only [brokenOk, Bool.and_eq_true, List.all_eq_true, bne_iff_ne, ne_eq] at h
  exact fun w hw => h.2 w (List.dropLast_subset _ hw)

/-- LIF as a lost frame leaves it, and doubt. -/
theorem frameLost_eq (h : s.lifting = false) : frameLost s = setDoubt s := by simp [frameLost, unlessLift, h]

/-- The corrected words of a frame, as LIF logs them. -/
def loggedWords (ws : List CodedWord) : Lif → Lif :=
  Lif.logging (corrections (headerKind (headerOf ws)) (headerSource (headerOf ws)) 0 ws)

theorem takeSpoiled_eq (ws : List CodedWord) (rest : SpoiledRest) (hc : s.lif.counters.corrected ≤ 65535)
    (h : s.lifting = false) : takeSpoiled ws rest s = setDoubt (s.onLif fun l =>
      { loggedWords ws l with
        counters := { (loggedWords ws l).counters with spoiled := saturate16 l.counters.spoiled }
        receiver := if headerLost ws || rest == .violated then .waitQuiet else .idle, gap := none, burst := none }) := by
  rw [takeSpoiled, decodeWords_eq ws hc, frameLost_eq (by exact h)]
  rfl

theorem takeBroken_eq (ws : List CodedWord) (hc : s.lif.counters.corrected ≤ 65535)
    (h : s.lifting = false) : takeBroken ws s = setDoubt (s.onLif fun l =>
      { loggedWords ws l with
        counters := { (loggedWords ws l).counters with broken := saturate16 l.counters.broken }
        receiver := .waitQuiet, gap := none, burst := none }) := by
  rw [takeBroken, decodeWords_eq ws hc, frameBroke, frameLost_eq (by exact h)]
  rfl

/-- Quiet that finds a frame of which no word was received whole. -/
theorem takeQuiet_early (hx : s.lif.tx = none) (hrec : s.lif.receiver = .header ∨ s.lif.receiver = .follow)
    (h : s.lifting = false) : takeQuiet s = setDoubt (s.onLif fun l =>
      { l with counters := { l.counters with broken := saturate16 l.counters.broken }, receiver := .idle,
               readbackDue := false, burst := none, gap := s.gapNow }) := by
  have hb : frameBroke s = setDoubt (s.onCounters fun c => { c with broken := saturate16 c.broken }) :=
    frameLost_eq (by exact h)
  rcases hrec with hrec | hrec <;> simp only [takeQuiet, hx, hrec, hb] <;> rfl

/-- What a lost frame leaves as it was, after LIF alone has taken note of it. -/
theorem lost_answer {g : State → State} {l : Lif → Lif} (hr : s.Running) (hg : g s = setDoubt (s.onLif l)) :
    ∃ t, live g s = .next t ∧ t.log = (s.onLif l).log ∧ t.lif.receiver = (l s.lif).receiver ∧
      t.rosters = s.rosters ∧ t.space = s.space ∧ t.scu.held = s.scu.held ∧ t.scu.ordinal = s.scu.ordinal ∧ t.jtb = s.jtb ∧
      t.scu.doubt = true := by
  obtain ⟨he, hk⟩ := live_run hr.noReset hg (hr.congr rfl rfl rfl)
  have hc := hk.claimState
  simp only [State.claimState, Prod.mk.injEq] at hc
  obtain ⟨hheld, hord, -, hd⟩ := hc
  exact ⟨_, he, hk.log, hk.receiver, hk.rosters, hk.space, hheld, hord, hk.jtb, hd⟩

/-- Settles O9: the corrected words as `checkLog_after` has them, the frame counted once. -/
theorem spoiledAndBrokenFramesAreCounted : Obligations.SpoiledAndBrokenFramesAreCounted := by
  intro s hr hcor fixed logged same
  refine ⟨fun hw => ⟨fun ws rest hok => ?_, fun ws hok => ?_⟩, fun hx hrec => ?_⟩
  · obtain ⟨hdl, hlost⟩ := spoiledOk_iff hok
    obtain ⟨t, ht, hlog, hre, h1, h2, h3, h4, h5, h6⟩ := lost_answer (g := unlessWaiting (takeSpoiled ws rest)) hr
      ((if_neg hw).trans (takeSpoiled_eq ws rest hcor hr.noLift))
    simp only [State.log, Prod.mk.injEq] at hlog
    obtain ⟨hco, hch, htr⟩ := hlog
    refine ⟨t, ht, ⟨htr, h1, h2, h3, h4, h5, h6⟩, checkLog_after hdl hch, ?_, ?_⟩
    · rw [hco]
      simp only [State.onLif_lif, loggedWords, Lif.logging, length_corrections _ _ 0 hdl]
      rfl
    · rw [hre]
      simp [← hlost]
  · have hdl := brokenOk_iff hok
    obtain ⟨t, ht, hlog, hre, h1, h2, h3, h4, h5, h6⟩ := lost_answer (g := unlessWaiting (takeBroken ws)) hr
      ((if_neg hw).trans (takeBroken_eq ws hcor hr.noLift))
    simp only [State.log, Prod.mk.injEq] at hlog
    obtain ⟨hco, hch, htr⟩ := hlog
    refine ⟨t, ht, ⟨htr, h1, h2, h3, h4, h5, h6⟩, checkLog_after hdl hch, hre, ?_⟩
    rw [hco]
    simp only [State.onLif_lif, loggedWords, Lif.logging, length_corrections _ _ 0 hdl]
    rfl
  · obtain ⟨t, ht, hlog, hre, h1, h2, h3, h4, h5, h6⟩ := lost_answer (g := takeQuiet) hr
      (takeQuiet_early hx hrec hr.noLift)
    simp only [State.log, Prod.mk.injEq] at hlog
    obtain ⟨hco, hch, htr⟩ := hlog
    exact ⟨t, ht, ⟨htr, h1, h2, h3, h4, h5, h6⟩, hch, hre, hco⟩

end Sys2Proof.Machine
end

section
/-! SUPPORT. A collision (R7, R11, R15): O6. -/

namespace Sys2Proof.Machine

open Sys2Proof

variable {s t u : State}

/-! ## What the blocks' own action does of a head that waits for space -/

/-- The blocks' own action in a part at work. -/
theorem settle_atWork (h : s.AtWork) (hc : (settleClaim s).msq.motion ≠ .joining) : settle s =
    regap (settleCensus (settleTake (settleSpace (settleIdle (settleServe (settleHandover (settleClaim s))))))) := by
  have hf : (settleClaim s).flu.fence = .noFence := by simpa using h.noFence
  rw [settle, if_neg (by simp [h.noLift]), settleHalt_idle h.noHalt, settleAction_idle hf, settleRestart_idle (by rw [hf]; decide),
    settlePlacing_idle hc]

@[simp] theorem settleHandover_motion (s : State) : (settleHandover s).msq.motion = s.msq.motion := by
  unfold settleHandover
  (repeat' split) <;> rfl

@[simp] theorem settleHandover_spaceEvent (s : State) : (settleHandover s).msq.spaceEvent = s.msq.spaceEvent := by
  unfold settleHandover
  (repeat' split) <;> rfl

/-- A head in WAIT_SPACE serves nothing else. -/
theorem settleServe_waitSpace (h : s.msq.motion = .waitSpace) : settleServe s = s := by
  unfold settleServe
  split
  · rw [if_neg (by simp [h])]
  · rfl

theorem settleIdle_notIdle (h : s.msq.motion ≠ .idle) : settleIdle s = s.onMsq fun m => { m with idleTimer := none } := by
  rw [settleIdle, if_neg h]

/-- In doubt a head in WAIT_SPACE goes on waiting (R98, R127). -/
theorem settleSpace_doubt (h : s.msq.motion = .waitSpace) (hd : s.scu.doubt = true) :
    (settleSpace s).msq.motion = .waitSpace ∧ (settleSpace s).lif = s.lif ∧ (settleSpace s).scu = s.scu := by
  dsimp only [settleSpace]
  split
  · simp [h, askTravel, State.refusesClaim, hd, enterWaitSpace, startSpaceWait]
  · exact ⟨h, rfl, rfl⟩

theorem offerWork_safety (f : TxFrame) (s : State) : (offerWork f s).lif.safety = s.lif.safety ∧ (offerWork f s).lif.tx = s.lif.tx := by
  unfold offerWork
  (repeat' split) <;> exact ⟨rfl, rfl⟩

theorem settleTake_safety (s : State) : (settleTake s).lif.safety = s.lif.safety ∧ (settleTake s).lif.tx = s.lif.tx := by
  unfold settleTake offerTake
  (repeat' split) <;> simp [offerWork_safety]

/-- With nothing on the lane a frame that enters SAFETY leaves the others of other sorts, and is the only new one. -/
theorem offerSafety_census (hx : s.lif.tx = none) :
    (∀ g ∈ s.lif.safety, g ∈ (offerSafety .censusReq s).lif.safety) ∧
    ∀ g ∈ (offerSafety .censusReq s).lif.safety, g ∈ s.lif.safety ∨ g = .censusReq := by
  have hsame (g : TxFrame) (h : sameSort .censusReq g = true) : g = .censusReq := by
    cases g <;> simp_all [sameSort]
  have hrep (q : List TxFrame) (h : q.any (sameSort .censusReq) = true) : replaceSort .censusReq q = q := by
    induction q with
    | nil => rfl
    | cons g q ih =>
      by_cases hg : sameSort .censusReq g = true
      · rw [replaceSort, if_pos hg, hsame g hg]
      · rw [replaceSort, if_neg hg, ih (by simpa [hg] using h)]
  dsimp only [offerSafety]
  split
  · exact ⟨fun _ h => h, fun _ h => .inl h⟩
  · rw [if_neg (by simp [State.onLane, hx])]
    split
    next h => exact ⟨fun g hg => by simpa [hrep _ h] using hg, fun g hg => .inl (by simpa [hrep _ h] using hg)⟩
    · simp +contextual

theorem settleCensus_safety (hx : s.lif.tx = none) :
    (∀ g ∈ s.lif.safety, g ∈ (settleCensus s).lif.safety) ∧
    ∀ g ∈ (settleCensus s).lif.safety, g ∈ s.lif.safety ∨ g = .censusReq := by
  unfold settleCensus
  split
  · exact offerSafety_census (s := s.onScu fun c => { c with censusPending := true }) hx
  · exact ⟨fun _ h => h, fun _ h => .inl h⟩

@[simp] theorem settleCensus_pending (s : State) : (settleCensus s).scu.pending = s.scu.pending := by
  unfold settleCensus
  split <;> simp

/-- A head that waits for space in doubt, with no claim pending, goes on waiting; its SAFETY frames stay, and a CENSUS_REQ may
join them. -/
theorem settle_waits (h : s.AtWork) (hm : s.msq.motion = .waitSpace) (hd : s.scu.doubt = true) (hp : s.scu.pending = none)
    (hx : s.lif.tx = none) : (settle s).scu.pending = none ∧ (settle s).msq.motion = .waitSpace ∧
      (∀ g ∈ s.lif.safety, g ∈ (settle s).lif.safety) ∧
      ∀ g ∈ (settle s).lif.safety, g ∈ s.lif.safety ∨ g = .censusReq := by
  have hc : settleClaim s = s := by simp [settleClaim, State.claimStale, hp]
  rw [settle_atWork h (by simp [hc, hm]), hc, settleServe_waitSpace (by simp [hm]), settleIdle_notIdle (by simp [hm])]
  obtain ⟨k1, k2, k3⟩ := settleSpace_doubt
    (s := (settleHandover s).onMsq fun m => { m with idleTimer := none }) (by simp [hm]) (by simp [hd])
  obtain ⟨j1, j2⟩ := settleTake_safety (settleSpace ((settleHandover s).onMsq fun m => { m with idleTimer := none }))
  obtain ⟨i1, i2⟩ := settleCensus_safety
    (s := settleTake (settleSpace ((settleHandover s).onMsq fun m => { m with idleTimer := none })))
    (by rw [j2, k2]; simpa using hx)
  have hq : (settleTake (settleSpace ((settleHandover s).onMsq fun m => { m with idleTimer := none }))).lif.safety =
      s.lif.safety := by
    rw [j1, k2]
    simp
  rw [hq] at i1 i2
  refine ⟨?_, ?_, fun g hg => i1 g hg, fun g hg => i2 g hg⟩
  · simp [k3, hp]
  · simp [k1]

/-! ## The frame that collided -/

/-- Doubt, set as a frame is lost. -/
theorem takeCollision_lost {x : Tx} (hx : s.lif.tx = some x) (hk : s.lif.k ≠ 15) (hl : s.lifting = false)
    (h : (settleCollided x (s.onLif collidedLif)).stc = s.stc) :
    takeCollision s = setDoubt (settleCollided x (s.onLif collidedLif)) := by
  rw [takeCollision_eq hx, if_neg (by simpa using hk)]
  exact frameLost_eq (by simpa [State.lifting, h] using hl)

/-- A pending claim stays unless a CLAIM goes without another. -/
theorem loseClaim_kept {f g : TxFrame} (h : isClaimFrame f = false ∨ isClaimFrame g = true ∨
    ∀ p, s.scu.pending = some p → p.stage ≠ .queued) : loseClaim f (some g) s = s := by
  rcases h with h | h | h
  · simp [loseClaim, h]
  · simp [loseClaim, h]
  · unfold loseClaim
    cases hp : s.scu.pending with
    | none => simp
    | some p =>
      cases hst : p.stage with
      | queued => exact absurd hst (h p hp)
      | window o w => simp [hst]

/-- A queued claim goes with its CLAIM, and the head that claims waits for space (R99, R127). -/
theorem loseClaim_queued {f : TxFrame} {r : Option TxFrame} {p : PendingClaim} (hf : isClaimFrame f = true)
    (hr : ∀ g, r = some g → isClaimFrame g = false) (hp : s.scu.pending = some p) (hq : p.stage = .queued)
    (hm : s.msq.motion = .claiming) (ha : s.msq.abandonMark = false) (he : s.msq.spaceExpired = false) :
    loseClaim f r s = enterWaitSpace (s.onScu fun c => { c with pending := none }) := by
  cases r with
  | none => simp [loseClaim, hf, hp, hq, reportVoid, hm, ha, he]
  | some g => simp [loseClaim, hf, hr g rfl, hp, hq, reportVoid, hm, ha, he]

/-- The head waits for space after its CLAIM went with the claim pending, and goes on so. -/
theorem waits_after_claim {v : State} {f : TxFrame} {r : Option TxFrame} {p : PendingClaim} {x : Tx} (hw : s.AtWork)
    (hx : s.lif.tx = some x) (hk : s.lif.k ≠ 15) (hcol : settleCollided x (s.onLif collidedLif) = loseClaim f r v)
    (hv : v = { s with lif := v.lif }) (hc : v.lif.counters = (collidedLif s.lif).counters) (htx : v.lif.tx = none)
    (hf : isClaimFrame f = true) (hr : ∀ g, r = some g → isClaimFrame g = false) (hp : s.scu.pending = some p)
    (hq : p.stage = .queued) (hm : s.msq.motion = .claiming) (ha : s.msq.abandonMark = false)
    (he : s.msq.spaceExpired = false) :
    ∃ t, exec .laneCollision s = .next t ∧ t.scu.pending = none ∧ t.scu.doubt = true ∧ t.msq.motion = .waitSpace ∧
      (∀ g ∈ v.lif.safety, g ∈ t.lif.safety) ∧ (∀ g ∈ t.lif.safety, g ∈ v.lif.safety ∨ g = .censusReq) ∧
      t.lif.counters.collisions = saturate16 s.lif.counters.collisions ∧ t.scu.held = s.scu.held ∧ t.jtb = s.jtb := by
  have hlose : loseClaim f r v = enterWaitSpace (v.onScu fun c => { c with pending := none }) :=
    loseClaim_queued hf hr (by rw [hv]; exact hp) hq (by rw [hv]; exact hm) (by rw [hv]; exact ha) (by rw [hv]; exact he)
  have ht : takeCollision s = setDoubt (enterWaitSpace (v.onScu fun c => { c with pending := none })) := by
    rw [takeCollision_lost hx hk hw.noLift (by rw [hcol, hlose, hv]; rfl), hcol, hlose]
  have huw : (takeCollision s).AtWork := by
    rw [ht, hv]
    exact hw.congr rfl rfl rfl rfl nofun
  obtain ⟨hex, hkept⟩ := live_work (g := takeCollision) hw.noReset rfl huw
  obtain ⟨w1, w2, w3, w4⟩ := settle_waits huw (by rw [ht]; rfl) (by rw [ht]; rfl) (by rw [ht]; rfl)
    (by rw [ht]; exact htx)
  have hclaim := hkept.claimState
  have hlog := hkept.log
  simp only [State.claimState, Prod.mk.injEq] at hclaim
  obtain ⟨hheld, -, -, hdoubt⟩ := hclaim
  have hsaf : (takeCollision s).lif.safety = v.lif.safety := by rw [ht]; rfl
  rw [hsaf] at w3 w4
  refine ⟨_, hex, w1, ?_, w2, w3, w4, ?_, ?_, ?_⟩
  · rw [hdoubt, ht]
    rfl
  · refine (congrArg (fun l => l.1.collisions) hlog).trans ?_
    rw [ht]
    exact congrArg (·.collisions) hc
  · rw [hheld, ht, hv]
    rfl
  · rw [hkept.jtb, ht, hv]
    rfl

/-- Settles O6, by what becomes of the frame's place. -/
theorem collisionKeepsTheFrame : Obligations.CollisionKeepsTheFrame := by
  intro s x hr hx hk u goes
  have hgo {v : State} (hv : setDoubt (settleCollided x (s.onLif collidedLif)) = v)
      (h : (settleCollided x (s.onLif collidedLif)).stc = s.stc)
      (h1 : v.stc = s.stc) (h2 : v.flu = s.flu) : goes v :=
    live_run hr.noReset ((takeCollision_lost hx hk hr.noLift h).trans hv) (hr.congr (by rw [h1]) (by rw [h1]) (by rw [h2]))
  refine ⟨fun hd hw hn => ?_, fun hd => ?_, fun g hd hn hc => ?_, fun p hw hs hd hf hpl hp hq hm ha he => ?_⟩
  · have hc : settleCollided x (s.onLif collidedLif) = s.onLif collidedLif := by simp [settleCollided, hd, hw, hn]
    exact hgo (by rw [hc]; rfl) (by rw [hc]; rfl) rfl rfl
  · have hc : settleCollided x (s.onLif collidedLif) = loseDetached x.frame (s.onLif collidedLif) := by
      simp [settleCollided, hd]
    refine hgo (by rw [hc]; cases x.frame <;> rfl) (by rw [hc]; cases x.frame <;> rfl) ?_ ?_ <;> cases x.frame <;> rfl
  · have hc : settleCollided x (s.onLif collidedLif) = replaceHead x.place g (s.onLif collidedLif) := by
      rw [settleCollided, if_neg (by simp [hd]), hn]
      exact loseClaim_kept hc
    refine hgo ?_ ?_ rfl rfl <;> rw [hc] <;> cases x.place <;> rfl
  · intro ends
    refine ⟨fun hwd hn => ?_, fun g hn hg => ?_⟩
    · obtain ⟨t, h0, h1, h2, h3, h4, h5, h6⟩ := waits_after_claim (f := x.frame) (r := none)
        (v := leavePlace x.place (s.onLif collidedLif)) hw hx hk
        (by rw [settleCollided, if_neg (by simp [hd]), hn]; simp [hwd]) (by cases x.place <;> rfl)
        (by cases x.place <;> rfl) (by cases x.place <;> rfl) hf nofun hp hq hm ha he
      rw [hpl] at h4 h5
      refine ⟨t, h0, h1, h2, h3, fun f hf => h4 f hf, fun hno f hf => ?_, h6⟩
      rcases h5 f hf with h | rfl
      · exact hno f h
      · rfl
    · obtain ⟨t, h0, h1, h2, h3, h4, h5, h6⟩ := waits_after_claim (f := x.frame) (r := some g)
        (v := replaceHead x.place g (s.onLif collidedLif)) hw hx hk
        (by rw [settleCollided, if_neg (by simp [hd]), hn]) (by cases x.place <;> rfl)
        (by cases x.place <;> rfl) (by cases x.place <;> rfl) hf (by rintro _ ⟨⟩; exact hg) hp hq hm ha he
      rw [hpl] at h4 h5
      refine ⟨t, h0, h1, h2, h3, fun f hf => h4 f hf, fun hno f hf => ?_, h6⟩
      rcases h5 f hf with h | rfl
      · rcases List.mem_cons.1 h with rfl | h
        · exact hg
        · exact hno f h
      · rfl

end Sys2Proof.Machine
end

section
/-! SUPPORT. A held frame enters the WORK queue (R14, R88): O8. -/

namespace Sys2Proof.Machine

open Sys2Proof

variable {s t u : State} {job : Nat}

/-! ## What the blocks' own action offers to the WORK queue -/

/-- LIF's WORK queue with its stall timer, and the frames held for it. -/
def State.workPlan (s : State) : List TxFrame × List TxFrame × Timer := (s.lif.work, s.lif.held, s.lif.stallWork)

@[simp] theorem offerSafety_workPlan (f : TxFrame) (s : State) : (offerSafety f s).workPlan = s.workPlan := by
  dsimp only [offerSafety]
  (repeat' split) <;> rfl

@[simp] theorem withdrawClaim_workPlan (s : State) : (withdrawClaim s).workPlan = s.workPlan := by
  unfold withdrawClaim
  (repeat' split) <;> rfl

theorem workPlan_congr (h : t.lif = s.lif) : t.workPlan = s.workPlan := by simp [State.workPlan, h]

/-- A frame joins the frames offered to a WORK queue that is not empty, or none does. -/
theorem offerWork_workPlan {f : TxFrame} (hw : s.lif.work ≠ []) : ∃ ws hs,
    (offerWork f s).workPlan = (s.lif.work ++ ws, s.lif.held ++ hs, s.lif.stallWork) ∧ ∀ g ∈ ws ++ hs, g = f := by
  unfold offerWork
  (repeat' split)
  · exact ⟨[], [], by simp [State.workPlan], by simp⟩
  · exact ⟨[f], [], by simp [State.workPlan, pushWork, hw], by simp⟩
  · exact ⟨[], [], by simp [State.workPlan], by simp⟩
  · exact ⟨[], [f], by simp [State.workPlan], by simp⟩

/-- A TAKE at most is offered to the WORK queue by the take of a role. -/
theorem settleTake_workPlan (hw : s.lif.work ≠ []) : ∃ ws hs,
    (settleTake s).workPlan = (s.lif.work ++ ws, s.lif.held ++ hs, s.lif.stallWork) ∧
      ∀ g ∈ ws ++ hs, ∀ i, isReadingOf i g = false := by
  have hnone : ∃ ws hs : List TxFrame, s.workPlan = (s.lif.work ++ ws, s.lif.held ++ hs, s.lif.stallWork) ∧
      ∀ g ∈ ws ++ hs, ∀ i, isReadingOf i g = false := ⟨[], [], by simp [State.workPlan], by simp⟩
  have htake (c : Candidate) (b : Bool) : ∃ ws hs,
      (offerTake c b s).workPlan = (s.lif.work ++ ws, s.lif.held ++ hs, s.lif.stallWork) ∧
        ∀ g ∈ ws ++ hs, ∀ i, isReadingOf i g = false := by
    obtain ⟨ws, hs, h1, h2⟩ := offerWork_workPlan (f := .take c.job c.role b) (s := s.onRvu fun r =>
      { r with pending := some { job := c.job, role := c.role, catchFlag := b } }) hw
    exact ⟨ws, hs, h1, fun g hg i => by rw [h2 g hg]; rfl⟩
  unfold settleTake
  (repeat' split)
  · exact htake _ _
  · exact htake _ _
  · exact hnone
  · exact hnone

theorem settleServe_engaged (h : s.msq.motion.engaged = true) : settleServe s = s := by
  unfold settleServe
  split
  · rw [if_neg (by rintro (h' | ⟨h', -⟩) <;> simp [h', MotionState.engaged] at h)]
  · rfl

theorem settleSpace_engaged (h : s.msq.motion.engaged = true) :
    settleSpace s = if s.msq.spaceEvent then s.onMsq fun m => { m with spaceEvent := false } else s := by
  dsimp only [settleSpace]
  split
  · split
    next hm =>
      rw [show s.msq.motion = .waitSpace from hm] at h
      cases h
    next hm =>
      rw [show s.msq.motion = .parking from hm] at h
      cases h
    · rfl
  · rfl

theorem settleClaim_engaged (h : s.msq.motion.engaged = true) : settleClaim s = s ∨ settleClaim s = withdrawClaim s := by
  unfold settleClaim
  split
  · exact .inr (withdrawAndReport_engaged h)
  · exact .inl rfl

/-- The blocks' own action of an engaged head offers a TAKE at most to its WORK queue. -/
theorem settle_workPlan (h : s.AtWork) (he : s.msq.motion.engaged = true) (hw : s.lif.work ≠ []) : ∃ ws hs,
    (settle s).workPlan = (s.lif.work ++ ws, s.lif.held ++ hs, s.lif.stallWork) ∧
      ∀ g ∈ ws ++ hs, ∀ i, isReadingOf i g = false := by
  have hc : (settleClaim s).msq.motion = s.msq.motion ∧ (settleClaim s).workPlan = s.workPlan := by
    obtain h | h := settleClaim_engaged he <;> simp [h]
  have hi : settleIdle (settleHandover (settleClaim s)) =
      (settleHandover (settleClaim s)).onMsq fun m => { m with idleTimer := none } :=
    settleIdle_notIdle (by rw [settleHandover_motion, hc.1]; intro hm; simp [hm, MotionState.engaged] at he)
  have hv : ∀ v : State, v.workPlan = s.workPlan → v.lif.work = s.lif.work ∧ v.lif.held = s.lif.held ∧
      v.lif.stallWork = s.lif.stallWork := fun v hv => by simpa [State.workPlan] using hv
  have hsp : (settleSpace ((settleHandover (settleClaim s)).onMsq fun m => { m with idleTimer := none })).workPlan =
      s.workPlan := by
    rw [settleSpace_engaged (by simpa [hc.1] using he)]
    rw [← hc.2]
    split <;> exact workPlan_congr (by simp)
  rw [settle_atWork h (by rw [hc.1]; exact h.joined), settleServe_engaged (by simpa [hc.1] using he), hi]
  obtain ⟨v1, v2, v3⟩ := hv _ hsp
  obtain ⟨ws, hs, h1, h2⟩ := settleTake_workPlan (s := settleSpace _) (by rw [v1]; exact hw)
  refine ⟨ws, hs, ?_, h2⟩
  rw [v1, v2, v3] at h1
  rw [← h1]
  have hcen : ∀ v : State, (settleCensus v).workPlan = v.workPlan := by
    intro v
    unfold settleCensus
    split
    · exact (offerSafety_workPlan ..).trans rfl
    · rfl
  exact (show (regap _).workPlan = _ from rfl).trans (hcen _)

/-! ## The frame first held -/

/-- The WORK queue with a frame entered. -/
theorem pushWork_eq (f : TxFrame) (s : State) : pushWork f s = s.onLif fun l =>
    { l with work := l.work ++ [f], stallWork := if l.work = [] then some 20000000 else l.stallWork } := by
  cases h : s.lif.work <;> simp [pushWork, workStall_eq, State.onLif, h]

/-- The frame first held enters, where it is no READING. -/
theorem takeHeld_other {f : TxFrame} {rest : List TxFrame} (hh : s.lif.held = f :: rest) (hw : s.lif.work.length < 8)
    (hf : readingJob f = none) :
    takeHeld s = pushWork (stampLifted s f) (s.onLif fun l => { l with held := rest }) := by
  simp only [takeHeld, hh, if_pos hw, hf]

/-- A READING first held enters; what is left is its member's to do. -/
theorem takeHeld_reading {f : TxFrame} {rest : List TxFrame} (hh : s.lif.held = f :: rest) (hw : s.lif.work.length < 8)
    (hf : readingJob f = some job) :
    takeHeld s = holdIfMeasuring job
      (stampOwnReading (pushWork (stampLifted s f) (s.onLif fun l => { l with held := rest }))) := by
  simp only [takeHeld, hh, if_pos hw, hf]

/-- A frame that is no READING of any job names none. -/
theorem readingJob_none {f : TxFrame} (h : ∀ j, isReadingOf j f = false) : readingJob f = none := by
  cases hf : readingJob f with
  | none => rfl
  | some j => cases f <;> simp_all [isReadingOf, readingJob]

/-- The member other than the lead goes to HOLD (R88, R90). -/
theorem enterHold_eq {m : Membership} {e : Entry} (hc : s.rvu.current = some m) (hj : m.job = job) (hr : m.role ≠ 0)
    (hd : m.deferred = none) (he : s.entry? job = some e) (hn : ∀ n, s.rvu.next = some n → n.job ≠ job) :
    enterHold job s = (s.onRvu fun r => { r with current := some { m with
      state := .hold
      holdLimit := some (settleTime e.offer.settle + sampleCount e.offer.sample * 10000 + 25000000) } }).onMsq fun q =>
        { q with motion := .hold } := by
  have hm : s.member? job = some m := by simp [State.member?, hc, hj]
  have hl : m.lead = false := by simpa [Membership.lead] using hr
  have hnext : s.rvu.next.map (fun n => if n.job = job then { n with
      state := .hold, deferred := none
      holdLimit := if n.lead then none else some (holdLimitTime e.offer.settle e.offer.sample) } else n) = s.rvu.next := by
    cases h : s.rvu.next with
    | none => rfl
    | some n => simp [hn n h]
  simp only [enterHold, he, hm, hd, updMember, State.onRvu, State.onMsq, hc, Option.map_some, hj, if_true, hl, hnext]
  rfl

/-- Settles O8. -/
theorem heldFrameEntersWork : Obligations.HeldFrameEntersWork := by
  intro s hs
  have hgo {v : State} (hv : unlessLift takeHeld s = v) (hva : v.AtWork) :
      exec .heldFrameAccepted s = .next (settle v) ∧ WorkKept v (settle v) := live_work hs.noReset hv hva
  have hlift : unlessLift takeHeld s = takeHeld s := by simp [unlessLift, hs.noLift]
  refine ⟨fun h => hgo ?_ hs, ?_⟩
  · rw [hlift, takeHeld]
    rcases h with h | h
    · rw [h]
    · split
      · rw [if_neg (by omega)]
      · rfl
  intro f rest hh hw stamped enters u
  have hst : stampLifted s f = stamped := by cases f <;> rfl
  have hent : pushWork (stampLifted s f) (s.onLif fun l => { l with held := rest }) = enters := by
    rw [hst, pushWork_eq]
    rfl
  have hea : enters.AtWork := hs.congr rfl rfl rfl rfl id
  have hua : u.AtWork := hs.congr rfl rfl rfl rfl id
  refine ⟨fun hno => hgo ?_ hea, fun j hj => ?_⟩
  · rw [hlift, takeHeld_other hh hw (readingJob_none hno), hent]
  have hrj : readingJob f = some j := by
    cases f <;> simp_all [isReadingOf, readingJob]
  have hta : takeHeld s = holdIfMeasuring j u := by
    rw [takeHeld_reading hh hw hrj, hent]
    rfl
  refine ⟨fun hno => hgo ?_ hua, fun m e hc hmj hms hmr hmd hwin he hnext => ?_⟩
  · rw [hlift, hta]
    unfold holdIfMeasuring
    split
    next m hm =>
      have hm' : s.member? j = some m := hm
      rw [if_neg]
      rintro ⟨h1, h2⟩
      rcases hno with h | h
      · exact h m hm' h1
      · exact h h2
    · rfl
  · have hm : u.member? j = some m := by simp [State.member?, u, enters, hc, hmj]
    have hhold : takeHeld s = enterHold j u := by
      rw [hta]
      unfold holdIfMeasuring
      rw [hm]
      exact if_pos ⟨hms, hwin⟩
    rw [enterHold_eq (s := u) hc hmj hmr hmd he hnext] at hhold
    have hta' : (takeHeld s).AtWork := by
      rw [hhold]
      exact hs.congr rfl rfl rfl rfl nofun
    obtain ⟨hex, hk⟩ := hgo hlift hta'
    have heng : (takeHeld s).msq.motion.engaged = true := by
      rw [hhold]
      rfl
    have hne : (takeHeld s).lif.work ≠ [] := by
      rw [hhold]
      simp [u, enters]
    obtain ⟨ws, hs', hplan, hread⟩ := settle_workPlan hta' heng hne
    obtain ⟨hcur, hnx⟩ := hk.current heng fun x hx => by
      rw [hhold] at hx
      cases hx
      simp
    rw [hhold] at hplan hcur hnx hex hk
    simp only [State.workPlan, Prod.mk.injEq] at hplan
    obtain ⟨hp1, hp2, hp3⟩ := hplan
    refine ⟨_, hex, hk.motion rfl, hcur, hnx, hk.meu, hp3, ⟨ws, hs', ?_, hp2, hread⟩, hk.silent, hk.jtb, hk.space, hk.claimState,
      hk.flu⟩
    rw [hp1]
    simp [u, enters]

end Sys2Proof.Machine
end

section
/-! SUPPORT. The check code corrects one error and rejects two (R5, R196): syndrome and parity are linear. -/

namespace Sys2Proof.Machine

open Sys2Proof

/-! ## Linearity -/

theorem parityOf_xor {n : Nat} (x y : BitVec n) (i : Nat) : parityOf (x ^^^ y) i = xor (parityOf x i) (parityOf y i) := by
  induction i with
  | zero => rfl
  | succ i ih =>
    simp only [parityOf, BitVec.getLsbD_xor, ih]
    cases x.getLsbD i <;> cases y.getLsbD i <;> cases parityOf x i <;> cases parityOf y i <;> rfl

theorem checkBitsFrom_xor (x y : DataWord) (i : Nat) (ps : List Nat) :
    checkBitsFrom (x ^^^ y) i ps = checkBitsFrom x i ps ^^^ checkBitsFrom y i ps := by
  induction ps generalizing i with
  | nil => simp [checkBitsFrom]
  | cons p ps ih =>
    have hterm (a b : Bool) (v : BitVec 5) :
        (if xor a b then v else 0) = (if a then v else 0) ^^^ (if b then v else 0) := by
      cases a <;> cases b <;> simp
    simp only [checkBitsFrom, ih, BitVec.getLsbD_xor, hterm]
    ac_rfl

/-- The position syndrome of a word as bits. -/
def syndromeBits (w : CodedWord) : BitVec 5 := w.extractLsb' 1 5 ^^^ checkBits (wordData w)

theorem syndromeOf_eq (w : CodedWord) : syndromeOf w = (syndromeBits w).toNat := rfl

theorem wordData_xor (v w : CodedWord) : wordData (v ^^^ w) = wordData v ^^^ wordData w := BitVec.extractLsb'_xor

theorem syndromeBits_xor (v w : CodedWord) : syndromeBits (v ^^^ w) = syndromeBits v ^^^ syndromeBits w := by
  simp only [syndromeBits, wordData_xor, checkBits, checkBitsFrom_xor, BitVec.extractLsb'_xor]
  ac_rfl

/-! ## The coded form -/

theorem encodeWord_getLsbD_succ (d : DataWord) (i : Nat) : (encodeWord d).getLsbD (i + 1) = (d ++ checkBits d).getLsbD i := by
  rw [encodeWord, BitVec.getLsbD_append]
  simp

@[simp] theorem wordData_encodeWord (d : DataWord) : wordData (encodeWord d) = d := by
  refine BitVec.eq_of_getLsbD_eq fun i hi => ?_
  rw [wordData, BitVec.getLsbD_extractLsb', show 6 + i = (5 + i) + 1 by omega, encodeWord_getLsbD_succ,
    BitVec.getLsbD_append]
  simp [hi]

/-- A coded word has no syndrome. -/
theorem syndromeBits_encodeWord (d : DataWord) : syndromeBits (encodeWord d) = 0 := by
  have h : (encodeWord d).extractLsb' 1 5 = checkBits d := by
    refine BitVec.eq_of_getLsbD_eq fun i hi => ?_
    rw [BitVec.getLsbD_extractLsb', Nat.add_comm, encodeWord_getLsbD_succ, BitVec.getLsbD_append]
    simp [hi]
  rw [syndromeBits, wordData_encodeWord, h, BitVec.xor_self]
  rfl

theorem parityOf_append (x : BitVec 29) (b : Bool) (n : Nat) :
    parityOf (x ++ BitVec.ofBool b) (n + 1) = xor (parityOf x n) b := by
  induction n with
  | zero =>
    simp only [parityOf]
    rw [BitVec.getLsbD_append]
    simp
  | succ n ih =>
    rw [parityOf, ih, parityOf, BitVec.getLsbD_append]
    simp

/-- A coded word has even parity. -/
theorem parityOf_encodeWord (d : DataWord) : parityOf (encodeWord d) 30 = false := by
  rw [encodeWord, parityOf_append, Bool.xor_self]

theorem decodeWord_encodeWord (d : DataWord) : decodeWord (encodeWord d) = .clean d := by
  simp [decodeWord, parityOf_encodeWord, syndromeOf_eq, syndromeBits_encodeWord]

/-! ## Errors -/

/-- A word with one bit set, the error in that bit. -/
def errorBit (n : Nat) : CodedWord := BitVec.ofNat 30 (2 ^ n)

/-- The syndrome of an error: none for the parity bit, the powers of two for the check bits, the Hamming positions for the
data bits. -/
def errorSyndromes : List Nat := [0, 1, 2, 4, 8, 16] ++ dataPositions

theorem errorBit_facts : ∀ n < 30, parityOf (errorBit n) 30 = true ∧ (syndromeBits (errorBit n)).toNat = errorSyndromes.getD n 0 ∧
    flipPosition 0 (errorSyndromes.getD n 0) = wordData (errorBit n) ∧ errorSyndromes.getD n 0 ≤ 29 := by
  decide +kernel

theorem errorSyndromes_inj : ∀ m < 30, ∀ n < 30, errorSyndromes.getD m 0 = errorSyndromes.getD n 0 → m = n := by
  decide +kernel

/-- A position is inverted whatever the word. -/
theorem flipPosition_eq (d : DataWord) (p : Nat) : flipPosition d p = d ^^^ flipPosition 0 p := by
  unfold flipPosition
  split <;> simp

/-- Any one error is corrected. -/
theorem decodeWord_one {d : DataWord} {n : Nat} (hn : n < 30) :
    decodeWord (encodeWord d ^^^ errorBit n) = .corrected d (errorSyndromes.getD n 0) := by
  obtain ⟨hp, hs, hf, hle⟩ := errorBit_facts n hn
  have hpar : parityOf (encodeWord d ^^^ errorBit n) 30 = true := by
    rw [parityOf_xor, parityOf_encodeWord, hp]
    rfl
  have hsyn : syndromeOf (encodeWord d ^^^ errorBit n) = errorSyndromes.getD n 0 := by
    rw [syndromeOf_eq, syndromeBits_xor, syndromeBits_encodeWord, ← hs]
    simp
  have hdat : wordData (encodeWord d ^^^ errorBit n) = d ^^^ wordData (errorBit n) := by
    rw [wordData_xor, wordData_encodeWord]
  simp only [decodeWord, hpar, hsyn, hdat, if_true]
  split
  next h0 =>
    rw [← hf, h0, show flipPosition 0 0 = 0 from rfl]
    simp
  · rw [flipPosition_eq, hf, BitVec.xor_assoc, BitVec.xor_self]
    simp

/-- Any two errors are found, and are not taken for one. -/
theorem decodeWord_two {d : DataWord} {m n : Nat} (hm : m < 30) (hn : n < 30) (hne : m ≠ n) :
    decodeWord (encodeWord d ^^^ errorBit m ^^^ errorBit n) = .uncorrectable := by
  obtain ⟨hpm, hsm, -, -⟩ := errorBit_facts m hm
  obtain ⟨hpn, hsn, -, -⟩ := errorBit_facts n hn
  have hpar : parityOf (encodeWord d ^^^ errorBit m ^^^ errorBit n) 30 = false := by
    rw [parityOf_xor, parityOf_xor, parityOf_encodeWord, hpm, hpn]
    rfl
  have hsyn : syndromeOf (encodeWord d ^^^ errorBit m ^^^ errorBit n) ≠ 0 := by
    rw [syndromeOf_eq, syndromeBits_xor, syndromeBits_xor, syndromeBits_encodeWord]
    intro h0
    have hx : syndromeBits (errorBit m) ^^^ syndromeBits (errorBit n) = 0 := BitVec.eq_of_toNat_eq (by simpa using h0)
    have heq : syndromeBits (errorBit m) = syndromeBits (errorBit n) := BitVec.xor_eq_zero_iff.1 hx
    exact hne (errorSyndromes_inj m hm n hn (by rw [← hsm, ← hsn, heq]))
  simp [decodeWord, hpar, hsyn]

end Sys2Proof.Machine
end

section
/-! SUPPORT. The words and the line levels of a frame spell its command (R1, R4, R5): O55. -/

namespace Sys2Proof.Machine

open Sys2Proof Sys2Proof.Laws

variable {k : Kind} {f : RxFrame}

/-! ## The command of a kind code -/

/-- The kind code and the fields of a frame command give it back. -/
theorem frameKind_statement (i : Instr) : FrameKind.Statement i := by
  cases i with
  | offer g => exact FrameKind.offer g
  | withdraw g => exact FrameKind.withdraw g
  | take g => exact FrameKind.take g
  | set g => exact FrameKind.set g
  | drop g => exact FrameKind.drop g
  | landed g => exact FrameKind.landed g
  | start g => exact FrameKind.start g
  | reading g => exact FrameKind.reading g
  | again g => exact FrameKind.again g
  | result g => exact FrameKind.result g
  | beacon g => exact FrameKind.beacon g
  | fault g => exact FrameKind.fault g
  | status g => exact FrameKind.status g
  | refused g => exact FrameKind.refused g
  | planBeacon g => exact FrameKind.planBeacon g
  | claim g => exact FrameKind.claim g
  | shrink g => exact FrameKind.shrink g
  | release g => exact FrameKind.release g
  | object g => exact FrameKind.object g
  | censusReq g => exact FrameKind.censusReq g
  | censusReply g => exact FrameKind.censusReply g
  | boardOut g => exact FrameKind.boardOut g
  | boardIn g => exact FrameKind.boardIn g
  | resume g => exact FrameKind.resume g
  | clearFrozen g => exact FrameKind.clearFrozen g
  | clearLog g => exact FrameKind.clearLog g
  | query g => exact FrameKind.query g
  | restart g p => exact FrameKind.restart g p
  | unassignedKindFrame c g => exact FrameKind.unassignedKindFrame c g
  | _ => exact fun _ _ h => nomatch h

theorem commandOf_frame {i : Instr} (h : i.frame? = some (k, f)) (ha : auxOk k f = true)
    (hr : ∀ g p, i = .restart g p → p = none) : commandOf k.code f = i := by
  rw [frameKind_statement i k f h ha]
  split
  next g p =>
    rw [hr g p rfl]
  · rfl

/-- The kind codes are 31 at most. -/
theorem code_lt (ha : auxOk k f = true) : k.code < 32 := by
  cases k with
  | unassigned c =>
    simp only [auxOk, List.contains_eq_mem, List.mem_cons, List.not_mem_nil, or_false, decide_eq_true_eq] at ha
    simp only [Kind.code]
    omega
  | _ => decide

/-! ## The header -/

theorem header_aux (k : Kind) (f : RxFrame) : (f.header k).extractLsb' 0 7 = f.aux := by
  refine BitVec.eq_of_getLsbD_eq fun i hi => ?_
  simp only [RxFrame.header, BitVec.getLsbD_extractLsb', BitVec.getLsbD_append]
  simp [hi]

theorem header_follow (k : Kind) (f : RxFrame) : (f.header k).extractLsb' 7 4 = BitVec.ofNat 4 f.body.length := by
  refine BitVec.eq_of_getLsbD_eq fun i hi => ?_
  simp only [RxFrame.header, BitVec.getLsbD_extractLsb', BitVec.getLsbD_append]
  simp [hi, show 7 + i - 7 = i by omega]

theorem header_dst (k : Kind) (f : RxFrame) : (f.header k).extractLsb' 11 4 = f.dst := by
  refine BitVec.eq_of_getLsbD_eq fun i hi => ?_
  simp only [RxFrame.header, BitVec.getLsbD_extractLsb', BitVec.getLsbD_append]
  simp [hi, show ¬ 11 + i < 7 by omega, show ¬ 11 + i - 7 < 4 by omega, show 11 + i - 7 - 4 = i by omega]

theorem header_src (k : Kind) (f : RxFrame) : (f.header k).extractLsb' 15 4 = f.src := by
  refine BitVec.eq_of_getLsbD_eq fun i hi => ?_
  simp only [RxFrame.header, BitVec.getLsbD_extractLsb', BitVec.getLsbD_append]
  simp [hi, show ¬ 15 + i < 7 by omega, show ¬ 15 + i - 7 < 4 by omega, show ¬ 15 + i - 7 - 4 < 4 by omega,
    show 15 + i - 7 - 4 - 4 = i by omega]

theorem header_kind (k : Kind) (f : RxFrame) : (f.header k).extractLsb' 19 5 = BitVec.ofNat 5 k.code := by
  refine BitVec.eq_of_getLsbD_eq fun i hi => ?_
  simp only [RxFrame.header, BitVec.getLsbD_extractLsb', BitVec.getLsbD_append]
  simp [hi, show ¬ 19 + i < 7 by omega, show ¬ 19 + i - 7 < 4 by omega, show ¬ 19 + i - 7 - 4 < 4 by omega,
    show ¬ 19 + i - 7 - 4 - 4 < 4 by omega, show 19 + i - 7 - 4 - 4 - 4 = i by omega]

/-- The number in a field of a data word. -/
theorem field_toNat (d : DataWord) (i n : Nat) : d.toNat / 2 ^ i % 2 ^ n = (d.extractLsb' i n).toNat := by
  rw [BitVec.extractLsb'_toNat, Nat.shiftRight_eq_div_pow]

theorem headerKind_header (ha : auxOk k f = true) : headerKind (f.header k) = k.code := by
  rw [headerKind, show (32 : Nat) = 2 ^ 5 from rfl, field_toNat, header_kind, BitVec.toNat_ofNat,
    Nat.mod_eq_of_lt (code_lt ha)]

theorem follow_header (hl : f.body.length ≤ 15) : (f.header k).toNat / 2 ^ 7 % 16 = f.body.length := by
  rw [show (16 : Nat) = 2 ^ 4 from rfl, field_toNat, header_follow, BitVec.toNat_ofNat, Nat.mod_eq_of_lt (by omega)]

/-! ## Words -/

/-- Words put at their positions, from a first position on. -/
def putErrors (i : Nat) (es : List (Nat × CodedWord)) (ws : List CodedWord) : List CodedWord :=
  es.foldl (fun ws e => ws.set (e.1 - i) e.2) ws

/-- Errors behind the first position leave the first word. -/
theorem putErrors_cons {i : Nat} {es : List (Nat × CodedWord)} (h : ∀ e ∈ es, i < e.1) (w : CodedWord) (ws : List CodedWord) :
    putErrors i es (w :: ws) = w :: putErrors (i + 1) es ws := by
  induction es generalizing ws with
  | nil => rfl
  | cons e es ih =>
    have he : e.1 - i = (e.1 - (i + 1)) + 1 := by
      have := h e (.head es)
      omega
    rw [putErrors, List.foldl_cons, he, List.set_cons_succ]
    exact ih (fun x hx => h x (.tail e hx)) _

/-- Data words sent, some of them received with one error, decode to themselves with those errors. -/
theorem decodeBody_putErrors (i : Nat) {ds : List DataWord} {es : List (Nat × CodedWord)}
    (h : ∀ e ∈ es, i ≤ e.1 ∧ ∃ d n, ds[e.1 - i]? = some d ∧ decodeWord e.2 = .corrected d n)
    (hs : (es.map (·.1)).Pairwise (· < ·)) : decodeBody i (putErrors i es (ds.map encodeWord)) = some (ds, es) := by
  induction ds generalizing i es with
  | nil =>
    cases es with
    | nil => rfl
    | cons e es =>
      obtain ⟨-, d, n, hd, -⟩ := h e (.head es)
      simp at hd
  | cons d ds ih =>
    have step {es : List (Nat × CodedWord)} (h : ∀ e ∈ es, i < e.1 ∧ ∃ x n, (d :: ds)[e.1 - i]? = some x ∧
        decodeWord e.2 = .corrected x n) (hs : (es.map (·.1)).Pairwise (· < ·)) :
        decodeBody (i + 1) (putErrors (i + 1) es (ds.map encodeWord)) = some (ds, es) := by
      refine ih (i + 1) (fun e he => ?_) hs
      obtain ⟨hi, x, n, hx, hd⟩ := h e he
      rw [show e.1 - i = (e.1 - (i + 1)) + 1 by omega, List.getElem?_cons_succ] at hx
      exact ⟨hi, x, n, hx, hd⟩
    by_cases hall : ∀ e ∈ es, i < e.1
    · rw [List.map_cons, putErrors_cons hall, decodeBody, decodeWord_encodeWord,
        step (fun e he => ⟨hall e he, (h e he).2⟩) hs]
    · cases es with
      | nil => simp at hall
      | cons e es =>
        obtain ⟨hlt, hs'⟩ := List.pairwise_cons.1 hs
        obtain ⟨hle, x, n, hx, hd⟩ := h e (.head es)
        have hgt : ∀ y ∈ es, e.1 < y.1 := fun y hy => hlt _ (List.mem_map.2 ⟨y, hy, rfl⟩)
        have hei : e.1 = i := by
          by_contra hne
          refine hall fun y hy => ?_
          rcases List.mem_cons.1 hy with rfl | hy
          · omega
          · have := hgt y hy
            omega
        obtain rfl : d = x := by simpa [hei] using hx
        have hput : putErrors i (e :: es) (List.map encodeWord (d :: ds)) = e.2 :: putErrors (i + 1) es (ds.map encodeWord) := by
          rw [putErrors, List.foldl_cons, hei, Nat.sub_self, List.map_cons, List.set_cons_zero]
          exact putErrors_cons (fun y hy => hei ▸ hgt y hy) _ _
        rw [hput, decodeBody, hd, step (fun y hy => ⟨hei ▸ hgt y hy, (h y (.tail e hy)).2⟩) hs', ← hei]

/-- Words that decode are of the number of their data, and each is correctable. -/
theorem decodeBody_some {i : Nat} {ws : List CodedWord} {ds : List DataWord} {es : List (Nat × CodedWord)}
    (h : decodeBody i ws = some (ds, es)) : ws.length = ds.length ∧ upToBad ws = none := by
  induction ws generalizing i ds es with
  | nil =>
    cases h
    exact ⟨rfl, rfl⟩
  | cons w ws ih =>
    unfold decodeBody at h
    split at h
    next hw hb =>
      cases h
      obtain ⟨h1, h2⟩ := ih hb
      exact ⟨by simp [h1], by simp [upToBad, hw, h2]⟩
    next hw hb =>
      cases h
      obtain ⟨h1, h2⟩ := ih hb
      exact ⟨by simp [h1], by simp [upToBad, hw, h2]⟩
    · cases h

/-- The first of words that decode gives the first data word. -/
theorem decodeBody_head {i : Nat} {w : CodedWord} {ws : List CodedWord} {d : DataWord} {ds : List DataWord}
    {es : List (Nat × CodedWord)} (h : decodeBody i (w :: ws) = some (d :: ds, es)) :
    decodeWord w = .clean d ∨ ∃ n, decodeWord w = .corrected d n := by
  unfold decodeBody at h
  split at h
  next hw _ =>
    cases h
    exact .inl hw
  next hw _ =>
    cases h
    exact .inr ⟨_, hw⟩
  · cases h

/-! ## Levels -/

/-- The words of a frame are read back from its levels, whatever follows them. -/
theorem readWords_append (ws : List CodedWord) (first : Nat → Bool) (rest : List Bool) :
    readWords ws.length (lineLevels first ws ++ rest) = (ws, true) := by
  induction ws generalizing first with
  | nil => rfl
  | cons w ws ih =>
    have ht : (lineLevels first (w :: ws) ++ rest).take wordHalves = wordLevels (first 0) w := by
      rw [lineLevels, List.append_assoc, ← length_wordLevels (first 0) w, List.take_left]
    have hd : (lineLevels first (w :: ws) ++ rest).drop wordHalves = lineLevels (fun i => first (i + 1)) ws ++ rest := by
      rw [lineLevels, List.append_assoc, ← length_wordLevels (first 0) w, List.drop_left]
    simp only [List.length_cons, readWords, ht, hd, readWord_wordLevels, ih]

/-- Words that spell a command spell it on the line, whatever follows them. -/
theorem commandOfLevels_of_words {ws : List CodedWord} {i : Instr} {d : DataWord} {ds : List DataWord}
    {es : List (Nat × CodedWord)} (h : commandOfWords ws = some i) (hb : decodeBody 0 ws = some (d :: ds, es))
    (hn : d.toNat / 2 ^ 7 % 16 = ds.length) (first : Nat → Bool) (rest : List Bool) :
    commandOfLevels (lineLevels first ws ++ rest) = i := by
  cases ws with
  | nil => cases hb
  | cons w ws =>
    obtain ⟨hlen, hbad⟩ := decodeBody_some hb
    have hws : ws.length = ds.length := by simpa using hlen
    have hs : startsSync (lineLevels first (w :: ws) ++ rest) = true := by
      rw [lineLevels, List.append_assoc]
      exact startsSync_wordLevels ..
    have ht : (lineLevels first (w :: ws) ++ rest).take wordHalves = wordLevels (first 0) w := by
      rw [lineLevels, List.append_assoc, ← length_wordLevels (first 0) w, List.take_left]
    have hd : (lineLevels first (w :: ws) ++ rest).drop wordHalves = lineLevels (fun i => first (i + 1)) ws ++ rest := by
      rw [lineLevels, List.append_assoc, ← length_wordLevels (first 0) w, List.drop_left]
    have hr : readWords (d.toNat / 2 ^ 7 % 16) (lineLevels (fun i => first (i + 1)) ws ++ rest) = (ws, true) := by
      rw [hn, ← hws, readWords_append]
    rcases decodeBody_head hb with hw | ⟨n, hw⟩ <;>
      simp only [commandOfLevels, hs, ht, hd, readWord_wordLevels, hw, hr, hbad, h, Bool.not_true, Bool.false_eq_true,
        if_false, if_true, Option.getD_some]

/-- The words of a well-formed frame, with its errors, decode to its header and body with those errors. -/
theorem decodeBody_frame (hok : f.ok k = true) :
    decodeBody 0 (f.errors.foldl (fun ws e => ws.set e.1 e.2) (frameWords k f)) = some (f.header k :: f.body, f.errors) := by
  simp only [RxFrame.ok, Bool.and_eq_true, List.all_eq_true, decide_eq_true_eq] at hok
  obtain ⟨⟨-, he⟩, hs⟩ := hok
  refine decodeBody_putErrors 0 (ds := f.header k :: f.body) (fun e hx => ⟨Nat.zero_le _, ?_⟩) hs
  have := he e hx
  unfold RxFrame.errorOk at this
  split at this
  next d n hd => exact ⟨d, n, by simpa [RxFrame.wordAt] using this, hd⟩
  · cases this

theorem commandOfWords_frame {i : Instr} (h : i.frame? = some (k, f)) (hok : f.ok k = true) (ha : auxOk k f = true)
    (hr : ∀ g p, i = .restart g p → p = none) :
    commandOfWords (f.errors.foldl (fun ws e => ws.set e.1 e.2) (frameWords k f)) = some i := by
  have hl : f.body.length ≤ 15 := by
    simp only [RxFrame.ok, RxFrame.lengthOk, Bool.and_eq_true, decide_eq_true_eq] at hok
    exact hok.1.1
  rw [commandOfWords, decodeBody_frame hok]
  simp only [follow_header hl, if_true, headerKind_header ha, header_src, header_dst, header_aux]
  exact congrArg some (commandOf_frame h ha hr)

/-! ## The levels of a word -/

theorem flatMap_bitLevels_getElem? (bs : List Bool) (n : Nat) :
    (bs.flatMap bitLevels)[2 * n]? = bs[n]? ∧ (bs.flatMap bitLevels)[2 * n + 1]? = bs[n]?.map (!·) := by
  induction bs generalizing n with
  | nil => simp
  | cons b bs ih =>
    cases n with
    | zero => simp [bitLevels]
    | succ n =>
      simp only [List.flatMap_cons, bitLevels, List.cons_append, List.nil_append, Nat.mul_add, Nat.mul_one,
        List.getElem?_cons_succ]
      exact ih n

/-- A bit without its transition is a violation. -/
theorem readBits_violation {bs : List Bool} {n : Nat} {b : Bool} (h : bs[n]? = some b) :
    readBits ((bs.flatMap bitLevels).set (2 * n + 1) b) = none := by
  induction bs generalizing n with
  | nil => simp at h
  | cons a bs ih =>
    cases n with
    | zero =>
      cases h
      simp [bitLevels, readBits]
    | succ n =>
      simp only [List.flatMap_cons, bitLevels, List.cons_append, List.nil_append, Nat.mul_add, Nat.mul_one,
        List.set_cons_succ, readBits, ih (n := n) (by simpa using h)]
      split <;> rfl

theorem wordBits_getElem? (w : CodedWord) {n : Nat} (hn : n < 30) : (wordBits w)[n]? = some (w.getLsbD (29 - n)) := by
  simp [wordBits, hn]

theorem wordLevels_sync (first : Bool) (w : CodedWord) {i : Nat} (h : i < 8) :
    (wordLevels first w)[i]? = some (if i < 5 then first else !first) := by
  rw [wordLevels, List.getElem?_append_left (by simpa using h)]
  interval_cases i <;> simp [syncLevels]

theorem wordLevels_bit (first : Bool) (w : CodedWord) (i : Nat) :
    (wordLevels first w)[8 + i]? = ((wordBits w).flatMap bitLevels)[i]? := by
  rw [wordLevels, List.getElem?_append_right (by simp)]
  simp

/-- A word with a bit that lacks its transition is not read. -/
theorem readWord_violation (first : Bool) (w : CodedWord) {n : Nat} (hn : n < 30) :
    readWord ((wordLevels first w).set (9 + 2 * n) (w.getLsbD (29 - n))) = none := by
  have hset : (wordLevels first w).set (9 + 2 * n) (w.getLsbD (29 - n)) =
      syncLevels first ++ ((wordBits w).flatMap bitLevels).set (2 * n + 1) (w.getLsbD (29 - n)) := by
    rw [wordLevels, List.set_append_right _ _ (by rw [length_syncLevels]; omega), length_syncLevels]
    congr 2
    omega
  have hd : (syncLevels first ++ ((wordBits w).flatMap bitLevels).set (2 * n + 1) (w.getLsbD (29 - n))).drop 8 =
      ((wordBits w).flatMap bitLevels).set (2 * n + 1) (w.getLsbD (29 - n)) := by
    rw [← length_syncLevels first, List.drop_left]
  rw [hset, readWord, hd, readBits_violation (wordBits_getElem? w hn)]
  split <;> rfl

/-- Settles O55. -/
theorem framesDecodeToTheirCommands : Obligations.FramesDecodeToTheirCommands := by
  refine ⟨fun i k f hi hw hr => ?_, fun first w => ?_, fun levels h => ?_, fun s hx => ?_, fun s x hx => ?_, fun d => ?_⟩
  · intro words
    obtain ⟨hok, ha⟩ : f.ok k = true ∧ auxOk k f = true := by
      simp only [Instr.wellFormed, hi, Bool.and_eq_true] at hw
      exact hw.1
    have hl : f.body.length ≤ 15 := by
      simp only [RxFrame.ok, RxFrame.lengthOk, Bool.and_eq_true, decide_eq_true_eq] at hok
      exact hok.1.1
    have hc := commandOfWords_frame hi hok ha hr
    exact ⟨hc, commandOfLevels_of_words hc (decodeBody_frame hok) (follow_header hl)⟩
  · intro levels
    refine ⟨length_wordLevels .., readWord_wordLevels .., fun i h => ?_, fun i h5 h8 => ?_, fun n hn => ?_⟩
    · rw [wordLevels_sync first w (by omega), if_pos h]
    · rw [wordLevels_sync first w h8, if_neg (by omega)]
    · obtain ⟨h0, h1⟩ := flatMap_bitLevels_getElem? (wordBits w) n
      rw [wordBits_getElem? w hn] at h0 h1
      exact ⟨(wordLevels_bit ..).trans h0,
        (congrArg _ (by omega : 9 + 2 * n = 8 + (2 * n + 1))).trans ((wordLevels_bit ..).trans h1), readWord_violation first w hn⟩
  · simp [commandOfLevels, h]
  · simp [State.driven, hx]
  · refine ⟨x.levels, by simp [State.driven, hx], length_lineLevels .., readWords_levels x, fun hne => ?_, fun i h0 hi => ?_⟩
    · exact lineLevels_sync x.coded _ 0 (List.length_pos_of_ne_nil hne)
    · obtain ⟨j, rfl⟩ : ∃ j, i = j + 1 := ⟨i - 1, by omega⟩
      exact levels_sync x j hi
  · exact ⟨decodeWord_encodeWord d, fun n hn => ⟨_, decodeWord_one hn⟩, fun m n hm hn hne => decodeWord_two hm hn hne⟩

end Sys2Proof.Machine
end

section
/-! SUPPORT. The fence of mode 2 or 3, the end of a join by a fault, and the faults of floor 3: O12. -/

namespace Sys2Proof.Machine

open Sys2Proof

variable {s t u : State} {mode code : Nat} {fr : TxFrame}

/-! ## The fault record -/

theorem recordFault_eq (code : Nat) (s : State) : recordFault code s = s.entered code := by
  simp only [recordFault, State.entered, State.onFlu]
  cases s.flu.record <;> rfl

/-- What a fault finds of the head goes into the record: two states that agree in it enter alike. -/
theorem entered_congr (hf : u.flu.record = s.flu.record ∧ u.flu.second = s.flu.second ∧ u.flu.count = s.flu.count)
    (hm : u.msq.motion = s.msq.motion) (hr : u.msq.lastReport = s.msq.lastReport) (hj : u.currentJob = s.currentJob)
    (hb : u.boardNumber = s.boardNumber) (hc : u.scu.held = s.scu.held) :
    (u.entered code).faultState = (s.entered code).faultState := by
  obtain ⟨h1, h2, h3⟩ := hf
  simp [State.entered, State.faultState, State.onFlu, State.tipX, State.tipY, h1, h2, h3, hm, hr, hj, hb, hc]

/-! ## The blocks' own action of a head that is mute -/

/-- What the blocks' own action leaves of MSQ's timers where it serves a membership or stands still. -/
def State.msqRests (s : State) : State := s.onMsq fun m => { m with idleTimer := none, spaceEvent := false }

theorem settleSpace_settleIdle (h : s.msq.motion.engaged = true) : settleSpace (settleIdle s) = s.msqRests := by
  have hi := settleIdle_notIdle (s := s) fun hm => by simp [hm, MotionState.engaged] at h
  rw [settleSpace_engaged (by rw [hi]; exact h), hi]
  split
  · rfl
  next he =>
    have he : s.msq.spaceEvent = false := by simpa [State.onMsq] using he
    simp [State.msqRests, State.onMsq, ← he]

/-- The head is silent in FROZEN, or OFFLINE: the blocks offer nothing of themselves. -/
structure State.Mute (s : State) : Prop where
  motion  : s.msq.motion = .frozen ∨ s.msq.motion = .offline
  noOffer : s.mayOffer = false
  noLift  : s.lifting = false
  fence   : settleAction s = s ∧ s.flu.fence ≠ .restartWait
  fresh   : s.claimStale = false

theorem State.Mute.engaged (h : s.Mute) : s.msq.motion.engaged = true := by
  rcases h.motion with hm | hm <;> rw [hm] <;> rfl

@[simp] theorem settleHandover_mayOffer (s : State) : (settleHandover s).mayOffer = s.mayOffer := by
  simp [State.mayOffer, State.lifting]

theorem settleHandover_mayTake (h : s.msq.motion = .frozen ∨ s.msq.motion = .offline) :
    (settleHandover s).mayTake = false := by
  rcases h with h | h <;> simp [State.mayTake, h]

/-- A mute head hands a point over at most. -/
theorem settle_mute (h : s.Mute) : settle s = regap (settleHandover s).msqRests := by
  have hh : settleHalt s = s := by
    rw [settleHalt, if_neg]
    rcases h.motion with hm | hm <;> simp [hm, MotionState.haltActs]
  have hc : settleClaim s = s := by simp [settleClaim, h.fresh]
  have hp : settlePlacing s = s := settlePlacing_idle (by rcases h.motion with hm | hm <;> simp [hm])
  have he : (settleHandover s).msq.motion.engaged = true := by simpa using h.engaged
  have ht : (settleHandover s).msqRests.mayTake = false := settleHandover_mayTake h.motion
  have ho : (settleHandover s).msqRests.mayOffer = false := (settleHandover_mayOffer s).trans h.noOffer
  rw [settle, if_neg (by simp [h.noLift]), hh, hc, h.fence.1, settleRestart_idle h.fence.2, hp, settleServe_engaged he,
    settleSpace_settleIdle he, settleTake, if_neg (by simp [ht]), settleCensus, if_neg (by simp [ho])]

/-! ## Silenced -/

/-- The states a fence may be told from: they agree in what `Silenced` reads. -/
theorem Silenced.congr (h : Silenced mode fr u t) (htx : u.lif.tx = s.lif.tx) (hp : u.rvu.pending = s.rvu.pending)
    (hm : u.msq.motion = s.msq.motion ∧ u.msq.frozen = s.msq.frozen ∧ u.msq.lastCommand = s.msq.lastCommand)
    (hh : u.flu.haltDrive = s.flu.haltDrive) (hc : u.claimState = s.claimState) (hj : u.jtb = s.jtb) :
    Silenced mode fr s t := by
  obtain ⟨h1, h2, h3⟩ := hm
  have hn : u.nextCommand = s.nextCommand := by simp [State.nextCommand, h3]
  exact {
    work := h.work, places := h.places, silent := h.silent, members := h.members, meu := h.meu, motion := h.motion
    restart := h.restart
    take := by rw [← htx, ← hp]; exact h.take
    phase := by rw [← h1, ← h2]; exact h.phase
    command := by rw [← h1, ← h3, ← hn]; exact h.command
    fence := by rw [← hh]; exact h.fence
    halt := by rw [← hh]; exact h.halt
    claim := h.claim.trans hc
    table := h.table.trans hj }

/-- A TAKE on the lane, unheard. -/
theorem laneHolds_take : s.laneHolds isTakeFrame = true ↔ ∃ x ∈ s.lif.tx, isTakeFrame x.frame = true ∧ x.heard = false := by
  cases h : s.lif.tx <;> simp [State.laneHolds, h]

/-- The freeze of a fence, of a head that moves. -/
theorem freezeForFence_eq (hu : u.msq = s.msq) (h : s.msq.motion.moves = true) :
    (freezeForFence u).msq.motion = .frozen ∧
    (freezeForFence u).msq.frozen = (if s.msq.motion = .frozen then s.msq.frozen else .stopping) ∧
    (freezeForFence u).msq.lastCommand =
      if s.msq.motion = .frozen then s.msq.lastCommand else some { number := s.nextCommand, order := .stop } := by
  refine ⟨freezeForFence_motion (by rwa [hu]), ?_⟩
  unfold freezeForFence
  split <;> simp_all [MotionState.moves, freeze, sendCommand, State.onMsq, State.nextCommand]

/-- The head as silence leaves it, before the freeze. -/
def State.hushed (mode code : Nat) (s : State) : State :=
  let u := silenceScu (endMembers (lifSilence (.fault code mode s.msq.motion s.currentJob) (meuAbort s)))
  u.onRvu fun r => { r with pending := if u.laneHolds isTakeFrame then r.pending else none }

@[simp] theorem hushed_msq (mode code : Nat) (s : State) : (s.hushed mode code).msq = s.msq := by
  simp [State.hushed]

theorem hushed_lif (mode code : Nat) (s : State) : (s.hushed mode code).lif = { s.lif with
    safety := [], work := [.fault code mode s.msq.motion s.currentJob], answer := none, post := [], held := []
    tx := detachTx s.lif, stallSafety := none, stallWork := some 20000000, silent := true } := by
  simp [State.hushed, endMembers, releaseReadings, lifSilence, pushWork, emptyQueues, workStall_eq, meuAbort]

@[simp] theorem laneHolds_hushed (p : TxFrame → Bool) (mode code : Nat) (s : State) :
    (s.hushed mode code).laneHolds p = s.laneHolds p := by
  rw [State.laneHolds, hushed_lif]
  cases h : s.lif.tx <;> simp [State.laneHolds, detachTx, h]

theorem hushed_rvu (mode code : Nat) (s : State) : (s.hushed mode code).rvu = { s.rvu with
    current := none, next := none, pending := if s.laneHolds isTakeFrame then s.rvu.pending else none } := by
  have h := laneHolds_hushed isTakeFrame mode code s
  have hl : (s.hushed mode code).laneHolds isTakeFrame = (silenceScu (endMembers (lifSilence
    (.fault code mode s.msq.motion s.currentJob) (meuAbort s)))).laneHolds isTakeFrame := rfl
  rw [← h, hl]
  simp [State.hushed, endMembers, meuAbort, State.onRvu, releaseReadings]

theorem silentFence_eq (mode code : Nat) (s : State) : silentFence mode code s =
    ((freezeForFence (s.hushed mode code)).onStc fun c => { c with restart := .noRestart, restartLift := none }).onFlu fun u =>
      { u with fence := if mode = 3 ∨ u.haltDrive then .haltAll else .silent, acting := some code, restartWait := none
               haltDrive := u.haltDrive || mode == 3, awaitFault := false, awaitDrops := [] } := rfl

@[simp] theorem hushed_flu (mode code : Nat) (s : State) : (s.hushed mode code).flu = s.flu := by simp [State.hushed]

/-- The fence of mode 2 or 3 does what R16, R142, R166, R185 and R186 ask. -/
theorem silentFence_silenced (mode code : Nat) (h : s.msq.motion.moves = true) :
    Silenced mode (.fault code mode s.msq.motion s.currentJob) s (silentFence mode code s) := by
  obtain ⟨hm, hf, hc⟩ := freezeForFence_eq (hushed_msq mode code s) h
  have hr := (freezeForFence_rvu (s.hushed mode code)).trans (hushed_rvu mode code s)
  constructor
  case motion => exact hm
  case phase => exact hf
  case command => exact hc
  case claim => simp
  case table => simp
  case restart => rfl
  case meu => simp [silentFence_eq, State.hushed, meuAbort]
  case take => exact (congrArg Rvu.pending hr).trans (if_congr laneHolds_take rfl rfl)
  case members => exact ⟨congrArg Rvu.current hr, congrArg Rvu.next hr⟩
  all_goals simp [silentFence_eq, hushed_lif]

/-- A fenced head is mute, and stays as the fence has left it. -/
theorem silentFence_claimStale (mode code : Nat) (s : State) : (silentFence mode code s).claimStale = false := by
  have h : (silentFence mode code s).scu = (s.hushed mode code).scu := by simp [silentFence_eq]
  have hp : ∀ p ∈ (silentFence mode code s).scu.pending, p.stage ≠ .queued := by
    intro p hp hq
    simp only [h, State.hushed, State.onRvu, silenceScu, State.onScu, endMembers_scu, lifSilence_scu, meuAbort_scu] at hp
    cases hs : s.scu.pending with
    | none => simp [hs] at hp
    | some q => cases hg : q.stage <;> simp_all
  unfold State.claimStale
  (repeat' split) <;> simp_all

/-- A fence of mode 2 or 3 just entered, with what the blocks' own action then finds. -/
structure JustSilenced (mode : Nat) (fr : TxFrame) (s t : State) : Prop extends Silenced mode fr s t where
  fresh    : t.claimStale = false
  lane     : t.laneHolds isTakeFrame = s.laneHolds isTakeFrame
  stall    : t.lif.stallWork = some 20000000
  log      : t.log = s.log
  outer    : t.outer = s.outer
  faults   : t.faultState = s.faultState
  report   : t.msq.lastReport = s.msq.lastReport

theorem silentFence_just (mode code : Nat) (h : s.msq.motion.moves = true) :
    JustSilenced mode (.fault code mode s.msq.motion s.currentJob) s (silentFence mode code s) where
  toSilenced := silentFence_silenced mode code h
  fresh := silentFence_claimStale mode code s
  lane := by
    have hl : (silentFence mode code s).lif = (s.hushed mode code).lif := by simp [silentFence_eq]
    rw [State.laneHolds, hl]
    exact laneHolds_hushed ..
  stall := by simp [silentFence_eq, hushed_lif]
  log := by simp
  outer := by simp
  faults := by simp
  report := by simp

/-- The reports of the two faults of a REPORT are kept (R122, R139). -/
theorem silentFence_reported (mode code : Nat) (s : State) :
    (silentFence mode code s).msq.driveReported = s.msq.driveReported ∧
      (silentFence mode code s).msq.breachReported = s.msq.breachReported := by
  show (freezeForFence (s.hushed mode code)).msq.driveReported = _ ∧
    (freezeForFence (s.hushed mode code)).msq.breachReported = _
  unfold freezeForFence
  split <;> simp [freeze, sendCommand]

theorem Silenced.mute (h : Silenced mode fr s t) (hc : t.claimStale = false) : t.Mute where
  motion := .inl h.motion
  noOffer := by simp [State.mayOffer, h.silent]
  noLift := by simp [State.lifting, h.restart]
  fence := by
    have hf := h.fence
    split at hf <;> simp [settleAction, hf]
  fresh := hc

/-- The blocks' own action leaves the head as the fence has left it. -/
theorem JustSilenced.settle (h : JustSilenced mode fr s t) : JustSilenced mode fr s (settle t) := by
  have hn : settleHandover t = t := by simp [settleHandover, h.members]
  rw [settle_mute (h.toSilenced.mute h.fresh), hn]
  exact { h with }

/-! ## The faults of floor 3 -/

theorem moves_of_not (ho : s.msq.motion ≠ .offline) (hj : s.msq.motion ≠ .joining) : s.msq.motion.moves = true :=
  MotionState.moves_iff.2 ⟨ho, hj⟩

theorem takeFault3_moving (h : s.msq.motion.moves = true) (hd : s.flu.haltDrive = false) :
    takeFault3 code s = silentFence 3 code (s.entered code) := by
  obtain ⟨ho, hj⟩ := MotionState.moves_iff.1 h
  dsimp only [takeFault3]
  rw [recordFault_eq]
  split
  next hm => exact absurd hm ho
  next hm => exact absurd hm hj
  · exact if_neg (by simp [State.entered, State.onFlu, hd])

theorem takeFault3_entered (h : s.msq.motion = .offline ∨ s.flu.haltDrive = true ∧ s.msq.motion ≠ .joining) :
    takeFault3 code s = s.entered code := by
  dsimp only [takeFault3]
  rw [recordFault_eq]
  split
  · rfl
  next hm =>
    have hm : s.msq.motion = .joining := hm
    simp [hm] at h
  next hm _ => exact if_pos (h.resolve_left hm).1

theorem takeFault3_joining (h : s.msq.motion = .joining) : takeFault3 code s = goOffline code (s.entered code) := by
  dsimp only [takeFault3]
  rw [recordFault_eq]
  split
  next hm => exact absurd (h.symm.trans hm) (by decide)
  · rfl
  next hm => exact absurd h hm

/-- A fault of floor 3 of a head that moves and drives no HALT. -/
theorem takeFault3_just (h : s.msq.motion.moves = true) (hd : s.flu.haltDrive = false) :
    JustSilenced 3 (.fault code 3 s.msq.motion s.currentJob) (s.entered code) (takeFault3 code s) := by
  rw [takeFault3_moving h hd]
  exact silentFence_just (s := s.entered code) 3 code h

/-! ## The end of a join by a fault -/

theorem goOffline_mute (code : Nat) (h : s.Running) : (goOffline code s).Mute where
  motion := .inr rfl
  noOffer := by simp [State.mayOffer, goOffline, State.onMsq, State.onStc]
  noLift := rfl
  fence := by
    have ha : (goOffline code s).msq.motion.actionEnds = false := rfl
    rcases h.noFence1 with hf | hf | hf | hf <;> simp [settleAction, hf, ha]
  fresh := rfl

theorem isJoinFrame_not {f : TxFrame} (h : isJoinFrame f = false) : f ≠ .censusReq ∧ isClaimFrame f = false := by
  constructor
  · rintro rfl
    cases h
  · cases f <;> first | rfl | cases h

/-- A join that a fault has ended (R32, R34, R118, R189). -/
theorem goOffline_wentOffline (code : Nat) (h : s.Running) : WentOffline code s (settle (goOffline code s)) := by
  have hs : settle (goOffline code s) = regap (settleHandover (goOffline code s)).msqRests := settle_mute (goOffline_mute code h)
  rw [hs]
  have hl : (regap (settleHandover (goOffline code s)).msqRests).lif = { (goOffline code s).lif with
      gap := (regap (settleHandover (goOffline code s)).msqRests).lif.gap } := by
    simp [regap, State.msqRests]
  constructor
  case fence => exact (settleHandover_fenceState _).trans (goOffline_fenceState ..)
  case frames =>
    refine ⟨by rw [State.offered, hl]; rfl, fun f hf => isJoinFrame_not ?_⟩
    rw [hl] at hf
    have hf : f ∈ s.lif.safety.filter fun f => !isJoinFrame f := hf
    simpa using (List.mem_filter.1 hf).2
  case motion => exact settleHandover_motion _
  all_goals simp [State.msqRests, goOffline, filterSafety]

/-- A fault of floor 3 taken in JOINING. -/
theorem takeFault3_ends (h : s.Running) (hj : s.msq.motion = .joining) :
    (settle (takeFault3 code s)).faultState = (s.entered code).faultState ∧
      WentOffline code (s.entered code) (settle (takeFault3 code s)) := by
  rw [takeFault3_joining hj]
  have hr : (s.entered code).Running := ⟨h.noReset, h.noLift, h.noFence1⟩
  have hw := goOffline_wentOffline code hr
  refine ⟨?_, hw⟩
  rw [settle_mute (goOffline_mute code hr)]
  exact (settleHandover_faultState _).trans (goOffline_faultState ..)

/-- The states a join may be told from: they agree in what `WentOffline` reads. -/
theorem WentOffline.congr (h : WentOffline code u t) (ho : u.offered = s.offered) (hf : u.fenceState = s.fenceState)
    (hj : u.jtb = s.jtb) (hc : u.msq.lastCommand = s.msq.lastCommand) : WentOffline code s t :=
  { h with
    frames := ⟨h.frames.1.trans ho, h.frames.2⟩
    fence := h.fence.trans hf
    table := h.table.trans hj
    command := h.command.trans hc }

end Sys2Proof.Machine
end

section
/-! SUPPORT. The faults of floor 3, from every fence state: O12. -/

namespace Sys2Proof.Machine

open Sys2Proof

variable {s t u : State} {k : Kind} {f : RxFrame} {r : DriveReport} {mode code : Nat} {fr : TxFrame}

/-! ## A frame of the head's own source that is not awaited -/

/-- It is DUP_STATION (R23). -/
theorem hear_duplicate (act : State → State) (ho : s.isOwn f = true) (hb : s.awaitsReadback = false)
    (hr : s.lif.receiver ≠ .waitQuiet) : hear k f act s = takeFault3 0x03 (received k f s) := by
  rw [hear, if_pos (by simp [State.receives, hr]), if_pos (by simp [ho, hb])]

theorem decodeInto_lif (n r p : Nat) (w : CodedWord) (s : State) :
    decodeInto n r p w s = s.onLif fun _ => (decodeInto n r p w s).lif := by
  unfold decodeInto
  split <;> rfl

theorem logErrors_lif (k : Kind) (f : RxFrame) (s : State) :
    logErrors k f s = s.onLif fun _ => (logErrors k f s).lif := by
  unfold logErrors
  induction f.errors generalizing s with
  | nil => rfl
  | cons e es ih =>
    simp only [List.foldl_cons]
    rw [ih, decodeInto_lif]
    rfl

/-- It reaches LIF alone. -/
theorem received_duplicate (ho : s.isOwn f = true) (hb : s.awaitsReadback = false) :
    received k f s = s.onLif fun _ => (received k f s).lif := by
  have h : received k f s = moveTracker k f.src.toNat (frameEnd true (logErrors k f s)) := by
    simp [received, ho, hb]
  rw [h, logErrors_lif]
  unfold moveTracker
  (repeat' split) <;> rfl

theorem received_duplicate_offered (ho : s.isOwn f = true) (hb : s.awaitsReadback = false) :
    (received k f s).offered = s.offered := by
  simp only [received, ho, hb]
  have hm (t : State) : (moveTracker k f.src.toNat (frameEnd true t)).offered = t.offered := by
    unfold moveTracker
    (repeat' split) <;> rfl
  have hd (n r p : Nat) (w : CodedWord) (t : State) : (decodeInto n r p w t).offered = t.offered := by
    unfold decodeInto
    split <;> rfl
  simp only [Bool.false_eq_true, if_true, if_false, hm]
  unfold logErrors
  exact foldl_view (·.offered) (fun t a => hd ..) _

theorem received_duplicate_tx (ho : s.isOwn f = true) (hb : s.awaitsReadback = false) :
    (received k f s).lif.tx = s.lif.tx := by
  simp only [received, ho, hb]
  have hm (t : State) : (moveTracker k f.src.toNat (frameEnd true t)).lif.tx = t.lif.tx := by
    unfold moveTracker
    (repeat' split) <;> rfl
  simp [hm]

@[simp] theorem decodeInto_discarded (n r p : Nat) (w : CodedWord) (s : State) :
    (decodeInto n r p w s).lif.counters.discarded = s.lif.counters.discarded := by
  unfold decodeInto
  split <;> rfl

@[simp] theorem logErrors_discarded (k : Kind) (f : RxFrame) (s : State) :
    (logErrors k f s).lif.counters.discarded = s.lif.counters.discarded := by
  unfold logErrors
  induction f.errors generalizing s with
  | nil => rfl
  | cons e es ih => simpa using ih (decodeInto k.code f.src.toNat e.1 e.2 s)

theorem received_duplicate_discarded (ho : s.isOwn f = true) (hb : s.awaitsReadback = false) :
    (received k f s).lif.counters.discarded = s.lif.counters.discarded := by
  simp only [received, ho, hb]
  have hm (t : State) : (moveTracker k f.src.toNat (frameEnd true t)).lif.counters = t.lif.counters := by
    unfold moveTracker
    (repeat' split) <;> rfl
  simp [hm]

/-! ## A closing of the contact that is not expected -/

/-- The contact input closed, and seen by a self-test under way (R31, R131). -/
def State.closed (s : State) : State :=
  (s.onPins fun p => { p with contact := true }).onStc fun c => { c with contactSeen := c.contactSeen || c.selfTesting }

/-- It is COLLISION (R140). -/
theorem exec_unexpected_closing (hr : s.stc.inReset = false) (hc : s.pins.contact = false) (hd : s.msq.motion ≠ .descend)
    (he : s.msq.motion.closingExpected = false) :
    exec .contactClosing s = .next (settle (takeFault3 0x01 s.closed)) := by
  have h : takeClosing s.closed = takeFault3 0x01 s.closed := by
    unfold takeClosing
    rw [if_neg (show s.closed.msq.motion ≠ .descend from hd), if_neg (by simp [show s.closed.msq.motion = s.msq.motion from rfl, he])]
  have hs : contactClose s = settle (takeClosing s.closed) := by
    unfold contactClose
    rw [if_neg (by simp [hc])]
    exact if_neg (by simp [State.onPins, hr])
  rw [← h, ← hs]
  rfl

/-! ## Where a fault of floor 3 leads, told from the state before it -/

/-- The fault record of the first fault is told from any state that agrees with it in what the record keeps. -/
theorem JustSilenced.told (h : JustSilenced 3 fr (u.entered code) t) (hl : u.lif.tx = s.lif.tx) (hr : u.rvu = s.rvu)
    (hm : u.msq.motion = s.msq.motion ∧ u.msq.frozen = s.msq.frozen ∧ u.msq.lastCommand = s.msq.lastCommand ∧
      u.msq.lastReport = s.msq.lastReport)
    (hs : u.scu = s.scu) (hf : u.flu = s.flu) (hb : u.stc.board = s.stc.board) (hj : u.jtb = s.jtb) :
    t.faultState = (s.entered code).faultState ∧ Silenced 3 fr s t := by
  obtain ⟨h1, h2, h3, h4⟩ := hm
  refine ⟨h.faults.trans (entered_congr ⟨by rw [hf], by rw [hf], by rw [hf]⟩ h1 h4 (by simp [State.currentJob, hr])
    (by simp [State.boardNumber, hb]) (by rw [hs])), h.toSilenced.congr hl (congrArg _ hr) ⟨h1, h2, h3⟩
    (show u.flu.haltDrive = _ by rw [hf]) (show u.claimState = _ by simp [State.claimState, hs]) hj⟩

/-- A fault of floor 3 of a head OFFLINE, or one that drives HALT. -/
theorem settle_entered (h : s.Running ∨ s.stc.inReset = false ∧ s.lifting = true) :
    RunKept (s.entered code) (settle (s.entered code)) := by
  rcases h with h | ⟨-, h⟩
  · exact settle_runKept ⟨h.noReset, h.noLift, h.noFence1⟩
  · rw [settle, if_pos (show (s.entered code).lifting = true from h)]
    constructor <;> rfl

/-! ## A REPORT outside the reference region -/

theorem exec_driveReport (h : s.stc.inReset = false) : exec (.driveReport r) s = .next (settle (takeReport r s)) :=
  live_eq _ h

/-- A fenced head whose REPORT completes no command, the STOP of the fence among them. -/
theorem Silenced.not_completes (h : Silenced mode fr s t) (hs : r.inPosition = false ∨
    r.number.toNat ≠ s.nextCommand ∧ (s.msq.motion = .frozen → s.completes r = false)) : t.completes r = false := by
  rcases hs with hs | ⟨hn, hf⟩
  · unfold State.completes
    split <;> simp [hs]
  · have hc := h.command
    split at hc
    next hm =>
      have := hf hm
      simpa [State.completes, hc] using this
    · simp [State.completes, hc, hn]

/-- A REPORT whose faults leave it completing nothing. -/
theorem takeReport_faults (h : (reportFaults (s.supervises && r.fault) (s.breaches r) (keepReport r s)).completes r = false) :
    takeReport r s = reportFaults (s.supervises && r.fault) (s.breaches r) (keepReport r s) := by
  dsimp only [takeReport]
  rw [if_neg (by simp [h])]

/-- CORRIDOR_BREACH, reported for the first time (R139). -/
theorem reportBreach_just (h : s.msq.motion.moves = true) (hd : s.flu.haltDrive = false) (hb : s.msq.breachReported = false) :
    JustSilenced 3 (.fault 0x02 3 s.msq.motion s.currentJob) (s.entered 0x02)
      (reportBreach s) := by
  rw [reportBreach, if_neg (by simp [hb])]
  exact { takeFault3_just (code := 0x02) (s := s.onMsq fun m => { m with breachReported := true }) h hd with }

/-- A REPORT outside the reference region, without its fault flag. -/
theorem takeReport_breach (h : s.msq.motion.moves = true) (hd : s.flu.haltDrive = false) (hb : s.breaches r = true)
    (hf : r.fault = false) (hn : s.msq.breachReported = false) (hs : r.inPosition = false ∨
      r.number.toNat ≠ s.nextCommand ∧ (s.msq.motion = .frozen → s.completes r = false)) :
    takeReport r s = reportBreach (keepReport r s) := by
  have hk : (keepReport r s).msq.breachReported = false := by simp [keepReport, State.onMsq, hn]
  have hj := reportBreach_just (s := keepReport r s) h hd hk
  have hq : reportFaults (s.supervises && r.fault) (s.breaches r) (keepReport r s) = reportBreach (keepReport r s) := by
    simp [hb, hf, reportFaults]
  have hc : (reportBreach (keepReport r s)).completes r = false :=
    (hj.toSilenced.congr (s := s) rfl rfl ⟨rfl, rfl, rfl⟩ rfl rfl rfl).not_completes hs
  rw [takeReport_faults (by rw [hq]; exact hc), hq]

/-! ## A REPORT with both faults -/

theorem faultState_record (h : t.faultState = s.faultState) : t.flu.record = s.flu.record := congrArg (·.1) h

/-- A later fault is counted, whatever it is (R180). -/
theorem entered_again {c : Nat} (hr : s.flu.record.isSome = true) (h : t.faultState = s.faultState) :
    (t.entered code).faultState = (s.entered c).faultState := by
  obtain ⟨x, hx⟩ := Option.isSome_iff_exists.1 hr
  have ht := (faultState_record h).trans hx
  simp only [State.faultState, Prod.mk.injEq] at h
  obtain ⟨-, h2, h3, -⟩ := h
  simp [State.entered, State.faultState, State.onFlu, hx, ht, h2, h3]

/-- A further fault of a head that drives HALT. -/
theorem JustSilenced.entered {c : Nat} (h : JustSilenced mode fr s t) (hr : s.flu.record.isSome = true) :
    JustSilenced mode fr (s.entered c) (t.entered code) :=
  { h with faults := entered_again hr h.faults }

/-- The states a fence may be told from, with what the blocks' own action then finds. -/
theorem JustSilenced.congr (h : JustSilenced mode fr u t) (hl : u.lif.tx = s.lif.tx ∧ u.log = s.log)
    (hp : u.rvu.pending = s.rvu.pending)
    (hm : u.msq.motion = s.msq.motion ∧ u.msq.frozen = s.msq.frozen ∧ u.msq.lastCommand = s.msq.lastCommand)
    (hr : u.msq.lastReport = s.msq.lastReport) (hh : u.flu.haltDrive = s.flu.haltDrive)
    (hf : u.faultState = s.faultState) (hc : u.claimState = s.claimState) (hj : u.jtb = s.jtb) (ho : u.outer = s.outer) :
    JustSilenced mode fr s t where
  toSilenced := h.toSilenced.congr hl.1 hp hm hh hc hj
  fresh := h.fresh
  lane := h.lane.trans (by simp [State.laneHolds, hl.1])
  stall := h.stall
  log := h.log.trans hl.2
  outer := h.outer.trans ho
  faults := h.faults.trans hf
  report := h.report.trans hr

/-- A fence of mode 3 after one of mode 2: the head stays in its phase, and its TAKE on the lane pending. -/
theorem JustSilenced.again {fr' : TxFrame} {c : Nat} (h : JustSilenced mode fr s u)
    (k : JustSilenced 3 fr' (u.entered code) t) (hr : s.flu.record.isSome = true) : JustSilenced 3 fr' (s.entered c) t := by
  have hu : (u.entered code).msq.motion = .frozen := h.motion
  exact { k with
    take := by
      have hk := k.take.trans (if_congr laneHolds_take.symm rfl rfl)
      have hs := h.take.trans (if_congr laneHolds_take.symm rfl rfl)
      have hl : (u.entered code).laneHolds isTakeFrame = s.laneHolds isTakeFrame := h.lane
      rw [hl] at hk
      have ht : t.rvu.pending = if s.laneHolds isTakeFrame then s.rvu.pending else none := by
        rw [hk]
        split
        next ht => exact hs.trans (if_pos ht)
        · rfl
      exact ht.trans (if_congr laneHolds_take rfl rfl)
    phase := (k.phase.trans (if_pos hu)).trans h.phase
    command := (k.command.trans (if_pos hu)).trans h.command
    fence := by simpa using k.fence
    halt := by simpa using k.halt
    claim := k.claim.trans h.claim
    table := k.table.trans h.table
    lane := k.lane.trans h.lane
    log := k.log.trans h.log
    outer := k.outer.trans h.outer
    faults := k.faults.trans (entered_again hr h.faults)
    report := k.report.trans h.report }

/-- A DRIVE_FAULT of a head that a fence holds is entered alone (R122, R185). -/
theorem reportDrive_fenced (h : JustSilenced mode fr s t) (hn : t.msq.driveReported = false) (hr : s.flu.record.isSome = true) :
    JustSilenced mode fr (s.entered 0x07) (reportDrive t) := by
  have hf : t.flu.fence ≠ .noFence := by
    rw [h.fence]
    split <;> simp
  have hq : reportDrive t = (t.onMsq fun m => { m with driveReported := true }).entered 0x07 := by
    rw [reportDrive, if_neg (by simp [hn])]
    dsimp only [takeFault]
    rw [recordFault_eq]
    split
    next hm => exact absurd (h.motion.symm.trans hm) (by decide)
    next hm => exact absurd (h.motion.symm.trans hm) (by decide)
    · rw [if_neg (by simp [State.lifting, State.entered, State.onFlu, State.onMsq, h.restart]),
        if_neg (by simpa [State.entered, State.onFlu, State.onMsq] using hf)]
  rw [hq]
  exact { h.entered (c := 0x07) (code := 0x07) hr with }

/-! The two faults in the order CORRIDOR_BREACH, DRIVE_FAULT. -/

theorem isSome_entered (code : Nat) (s : State) : (s.entered code).flu.record.isSome = true := rfl

theorem breach_then_drive (h : s.msq.motion.moves = true) (hd : s.flu.haltDrive = false) (hb : s.msq.breachReported = false)
    (hn : s.msq.driveReported = false) :
    JustSilenced 3 (.fault 0x02 3 s.msq.motion s.currentJob) ((s.entered 0x02).entered 0x07) (reportDrive (reportBreach s)) := by
  refine reportDrive_fenced (reportBreach_just h hd hb) ?_ (isSome_entered ..)
  rw [reportBreach, if_neg (by simp [hb]), takeFault3_moving (by exact h) (by exact hd)]
  exact (silentFence_reported ..).1.trans hn

/-! The two faults in the order DRIVE_FAULT, CORRIDOR_BREACH, of a head without memberships. -/

/-- A fence entered from fence state NONE (R179). -/
theorem takeFault_fences (h : s.msq.motion.moves = true) (hl : s.lifting = false) (hf : s.flu.fence = .noFence) :
    takeFault code s = enterFence code (s.entered code) := by
  obtain ⟨ho, hj⟩ := MotionState.moves_iff.1 h
  dsimp only [takeFault]
  rw [recordFault_eq]
  split
  next hm => exact absurd hm ho
  next hm => exact absurd hm hj
  · rw [if_neg (by simpa [State.lifting, State.entered, State.onFlu] using hl), if_pos (by exact hf)]

/-- The fence state of a head without memberships whose FAULT frame is offered (R183, R184). -/
theorem reportFence_memberless (hc : s.rvu.current = none) (hn : s.rvu.next = none) : reportFence mode code s =
    offerWork (.fault code mode s.msq.motion 0) ((meuAbort s).onFlu fun u =>
      { u with fence := .acting mode, acting := some code, awaitFault := mode == 1, awaitDrops := [] }) := by
  simp [reportFence, State.memberJobs, State.currentJob, hc, hn]

/-- A DRIVE_FAULT reported and entered (R122, R180). -/
def State.driveTold (s : State) : State := (s.onMsq fun m => { m with driveReported := true }).entered 0x07

@[simp] theorem driveTold_rvu (s : State) : s.driveTold.rvu = s.rvu := rfl
@[simp] theorem driveTold_lif (s : State) : s.driveTold.lif = s.lif := rfl
@[simp] theorem driveTold_haltDrive (s : State) : s.driveTold.flu.haltDrive = s.flu.haltDrive := rfl

theorem reportDrive_fences (h : s.msq.motion.moves = true) (hn : s.msq.driveReported = false) (hl : s.lifting = false)
    (hf : s.flu.fence = .noFence) : reportDrive s =
      if s.cfg.fenceMode ≤ 1 then reportFence s.cfg.fenceMode 0x07 s.driveTold
      else silentFence s.cfg.fenceMode 0x07 s.driveTold := by
  have hm : s.driveTold.effectiveMode 0x07 = s.cfg.fenceMode := Nat.max_eq_left (Nat.zero_le _)
  rw [reportDrive, if_neg (by simp [hn]), takeFault_fences (by exact h) (by exact hl) (by exact hf)]
  show enterFence 0x07 s.driveTold = _
  dsimp only [enterFence]
  rw [hm]

@[simp] theorem offerWork_tx (f : TxFrame) (s : State) : (offerWork f s).lif.tx = s.lif.tx := by
  unfold offerWork
  (repeat' split) <;> rfl

theorem meuAbort_memberless (hc : s.rvu.current = none) : (meuAbort s).rvu = s.rvu := by
  simp only [meuAbort, State.onRvu, State.onMeu, hc, Option.map_none]
  cases hr : s.rvu
  simp_all

/-- A fence of mode 0 or 1 of a head without memberships offers FAULT and leaves what a later fence reads. -/
theorem reportDrive_memberless (hq : reportDrive s = reportFence mode 0x07 s.driveTold) (hc : s.rvu.current = none)
    (hx : s.rvu.next = none) :
    (reportDrive s).rvu = s.rvu ∧ (reportDrive s).msq = s.driveTold.msq ∧
      (reportDrive s).flu.haltDrive = s.flu.haltDrive ∧ (reportDrive s).faultState = (s.entered 0x07).faultState ∧
      ((reportDrive s).lif.tx = s.lif.tx ∧ (reportDrive s).log = s.log) ∧ (reportDrive s).claimState = s.claimState ∧
      (reportDrive s).jtb = s.jtb ∧ (reportDrive s).outer = s.outer := by
  rw [hq, reportFence_memberless (s := s.driveTold) hc hx]
  refine ⟨?_, ?_, ?_, ?_, ⟨?_, ?_⟩, ?_, ?_, ?_⟩ <;> simp [meuAbort_memberless, hc] <;> rfl

theorem drive_then_breach (h : s.msq.motion.moves = true) (hd : s.flu.haltDrive = false) (hb : s.msq.breachReported = false)
    (hn : s.msq.driveReported = false) (hl : s.lifting = false) (hf : s.flu.fence = .noFence) (hc : s.rvu.current = none)
    (hx : s.rvu.next = none) :
    JustSilenced 3 (if s.cfg.fenceMode = 3 then .fault 0x07 3 s.msq.motion 0
      else .fault 0x02 3 (if 2 ≤ s.cfg.fenceMode then .frozen else s.msq.motion) 0)
      ((s.entered 0x07).entered 0x02) (reportBreach (reportDrive s)) := by
  have hj : s.driveTold.currentJob = 0 := by
    show s.currentJob = 0
    simp [State.currentJob, hc]
  have hq := reportDrive_fences h hn hl hf
  by_cases hle : s.cfg.fenceMode ≤ 1
  · rw [if_pos hle] at hq
    obtain ⟨hr, hm, hh, hfs, htx, hcl, hjt, ho⟩ := reportDrive_memberless hq hc hx
    have hk : (reportDrive s).currentJob = 0 := by simp [State.currentJob, hr, hc]
    have hjust := reportBreach_just (s := reportDrive s) (by rw [hm]; exact h) (hh.trans hd) (by rw [hm]; exact hb)
    rw [hk, hm] at hjust
    rw [if_neg (by omega), if_neg (by omega)]
    have hms : ((reportDrive s).entered 0x02).msq = ((s.onMsq fun m => { m with driveReported := true })).msq := hm
    exact hjust.congr htx (congrArg Rvu.pending hr)
      ⟨(congrArg Msq.motion hms :), (congrArg Msq.frozen hms :), (congrArg Msq.lastCommand hms :)⟩
      (congrArg Msq.lastReport hms :) hh (entered_again (isSome_entered ..) hfs) hcl hjt ho
  · rw [if_neg hle] at hq
    have hjust : JustSilenced s.cfg.fenceMode (.fault 0x07 s.cfg.fenceMode s.msq.motion 0) (s.entered 0x07) (reportDrive s) := by
      rw [hq, ← hj]
      exact { silentFence_just (s := s.driveTold) s.cfg.fenceMode 0x07 h with }
    have hbr : (reportDrive s).msq.breachReported = false := by
      rw [hq]
      exact (silentFence_reported ..).2.trans hb
    by_cases h3 : s.cfg.fenceMode = 3
    · have hh : (reportDrive s).flu.haltDrive = true := by simp [hjust.halt, h3]
      rw [if_pos h3]
      rw [h3] at hjust
      rw [reportBreach, if_neg (by simp [hbr]), takeFault3_entered (.inr ⟨by exact hh, by simp [State.onMsq, hjust.motion]⟩)]
      exact { hjust.entered (c := 0x02) (code := 0x02) (isSome_entered ..) with }
    · have hh : (reportDrive s).flu.haltDrive = false := by
        rw [hjust.halt]
        simp [h3, State.entered, State.onFlu, hd]
      have hk : (reportDrive s).currentJob = 0 := by simp [State.currentJob, hjust.members]
      have hag := reportBreach_just (s := reportDrive s) (by simp [hjust.motion, MotionState.moves]) hh hbr
      rw [hk, hjust.motion] at hag
      rw [if_neg h3, if_pos (by omega)]
      exact hjust.again hag (isSome_entered ..)

/-- The REPORT kept, and a free value drawn for the order of its two faults (R178). -/
def State.drawnReport (r : DriveReport) (s : State) : State := { keepReport r s with drawn := s.drawn + 1 }

/-- Both faults of a REPORT, in the order of the free value. -/
theorem bothFaults_just (h : s.msq.motion.moves = true) (hd : s.flu.haltDrive = false) (hb : s.msq.breachReported = false)
    (hn : s.msq.driveReported = false) (hl : s.lifting = false) (hf : s.flu.fence = .noFence) (hc : s.rvu.current = none)
    (hx : s.rvu.next = none) :
    JustSilenced 3 (if Config.driveFaultFirst s.drawn = true ∧ s.cfg.fenceMode = 3 then .fault 0x07 3 s.msq.motion 0
      else .fault 0x02 3 (if Config.driveFaultFirst s.drawn = true ∧ 2 ≤ s.cfg.fenceMode then .frozen else s.msq.motion) 0)
      (((s.drawnReport r).entered (if Config.driveFaultFirst s.drawn then 0x07 else 0x02)).entered 0x02)
      (reportFaults true true (keepReport r s)) := by
  have hb' : (s.drawnReport r).msq.breachReported = false := by simp [State.drawnReport, keepReport, State.onMsq, hb]
  have hn' : (s.drawnReport r).msq.driveReported = false := by simp [State.drawnReport, keepReport, State.onMsq, hn]
  have hq : reportFaults true true (keepReport r s) = if Config.driveFaultFirst s.drawn
      then reportBreach (reportDrive (s.drawnReport r)) else reportDrive (reportBreach (s.drawnReport r)) := rfl
  rw [hq]
  cases hdf : Config.driveFaultFirst s.drawn
  · have hj := breach_then_drive (s := s.drawnReport r) h hd hb' hn'
    have hz : (s.drawnReport r).currentJob = 0 := by
      show s.currentJob = 0
      simp [State.currentJob, hc]
    rw [hz] at hj
    simp only [Bool.false_eq_true, false_and, if_false]
    exact { hj with faults := hj.faults.trans (entered_again (isSome_entered ..) rfl) }
  · simp only [true_and, if_true]
    exact drive_then_breach (s := s.drawnReport r) h hd hb' hn' hl hf hc hx

/-! ## The obligation -/

theorem exec_duplicate {c : Instr} (hc : c.frame? = some (k, f)) (hi : s.stc.inReset = false) (ho : s.isOwn f = true)
    (hb : s.awaitsReadback = false) (hr : s.lif.receiver ≠ .waitQuiet) :
    exec c s = .next (settle (takeFault3 0x03 (received k f s))) := by
  rw [exec_frame hc s, live_eq _ hi, hear_duplicate _ ho hb hr]

/-- Settles O12: the closing, the REPORT and the frame of the head's own in each of the three situations. -/
theorem floorThreeFaultsHaltAll : Obligations.FloorThreeFaultsHaltAll := by
  refine ⟨?_, ?_, ?_⟩
  · intro s hr hd ho hj fenced told stays
    have hm := moves_of_not ho hj
    refine ⟨fun hc hdn he => ?_, fun r hb hf hn hs => ?_, fun c k f hcf hown hbk hrec => ?_,
      fun r hb hf hn hnd hs hfn hl hc hx => ?_⟩
    · exact ⟨_, exec_unexpected_closing hr hc hdn he,
        (takeFault3_just (s := s.closed) hm hd).settle.told rfl rfl ⟨rfl, rfl, rfl, rfl⟩ rfl rfl rfl rfl⟩
    · have hk : (keepReport r s).msq.breachReported = false := by simp [keepReport, State.onMsq, hn]
      have hjust := (reportBreach_just (s := keepReport r s) hm hd hk).settle
      refine ⟨_, exec_driveReport hr, ?_⟩
      rw [takeReport_breach hm hd hb hf hn hs]
      exact ⟨hjust.told rfl rfl ⟨rfl, rfl, rfl, rfl⟩ rfl rfl rfl rfl, hjust.report⟩
    · have hrc := received_duplicate (k := k) hown hbk
      have hjust := (takeFault3_just (code := 0x03) (s := received k f s) (by rw [hrc]; exact hm) (by rw [hrc]; exact hd)).settle
      refine ⟨_, exec_duplicate hcf hr hown hbk hrec, ?_, ?_⟩
      · have := hjust.told (s := s) (received_duplicate_tx hown hbk) (by simp) (by simp) (by simp) (by simp) (by rw [hrc]; rfl) (by simp)
        rwa [hrc] at this ⊢
      · exact (congrArg (·.1.discarded) hjust.log).trans (received_duplicate_discarded hown hbk)
    · have hjust := bothFaults_just (r := r) hm hd hn hnd hl hfn hc hx
      have hsil := hjust.toSilenced.congr (s := s) rfl rfl ⟨rfl, rfl, rfl⟩ rfl rfl rfl
      have hq : takeReport r s = reportFaults true true (keepReport r s) := by
        have hq : s.supervises = true := by simp [State.supervises, ho]
        rw [takeReport_faults] <;> rw [hq, hf, hb]
        · rfl
        · exact hsil.not_completes hs
      refine ⟨_, exec_driveReport hr, ?_⟩
      rw [hq]
      have hset := hjust.settle
      exact ⟨congrArg (·.2.1) hset.outer, hset.report, hset.faults, hset.toSilenced.congr rfl rfl ⟨rfl, rfl, rfl⟩ rfl rfl rfl⟩
  · intro s hr hoff
    have hir : s.stc.inReset = false := by
      rcases hr with hr | hr
      · exact hr.noReset
      · exact hr.1
    refine ⟨?_, ?_⟩
    · intro hc hd he u
      rw [exec_unexpected_closing hir hc hd he, takeFault3_entered (s := s.closed) hoff]
      exact ⟨rfl, settle_entered (s := s.closed) (hr.imp (fun h => ⟨h.noReset, h.noLift, h.noFence1⟩) id)⟩
    · intro c k f hcf hown hbk hrec u
      have hrc := received_duplicate (k := k) hown hbk
      rw [exec_duplicate hcf hir hown hbk hrec, takeFault3_entered (by rw [hrc]; exact hoff)]
      refine ⟨rfl, settle_entered ?_⟩
      rw [hrc]
      exact hr.imp (fun h => ⟨h.noReset, h.noLift, h.noFence1⟩) id
  · intro s hr hj
    refine ⟨fun hc => ?_, fun c k f hcf hown hbk hrec => ?_⟩
    · have hends := takeFault3_ends (s := s.closed) (code := 0x01) ⟨hr.noReset, hr.noLift, hr.noFence1⟩ hj
      exact ⟨_, exec_unexpected_closing hr.noReset hc (by simp [hj]) (by simp [hj, MotionState.closingExpected]), hends.1,
        hends.2.congr rfl rfl rfl rfl⟩
    · have hrc := received_duplicate (k := k) hown hbk
      have hrun : (received k f s).Running := by
        rw [hrc]
        exact ⟨hr.noReset, hr.noLift, hr.noFence1⟩
      have hends := takeFault3_ends (code := 0x03) hrun (by simpa using hj)
      refine ⟨_, exec_duplicate hcf hr.noReset hown hbk hrec, hends.1.trans ?_, hends.2.congr ?_ ?_ ?_ ?_⟩
      · rw [hrc]
        rfl
      · exact received_duplicate_offered hown hbk
      · exact received_fenceState ..
      · exact received_jtb ..
      · exact congrArg Msq.lastCommand (received_msq ..)

end Sys2Proof.Machine
end

section
/-! SUPPORT. The stall timer of WORK after a fence of mode 1 that ends in mode 3: O13. -/

namespace Sys2Proof.Machine

open Sys2Proof

/-- A head down in LANDED for a membership, before any REPORT, with a BEACON that waits: its LIFT fails the check of R123. -/
def State.downUntold : State := { State.reset with
  lif := { State.reset.lif with work := [.beacon], stallWork := some 1 }
  stc := { State.reset.stc with inReset := false, station := some 1 }
  rvu := { State.reset.rvu with current := some {
    job := 1, role := 0, state := .landed, takers := [], pass := 1, setSent := true, landings := [], readings := []
    landingWait := none, holdLimit := none, landingLimit := none, deadline := none, deferred := none } }
  msq := { State.reset.msq with motion := .landed } }

theorem downUntold_atWork : State.downUntold.AtWork :=
  ⟨rfl, rfl, rfl, rfl, by decide⟩

/-- Its membership is abandoned, the LIFT is not sent, and CORRIDOR_BREACH silences the head: the timer of WORK runs for the
FAULT frame of mode 3. -/
theorem downUntold_stalls : (settle (takeStall .work State.downUntold)).lif.stallWork = some 20000000 := by
  decide

/-- Refutes O13: a fence of mode 1 leaves the stall timer of WORK running where the abandonment of a membership ends in
mode 3, which the clause does not except. -/
theorem not_timedFaultsFenceByMode : ¬ Obligations.TimedFaultsFenceByMode := by
  intro h
  obtain ⟨-, hwork, -⟩ := h.1 State.downUntold downUntold_atWork (by decide) rfl nofun
  obtain ⟨t, ht, -, hstall⟩ := hwork rfl
  have hs : t = settle (takeStall .work State.downUntold) := by
    cases ht
    rfl
  have hnone : t.lif.stallWork = none := hstall (by decide) (by decide)
  rw [hs, downUntold_stalls] at hnone
  cases hnone

end Sys2Proof.Machine
end

section
/-! SUPPORT. Heads in which a statement of this family does not hold, each with the command that shows it: O60, O41 and O43. -/

namespace Sys2Proof.Machine

open Sys2Proof

/-! ## A head that is placed and restarts at once: O60 -/

/-- A joining head whose placing claim is in its window; it has risen to travel height since it took its placing position, and a
fence of mode 1 waits to restart, which no joining head of a safe state has (`State.JoinSafe`). -/
def State.placedInRestartWait : State := { State.reset with
  stc := { State.reset.stc with
    inReset := false, join := .placing, placeAt := some (0, 0, 0), config := some { ConfigRecord.zero with zt := 1 } }
  scu := { State.reset.scu with pending := some { claim := corridor .zero .standing 0 0 0 0, stage := .window 0 0 } }
  msq := { State.reset.msq with
    motion := .joining
    lastReport := some { x := 0, y := 0, z := 1, inPosition := true, fault := false, number := 0 } }
  flu := { State.reset.flu with fence := .restartWait }
  pending := [.objectionWindowExpiry] }

/-- Placed, it sends the LIFT of R37; the restart that the fence waits for finds its tip at travel height, and the head joins
anew. -/
theorem placedInRestartWait_rejoins : ∃ t, step State.placedInRestartWait = .next t ∧ t.msq.motion = .joining ∧
    t.msq.lastCommand = some { number := 0, order := .move 0 0 1 .lift } :=
  ⟨_, rfl, by decide, by decide⟩

/-- Refutes O60: within one step a joining head sends a LIFT and is in JOINING again. -/
theorem not_commandsStayInsideTheClaim : ¬ Obligations.CommandsStayInsideTheClaim := by
  intro h
  obtain ⟨t, ht, -, hjoin⟩ := h State.placedInRestartWait
  obtain ⟨t', ht', hm, hc⟩ := placedInRestartWait_rejoins
  obtain rfl := Host.Outcome.next.inj (ht.symm.trans ht')
  obtain hk | hk := hjoin (.inr rfl) (.inr hm) <;> exact absurd (hc.symm.trans hk) (by decide)

/-! ## A board session that ends in a fence: O41 -/

/-- The head of `State.downUntold`, with an answer to the plan station that waits. -/
def State.downAnswering : State := { State.downUntold with
  lif := { State.downUntold.lif with receiver := .idle, answer := some (.status 0 0) } }

/-- A BOARD_OUT to all heads, with its validation code (R21). -/
def boardOutToAll : RxFrame := { src := 0, dst := 15, aux := 0, body := [0x3CA000] }

theorem downAnswering_atWork : State.downAnswering.AtWork := ⟨rfl, rfl, rfl, rfl, by decide⟩

theorem downAnswering_accepts : State.downAnswering.Accepts .boardOut boardOutToAll :=
  ⟨rfl, nofun, rfl, rfl, rfl, rfl, fun _ => ⟨rfl, by decide⟩⟩

/-- Its LIFT fails the check of R123, and the silence of mode 3 empties the answer slot (R16). -/
theorem downAnswering_silenced : ∃ t, exec (.boardOut boardOutToAll) State.downAnswering = .next t ∧
    t.lif.answer = none :=
  ⟨_, live_hear _ rfl downAnswering_accepts, by decide⟩

/-- Refutes O41: the memberships that BOARD_OUT ends may end in CORRIDOR_BREACH, which takes the answer and the results that
wait; the clause on them does not ask for a head that lifts safely. -/
theorem not_boardSessionsEmptyTheTable : ¬ Obligations.BoardSessionsEmptyTheTable := by
  intro h
  obtain ⟨⟨-, hout⟩, -⟩ := And.imp_left (· downAnswering_accepts) (h _ boardOutToAll downAnswering_atWork.running nofun)
  obtain ⟨t, ht, -, -, -, -, hkept⟩ := hout (by decide)
  obtain ⟨-, hans, -⟩ := hkept downAnswering_atWork rfl
  obtain ⟨t', ht', hnone⟩ := downAnswering_silenced
  obtain rfl := Host.Outcome.next.inj (ht.symm.trans ht')
  exact absurd (hans.symm.trans hnone) (by decide)

/-! ## A restart wait that ends in START_CONFLICT: O43 -/

/-- A joining head that has just sent its FAULT frame and awaits it in the restart wait of a mode 1 fence; its placing position is
in a rectangle that station 2 holds. -/
def State.placingInRestartWait : State := { State.reset with
  lif := { State.reset.lif with readbackDue := true }
  stc := { State.reset.stc with inReset := false, station := some 1, join := .placing, placeAt := some (1, 1, 0) }
  scu := { State.reset.scu with
    doubt := false
    map := State.reset.scu.map.put 2 { holds := .held { xmin := 0, xmax := 2, ymin := 0, ymax := 2 }, lastOrdinal := none } }
  msq := { State.reset.msq with motion := .joining }
  flu := { State.reset.flu with fence := .restartWait, acting := some 0x05, awaitFault := true } }

/-- A FAULT frame of station 1 of mode 0, which is not the one it awaits. -/
def faultOfModeZero : RxFrame := { src := 1, dst := 15, aux := 0, body := [0x050000] }

theorem placingInRestartWait_accepts : State.placingInRestartWait.Accepts .fault faultOfModeZero :=
  ⟨rfl, fun _ => rfl, rfl, rfl, rfl, rfl, nofun⟩

/-- It places itself after the frame as after any command, and START_CONFLICT fences it in mode 2 (R37, R190). -/
theorem placingInRestartWait_conflicts : ∃ t, exec (.fault faultOfModeZero) State.placingInRestartWait = .next t ∧
    t.flu.fence = .silent :=
  ⟨_, live_hear _ rfl placingInRestartWait_accepts, by decide⟩

/-- Refutes O43: in JOINING, which the clause on the restart wait does not except, the frames awaited may find the head fenced
anew. -/
theorem not_restartLiftEndsTheLift : ¬ Obligations.RestartLiftEndsTheLift := by
  intro h
  obtain ⟨-, -, -, -, -, hwait⟩ := h State.placingInRestartWait rfl
  obtain ⟨hfault, -⟩ := hwait rfl rfl rfl (by decide) rfl rfl
  obtain ⟨-, hwaits⟩ := hfault _ placingInRestartWait_accepts rfl rfl
  obtain ⟨t, ht, hf, -⟩ := hwaits (.inl (by decide))
  obtain ⟨t', ht', hs⟩ := placingInRestartWait_conflicts
  obtain rfl := Host.Outcome.next.inj (ht.symm.trans ht')
  exact absurd (hf.symm.trans hs) (by decide)

end Sys2Proof.Machine
end

section
/-! SUPPORT. A part held in reset: O2. -/

namespace Sys2Proof.Machine

open Sys2Proof

variable {s t : State}

/-! ## Commands of a part held in reset -/

/-- A command whose answer differs from the state in the input levels at most. -/
def State.OnlyPins (s : State) (r : Result) : Prop := ∃ t, r = .next t ∧ t = { s with pins := t.pins }

/-- A command of a running part does nothing in reset (R27). -/
theorem live_onlyPins (g : State → State) (h : s.stc.inReset = true) : s.OnlyPins (live g s) :=
  ⟨s, by simp [live, h], rfl⟩

/-- A part in reset is one that stands at its power-on values (R27). -/
theorem resetNAssert_onlyPins (h : s.stc.inReset = true) (hs : s.ResetSafe) : s.OnlyPins (execResetNAssert s) :=
  ⟨s, congrArg _ (hs h).symm, rfl⟩

/-- Every command but the release of RESET_N: it is one of a running part, one on an input level, or RESET_N_ASSERT. -/
theorem exec_onlyPins (c : Instr) (h : s.stc.inReset = true) (hs : s.ResetSafe)
    (hc : ∀ st d p, c ≠ .resetNRelease st d p) : s.OnlyPins (exec c s) := by
  cases c with
  | resetNAssert => exact resetNAssert_onlyPins h hs
  | resetNRelease st side prom => exact absurd rfl (hc st side prom)
  | contactClosing => exact ⟨_, rfl, contactClose_inReset h⟩
  | contactOpening => exact ⟨_, rfl, contactOpen_inReset h⟩
  | haltAsserted => exact ⟨_, rfl, haltSeen_inReset h⟩
  | haltReleased => exact ⟨_, rfl, haltGone_inReset h⟩
  | _ => exact live_onlyPins _ h

/-- Settles O2. -/
theorem resetHoldsThePart : Obligations.ResetHoldsThePart :=
  ⟨fun _ => rfl, fun c _ h hs hc => exec_onlyPins c h hs hc⟩

end Sys2Proof.Machine
end

section
/-! SUPPORT. What a BEACON and a FAULT report of their sender, and stations that are out: O38 and O39. -/

namespace Sys2Proof.Machine

open Sys2Proof

variable {s t : State} {k : Kind} {f : RxFrame} {n : Nat} {e : RosterEntry}

/-! ## One entry of the roster -/

/-- The roster with the entry of a head replaced. -/
def State.withEntry (n : Nat) (e : RosterEntry) (s : State) : State :=
  s.onStc fun c => { c with roster := c.roster.put n e }

theorem withEntry_withEntry (n : Nat) (a b : RosterEntry) (s : State) :
    (s.withEntry n a).withEntry n b = s.withEntry n b := by
  simp [State.withEntry, State.onStc, Heads.put_put]

/-- Another head, with its entry in the roster. -/
structure State.Peer (s : State) (n : Nat) (e : RosterEntry) : Prop where
  other : s.stc.station ≠ some n
  entry : s.stc.roster.at? n = some e

theorem isHead_of_at {α : Type} {h : Heads α} {a : α} (ha : h.at? n = some a) : isHead n = true := by
  unfold Heads.at? at ha
  split at ha <;> first | rfl | cases ha

theorem State.Peer.isHead (h : s.Peer n e) : isHead n = true := isHead_of_at h.entry

theorem State.Peer.ne_zero (h : s.Peer n e) : n ≠ 0 := by
  rintro rfl
  cases h.isHead

theorem State.Peer.rosterOf (h : s.Peer n e) : s.rosterOf n = e := by
  simp [State.rosterOf, h.other, h.ne_zero, h.entry]

theorem State.Peer.updRoster (h : s.Peer n e) (g : RosterEntry → RosterEntry) :
    updRoster n g s = s.withEntry n (g e) :=
  updRoster_head g h.ne_zero h.other h.entry

theorem State.Peer.withEntry (h : s.Peer n e) (a : RosterEntry) : (s.withEntry n a).Peer n a :=
  ⟨h.other, Heads.at_put a h.entry⟩

/-! ## A frame of another head -/

/-- The corrected words of a frame of another station are counted and logged, and that is all they change. -/
theorem received_errors (ho : s.isOwn f = false) :
    received k f s = received k { f with errors := [] } (logErrors k f s) := by
  have h : (logErrors k f s).isOwn { f with errors := [] } = false := by
    rw [← ho]
    simp [State.isOwn, State.own]
  simp only [received, ho, h]
  rfl

/-- A frame of another head is received: its entry is PRESENT, with the side the frame carries. -/
theorem received_peer (ho : s.isOwn f = false) (he : s.stc.roster.at? f.src.toNat = some e) :
    (received k f s).Peer f.src.toNat { e with
      presence := .present, silence := some silenceTime
      side := match carriedSide k f with | some d => some d | none => e.side } := by
  obtain ⟨h1, h8⟩ : 1 ≤ f.src.toNat ∧ f.src.toNat ≤ 8 := by simpa [isHead] using isHead_of_at he
  constructor
  · intro hn
    rw [identity_station (received_identity k f s)] at hn
    simp [State.isOwn, State.own, hn] at ho
  · rw [received_errors ho, received_stc_head (s := logErrors k f s) (f := { f with errors := [] }) ?_ rfl h1 h8 (by simpa using he)]
    · exact Heads.at_put _ (by simpa using he)
    · rw [← ho]
      simp [State.isOwn, State.own]

/-- A frame of the head's own source names its station. -/
theorem station_of_isOwn (h : s.isOwn f = true) : s.stc.station = some f.src.toNat := by
  have hlt := f.src.isLt
  cases hs : s.stc.station with
  | none =>
    simp [State.isOwn, State.own, hs] at h
    omega
  | some m => simp_all [State.isOwn, State.own]

theorem updRoster_own (g : RosterEntry → RosterEntry) (h : s.stc.station = some n) : updRoster n g s = s := by
  simp [updRoster, h]

/-! ## Fence modes -/

/-- A fence mode that does not put its sender out is stored (R40, R82). -/
theorem storeFence_stays {mode : FenceReport} (h : s.Peer n e)
    (hm : e.fence = some mode ∨ mode ≠ .mode 2 ∧ mode ≠ .mode 3) :
    storeFence n mode s = s.withEntry n { e with fence := some mode } := by
  dsimp only [storeFence]
  rw [h.rosterOf, h.updRoster, if_neg]
  rintro ⟨h1, h2, -⟩
  tauto

/-- One that newly is 2 or 3 puts its sender out. -/
theorem storeFence_out {mode : FenceReport} (h : s.Peer n e) (h1 : e.fence ≠ some mode)
    (h2 : mode = .mode 2 ∨ mode = .mode 3) :
    storeFence n mode s = stationOut n (s.withEntry n { e with fence := some mode }) := by
  dsimp only [storeFence]
  rw [h.rosterOf, h.updRoster, if_pos ⟨h1, h2, h.other⟩]

theorem storeFence_own (mode : FenceReport) (h : s.stc.station = some n) : storeFence n mode s = s := by
  simp [storeFence, updRoster_own _ h, h]

theorem rxFaultMode_lt (f : RxFrame) : rxFaultMode f < 4 := Nat.mod_lt _ (by decide)

theorem rxBeaconMotion_isSome (h : fieldsOk .beacon f = true) : ∃ m, motionOfCode (rxBeaconMotion f) = some m := by
  simp only [fieldsOk, Bool.and_eq_true] at h
  exact Option.isSome_iff_exists.1 h.1

/-! ## A BEACON and a FAULT of another head -/

/-- A BEACON's motion state and fence mode, as STC stores them. -/
theorem beacon_stored {m : MotionState} {mode : FenceReport} (h : s.Peer n e)
    (hm : e.fence = some mode ∨ mode ≠ .mode 2 ∧ mode ≠ .mode 3) :
    storeFence n mode (storeMotion n (some m) s) = s.withEntry n { e with motion := some m, fence := some mode } := by
  have hs : storeMotion n (some m) s = s.withEntry n { e with motion := some m } := h.updRoster _
  rw [hs, storeFence_stays (e := { e with motion := some m }) (h.withEntry _) hm, withEntry_withEntry]

/-- The ordinal of a BEACON that is no same-side peer's has no effect. -/
theorem hearBeacon_farSide {u : State} (hside : rxBeaconSide f ≠ s.stc.side)
    (hu : storeFence f.src.toNat (fenceOfCode (rxBeaconFence f))
      (storeMotion f.src.toNat (motionOfCode (rxBeaconMotion f)) s) = u) (hs : u.stc.side = s.stc.side) :
    hearBeacon f s = u := by
  dsimp only [hearBeacon]
  rw [hu, if_pos (.inr (by rwa [hs]))]

/-- The ordinal of a same-side peer's BEACON is compared with the slot's. -/
theorem hearBeacon_sameSide {u : State} (hside : rxBeaconSide f = s.stc.side)
    (hu : storeFence f.src.toNat (fenceOfCode (rxBeaconFence f))
      (storeMotion f.src.toNat (motionOfCode (rxBeaconMotion f)) s) = u) (hs : u.stc.side = s.stc.side)
    (ho : f.src.toNat ≠ u.own) (hl : u.lifting = false) :
    hearBeacon f s = beaconOrdinal f.src.toNat (rxBeaconOrdinal f) u := by
  dsimp only [hearBeacon]
  rw [hu, if_neg, unlessLift, if_neg (by simp [hl])]
  rintro (h | h)
  · exact ho h
  · exact h (by rw [hs, hside])

/-- The ordinal of a slot that knows none, or knows another (R110). -/
theorem beaconOrdinal_new {o : Option Nat} (m : Nat) (h : (s.slotOf n).lastOrdinal = o) (ho : o ≠ some m) :
    beaconOrdinal n m s = putSlot n { s.slotOf n with lastOrdinal := some m } (if o = none then s else setDoubt s) := by
  subst h
  dsimp only [beaconOrdinal]
  split
  next hn => simp [hn]
  next x hx =>
    rw [if_neg (fun h => ho (hx.trans (congrArg some h))), if_neg (by simp [hx])]

theorem beaconOrdinal_known {m : Nat} (h : (s.slotOf n).lastOrdinal = some m) : beaconOrdinal n m s = s := by
  simp [beaconOrdinal, h]

/-- Settles O38. -/
theorem beaconsGiveStateAndOrdinal : Obligations.BeaconsGiveStateAndOrdinal := by
  intro s f hr
  refine ⟨fun ho => ⟨fun ha => ?_, fun ha => ?_⟩, fun e ho he => ?_⟩
  · intro u
    have hst : u.stc.station = some f.src.toNat :=
      (identity_station (received_identity ..)).trans (station_of_isOwn ho)
    refine live_run hr.noReset ((hear_accepts _ ha).trans ?_) hr.received
    dsimp only [hearBeacon]
    have hsm : storeMotion f.src.toNat (motionOfCode (rxBeaconMotion f)) u = u := by
      unfold storeMotion
      split
      · exact updRoster_own _ hst
      · rfl
    rw [hsm, storeFence_own _ hst, if_pos (.inl (by simp [State.own, hst]))]
  · intro u
    refine live_run hr.noReset ((hear_accepts _ ha).trans ?_) (hr.received.congr rfl rfl rfl)
    have how : f.src.toNat = (received .fault f s).own := by
      rw [received_own]
      simpa [State.isOwn] using ho
    rw [hearFault, if_pos how]
    simp [u, State.awaited, State.onFlu, Bool.beq_eq_decide_eq]
  intro n sl
  have hne : f.src.toNat ≠ s.own := by simpa [State.isOwn] using ho
  refine ⟨fun ha hm => ?_, fun ha => ?_⟩
  · intro u
    have hp := received_peer (k := .fault) ho he
    refine live_run hr.noReset ((hear_accepts _ ha).trans ?_) (hr.received.congr rfl rfl rfl)
    rw [hearFault, if_neg (by rwa [received_own])]
    refine (storeFence_stays hp ?_).trans ?_
    · refine hm.imp id fun h => ?_
      simp only [ne_eq, FenceReport.mode.injEq]
      omega
    · simp [carriedSide, u, State.withEntry, silenceTime, ms, n]
  · intro mode hm u v
    have hp := received_peer (k := .beacon) ho he
    obtain ⟨m, hmo⟩ := rxBeaconMotion_isSome ha.fields
    have hmode : fenceOfCode (rxBeaconFence f) = mode := rfl
    have hu : storeFence n (fenceOfCode (rxBeaconFence f)) (storeMotion n (motionOfCode (rxBeaconMotion f))
        (received .beacon f s)) = u := by
      rw [hmo, hmode]
      refine (beacon_stored hp (hm.imp id fun h => ?_)).trans ?_
      · simp only [mode]
        split <;> simp_all
      · simp [carriedSide, ha.follow, u, State.withEntry, silenceTime, ms, n, hmo]
    have hside : (received .beacon f s).stc.side = s.stc.side := identity_side (received_identity ..)
    have hsl : u.slotOf n = sl := slotOf_congr (by simp [u]) n
    have hur : u.Running := hr.received.congr rfl rfl rfl
    have hgo {w : State} (hw : hearBeacon f (received .beacon f s) = w) (hwr : w.Running) :
        exec (.beacon f) s = .next (settle w) ∧ RunKept w (settle w) :=
      live_run hr.noReset ((hear_accepts _ ha).trans hw) hwr
    have hord (hsame : rxBeaconSide f = s.stc.side) :
        hearBeacon f (received .beacon f s) = beaconOrdinal n (rxBeaconOrdinal f) u :=
      hearBeacon_sameSide (hsame.trans hside.symm) hu rfl (by rwa [show u.own = s.own from received_own ..]) hur.noLift
    refine ⟨fun h => ?_, fun hsame hnone => ?_, fun o hsame hsome hne' => ?_⟩
    · by_cases hsame : rxBeaconSide f = s.stc.side
      · exact hgo ((hord hsame).trans (beaconOrdinal_known (by rw [hsl]; exact h.resolve_left (fun h => h hsame)))) hur
      · exact hgo (hearBeacon_farSide (by rwa [hside]) hu rfl) hur
    · refine hgo ((hord hsame).trans ((beaconOrdinal_new (o := none) _ (by rw [hsl]; exact hnone) nofun).trans ?_))
        (hur.congr rfl rfl rfl)
      rw [if_pos rfl, hsl]
      rfl
    · intro w
      refine hgo ((hord hsame).trans ((beaconOrdinal_new (o := some o) _ (by rw [hsl]; exact hsome) (by simpa using hne')).trans ?_))
        (hur.congr rfl rfl rfl)
      rw [if_neg nofun, hsl]
      rfl

/-! ## The blocks' own action in doubt -/

/-- The head voids no claim where none is pending. -/
theorem settleClaim_none (h : s.scu.pending = none) : settleClaim s = s := by
  simp [settleClaim, State.claimStale, h]

theorem withdrawClaim_none (h : s.scu.pending = none) : withdrawClaim s = s := by
  simp [withdrawClaim, h]

/-- What the blocks' own action finds of the claim space: no claim pending, and doubt. -/
structure State.Doubtful (s : State) : Prop where
  none  : s.scu.pending = none
  doubt : s.scu.doubt = true

theorem State.Doubtful.congr (h : s.Doubtful) (hs : t.scu = s.scu) : t.Doubtful :=
  ⟨by rw [hs]; exact h.none, by rw [hs]; exact h.doubt⟩

/-- In doubt no claim is asked for (R98). -/
theorem askTravel_doubtful (h : s.Doubtful) : (askTravel s).scu = s.scu := by
  simp [askTravel, State.refusesClaim, h.doubt, enterWaitSpace, startSpaceWait]

theorem askPark_doubtful (h : s.Doubtful) : (askPark s).scu = s.scu := by
  simp [askPark, State.refusesClaim, h.doubt]

theorem settleHalt_doubtful (h : s.Doubtful) : (settleHalt s).scu = s.scu := by
  unfold settleHalt haltFreeze
  split
  · rw [withdrawClaim_none] <;> simp [h.none]
  · rfl

theorem settlePlacing_doubtful (h : s.Doubtful) : settlePlacing s = s := by
  unfold settlePlacing
  split
  · exact if_pos (by simp [h.doubt])
  · rfl

theorem settleServe_doubtful (h : s.Doubtful) : (settleServe s).scu = s.scu := by
  unfold settleServe
  (repeat' split)
  · exact askTravel_doubtful (h.congr rfl)
  · rfl
  · rfl

theorem settleIdle_doubtful (h : s.Doubtful) : (settleIdle s).scu = s.scu := by
  unfold settleIdle
  split
  · split
    · exact askPark_doubtful (h.congr rfl)
    · rfl
  · rfl

theorem settleSpace_doubtful (h : s.Doubtful) : (settleSpace s).scu = s.scu := by
  dsimp only [settleSpace]
  (repeat' split)
  · exact askTravel_doubtful (h.congr rfl)
  · exact askPark_doubtful (h.congr rfl)
  · rfl
  · rfl
  · rfl

/-- In doubt the blocks' own action makes no claim pending. -/
theorem settle_doubtful (h : s.Running) (hd : s.Doubtful) : (settle s).scu.pending = none := by
  have hf : (settleAction (settleClaim (settleHalt s))).flu.fence ≠ .restartWait :=
    settleAction_fence (by simpa using h.noFence1)
  have h1 : (settleHalt s).Doubtful := hd.congr (settleHalt_doubtful hd)
  rw [settleClaim_none h1.none] at hf
  have h2 : (settleHandover (settleAction (settleHalt s))).Doubtful := h1.congr (by simp)
  have h3 := h2.congr (settleServe_doubtful h2)
  have h4 := h3.congr (settleIdle_doubtful h3)
  have h5 := h4.congr (settleSpace_doubtful h4)
  rw [settle, if_neg (by simp [h.noLift]), settleClaim_none h1.none, settleRestart_idle hf,
    settlePlacing_doubtful (h1.congr (by simp))]
  simpa using h5.none

/-! ## A claim in its window against a slot that freezes -/

/-- The map of a head that voids its claim in its window itself (R100). -/
theorem selfVoid_settled (h : s.Running) : (settle (selfVoid s)).space = s.space ∧
    (settle (selfVoid s)).scu.held = s.scu.held ∧ (settle (selfVoid s)).scu.pending = none ∧
    (settle (selfVoid s)).scu.doubt = true ∧ (settle (selfVoid s)).rosters = s.rosters ∧
    (settle (selfVoid s)).log = s.log ∧ (settle (selfVoid s)).jtb = s.jtb := by
  have hd : (selfVoid s).Doubtful := ⟨selfVoid_pending s, by simp [selfVoid, setDoubt]⟩
  have hr : (selfVoid s).Running :=
    h.congr (identity_inReset (selfVoid_identity s)) (by simp [selfVoid]) (by simp)
  have hk := settle_runKept hr
  have hc := hk.claimState
  simp only [State.claimState, Prod.mk.injEq] at hc
  obtain ⟨hheld, -, -, hdoubt⟩ := hc
  exact ⟨hk.space.trans (by simp), hheld.trans (by simp [selfVoid, setDoubt]), settle_doubtful hr hd, hdoubt.trans hd.doubt,
    hk.rosters.trans (by simp), hk.log.trans (by simp), hk.jtb.trans (by simp)⟩

/-! ## A station that is out -/

theorem partnerLoss_memberless (hc : s.rvu.current = none) (hn : s.rvu.next = none) : partnerLoss n s = s := by
  simp [partnerLoss, State.memberJobs, hc, hn]

/-- The slot of a head frozen, with MSQ told of the map's change (R115, R127). -/
def State.frozenSlot (n : Nat) (s : State) : State :=
  (s.onMsq fun m => { m with spaceEvent := true }).onScu fun c =>
    { c with map := c.map.put n { holds := (s.slotOf n).holds.freeze, lastOrdinal := (s.slotOf n).lastOrdinal } }

theorem State.Peer.sameSide (h : s.Peer n e) : s.sameSide n = true ↔ e.side = some s.stc.side := by
  simp [State.sameSide, h.isHead, h.other, h.rosterOf]

/-- A head of the other side has no slot to freeze. -/
theorem freezeSlot_farSide (h : s.Peer n e) (hs : e.side ≠ some s.stc.side) : freezeSlot n s = s :=
  if_neg fun hn => hs (h.sameSide.1 hn)

theorem freezeSlot_sameSide (h : s.Peer n e) (hs : e.side = some s.stc.side) : freezeSlot n s =
    if (s.frozenSlot n).windowConflict then selfVoid (s.frozenSlot n) else s.frozenSlot n :=
  if_pos (h.sameSide.2 hs)

/-- A claim voided at a head without memberships ends none. -/
theorem reportVoid_memberless (hc : s.rvu.current = none) : (reportVoid s).rvu = s.rvu := by
  unfold reportVoid
  (repeat' split) <;> simp [spaceDrop, hc]

theorem freezeSlot_memberless (hc : s.rvu.current = none) :
    (freezeSlot n s).rvu = s.rvu ∧ (freezeSlot n s).lifting = s.lifting := by
  dsimp only [freezeSlot, mapChanged]
  (repeat' split)
  · exact ⟨(reportVoid_memberless (by simpa [setDoubt] using hc)).trans (by simp [setDoubt]), by simp [State.lifting, selfVoid]⟩
  · exact ⟨by simp, by simp [State.lifting]⟩
  · exact ⟨rfl, rfl⟩

/-- Of a head without memberships, a station that is out freezes its slot and no more. -/
theorem stationOut_memberless (hl : s.lifting = false) (hc : s.rvu.current = none) (hn : s.rvu.next = none) :
    stationOut n s = freezeSlot n s := by
  obtain ⟨hf, hr⟩ := freezeSlot_memberless (n := n) hc
  rw [stationOut, unlessLift, if_neg (by simp [hr, hl]), partnerLoss_memberless (by rw [hf, hc]) (by rw [hf, hn])]

/-- What a command does by which a same-side peer is out: its slot freezes, and a claim in its window that then conflicts is
voided with doubt (R100, R115). -/
theorem stationOut_frozen {g : State → State} {v : State} (hi : s.stc.inReset = false) (hg : g s = stationOut n t)
    (hp : t.Peer n e) (hs : e.side = some t.stc.side) (hr : t.Running) (hc : t.rvu.current = none) (hn : t.rvu.next = none)
    (hheld : t.scu.held = s.scu.held) (hj : t.jtb = s.jtb) (hv : t.frozenSlot n = v) :
    (v.windowConflict = false → live g s = .next (settle v) ∧ RunKept v (settle v)) ∧
      (v.windowConflict = true → ∃ x, live g s = .next x ∧ x.space = v.space ∧ x.scu.held = s.scu.held ∧
        x.scu.pending = none ∧ x.scu.doubt = true ∧ x.rosters = v.rosters ∧ x.log = v.log ∧ x.jtb = s.jtb) := by
  subst hv
  have hout := hg.trans ((stationOut_memberless hr.noLift hc hn).trans (freezeSlot_sameSide hp hs))
  have hvr : (t.frozenSlot n).Running := hr.congr rfl rfl rfl
  refine ⟨fun hw => live_run hi (hout.trans (if_neg (by simp [hw]))) hvr, fun hw => ?_⟩
  obtain ⟨h1, h2, h3, h4, h5, h6, h7⟩ := selfVoid_settled hvr
  exact ⟨_, by rw [live_eq _ hi, hout, if_pos hw], h1, h2.trans hheld, h3, h4, h5, h6, h7.trans hj⟩

/-! ## A silent station -/

theorem loseStation_kept (h : (s.rosterOf n).presence ≠ .present ∨ (s.rosterOf n).silence = none) : loseStation n s = s := by
  refine if_neg ?_
  rintro ⟨h1, h2⟩
  obtain h | h := h
  · exact h h1
  · simp [h] at h2

theorem loseStation_plan (hs : s.stc.station ≠ some 0) (hp : s.stc.roster0.presence = .present)
    (ht : s.stc.roster0.silence.isSome = true) : loseStation 0 s = s.onStc fun c => { c with
      roster0 := { c.roster0 with presence := .lost, silence := none }, planLoss := some planLossTime } := by
  have hr : s.rosterOf 0 = s.stc.roster0 := by simp [State.rosterOf, hs]
  dsimp only [loseStation]
  rw [hr, if_pos ⟨hp, ht⟩, updRoster_plan _ hs]
  rfl

/-- A peer that falls silent is LOST and out (R39, R41). -/
theorem loseStation_peer (h : s.Peer n e) (hp : e.presence = .present) (ht : e.silence.isSome = true) :
    loseStation n s = stationOut n (s.withEntry n { e with presence := .lost, silence := none }) := by
  dsimp only [loseStation]
  rw [h.rosterOf, if_pos ⟨hp, ht⟩, h.updRoster, if_neg h.ne_zero]

/-- Settles O39: a station that is out is a silent one (`loseStation_peer`) or one in fence mode 2 or 3 (`storeFence_out`). -/
theorem stationsThatAreOutFreeze : Obligations.StationsThatAreOutFreeze := by
  intro s hr hc hn changes frozen
  refine ⟨fun h0 hp ht => ?_, fun n h => ?_, fun n e hs he hp ht => ?_, fun f e ha ho he hm hne hside => ?_⟩
  · exact live_run hr.noReset (loseStation_plan h0 hp ht) (hr.congr rfl rfl rfl)
  · exact live_nothing hr (loseStation_kept h)
  · have hpeer : s.Peer n e := ⟨hs, he⟩
    intro u
    have hup : u.Peer n { e with presence := .lost, silence := none } := hpeer.withEntry _
    have hur : u.Running := hr.congr rfl rfl rfl
    have hout : loseStation n s = stationOut n u := loseStation_peer hpeer hp ht
    refine ⟨fun hfar => live_run hr.noReset ?_ hur, fun hnear => ?_⟩
    · rw [hout, stationOut_memberless hur.noLift hc hn]
      exact freezeSlot_farSide hup hfar
    · exact stationOut_frozen hr.noReset hout hup hnear hur hc hn rfl rfl rfl
  · have hp := received_peer (k := .fault) ho he
    have hlt := rxFaultMode_lt f
    have hside' : s.stc.side = (received .fault f s).stc.side := (identity_side (received_identity ..)).symm
    have hout : hear .fault f (hearFault f) s = stationOut f.src.toNat ((received .fault f s).withEntry f.src.toNat
        { e with presence := .present, silence := some 30000000, fence := some (.mode (rxFaultMode f)) }) := by
      rw [hear_accepts _ ha, hearFault, if_neg (by rw [received_own]; simpa [State.isOwn] using ho),
        storeFence_out hp hne (by simp only [FenceReport.mode.injEq]; omega)]
      simp [carriedSide, silenceTime, ms]
    refine stationOut_frozen hr.noReset hout (hp.withEntry _) ?_ (hr.received.congr rfl rfl rfl) ?_ ?_ ?_ ?_ ?_
    · exact hside.trans (congrArg some hside')
    · exact (congrArg Rvu.current (received_rvu ..)).trans hc
    · exact (congrArg Rvu.next (received_rvu ..)).trans hn
    · exact congrArg Scu.held (received_scu ..)
    · exact received_jtb ..
    · have hslot : ((received .fault f s).withEntry f.src.toNat { e with
          presence := .present, silence := some 30000000, fence := some (.mode (rxFaultMode f)) }).slotOf f.src.toNat =
          s.slotOf f.src.toNat := slotOf_congr (by simp [State.withEntry]) _
      rw [State.frozenSlot, hslot]
      rfl

end Sys2Proof.Machine
end

section
/-! SUPPORT. What ends the head's only membership in a part at work (R79, R136): O40, O44. -/

namespace Sys2Proof.Machine

open Sys2Proof

variable {s t : State} {n job : Nat} {reason : DropReason} {m : Membership}

/-- The head is down: its probe stands below travel height at the standing XY. -/
def MotionState.isDown (m : MotionState) : Prop := m = .descend ∨ m = .landed ∨ m = .measure ∨ m = .hold

theorem MotionState.isDown.engaged {m : MotionState} (h : m.isDown) : m.engaged = true := by
  rcases h with h | h | h | h <;> simp [h, MotionState.engaged]

/-! ## No membership appears by itself -/

theorem settleClaim_current (h : s.rvu.current = none) : (settleClaim s).rvu.current = none := by
  simp only [settleClaim, withdrawAndReport]
  (repeat' split)
  · rw [reportVoid_memberless (by simpa using h), withdrawClaim_rvu, h]
  · rw [withdrawClaim_rvu, h]
  · exact h

theorem settleHandover_memberless (h : s.rvu.current = none) : settleHandover s = s := by
  simp [settleHandover, h]

@[simp] theorem settleTake_current (s : State) : (settleTake s).rvu.current = s.rvu.current := by
  unfold settleTake offerTake
  (repeat' split) <;> simp

theorem settle_current (hw : s.AtWork) (h : s.rvu.current = none) : (settle s).rvu.current = none := by
  have hc := settleClaim_current h
  rw [settle_atWork hw fun hj => hw.joined (settleClaim_joining hj), settleHandover_memberless hc]
  simpa using hc

/-- An engaged head without memberships keeps its park request. -/
theorem settle_parkRequest (hw : s.AtWork) (he : s.msq.motion.engaged = true) (h : s.rvu.current = none) :
    (settle s).msq.parkRequest = s.msq.parkRequest := by
  have hmsq : (settleClaim s).msq = s.msq := by
    simp only [settleClaim]
    split
    · rw [withdrawAndReport_engaged he, withdrawClaim_msq]
    · rfl
  have hid (m : MotionState) (hm : m = .idle ∨ m = .parked) : s.msq.motion ≠ m := by
    rintro rfl
    rcases hm with hm | hm <;> simp [hm, MotionState.engaged] at he
  have hserve : settleServe (settleClaim s) = settleClaim s := by
    simp only [settleServe, hmsq, hid .idle (.inl rfl), hid .parked (.inr rfl), false_and, or_self, if_false]
    split <;> rfl
  rw [settle_atWork hw fun hj => hw.joined (settleClaim_joining hj), settleHandover_memberless (settleClaim_current h), hserve,
    settleIdle_notIdle (by rw [hmsq]; exact hid .idle (.inl rfl)), settleSpace_engaged (by simpa [hmsq] using he)]
  split <;> simp [hmsq]

/-! ## The abandonment -/

/-- What a head that abandons its only membership leaves, before the blocks act. -/
structure Abandoned (s t : State) : Prop where
  atWork   : t.AtWork
  current  : t.rvu.current = none
  jtb      : t.jtb = s.jtb
  roster   : t.stc.roster = s.stc.roster
  planLoss : t.stc.planLoss = s.stc.planLoss
  offered  : ∀ f ∈ s.offered, (∀ j, isReadingOf j f = false) → f ∈ t.offered
  lifted   : s.msq.motion.isDown → t.meu = Meu.powerOn ∧ t.msq.motion = .lift ∧
    t.msq.lastCommand = some { number := s.nextCommand, order := .move s.tipX s.tipY s.cfg.zt .lift }

theorem idleOrParked_joined : (idleOrParked s).msq.motion ≠ .joining := by
  simp only [idleOrParked, enterParked, changeBeacon, enterIdle]
  (repeat' split) <;> simp

theorem idleOrParked_stc_eq : (idleOrParked s).stc.roster = s.stc.roster ∧ (idleOrParked s).stc.inReset = s.stc.inReset :=
  ⟨congrArg Prod.snd (idleOrParked_rosters s), congrArg Prod.fst (idleOrParked_identity s)⟩

theorem halt_congr (h1 : t.outer = s.outer) (h2 : t.flu = s.flu) : t.halt = s.halt := by
  have hp : t.pins = s.pins := congrArg Prod.fst h1
  rw [State.halt, State.halt, hp, h2]

theorem idleOrParked_abandoned (hw : s.AtWork) (hc : s.rvu.current = none) (hd : ¬ s.msq.motion.isDown) :
    Abandoned s (idleOrParked s) where
  atWork := hw.congr idleOrParked_stc_eq.2 (by simp) (by simp) (halt_congr (by simp) (by simp)) fun h =>
    absurd h idleOrParked_joined
  current := by simpa using hc
  jtb := by simp
  roster := idleOrParked_stc_eq.1
  planLoss := by simp
  offered _ hf _ := idleOrParked_offered hf
  lifted h := absurd h hd

/-- An abandonment begins from a state that differs in the motion block's waiting or marks, or in SCU's claim. -/
theorem Abandoned.of_claimless {v : State} (h : Abandoned v t) (h1 : v.jtb = s.jtb) (h2 : v.stc = s.stc) (h3 : v.offered = s.offered)
    (hd : ¬ s.msq.motion.isDown) : Abandoned s t where
  atWork := h.atWork
  current := h.current
  jtb := h.jtb.trans h1
  roster := h.roster.trans (by rw [h2])
  planLoss := h.planLoss.trans (by rw [h2])
  offered f hf := h.offered f (h3 ▸ hf)
  lifted hm := absurd hm hd

/-- A head that is down lifts at the standing XY, with the measurement unit off (R136, R166). -/
theorem enterLift_meuAbort (hl : s.msq.lastReport ≠ none ∧ s.stand = s.tip) : enterLift (meuAbort s) =
    sendCommand (.move s.tipX s.tipY s.cfg.zt .lift) ((meuAbort s).onMsq fun m => { m with motion := .lift }) := by
  obtain ⟨hr, hs⟩ := hl
  have hstand : (meuAbort s).stand = (s.tipX, s.tipY) := hs
  have hz : (meuAbort s).cfg.zt = s.cfg.zt := rfl
  have hok : ((meuAbort s).onMsq fun m => { m with motion := .lift }).moveAllowed s.tipX s.tipY .lift = true := by
    simp [State.moveAllowed, State.tipX, State.tipY, Option.isSome_iff_ne_none, hr]
  rw [enterLift, hstand, hz, sendMove, if_pos hok]

theorem msqAbandon_down (hd : s.msq.motion.isDown) (hl : s.LiftsSafely) : msqAbandon s =
    sendCommand (.move s.tipX s.tipY s.cfg.zt .lift) ((meuAbort s).onMsq fun m => { m with motion := .lift }) := by
  rw [← enterLift_meuAbort (hl hd)]
  rcases hd with h | h | h | h <;> simp [msqAbandon, h]

/-- MSQ abandons the membership it serves, by motion state (R136). -/
theorem msqAbandon_abandoned (hw : s.AtWork) (hl : s.LiftsSafely) (hc : s.rvu.current = none) : Abandoned s (msqAbandon s) := by
  by_cases hd : s.msq.motion.isDown
  · rw [msqAbandon_down hd hl]
    exact {
      atWork := hw.congr rfl rfl rfl rfl fun h => absurd h (by simp [sendCommand])
      current := by rw [sendCommand_rvu]; exact (congrArg Rvu.current (meuAbort_memberless hc)).trans hc
      jtb := rfl
      roster := rfl
      planLoss := rfl
      offered := fun _ hf _ => hf
      lifted := fun _ => ⟨rfl, rfl, rfl⟩ }
  · have hkept : Abandoned s s :=
      { atWork := hw, current := hc, jtb := rfl, roster := rfl, planLoss := rfl, offered := fun _ h _ => h
        lifted := fun h => absurd h hd }
    have hmark {v : State} (hv : Abandoned s v) : Abandoned s (v.onMsq fun m => { m with abandonMark := true }) :=
      { hv with atWork := hv.atWork.congr rfl rfl rfl rfl id, lifted := fun h => absurd h hd }
    cases hm : s.msq.motion
    case claiming =>
      simp only [msqAbandon, hm]
      set v := withdrawClaim (s.onMsq fun m => { m with spaceWait := none, spaceExpired := false })
      have hvm : v.msq.motion = .claiming := by simp [v, hm]
      have hvw : v.AtWork := hw.congr (by simp [v]) (by simp [v]) (by simp [v]) (halt_congr (by simp [v]) (by simp [v]))
        (by simp [hvm, hm])
      have hvc : v.rvu.current = none := by simpa [v] using hc
      have hvd : ¬ v.msq.motion.isDown := by simp [hvm, MotionState.isDown]
      have hvo : v.offered = s.offered := withdrawClaim_offered
      split
      · exact (idleOrParked_abandoned hvw hvc hvd).of_claimless (by simp [v]) (by simp [v]) hvo hd
      · exact hmark { atWork := hvw, current := hvc, jtb := by simp [v], roster := by simp [v], planLoss := by simp [v]
                      offered := fun f hf _ => hvo ▸ hf, lifted := fun h => absurd h hd }
    case waitSpace => simpa only [msqAbandon, hm] using idleOrParked_abandoned hw hc hd
    case travel => simpa only [msqAbandon, hm] using hmark hkept
    case descend => exact absurd (.inl hm) hd
    case landed => exact absurd (.inr (.inl hm)) hd
    case measure => exact absurd (.inr (.inr (.inl hm))) hd
    case hold => exact absurd (.inr (.inr (.inr hm))) hd
    all_goals simpa only [msqAbandon, hm] using hkept

/-! ## The DROP -/

theorem endMember_only (hc : s.rvu.current = some m) (hn : s.rvu.next = none) : (endMember m.job s).rvu.current = none := by
  simp [endMember, hc, hn]

theorem dropMember_current (hc : s.rvu.current = some m) : dropMember m.job reason n s =
    msqAbandon ((endMember m.job (offerWork (.drop m.job reason n) s)).onMsq fun q => { q with waiting := none }) := by
  simp [dropMember, abandonMember, hc]

/-- The DROP of the head's only membership: offered, and the membership over (R79). -/
theorem dropMember_abandoned (hw : s.AtWork) (hl : s.LiftsSafely) (hs : s.lif.silent = false) (hc : s.rvu.current = some m)
    (hn : s.rvu.next = none) : Abandoned s (dropMember m.job reason n s) ∧
      TxFrame.drop m.job reason n ∈ (dropMember m.job reason n s).offered := by
  set v := (endMember m.job (offerWork (.drop m.job reason n) s)).onMsq fun q => { q with waiting := none } with hv
  have hvw : v.AtWork := hw.congr (by simp [v]) (by simp [v]) (by simp [v]) (halt_congr (by simp [v]) (by simp [v]))
    (by simp [v])
  have hvmsq : v.msq = { s.msq with waiting := none } := by simp [v]
  have hvl : v.LiftsSafely := by simpa [State.LiftsSafely, State.stand, State.tip, State.tipX, State.tipY, hvmsq] using hl
  have hvc : v.rvu.current = none := endMember_only (by simpa using hc) (by simpa using hn)
  have ha := msqAbandon_abandoned hvw hvl hvc
  rw [dropMember_current hc, ← hv]
  refine ⟨{ ha with
    jtb := ha.jtb.trans (by simp [v]), roster := ha.roster.trans (by simp [v]), planLoss := ha.planLoss.trans (by simp [v])
    offered := fun f hf hj => ha.offered f (endMember_offered _ (offerWork_offered hf) hj) hj
    lifted := fun hd => ?_ }, ?_⟩
  · have hmeet := ha.lifted (by rwa [hvmsq])
    simpa [hvmsq, State.tipX, State.tipY, State.nextCommand, State.cfg, v] using hmeet
  · exact ha.offered _ (endMember_offered _ (offerWork_mem hs hw.noLift) fun _ => rfl) fun _ => rfl

end Sys2Proof.Machine
end

section
/-! SUPPORT. The plan-loss timer and the beacon timer (R38, R42): O44. -/

namespace Sys2Proof.Machine

open Sys2Proof

variable {s t : State} {m : Membership}

/-- The park request of a head that may still travel (R42, R138). -/
def askedToPark (s : State) : State := if s.msq.motion.noPark then s else s.onMsq fun m => { m with parkRequest := true }

theorem noPark_iff : s.msq.motion.noPark = true ↔
    s.msq.motion = .parked ∨ s.msq.motion = .frozen ∨ s.msq.motion = .offline ∨ s.msq.motion = .joining := by
  cases s.msq.motion <;> simp [MotionState.noPark]

theorem planLost_memberless (hc : s.rvu.current = none) (hn : s.rvu.next = none) : planLost s = askedToPark s := by
  simp [planLost, State.memberJobs, hc, hn, askedToPark]

theorem planLost_member (hc : s.rvu.current = some m) (hn : s.rvu.next = none) :
    planLost s = askedToPark (dropMember m.job .planLost 0 s) := by
  simp [planLost, State.memberJobs, hc, hn, askedToPark]

/-- The park request changes nothing else of an abandonment. -/
theorem Abandoned.askedToPark (h : Abandoned s t) : Abandoned s (askedToPark t) := by
  unfold Machine.askedToPark
  split
  · exact h
  · exact { h with atWork := h.atWork.congr rfl rfl rfl rfl id }

theorem askedToPark_offered : (askedToPark s).offered = s.offered := by
  unfold askedToPark
  split <;> rfl

theorem askedToPark_lift (h : s.msq.motion = .lift) : (askedToPark s).msq.parkRequest = true := by
  simp [askedToPark, h, MotionState.noPark]

/-- The running plan-loss timer stops and the plan is lost. -/
theorem endPlanLoss_running (h : s.stc.planLoss.isSome = true) (hl : s.lifting = false) :
    endPlanLoss s = planLost (s.onStc fun c => { c with planLoss := none }) := by
  rw [endPlanLoss, if_pos h, unlessLift]
  exact if_neg (by simpa [State.lifting] using hl)

/-- What the offer of a BEACON does (R14). -/
theorem offerWork_beacon (hl : s.lifting = false) : offerWork .beacon s = s.onLif fun l =>
    if l.held = [] ∧ l.work.length < 8 then
      { l with work := l.work ++ [.beacon], stallWork := if l.work = [] then some 20000000 else l.stallWork }
    else if TxFrame.beacon ∈ l.held then l
    else { l with held := l.held ++ [.beacon] } := by
  have hfree : s.workFree = true ↔ s.lif.held = [] ∧ s.lif.work.length < 8 := by simp [State.workFree, and_comm]
  simp only [offerWork, hl, bne_self_eq_false, Bool.and_false, Bool.or_self, Bool.false_eq_true, if_false, beq_self_eq_true,
    Bool.true_and, List.contains_iff_mem, State.onLif]
  by_cases hf : s.lif.held = [] ∧ s.lif.work.length < 8
  · rw [if_pos (hfree.2 hf), if_pos hf]
    simp [pushWork_eq, State.onLif]
  · rw [if_neg (mt hfree.1 hf), if_neg hf]
    split <;> rfl

/-- Settles O44: of one membership, by what its DROP leaves (`dropMember_abandoned`). -/
theorem planLossAndBeaconTimers : Obligations.PlanLossAndBeaconTimers := by
  intro s hr
  refine ⟨fun hp => live_nothing hr (by simp [endPlanLoss, hp]), fun hp => ?_, fun hb => live_nothing hr (by simp [dueBeacon, hb]),
    fun hb hst => ?_⟩
  · intro stopped still
    have hend := endPlanLoss_running hp hr.noLift
    refine ⟨fun hc hn => ?_, fun m hc hn hw hs hl => ?_⟩
    · intro u
      have hu : endPlanLoss s = u := by
        rw [hend, planLost_memberless (s := stopped) hc hn, askedToPark]
        exact if_congr noPark_iff rfl rfl
      refine live_run hr.noReset hu ?_
      simp only [u]
      split <;> exact hr.congr rfl rfl rfl
    · have hsw : stopped.AtWork := hw.congr rfl rfl rfl rfl id
      obtain ⟨hab, hoff⟩ := dropMember_abandoned (n := 0) (reason := .planLost) hsw hl hs hc hn
      have hpark := hab.askedToPark
      have hk := settle_workKept hpark.atWork
      refine ⟨_, (live_eq _ hr.noReset).trans (by rw [hend, planLost_member (s := stopped) hc hn]), hk.offered _ ?_ fun _ => rfl,
        settle_current hpark.atWork hpark.current, hk.jtb.trans hpark.jtb, hk.planLoss.trans hpark.planLoss, fun hd => ?_⟩
      · rwa [askedToPark_offered]
      · obtain ⟨hmeu, hmot, hcmd⟩ := hpark.lifted hd
        have he : (askedToPark (dropMember m.job .planLost 0 stopped)).msq.motion.engaged = true := by rw [hmot]; rfl
        refine ⟨hk.meu.trans hmeu, (hk.motion he).trans hmot, ?_, hk.command.trans hcmd⟩
        rw [settle_parkRequest hpark.atWork he hpark.current]
        exact askedToPark_lift (hab.lifted hd).2.1
  · intro timed u
    have hl : timed.lifting = false := hr.noLift
    have hsome : ¬ timed.stc.station.isNone = true := by simpa [timed, Option.isSome_iff_ne_none] using hst
    have hu : dueBeacon s = u := by
      rw [dueBeacon, if_pos hb]
      exact (if_neg hsome).trans (offerWork_beacon hl)
    exact live_run hr.noReset hu (hr.congr rfl rfl rfl)

end Sys2Proof.Machine
end

section
/-! SUPPORT. Partner loss (R41, R82): O40. -/

namespace Sys2Proof.Machine

open Sys2Proof

variable {s v : State} {n out : Nat} {e : RosterEntry} {m : Membership}

/-- What a freezing slot changes where no claim of the head in its window can conflict: the map, and the event for MSQ. -/
def State.mapped (s : State) (event : Bool) (map : Heads Slot) : State :=
  (s.onMsq fun m => { m with spaceEvent := event }).onScu fun c => { c with map := map }

theorem freezeSlot_claimless (h : s.Peer n e) (hp : e.side ≠ some s.stc.side ∨ s.scu.pending = none) :
    ∃ event map, freezeSlot n s = s.mapped event map := by
  by_cases hs : e.side = some s.stc.side
  · have hw : (s.frozenSlot n).windowConflict = false := by
      simp [State.windowConflict, State.frozenSlot, hp.resolve_left (not_not_intro hs)]
    exact ⟨_, _, (freezeSlot_sameSide h hs).trans (if_neg (by simp [hw]))⟩
  · exact ⟨s.msq.spaceEvent, s.scu.map, freezeSlot_farSide h hs⟩

theorem lowerRemains_iff {role : Nat} {ts : List (Option Nat)} :
    lowerRemains out role ts = true ↔ ∃ x ∈ ts.take role, x ≠ none ∧ x ≠ some out := by
  simp only [lowerRemains, List.any_eq_true]
  refine exists_congr fun x => and_congr_right fun _ => ?_
  cases x <;> simp

/-- Partner loss of a head with one membership, of which the station that is out is a taker (R82). -/
theorem partnerLoss_member (hc : s.rvu.current = some m) (hn : s.rvu.next = none) (ht : some out ∈ s.takersOf m) :
    partnerLoss out s = if lowerRemains out m.role (s.takersOf m) then s
      else if m.state = .taken then offerWork (.drop m.job .partnerLost out) s else dropMember m.job .partnerLost out s := by
  simp only [partnerLoss, State.memberJobs, hc, hn, Option.map_some, Option.map_none, Option.toList_some, Option.toList_none,
    List.append_nil, List.foldl_cons, List.foldl_nil, State.member?, if_pos, ht, true_and]
  split <;> simp_all

/-- What follows in `s` where the station is out of `v`, the same but for the roster, the map and the event. -/
theorem partnerLoss_settled (hw : v.AtWork) (hs : v.lif.silent = false) (hl : v.LiftsSafely) (hc : v.rvu.current = some m)
    (hn : v.rvu.next = none) (ht : some out ∈ v.takersOf m) :
    let t := settle (partnerLoss out v)
    let lower := lowerRemains out m.role (v.takersOf m) = true
    t.jtb = v.jtb ∧ t.stc.roster = v.stc.roster ∧
      (lower → v.msq.motion.engaged = true → m.state ≠ .formed →
        t.rvu.current = some m ∧ t.msq.motion = v.msq.motion ∧ t.msq.lastCommand = v.msq.lastCommand) ∧
      (¬ lower → TxFrame.drop m.job .partnerLost out ∈ t.offered ∧
        (m.state = .taken → v.msq.motion.engaged = true →
          t.rvu.current = some m ∧ t.msq.lastCommand = v.msq.lastCommand) ∧
        (m.state ≠ .taken → t.rvu.current = none ∧
          (v.msq.motion.isDown → t.meu = Meu.powerOn ∧ t.msq.motion = .lift ∧
            t.msq.lastCommand = some { number := v.nextCommand, order := .move v.tipX v.tipY v.cfg.zt .lift }))) := by
  intro t lower
  have hkeep {u : State} (he : u.msq.motion.engaged = true) (hu : WorkKept u t) (hcu : u.rvu.current = some m)
      (hf : m.state ≠ .formed) : t.rvu.current = some m :=
    (hu.current he fun x hx => by rw [hcu] at hx; cases hx; exact hf).1.trans hcu
  have hroster {u : State} (hu : WorkKept u t) : t.stc.roster = u.stc.roster := congrArg Prod.snd hu.rosters
  have hpl := partnerLoss_member hc hn ht
  by_cases hlow : lower
  · have ht' : t = settle v := congrArg settle (hpl.trans (if_pos hlow))
    have hk : WorkKept v t := ht' ▸ settle_workKept hw
    exact ⟨hk.jtb, hroster hk, fun _ he hf => ⟨hkeep he hk hc hf, hk.motion he, hk.command⟩, fun h => absurd hlow h⟩
  · by_cases htk : m.state = .taken
    · set u := offerWork (.drop m.job .partnerLost out) v with hu
      have ht' : t = settle u := congrArg settle ((hpl.trans (if_neg hlow)).trans (if_pos htk))
      have huw : u.AtWork := hw.congr (by simp [u]) (by simp [u]) (by simp [u]) (halt_congr (by simp [u]) (by simp [u]))
        (by simp [u])
      have hk : WorkKept u t := ht' ▸ settle_workKept huw
      refine ⟨hk.jtb.trans (by simp [u]), (hroster hk).trans (by simp [u]), fun h => absurd h hlow, fun _ => ⟨?_, ?_, ?_⟩⟩
      · exact hk.offered _ (offerWork_mem hs hw.noLift) fun _ => rfl
      · exact fun _ he => ⟨hkeep (by simpa [u] using he) hk (by simpa [u] using hc) (by simp [htk]),
          hk.command.trans (by simp [u])⟩
      · exact fun h => absurd htk h
    · obtain ⟨hab, hoff⟩ := dropMember_abandoned (n := out) (reason := .partnerLost) hw hl hs hc hn
      set u := dropMember m.job .partnerLost out v with hu
      have ht' : t = settle u := congrArg settle ((hpl.trans (if_neg hlow)).trans (if_neg htk))
      have hk : WorkKept u t := ht' ▸ settle_workKept hab.atWork
      refine ⟨hk.jtb.trans hab.jtb, (hroster hk).trans hab.roster, fun h => absurd h hlow,
        fun _ => ⟨hk.offered _ hoff fun _ => rfl, fun h => absurd h htk, fun _ => ⟨?_, fun hd => ?_⟩⟩⟩
      · exact ht' ▸ settle_current hab.atWork hab.current
      · obtain ⟨hmeu, hmot, hcmd⟩ := hab.lifted hd
        exact ⟨hk.meu.trans hmeu, (hk.motion (by rw [hmot]; rfl)).trans hmot, hk.command.trans hcmd⟩

/-- Settles O40: the silent station is out (`loseStation_peer`), and partner loss follows (`partnerLoss_settled`). -/
theorem partnerLossEndsTheSet : Obligations.PartnerLossEndsTheSet := by
  intro s n e m hw hs hl hc hn hst he hp ht hside hout lower down
  have hpeer : s.Peer n e := ⟨hst, he⟩
  set lost : RosterEntry := { e with presence := .lost, silence := none } with hlost
  obtain ⟨event, map, hf⟩ := freezeSlot_claimless (s := s.withEntry n lost) (hpeer.withEntry lost) hside
  set v := (s.withEntry n lost).mapped event map with hv
  have hvw : v.AtWork := hw.congr rfl rfl rfl rfl id
  have hstep : loseStation n s = partnerLoss n v := by
    rw [loseStation_peer hpeer hp ht, stationOut, hf, unlessLift, if_neg (by simp [hvw.noLift])]
  obtain ⟨hjtb, hroster, hlow, hnot⟩ := partnerLoss_settled hvw hs hl hc hn hout
  have hiff : lower ↔ lowerRemains n m.role (v.takersOf m) = true := lowerRemains_iff.symm
  exact ⟨_, (live_eq _ hw.noReset).trans (by rw [hstep]), hjtb, hroster, fun h => hlow (hiff.1 h), fun h => hnot (mt hiff.2 h)⟩

end Sys2Proof.Machine
end

section
/-! SUPPORT. What the clear phase of a restart leaves (R48), and the settling of a head that joins anew: O42. -/

namespace Sys2Proof.Machine

open Sys2Proof

variable {s t u : State} {k : Kind} {f : RxFrame} {prom : Option (List Byte)}

/-! ## What a frame leaves of STC -/

/-- STC's registers but the rosters and the plan-loss timer. -/
def State.stcRest (s : State) : Stc := { s.stc with roster0 := .absent, roster := .all .absent, planLoss := none }

theorem updRoster_stcRest (n : Nat) (g : RosterEntry → RosterEntry) (s : State) : (updRoster n g s).stcRest = s.stcRest := by
  unfold updRoster
  (repeat' split) <;> rfl

/-- A frame that is received changes nothing of STC but the rosters and the plan-loss timer. -/
theorem received_stcRest (k : Kind) (f : RxFrame) (s : State) : (received k f s).stcRest = s.stcRest := by
  have hs (v : State) : (storeSide k f v).stcRest = v.stcRest := by
    unfold storeSide
    (repeat' split) <;> simp [updRoster_stcRest]
  have ho (v : State) : (hearOther v).stcRest = v.stcRest := by
    unfold hearOther
    split <;> rfl
  have hp (n : Nat) (v : State) : (hearPresence n v).stcRest = v.stcRest := by
    unfold hearPresence
    split <;> exact updRoster_stcRest n _ v
  have hm (v : State) : (markHeard v).stcRest = v.stcRest := by
    rfl
  have ht : (moveTracker k f.src.toNat (frameEnd (s.isOwn f) (logErrors k f s))).stcRest = s.stcRest := by
    simp [State.stcRest]
  dsimp only [received]
  (repeat' split) <;> simp only [hs, ho, hp, hm, ht]

theorem received_config (k : Kind) (f : RxFrame) (s : State) : (received k f s).stc.config = s.stc.config :=
  congrArg (·.config) (received_stcRest k f s)

theorem received_offlineReason (k : Kind) (f : RxFrame) (s : State) :
    (received k f s).stc.offlineReason = s.stc.offlineReason :=
  congrArg (·.offlineReason) (received_stcRest k f s)

/-! ## The clear phase -/

/-- What `Cleared` reads of the state that a clear phase ends in. -/
def State.clearedView (s : State) :=
  ((s.outer, s.log, s.identity, s.jtb, s.rvu, s.meu, s.driveState),
    (s.lif.safety, s.lif.work, s.lif.answer, s.lif.post, s.lif.held, s.lif.silent),
    (s.scu.held, s.scu.pending, s.scu.ordinal, s.scu.map),
    (s.stc.roster0, s.stc.roster, s.stc.board, s.stc.changeDue, s.stc.planLoss),
    (s.flu.fence, s.flu.restartWait, s.flu.haltDrive))

theorem Cleared.congr (h : Cleared s u) (hv : t.clearedView = u.clearedView) : Cleared s t := by
  simp only [State.clearedView, Prod.mk.injEq] at hv
  obtain ⟨⟨houter, hlog, hid, hjtb, hrvu, hmeu, hdrive⟩, ⟨hsafety, hwork, hanswer, hpost, hqueued, hsilent⟩,
    ⟨hheld, hpending, hordinal, hmap⟩, ⟨hplan, hroster, hboard, hdue, hloss⟩, hfence, hwait, hhalt⟩ := hv
  exact {
    outer := houter.trans h.outer, log := hlog.trans h.log, identity := hid.trans h.identity, table := hjtb ▸ h.table
    members := hrvu ▸ h.members, queues := by rw [hsafety, hwork, hanswer, hpost, hqueued]; exact h.queues
    claim := by rw [hheld, hpending]; exact h.claim
    ordinal := hordinal.trans h.ordinal, map := hmap.trans h.map, plan := hplan.trans h.plan, roster := hroster.trans h.roster
    board := by rw [hboard, hdue, hloss]; exact h.board
    fence := by rw [hfence, hwait, hhalt, hsilent]; exact h.fence
    meu := hmeu.trans h.meu, drive := hdrive.trans h.drive }

/-- The state a restart clears, from the state its command found. -/
theorem clearDynamic_cleared (s : State) : Cleared s (clearDynamic (restartBegun s)) where
  outer := rfl
  log := rfl
  identity := rfl
  table := rfl
  members := ⟨rfl, rfl, rfl⟩
  queues := ⟨rfl, rfl, rfl, rfl, rfl⟩
  claim := ⟨rfl, rfl⟩
  ordinal := rfl
  map := rfl
  plan := rfl
  roster := rfl
  board := ⟨rfl, rfl, rfl⟩
  fence := ⟨rfl, rfl, rfl, rfl⟩
  meu := rfl
  drive := rfl

/-! ## The settling of a head that joins -/

theorem settleClaim_cases (hm : s.msq.motion = .joining) : settleClaim s = s ∨ settleClaim s = withdrawClaim s := by
  unfold settleClaim withdrawAndReport
  split
  · right
    dsimp only
    split
    · exact reportVoid_joining (by simpa using hm)
    · rfl
  · exact .inl rfl

theorem settleClaim_msq (hm : s.msq.motion = .joining) : (settleClaim s).msq = s.msq := by
  rcases settleClaim_cases hm with h | h <;> simp [h]

theorem settleServe_joining (hm : s.msq.motion = .joining) : settleServe s = s := by
  unfold settleServe
  split
  · exact if_neg (by simp [hm])
  · rfl

/-- A head that is not in IDLE, WAIT_SPACE or PARKING does not ask for a corridor. -/
theorem settleSpace_still (h1 : s.msq.motion ≠ .idle) (h2 : s.msq.motion ≠ .waitSpace) (h3 : s.msq.motion ≠ .parking) :
    settleSpace (settleIdle s) = s.msqRests := by
  rw [settleIdle_notIdle h1]
  simp only [settleSpace, State.msqRests, State.onMsq]
  split
  · rfl
  next he => simp_all

theorem settleAction_joining (hm : s.msq.motion = .joining) : settleAction s = s := by
  unfold settleAction
  split
  · rw [hm]
    rfl
  · rfl

theorem State.Running.noWait (h : s.Running) : s.flu.fence ≠ .restartWait := by
  rcases h.noFence1 with hf | hf | hf | hf <;> simp [hf]

/-- The blocks' own action of a head that joins and places no claim: a stale claim is withdrawn, a point handed over, a census
asked for. -/
theorem settle_joins (h : s.Running) (hm : s.msq.motion = .joining) (hj : s.stc.join ≠ .placing) :
    settle s = regap (settleCensus (settleHandover (settleClaim s)).msqRests) := by
  have hh : settleHalt s = s := by simp [settleHalt, hm, MotionState.haltActs]
  have hc : (settleClaim s).msq.motion = .joining := by rw [settleClaim_msq hm, hm]
  have hp : settlePlacing (settleClaim s) = settleClaim s := by
    unfold settlePlacing
    split
    next hpl _ _ => exact absurd ((settleClaim_stc_join s).symm.trans hpl) hj
    · rfl
  have hv : (settleHandover (settleClaim s)).msq.motion = .joining := by rw [settleHandover_motion, hc]
  have ht : (settleHandover (settleClaim s)).msqRests.mayTake = false := by simp [State.mayTake, State.msqRests, hc]
  rw [settle, if_neg (by simp [h.noLift]), hh, settleAction_joining hc, settleRestart_idle (by simpa using h.noWait), hp,
    settleServe_joining hv, settleSpace_still (by rw [hv]; decide) (by rw [hv]; decide) (by rw [hv]; decide), settleTake,
    if_neg (by simp [ht])]

/-- A head in LISTEN without memberships offers nothing. -/
theorem settle_listens (h : s.Running) (hm : s.msq.motion = .joining) (hj : s.stc.join = .listen) (hc : s.rvu.current = none) :
    settle s = regap (settleClaim s).msqRests := by
  rw [settle_joins h hm (by simp [hj]), settleHandover_memberless (settleClaim_current hc), settleCensus,
    if_neg (by simp [State.mayOffer, State.msqRests, hj])]

/-! ## The three ends of the clear phase -/

theorem clearPhase_joins (h : ¬ s.rereads = true) : clearPhase false prom s = enterJoining (clearDynamic s) := by
  simp [clearPhase, h]

theorem clearPhase_bad (h : s.rereads = true) (hp : readRecord prom = none) : clearPhase false prom s =
    startFault 0x10 ((clearDynamic s).onStc fun c => { c with config := none }) := by
  simp only [clearPhase, h, hp, if_true]

theorem clearPhase_good {c : ConfigRecord} (h : s.rereads = true) (hp : readRecord prom = some c) : clearPhase false prom s =
    beginSelfTest ((clearDynamic s).onStc fun x => { x with config := some c, restart := .selfTest }) := by
  simp only [clearPhase, h, hp, if_true]

/-- A census request on the lane outlives the clear phase, unless the head was OFFLINE (R26, R111). -/
theorem clearDynamic_census (s : State) : (clearDynamic (restartBegun s)).scu.censusPending = true ↔
    s.msq.motion ≠ .offline ∧ ∃ x ∈ s.lif.tx, x.frame = .censusReq ∧ x.heard = false := by
  have hp : (clearDynamic (restartBegun s)).scu.censusPending =
      (s.msq.motion != .offline && (emptyQueues s).laneHolds (· == .censusReq)) := rfl
  rw [hp]
  cases h : s.lif.tx <;> simp [State.laneHolds, emptyQueues, detachTx, h]

theorem rejoins_census (u : State) : (regap (enterJoining u).msqRests).scu.censusPending = u.scu.censusPending := rfl

/-- The head joins anew (R33, R48). -/
theorem rejoined (hi : s.stc.inReset = false) : Rejoined s (settle (enterJoining (clearDynamic (restartBegun s)))) := by
  rw [settle_listens (s := enterJoining (clearDynamic (restartBegun s))) ⟨hi, rfl, .inl rfl⟩ rfl rfl rfl, settleClaim_none rfl]
  exact {
    (clearDynamic_cleared s).congr rfl with
    motion := rfl
    join := ⟨rfl, rfl⟩
    restart := ⟨rfl, rfl, rfl⟩
    doubt := rfl
    beacon := rfl
    config := rfl
    faults := rfl
    census := ⟨rfl, by rw [rejoins_census]; exact clearDynamic_census s⟩ }

/-- The blocks' own action of a mute head without memberships. -/
theorem settle_muteMemberless (h : s.Mute) (hc : s.rvu.current = none) : settle s = regap s.msqRests := by
  rw [settle_mute h, settleHandover_memberless hc]

/-- A bad record of a head that reads it again leaves it OFFLINE (R30, R48). -/
theorem recordBad (hi : s.stc.inReset = false) :
    let t := settle (startFault 0x10 ((clearDynamic (restartBegun s)).onStc fun c => { c with config := none }))
    Cleared s t ∧ t.msq.motion = .offline ∧ t.stc.offlineReason = 0x10 ∧ t.stc.join = .failed ∧ t.stc.restart = .noRestart ∧
      t.stc.config = none ∧ t.flu.record ≠ none ∧ ∀ x, s.flu.record = some x → t.flu.record = some x := by
  intro t
  set v := (clearDynamic (restartBegun s)).onStc fun c => { c with config := none } with hv
  have hv : Cleared s v := (clearDynamic_cleared s).congr rfl
  have ht : t = regap (goOffline 0x10 (v.entered 0x10)).msqRests := by
    simp only [t, startFault, recordFault_eq]
    exact settle_muteMemberless (goOffline_mute _ ⟨hi, rfl, .inl rfl⟩) rfl
  rw [ht]
  refine ⟨(hv.congr rfl), rfl, rfl, rfl, rfl, rfl, ?_, fun x hx => ?_⟩
  · exact Option.some_ne_none _
  · have hrec : v.flu.record = some x := hx
    show some (v.flu.record.getD _) = some x
    rw [hrec, Option.getD_some]

/-- A good record of a head that reads it again begins the self-test (R31, R48). -/
theorem recordGood (c : ConfigRecord) (hm : s.msq.motion = .offline) :
    let t := settle (beginSelfTest ((clearDynamic (restartBegun s)).onStc fun x =>
      { x with config := some c, restart := .selfTest }))
    Cleared s t ∧ t.msq.motion = .offline ∧ t.stc.config = some c ∧ t.stc.selfTesting = true ∧ t.stc.restart = .selfTest ∧
      t.faultState = s.faultState := by
  intro t
  set v := beginSelfTest ((clearDynamic (restartBegun s)).onStc fun x =>
    { x with config := some c, restart := .selfTest }) with hv
  have hmute : v.Mute :=
    { motion := .inr hm, noOffer := by simp [State.mayOffer, show v.msq.motion = .offline from hm], noLift := rfl
      fence := ⟨rfl, nofun⟩, fresh := rfl }
  have ht : t = regap v.msqRests := settle_muteMemberless hmute rfl
  rw [ht]
  exact ⟨(clearDynamic_cleared s).congr rfl, hm, rfl, rfl, rfl, rfl⟩

/-! ## The lift phase -/

/-- A restart in its lift phase (R47, step 2). -/
def liftPhase (s : State) : State :=
  sendCommand (.move s.tipX s.tipY s.cfg.zt .lift) (((restartBegun s).onStc fun c =>
    { c with restart := .lifting, restartLift := some restartLiftTime }).onMsq fun m => { m with motion := .lift })

theorem startRestart_lifts (hj : s.msq.motion ≠ .joining) (ho : s.msq.motion ≠ .offline) (hz : s.tipZ < s.cfg.zt) :
    startRestart prom s = liftPhase s := by
  rw [startRestart_eq, if_neg (by simp [hj, ho, hz])]
  rfl

/-- A tip below travel height is lifted first (R47). -/
theorem liftBegun (s : State) : LiftBegun s (settle (liftPhase s)) where
  restart := ⟨rfl, rfl⟩
  motion := rfl
  command := rfl
  meu := rfl
  claim := ⟨rfl, rfl, rfl⟩
  table := rfl
  queues := ⟨rfl, rfl, rfl⟩
  held := rfl
  halt := ⟨rfl, rfl⟩
  faults := rfl

theorem rereads_iff : s.rereads = true ↔
    s.msq.motion = .offline ∧ (s.stc.offlineReason = 0x10 ∨ s.stc.offlineReason = 0x11) := by
  simp [State.rereads]

theorem startRestart_clears (h : s.msq.motion = .joining ∨ s.msq.motion = .offline ∨ s.cfg.zt ≤ s.tipZ) :
    startRestart prom s = clearPhase false prom (restartBegun s) := by
  rw [startRestart_eq, if_pos h]

/-- A RESTART that is accepted while none is in progress starts one of the state received. -/
theorem exec_restart (hi : s.stc.inReset = false) (ha : s.Accepts .restart f) (hn : s.stc.restart = .noRestart) :
    exec (.restart f prom) s = .next (settle (startRestart prom (received .restart f s))) := by
  show live (hear .restart f (takeRestart prom)) s = _
  rw [live_eq _ hi, hear_accepts _ ha, takeRestart, if_neg (by simp [hn])]

/-- Settles O42: `startRestart` lifts first (`liftBegun`), or clears and joins anew (`rejoined`) or reads the record again
(`recordBad`, `recordGood`). -/
theorem restartLiftsThenRejoins : Obligations.RestartLiftsThenRejoins := by
  intro s f prom hi ha r rereads
  have hmsq : r.msq = s.msq := received_msq ..
  have hcfg : r.cfg = s.cfg := by rw [State.cfg, State.cfg, received_config]
  have htip : r.tipZ = s.tipZ := by rw [State.tipZ, State.tipZ, hmsq]
  have hreread : r.rereads = true ↔ rereads := by
    rw [rereads_iff, hmsq, received_offlineReason]
  have hir : r.stc.inReset = false := (identity_inReset (received_identity ..)).trans hi
  refine ⟨fun hr hn => ?_, fun hn => ⟨fun hj ho hz => ?_, fun hclear hre => ?_, fun hre hbad => ?_, fun c hre hgood => ?_⟩⟩
  · refine live_run hi ?_ hr.received
    rw [hear_accepts _ ha, takeRestart, if_pos (by simpa using hn)]
  · refine ⟨_, exec_restart hi ha hn, ?_⟩
    rw [startRestart_lifts (by rwa [hmsq]) (by rwa [hmsq]) (by rwa [htip, hcfg])]
    exact liftBegun r
  · refine ⟨_, exec_restart hi ha hn, ?_⟩
    rw [startRestart_clears (by rwa [hmsq, hcfg, htip]), clearPhase_joins (s := restartBegun r) (mt hreread.1 hre)]
    exact rejoined hir
  · obtain ⟨hc, hm⟩ := recordBad hir
    refine ⟨_, exec_restart hi ha hn, ?_⟩
    rw [startRestart_clears (by rw [hmsq]; exact .inr (.inl hre.1)), clearPhase_bad (s := restartBegun r) (hreread.2 hre) hbad]
    rw [received_flu] at hm
    exact ⟨hc, hm⟩
  · obtain ⟨hc, hm, hcfg, htest, hrest, hfault⟩ := recordGood c (s := r) (by rw [hmsq]; exact hre.1)
    refine ⟨_, exec_restart hi ha hn, ?_⟩
    rw [startRestart_clears (by rw [hmsq]; exact .inr (.inl hre.1)), 
      clearPhase_good (s := restartBegun r) (hreread.2 hre) hgood]
    exact ⟨hc, hm, hcfg, htest, hrest, hfault.trans (received_faultState ..)⟩

end Sys2Proof.Machine
end

section
/-! SUPPORT. The start of the part (R27 to R32): O52. -/

namespace Sys2Proof.Machine

open Sys2Proof

variable {s t : State} {side : Side} {prom : Option (List Byte)} {code : Nat} {c : ConfigRecord}

/-! ## The configuration record -/

theorem clampNat_bounds {lo hi : Nat} (n : Nat) (h : lo ≤ hi) : lo ≤ clampNat lo hi n ∧ clampNat lo hi n ≤ hi := by
  unfold clampNat
  omega

theorem clampOrErased_bounds {e v lo hi : Nat} (n : Nat) (h1 : lo ≤ v) (h2 : v ≤ hi) :
    lo ≤ clampOrErased e v lo hi n ∧ clampOrErased e v lo hi n ≤ hi := by
  unfold clampOrErased
  split
  · exact ⟨h1, h2⟩
  · exact clampNat_bounds n (h1.trans h2)

theorem clampOrErased_erased {e v lo hi n : Nat} (h : n = e) : clampOrErased e v lo hi n = v := if_pos h

theorem recordOk_iff : recordOk prom = true ↔ (crc16 (promBytes prom 38)).toNat = promWord prom 38 ∧
    promByte prom 0 = 0x31#8 ∧ (promWord prom 1 < promWord prom 3 ∧ promWord prom 3 ≤ 60000 ∧
      promWord prom 5 < promWord prom 7 ∧ promWord prom 7 ≤ 60000) ∧
    promWord prom 25 < promWord prom 23 ∧ promWord prom 27 < promWord prom 25 := by
  simp [recordOk, and_assoc]

/-- A good record's fields, in order and within their ranges (R29, R30). -/
theorem readRecord_ranges (h : readRecord prom = some c) :
    promByte prom 0 = 0x31#8 ∧ c.reachXmin < c.reachXmax ∧ c.reachXmax ≤ 60000 ∧ c.reachYmin < c.reachYmax ∧
      c.reachYmax ≤ 60000 ∧ c.zo < c.zs ∧ c.zs < c.zt ∧ c.exn ≤ 4000 ∧ c.exp ≤ 4000 ∧ c.eyn ≤ 4000 ∧ c.eyp ≤ 4000 ∧
      8 ≤ c.m ∧ c.m ≤ 1000 ∧ c.fenceMode ≤ 3 ∧ 10 ≤ c.takeWindow ∧ c.takeWindow ≤ 1000 ∧ 100 ≤ c.spaceWait ∧
      c.spaceWait ≤ 2000 ∧ c.idlePark ≤ 60 ∧ c.postBurst ≤ 200 ∧
      (promWord prom 32 = 0xFFFF → c.takeWindow = 100) ∧ (promWord prom 34 = 0xFFFF → c.spaceWait = 500) ∧
      (promByte prom 36 = 0xFF#8 → c.idlePark = 5) := by
  unfold readRecord at h
  split at h
  next hok =>
    obtain ⟨-, hform, ⟨hx, hx', hy, hy'⟩, hz, hz'⟩ := recordOk_iff.1 hok
    cases h
    have hclamp (n : Nat) := (clampNat_bounds (lo := 0) (hi := 4000) n (by decide)).2
    have hm := clampNat_bounds (lo := 8) (hi := 1000) (promWord prom 21) (by decide)
    have htake := clampOrErased_bounds (e := 0xFFFF) (v := 100) (lo := 10) (hi := 1000) (promWord prom 32) (by decide) (by decide)
    have hspace := clampOrErased_bounds (e := 0xFFFF) (v := 500) (lo := 100) (hi := 2000) (promWord prom 34) (by decide) (by decide)
    have hpark := clampOrErased_bounds (e := 0xFF) (v := 5) (lo := 0) (hi := 60) (promByte prom 36).toNat (by decide) (by decide)
    exact ⟨hform, hx, hx', hy, hy', hz', hz, hclamp _, hclamp _, hclamp _, hclamp _, hm.1, hm.2, Nat.min_le_right .., htake.1,
      htake.2, hspace.1, hspace.2, hpark.2, (clampNat_bounds (lo := 0) (hi := 200) _ (by decide)).2, clampOrErased_erased,
      clampOrErased_erased, fun h => clampOrErased_erased (congrArg BitVec.toNat h)⟩
  · cases h

/-! ## The release -/

/-- The state in which the straps have been read (R27, R28). -/
def strapped (station : Option Nat) (side : Side) (s : State) : State :=
  s.powerOn.onStc fun c => { c with inReset := false, side := side, station := station }

/-- What the release leaves besides STC and the fault record. -/
structure Released (side : Side) (s t : State) : Prop where
  outer   : t.outer = s.outer
  inReset : t.stc.inReset = false
  side    : t.stc.side = side
  blocks  : t.lif = Lif.powerOn ∧ t.jtb = Jtb.powerOn ∧ t.rvu = Rvu.powerOn ∧ t.scu = Scu.powerOn ∧ t.meu = Meu.powerOn ∧
    t.msq = Msq.powerOn
  fence   : t.flu.fence = .noFence

/-- The release that a fault ends (R28, R29, R180, R188). -/
def StartFailed (code : Nat) (t : State) : Prop :=
  t.stc.join = .failed ∧ t.stc.offlineReason = code ∧ t.stc.selfTesting = false ∧ t.stc.config = none ∧
    t.stc.selfTest = .notRun ∧ t.flu.faultN = true ∧ t.flu.count = 1 ∧ t.flu.second = false ∧
    t.flu.record = some { code := code, motion := .offline, tipX := 0, tipY := 0, job := 0, board := 0, held := none }

theorem settle_startFault (n : Option Nat) : settle (startFault code (strapped n side s)) =
    regap (goOffline code ((strapped n side s).entered code)).msqRests := by
  rw [startFault, recordFault_eq]
  exact settle_muteMemberless (goOffline_mute _ ⟨rfl, rfl, .inl rfl⟩) rfl

theorem startFault_released (n : Option Nat) : Released side s (settle (startFault code (strapped n side s))) := by
  rw [settle_startFault]
  exact ⟨rfl, rfl, rfl, ⟨rfl, rfl, rfl, rfl, rfl, rfl⟩, rfl⟩

theorem startFault_failed (n : Option Nat) : StartFailed code (settle (startFault code (strapped n side s))) := by
  rw [settle_startFault]
  exact ⟨rfl, rfl, rfl, rfl, rfl, rfl, rfl, rfl, rfl⟩

/-- The beacon timer of a part that a start fault stops (R38): a head without a number sends none (R28). -/
theorem startFault_beacon (n : Option Nat) : (settle (startFault code (strapped n side s))).stc.station = n ∧
    (settle (startFault code (strapped n side s))).stc.beaconTimer = if n = none then none else some 10000000 := by
  rw [settle_startFault]
  cases n <;> exact ⟨rfl, rfl⟩

/-- The state in which the self-test of the release runs (R31). -/
def selfTestBegun (n : Nat) (side : Side) (c : ConfigRecord) (s : State) : State :=
  beginSelfTest ((strapped (some n) side s).onStc fun x => { x with config := some c })

theorem settle_selfTestBegun (n : Nat) : settle (selfTestBegun n side c s) = regap (selfTestBegun n side c s).msqRests :=
  settle_muteMemberless { motion := .inr rfl, noOffer := rfl, noLift := rfl, fence := ⟨rfl, nofun⟩, fresh := rfl } rfl

theorem powerOnStart_unnumbered {st : BitVec 4} (h : isHead st.toNat = false) :
    powerOnStart st side prom s = startFault 0x13 (strapped none side s) := by
  simp only [powerOnStart, h]
  rfl

theorem powerOnStart_bad {st : BitVec 4} (h : isHead st.toNat = true) (hp : readRecord prom = none) :
    powerOnStart st side prom s = startFault 0x10 (strapped (some st.toNat) side s) := by
  simp only [powerOnStart, h, hp]
  rfl

theorem powerOnStart_good {st : BitVec 4} (h : isHead st.toNat = true) (hp : readRecord prom = some c) :
    powerOnStart st side prom s = selfTestBegun st.toNat side c s := by
  simp only [powerOnStart, h, hp]
  rfl

theorem isHead_iff {n : Nat} : isHead n = true ↔ 1 ≤ n ∧ n ≤ 8 := by simp [isHead]

/-- What every release leaves, whatever the straps and the record say. -/
theorem powerOnStart_released (st : BitVec 4) (side : Side) (prom : Option (List Byte)) (s : State) :
    Released side s (settle (powerOnStart st side prom s)) := by
  by_cases hn : isHead st.toNat = true
  · cases hp : readRecord prom with
    | none =>
      rw [powerOnStart_bad hn hp]
      exact startFault_released _
    | some c =>
      rw [powerOnStart_good hn hp, settle_selfTestBegun]
      exact ⟨rfl, rfl, rfl, ⟨rfl, rfl, rfl, rfl, rfl, rfl⟩, rfl⟩
  · rw [powerOnStart_unnumbered (by simpa using hn)]
    exact startFault_released _

/-- Settles O52, by the three ends of the release. -/
theorem startReadsStrapsAndRecord : Obligations.StartReadsStrapsAndRecord := by
  refine ⟨fun s st side prom => ?_, fun prom c => readRecord_ranges⟩
  obtain ⟨houter, hreset, hside, ⟨hlif, hjtb, hrvu, hscu, hmeu, hmsq⟩, hfence⟩ := powerOnStart_released st side prom s
  refine ⟨_, rfl, houter, hreset, hside, hlif, hjtb, hrvu, hscu, hmeu, hmsq, hfence, fun hn => ?_,
    fun hn => ⟨?_, fun hp => ?_, fun c hp => ?_⟩⟩
  · rw [powerOnStart_unnumbered (by simpa using mt isHead_iff.1 hn)]
    exact ⟨startFault_failed none, startFault_beacon none⟩
  · cases hp : readRecord prom with
    | none =>
      rw [powerOnStart_bad (isHead_iff.2 hn) hp]
      exact (startFault_beacon _).1
    | some c =>
      rw [powerOnStart_good (isHead_iff.2 hn) hp, settle_selfTestBegun]
      rfl
  · rw [powerOnStart_bad (isHead_iff.2 hn) hp]
    exact ⟨startFault_failed _, (startFault_beacon _).2⟩
  · rw [powerOnStart_good (isHead_iff.2 hn) hp, settle_selfTestBegun]
    exact ⟨rfl, rfl, rfl, rfl, rfl, rfl⟩

end Sys2Proof.Machine
end

section
/-! SUPPORT. The self-test's end and the listen timer (R31, R33 to R36): O53. -/

namespace Sys2Proof.Machine

open Sys2Proof

variable {s t : State} {code : Nat} {f g : TxFrame} {ok : Bool} {volts amps : List Int}

/-! ## OFFLINE -/

/-- A start fault leaves the head OFFLINE, recorded unless an earlier fault was (R180, R188). -/
structure StoppedBy (code : Nat) (s t : State) : Prop where
  motion : t.msq.motion = .offline
  join   : t.stc.join = .failed
  reason : t.stc.offlineReason = code
  faultN : t.flu.faultN = true
  count  : t.flu.count = saturate8 s.flu.count
  record : t.flu.record.map (·.code) = some ((s.flu.record.map (·.code)).getD code)

theorem entered_code (code : Nat) (s : State) :
    (s.entered code).flu.record.map (·.code) = some ((s.flu.record.map (·.code)).getD code) := by
  simp only [State.entered, State.onFlu]
  cases s.flu.record <;> rfl

/-- The settling of a head that a start fault stops. -/
theorem settle_startFault_eq (h : s.Running) : settle (startFault code s) =
    regap (settleHandover (goOffline code (s.entered code))).msqRests := by
  rw [startFault, recordFault_eq]
  exact settle_mute (goOffline_mute _ ⟨h.noReset, h.noLift, h.noFence1⟩)

theorem startFault_stops (h : s.Running) : StoppedBy code s (settle (startFault code s)) := by
  rw [settle_startFault_eq h]
  have hflu : (regap (settleHandover (goOffline code (s.entered code))).msqRests).flu = (s.entered code).flu :=
    (settleHandover_flu _).trans (goOffline_flu _ _)
  have hstc : (regap (settleHandover (goOffline code (s.entered code))).msqRests).stc = (goOffline code (s.entered code)).stc :=
    settleHandover_stc _
  exact ⟨settleHandover_motion _, congrArg Stc.join hstc, congrArg Stc.offlineReason hstc, congrArg Flu.faultN hflu,
    congrArg Flu.count hflu, by rw [hflu]; exact entered_code code s⟩

/-! ## What a withdrawn CLAIM leaves in the SAFETY queue -/

theorem withdrawClaim_scu (s : State) : (withdrawClaim s).scu = { s.scu with pending := (withdrawClaim s).scu.pending } := by
  unfold withdrawClaim
  (repeat' split) <;> rfl

theorem withdrawClaim_safety (s : State) : ((withdrawClaim s).lif.tx = none ↔ s.lif.tx = none) ∧
    (∀ f ∈ (withdrawClaim s).lif.safety, f ∈ s.lif.safety) ∧
    ∀ f ∈ s.lif.safety, isClaimFrame f = false → f ∈ (withdrawClaim s).lif.safety := by
  unfold withdrawClaim updTx filterSafety
  (repeat' split) <;> simp +contextual

/-- What the withdrawal of a stale claim leaves of a head that joins. -/
theorem settleClaim_joiner (hm : s.msq.motion = .joining) : (settleClaim s).rvu = s.rvu ∧ (settleClaim s).stc = s.stc ∧
    (settleClaim s).offered = s.offered ∧ (∀ f ∈ (settleClaim s).lif.safety, f ∈ s.lif.safety) ∧
    (∀ f ∈ s.lif.safety, isClaimFrame f = false → f ∈ (settleClaim s).lif.safety) ∧
    ((settleClaim s).lif.tx = none ↔ s.lif.tx = none) ∧
    (settleClaim s).scu = { s.scu with pending := (settleClaim s).scu.pending } := by
  obtain h | h := settleClaim_cases hm <;> rw [h]
  · exact ⟨rfl, rfl, rfl, fun _ => id, fun _ hf _ => hf, .rfl, rfl⟩
  · obtain ⟨htx, hsub, hsup⟩ := withdrawClaim_safety s
    exact ⟨withdrawClaim_rvu s, withdrawClaim_stc s, withdrawClaim_offered, hsub, hsup, htx, withdrawClaim_scu s⟩

/-- With nothing on the lane a frame offered to the SAFETY queue stands in it. -/
theorem offerSafety_mem (hs : s.lif.silent = false) (hl : s.lifting = false) (hx : s.lif.tx = none) :
    f ∈ (offerSafety f s).lif.safety := by
  have hrep (q : List TxFrame) (h : q.any (sameSort f) = true) : f ∈ replaceSort f q := by
    induction q with
    | nil => simp at h
    | cons g q ih =>
      by_cases hg : sameSort f g = true
      · simp [replaceSort, hg]
      · simp only [replaceSort, hg, Bool.false_eq_true, if_false, List.mem_cons]
        exact .inr (ih (by simpa [hg] using h))
  dsimp only [offerSafety]
  rw [if_neg (by simp [hs, hl]), if_neg (by simp [State.onLane, hx])]
  split
  next h => exact hrep _ h
  · simp

/-! ## The self-test -/

/-- The memories the self-test wrote are at their power-on values, and its result is stored (R31). -/
def tested (ok : Bool) (volts amps : List Int) (s : State) : State :=
  (restoreMemories s).onStc fun c => { c with selfTest := s.testResult ok volts amps, selfTesting := false }

theorem endSelfTest_eq (h : s.stc.selfTesting = true) : endSelfTest ok volts amps s =
    if s.testResult ok volts amps = .done false false false false then enterJoining (tested ok volts amps s)
    else startFault 0x11 (tested ok volts amps s) := by
  rw [endSelfTest, if_pos h]
  rfl

theorem testResult_passes : s.testResult ok volts amps = .done false false false false ↔
    ok = true ∧ s.stc.driveSeen = true ∧ s.stc.contactSeen = false ∧
      volts.sum.natAbs ≤ 2000 * 16 ∧ amps.sum.natAbs ≤ 50 * 16 := by
  simp [State.testResult, meanWithin]

theorem tested_running (h : s.Running) : (tested ok volts amps s).Running := ⟨h.noReset, h.noLift, h.noFence1⟩

/-- What the end of the self-test empties, and what of it the settling keeps. -/
structure Restored (ok : Bool) (volts amps : List Int) (s t : State) : Prop where
  table    : t.jtb.entries = []
  members  : t.rvu.current = none ∧ t.rvu.next = none
  queues   : t.lif.safety = [] ∧ t.lif.work = [] ∧ t.lif.post = []
  testing  : t.stc.selfTesting = false
  config   : t.stc.config = s.stc.config
  map      : t.space = if s.stc.restart = .selfTest
    then s.scu.map.map (fun sl => match sl.holds with | .frozen .. => sl | _ => Slot.empty) else Heads.all Slot.empty
  selfTest : t.stc.selfTest = s.testResult ok volts amps

/-- A head that fails its self-test is OFFLINE (R31). -/
theorem failed_restored (h : s.Running) : Restored ok volts amps s (settle (startFault 0x11 (tested ok volts amps s))) := by
  rw [settle_startFault_eq (tested_running h), settleHandover_memberless rfl]
  exact ⟨rfl, ⟨rfl, rfl⟩, ⟨rfl, rfl, rfl⟩, rfl, rfl, rfl, rfl⟩

/-- The settling of a head that passes its self-test withdraws a stale claim at most. -/
theorem settle_passed (h : s.Running) : settle (enterJoining (tested ok volts amps s)) =
    regap (settleClaim (enterJoining (tested ok volts amps s))).msqRests :=
  settle_listens ⟨h.noReset, rfl, h.noFence1⟩ rfl rfl rfl

theorem passed_restored (h : s.Running) : Restored ok volts amps s (settle (enterJoining (tested ok volts amps s))) := by
  rw [settle_passed h]
  set v := enterJoining (tested ok volts amps s) with hv
  obtain ⟨hrvu, hstc, hoff, hsafe⟩ := settleClaim_joiner (s := v) rfl
  obtain ⟨hwork, -⟩ : (settleClaim v).lif.work = [] ∧ (settleClaim v).lif.held = [] := List.append_eq_nil_iff.1 hoff
  have hsafety : (settleClaim v).lif.safety = [] := List.eq_nil_iff_forall_not_mem.2 fun f hf => nomatch hsafe.1 f hf
  exact {
    table := congrArg Jtb.entries (settleClaim_jtb v)
    members := ⟨congrArg Rvu.current hrvu, congrArg Rvu.next hrvu⟩
    queues := ⟨hsafety, hwork, settleClaim_lif_post v⟩
    testing := congrArg Stc.selfTesting hstc
    config := (congrArg Stc.config hstc).trans rfl
    map := settleClaim_space v
    selfTest := congrArg Stc.selfTest hstc }

/-- A head that passes its self-test listens (R33). -/
theorem passed_listens (h : s.Running) :
    let t := settle (enterJoining (tested ok volts amps s))
    t.msq.motion = .joining ∧ t.stc.join = .listen ∧ t.stc.listen = some 30000000 ∧ t.scu.doubt = true ∧
      t.msq.driveSilence = some 2000000 ∧ t.faultState = s.faultState := by
  intro t
  set v := enterJoining (tested ok volts amps s) with hv
  obtain ⟨-, hstc, -⟩ := settleClaim_joiner (s := v) rfl
  have hmsq := settleClaim_msq (s := v) rfl
  have ht : t = regap (settleClaim v).msqRests := settle_passed h
  rw [ht]
  exact ⟨congrArg Msq.motion hmsq, congrArg Stc.join hstc, congrArg Stc.listen hstc,
    congrArg (fun c => c.2.2.2) (settleClaim_claimState v), congrArg Msq.driveSilence hmsq, settleClaim_faultState v⟩

/-! ## The listen timer -/

/-- The state in which a head asks for the census of its join (R35, R38). -/
def listened (s : State) : State :=
  s.onStc fun c => { c with join := .census, listen := none, beaconTimer := some 10000000 }

/-- The state in which a head makes its first side count (R35, R38). -/
def listenOver (s : State) : State := s.onStc fun c => { c with listen := none, beaconTimer := some beaconPeriod }

theorem endListen_full (hj : s.stc.join = .listen) (hm : s.msq.motion = .joining) (hc : 4 ≤ s.sideCount) :
    endListen s = startFault 0x12 (listenOver s) := by
  rw [endListen, if_pos ⟨hj, hm⟩]
  exact if_pos hc

theorem endListen_asks (hj : s.stc.join = .listen) (hm : s.msq.motion = .joining) (hc : s.sideCount < 4) :
    endListen s = askCensus (listened s) := by
  rw [endListen, if_pos ⟨hj, hm⟩]
  exact if_neg (Nat.not_le.2 hc)

/-- With nothing on the lane the CENSUS_REQ of the join stands in the SAFETY queue, offered by STC or, in doubt, by SCU (R36,
R109). -/
theorem census_asked (h : s.Running) (hm : s.msq.motion = .joining) (hj : s.stc.join = .census) (hp : s.scu.censusPending = false)
    (hs : s.lif.silent = false) (hx : s.lif.tx = none) :
    let t := settle (askCensus s)
    TxFrame.censusReq ∈ t.lif.safety ∧ t.scu.censusPending = true ∧ t.stc.join = .census ∧
      t.stc.beaconTimer = s.stc.beaconTimer ∧ t.scu.doubt = s.scu.doubt := by
  intro t
  by_cases hd : s.scu.doubt = true
  · have ht : t = settle s := congrArg settle (if_pos (by simp [hd]))
    rw [ht, settle_joins h hm (by simp [hj])]
    set w := (settleHandover (settleClaim s)).msqRests with hw
    obtain ⟨-, hstc, -, -, -, htx, hscu⟩ := settleClaim_joiner hm
    have hws : w.stc = s.stc := (settleHandover_stc _).trans hstc
    have hwc : w.scu = { s.scu with pending := (settleClaim s).scu.pending } := (settleHandover_scu _).trans hscu
    have hwl : w.lif = (settleClaim s).lif := settleHandover_lif _
    have hwm : w.msq.motion = .joining := (settleHandover_motion _).trans ((congrArg Msq.motion (settleClaim_msq hm)).trans hm)
    have hsil : w.lif.silent = false := by rw [hwl, settleClaim_lif_silent, hs]
    have hlift : w.lifting = false := (congrArg (fun c => c.restart == .lifting) hws).trans h.noLift
    have hask : settleCensus w = offerSafety .censusReq (w.onScu fun c => { c with censusPending := true }) :=
      if_pos (by simp [hwc, hd, hp, State.mayOffer, hws, hj, hwm, hsil, hlift])
    rw [hask]
    refine ⟨offerSafety_mem hsil hlift (by rw [State.onScu_lif, hwl]; exact htx.2 hx), ?_, ?_, ?_, ?_⟩
    · simp
    · simp [hws, hj]
    · simp [hws]
    · simp [hwc]
  · set u := offerSafety .censusReq (s.onScu fun c => { c with censusPending := true }) with hu
    have hask : askCensus s = u := if_neg (by simp [hd, hp])
    have hur : u.Running := h.congr (by simp [u]) (by simp [u]) (by simp [u])
    have hum : u.msq.motion = .joining := by simpa [u] using hm
    have hin : TxFrame.censusReq ∈ u.lif.safety := offerSafety_mem hs h.noLift hx
    have ht : t = settle u := congrArg settle hask
    rw [ht, settle_joins hur hum (by simp [u, hj])]
    obtain ⟨-, hstc, -, -, hsup, -, hscu⟩ := settleClaim_joiner hum
    set w := (settleHandover (settleClaim u)).msqRests with hw
    have hws : w.stc = s.stc := (settleHandover_stc _).trans (hstc.trans (by simp [u]))
    have hwc : w.scu = { u.scu with pending := (settleClaim u).scu.pending } := (settleHandover_scu _).trans hscu
    have hwl : w.lif = (settleClaim u).lif := settleHandover_lif _
    have hrest : settleCensus w = w := if_neg (by simp [hwc, u, hd])
    rw [hrest]
    refine ⟨?_, ?_, (congrArg Stc.join hws).trans hj, congrArg Stc.beaconTimer hws, ?_⟩
    · show TxFrame.censusReq ∈ w.lif.safety
      rw [hwl]
      exact hsup _ hin rfl
    · simp [hwc, u]
    · simp [hwc, u]

/-- Settles O53, by the ends of the self-test (`passed_restored`, `failed_restored`) and of LISTEN. -/
theorem selfTestAndListenBeginTheJoin : Obligations.SelfTestAndListenBeginTheJoin := by
  intro s hr offline
  have hoff {code : Nat} {t : State} (h : StoppedBy code s t) : offline code t :=
    ⟨h.motion, h.join, h.reason, h.faultN, h.count, h.record⟩
  refine ⟨fun ok volts amps => ⟨fun ht => live_nothing hr (if_neg (by simp [ht])), fun ht => ?_⟩,
    fun hn => live_nothing hr (if_neg hn), fun hj hm => ⟨fun hc => ?_, fun hc => ⟨fun hd => ?_, fun hp hs hx => ?_⟩⟩⟩
  · intro zero passes
    have hpass : passes ↔ s.testResult ok volts amps = .done false false false false := testResult_passes.symm
    by_cases hok : passes
    · obtain ⟨htab, ⟨hcur, hnext⟩, ⟨hsafe, hwork, hpost⟩, htest, hcfg, hmap, hres⟩ :=
        passed_restored (ok := ok) (volts := volts) (amps := amps) hr
      exact ⟨_, (live_eq _ hr.noReset).trans (by rw [endSelfTest_eq ht, if_pos (hpass.1 hok)]), htab, hcur, hnext, hsafe, hwork,
        hpost, htest, hcfg, hmap, hres, fun _ => passed_listens hr, fun hno => absurd hok hno⟩
    · obtain ⟨htab, ⟨hcur, hnext⟩, ⟨hsafe, hwork, hpost⟩, htest, hcfg, hmap, hres⟩ :=
        failed_restored (ok := ok) (volts := volts) (amps := amps) hr
      have hstop := startFault_stops (code := 0x11) (tested_running (ok := ok) (volts := volts) (amps := amps) hr)
      exact ⟨_, (live_eq _ hr.noReset).trans (by rw [endSelfTest_eq ht, if_neg (mt hpass.2 hok)]), htab, hcur, hnext, hsafe, hwork,
        hpost, htest, hcfg, hmap, hres, fun h => absurd h hok, fun _ => hoff { hstop with }⟩
  · have hstop := startFault_stops (code := 0x12) (s := listenOver s) (hr.congr rfl rfl rfl)
    exact ⟨_, (live_eq _ hr.noReset).trans (by rw [endListen_full hj hm hc]), hoff { hstop with }⟩
  · refine live_run hr.noReset ?_ (hr.congr rfl rfl rfl)
    rw [endListen_asks hj hm hc, askCensus]
    exact if_pos (by simpa [listened] using hd)
  · refine ⟨_, (live_eq _ hr.noReset).trans (by rw [endListen_asks hj hm hc]), ?_⟩
    exact census_asked (s := listened s) (hr.congr rfl rfl rfl) hm rfl hp hs hx

end Sys2Proof.Machine
end

section
/-! SUPPORT. START_CONFLICT (R37, R105, R190), and the settling of a head at the end of its join: O54. -/

namespace Sys2Proof.Machine

open Sys2Proof

variable {s t u : State} {mode : Nat} {fr f : TxFrame}

/-! ## The fence that a map change finds -/

/-- A change of the map leaves a fenced head as its fence has left it (R100). -/
theorem mapChanged_just (h : JustSilenced mode fr s t) (hd : t.scu.doubt = true) : JustSilenced mode fr s (mapChanged t) := by
  have hc : t.claimState = (t.scu.held, t.scu.ordinal, t.scu.lastGranted, true) := by rw [← hd]; rfl
  unfold mapChanged
  extract_lets v
  split
  · have hz : (setDoubt (v.onScu fun c => { c with pending := none })).msq.motion = .frozen := h.motion
    rw [selfVoid, reportVoid_engaged (by rw [hz]; rfl)]
    exact { h with
      fresh := rfl
      claim := hc.symm.trans h.claim }
  · exact { h with }

/-- START_CONFLICT after the join is a fault of floor 2 (R190). -/
theorem startConflict_moving (hm : s.msq.motion.moves = true) (hl : s.lifting = false) (hf : s.flu.fence = .noFence) :
    startConflict s = silentFence (max s.cfg.fenceMode 2) 0x04 (s.entered 0x04) := by
  obtain ⟨ho, hj⟩ := MotionState.moves_iff.1 hm
  dsimp only [startConflict]
  rw [recordFault_eq]
  split
  next h => exact absurd h ho
  next h => exact absurd h hj
  · rw [if_neg (by simpa [State.lifting, State.entered] using hl), if_pos (by simpa [State.entered] using hf)]
    rfl

/-! ## START_CONFLICT in JOINING -/

/-- START_CONFLICT in JOINING: the join is complete, and the head FROZEN in STILL and silent, with FAULT alone (R190). -/
def StartConflicted (s t : State) : Prop :=
  t.stc.join = .complete ∧ t.msq.motion = .frozen ∧ t.msq.frozen = .still ∧
    t.lif.silent = true ∧ t.lif.safety = [] ∧ t.lif.post = [] ∧
    t.lif.work = [.fault 0x04 (max s.cfg.fenceMode 2) .joining 0] ∧ t.flu.count = saturate8 s.flu.count ∧
    (t.flu.record.map (·.code)) = some ((s.flu.record.map (·.code)).getD 0x04) ∧
    t.flu.haltDrive = (s.flu.haltDrive || max s.cfg.fenceMode 2 == 3) ∧
    t.flu.fence = (if max s.cfg.fenceMode 2 = 3 ∨ s.flu.haltDrive = true then .haltAll else .silent)

theorem StartConflicted.congr (h : StartConflicted u t) (hc : u.cfg = s.cfg) (hf : u.flu = s.flu) : StartConflicted s t := by
  rw [StartConflicted, hc, hf] at h
  exact h

/-- The state that a joining head's START_CONFLICT silences. -/
def joinEnded (s : State) : State := completeJoin (s.entered 0x04)

theorem startConflict_joining (hm : s.msq.motion = .joining) : startConflict s =
    (silentFence (max s.cfg.fenceMode 2) 0x04 (joinEnded s)).onMsq fun m => { m with motion := .frozen, frozen := .still } := by
  dsimp only [startConflict]
  rw [recordFault_eq]
  split
  next h => exact absurd (hm.symm.trans h) (by decide)
  · rfl
  next h => exact absurd hm h

theorem startConflict_conflicted (hm : s.msq.motion = .joining) (hc : s.rvu.current = none) :
    StartConflicted s (startConflict s) := by
  have hjob : (joinEnded s).currentJob = 0 := by
    simp [State.currentJob, joinEnded, completeJoin, startDeafness, State.entered, hc]
  have hmot : (joinEnded s).msq.motion = .joining := hm
  have hlif : (silentFence (max s.cfg.fenceMode 2) 0x04 (joinEnded s)).lif =
      ((joinEnded s).hushed (max s.cfg.fenceMode 2) 0x04).lif := by simp [silentFence_eq]
  have hflu : (joinEnded s).flu = (s.entered 0x04).flu := rfl
  rw [startConflict_joining hm]
  refine ⟨silentFence_stc_join .., rfl, rfl, ?_, ?_, ?_, ?_, ?_, ?_, ?_, ?_⟩
  iterate 3 rw [State.onMsq_lif, hlif, hushed_lif]
  · rw [State.onMsq_lif, hlif, hushed_lif, hmot, hjob]
  · simp [silentFence_eq, hflu, State.entered]
  · rw [← entered_code]
    simp [silentFence_eq, hflu]
  · simp [silentFence_eq, hflu, State.entered]
  · simp [silentFence_eq, hflu, State.entered]

theorem startConflict_lifting (hm : s.msq.motion = .joining) : (startConflict s).lifting = false := by
  rw [startConflict_joining hm]
  rfl

theorem startConflict_fresh (hm : s.msq.motion = .joining) : (startConflict s).claimStale = false := by
  rw [startConflict_joining hm]
  exact silentFence_claimStale ..

theorem startConflict_current (hm : s.msq.motion = .joining) : (startConflict s).rvu.current = none := by
  rw [startConflict_joining hm, State.onMsq_rvu, silentFence_eq]
  simp [hushed_rvu]

theorem startConflict_pending (hm : s.msq.motion = .joining) (hp : s.scu.pending = none) : (startConflict s).scu.pending = none := by
  have hs : (joinEnded s).scu.pending = none := hp
  rw [startConflict_joining hm, State.onMsq_scu, silentFence_eq]
  simp [State.hushed, silenceScu, hs]

theorem StartConflicted.mute (h : StartConflicted s t) (hl : t.lifting = false) (hs : t.claimStale = false) : t.Mute := by
  obtain ⟨-, hmot, -, hsil, -, -, -, -, -, -, hf⟩ := h
  refine ⟨.inl hmot, by simp [State.mayOffer, hsil], hl, ?_, hs⟩
  split at hf <;> simp [settleAction, hf]

/-- The blocks' own action leaves the head as START_CONFLICT has left it. -/
theorem StartConflicted.settle_eq (h : StartConflicted s t) (hl : t.lifting = false) (hs : t.claimStale = false)
    (hc : t.rvu.current = none) : settle t = regap t.msqRests := settle_muteMemberless (h.mute hl hs) hc

/-! ## The settling of a head that places its claim -/

/-- The blocks' own action from the handing over of points on. -/
def settleRest (s : State) : State :=
  regap (settleCensus (settleTake (settleSpace (settleIdle (settleServe (settleHandover s))))))

/-- A mute head has nothing else to settle. -/
theorem State.Mute.settleRest (h : s.Mute) : settleRest s = settle s := by
  have hh : settleHalt s = s := by
    rw [settleHalt, if_neg]
    rcases h.motion with hm | hm <;> simp [hm, MotionState.haltActs]
  have hc : settleClaim s = s := by simp [settleClaim, h.fresh]
  have hp : settlePlacing s = s := settlePlacing_idle (by rcases h.motion with hm | hm <;> simp [hm])
  rw [settle, if_neg (by simp [h.noLift]), hh, hc, h.fence.1, settleRestart_idle h.fence.2, hp, Machine.settleRest]

/-- The blocks' own action of a head that joins with no claim pending. -/
theorem settle_places (h : s.Running) (hm : s.msq.motion = .joining) (hp : s.scu.pending = none) :
    settle s = settleRest (settlePlacing s) := by
  have hh : settleHalt s = s := by simp [settleHalt, hm, MotionState.haltActs]
  rw [settle, if_neg (by simp [h.noLift]), hh, settleClaim_none hp, settleAction_joining hm, settleRestart_idle h.noWait,
    settleRest]

/-- A head that joins in no doubt, without memberships and waiting point, has nothing left to do of itself. -/
theorem settleRest_joining (hm : s.msq.motion = .joining) (hc : s.rvu.current = none) (hd : s.scu.doubt = false) :
    settleRest s = regap s.msqRests := by
  rw [settleRest, settleHandover_memberless hc, settleServe_joining hm,
    settleSpace_still (by rw [hm]; decide) (by rw [hm]; decide) (by rw [hm]; decide), settleTake,
    if_neg (by simp [State.mayTake, State.msqRests, hm]), settleCensus, if_neg (by simp [State.msqRests, hd])]

/-! ## The settling of a head that has joined -/

/-- A head without fence, memberships, waiting point and pending claim, that is not in JOINING and that HALT does not act on. -/
structure State.Calm (s : State) : Prop where
  running : s.Running
  noFence : s.flu.fence = .noFence
  noHalt  : (s.halt && s.msq.motion.haltActs) = false
  joined  : s.msq.motion ≠ .joining
  current : s.rvu.current = none
  waiting : s.msq.waiting = none
  pending : s.scu.pending = none

/-- Such a head looks for a park move, a TAKE and a census. -/
theorem State.Calm.settle_eq (h : s.Calm) : settle s = regap (settleCensus (settleTake (settleSpace (settleIdle s)))) := by
  have hh : settleHalt s = s := by simp [settleHalt, h.noHalt]
  have hv : settleServe s = s := by simp [settleServe, h.waiting]
  rw [settle, if_neg (by simp [h.running.noLift]), hh, settleClaim_none h.pending, settleAction_idle h.noFence,
    settleRestart_idle h.running.noWait, settlePlacing_idle h.joined, settleHandover_memberless h.current, hv]

/-- What a TAKE or a census of it leaves of a head. -/
theorem offers_keep (s : State) : let t := regap (settleCensus (settleTake s))
    t.msq = s.msq ∧ t.stc = s.stc ∧ t.flu = s.flu ∧ t.lif.deafness = s.lif.deafness ∧ t.claimState = s.claimState := by
  simp

end Sys2Proof.Machine
end

section
/-! SUPPORT. An OBJECT to the placing claim (R104, R105, R190): O54. -/

namespace Sys2Proof.Machine

open Sys2Proof

variable {s t u : State} {f : RxFrame} {c : Claim}

/-! ## An OBJECT that names the head as claimant -/

/-- Doubt is set and the objected rectangle installed (R104). -/
def objected (f : RxFrame) (s : State) : State := install (rxOwner f) (rxRect f) (setDoubt s)

theorem install_scu (n : Nat) (r : Rect) (s : State) : (install n r s).scu = { s.scu with map := (install n r s).scu.map } := by
  unfold install putSlot
  split <;> rfl

theorem objected_scu (f : RxFrame) (s : State) : (objected f s).scu.held = s.scu.held ∧
    (objected f s).scu.pending = s.scu.pending ∧ (objected f s).scu.ordinal = s.scu.ordinal ∧
    (objected f s).scu.lastGranted = s.scu.lastGranted ∧ (objected f s).scu.doubt = true := by
  rw [objected, install_scu]
  exact ⟨rfl, rfl, rfl, rfl, rfl⟩

@[simp] theorem objected_lif (f : RxFrame) (s : State) : (objected f s).lif = s.lif := by simp [objected]
@[simp] theorem objected_stc (f : RxFrame) (s : State) : (objected f s).stc = s.stc := by simp [objected]
@[simp] theorem objected_jtb (f : RxFrame) (s : State) : (objected f s).jtb = s.jtb := by simp [objected]
@[simp] theorem objected_rvu (f : RxFrame) (s : State) : (objected f s).rvu = s.rvu := by simp [objected]
@[simp] theorem objected_msq (f : RxFrame) (s : State) : (objected f s).msq = s.msq := by simp [objected]
@[simp] theorem objected_flu (f : RxFrame) (s : State) : (objected f s).flu = s.flu := by simp [objected]

theorem windowOrdinal_congr (h : t.scu.pending = s.scu.pending) : t.windowOrdinal = s.windowOrdinal := by
  rw [State.windowOrdinal, State.windowOrdinal, h]

/-- The OBJECT acts where it carries the head's side, at its readback too (R104). -/
theorem exec_object (hr : s.Running) (ha : s.Accepts .object f) (hs : rxAuxSide f = s.stc.side) (hc : rxClaimant f = s.own) :
    exec (.object f) s =
      .next (settle (objectAtClaimant (rxOrdinal f) (rxRect f) (rxOwner f) (received .object f s))) := by
  have hside : (received .object f s).stc.side = s.stc.side := identity_side (received_identity ..)
  have hhear : hearObject f (received .object f s) =
      objectAtClaimant (rxOrdinal f) (rxRect f) (rxOwner f) (received .object f s) :=
    if_pos (hc.trans (received_own ..).symm)
  show live (hear .object f _) s = _
  rw [live_eq _ hr.noReset, hear_accepts _ ha, onSide, unlessLift, if_neg (by simp [hr.noLift]), if_pos (hs.trans hside.symm)]
  split <;> rw [hhear]

/-- An OBJECT with the ordinal last granted is late (R105). -/
theorem objectAtClaimant_late (hw : s.windowOrdinal ≠ some (rxOrdinal f)) (hg : s.scu.lastGranted = some (rxOrdinal f)) :
    objectAtClaimant (rxOrdinal f) (rxRect f) (rxOwner f) s = mapChanged (lateObject (objected f s)) := by
  obtain ⟨-, hp, -, hl, -⟩ := objected_scu f s
  have hw' : (objected f s).windowOrdinal ≠ some (rxOrdinal f) := by rwa [windowOrdinal_congr hp]
  show mapChanged (if (objected f s).windowOrdinal = some (rxOrdinal f) then _ else _) = _
  rw [if_neg hw']
  exact congrArg mapChanged (if_pos (hl.trans hg))

/-- An OBJECT with the ordinal of the placing claim's window is START_CONFLICT (R37). -/
theorem objectAtClaimant_placing (hw : s.windowOrdinal = some (rxOrdinal f)) (hp : s.pendingPlacing = true) :
    objectAtClaimant (rxOrdinal f) (rxRect f) (rxOwner f) s =
      mapChanged (startConflict ((objected f s).onScu fun c => { c with pending := none })) := by
  obtain ⟨-, hpend, -⟩ := objected_scu f s
  have hw' : (objected f s).windowOrdinal = some (rxOrdinal f) := by rwa [windowOrdinal_congr hpend]
  have hp' : (objected f s).pendingPlacing = true := by rwa [State.pendingPlacing, hpend]
  show mapChanged (if (objected f s).windowOrdinal = some (rxOrdinal f) then _ else _) = _
  rw [if_pos hw']
  exact congrArg mapChanged (if_pos hp')

/-! ## The late objection to the placing claim -/

theorem currentJob_congr (h : t.rvu = s.rvu) : t.currentJob = s.currentJob := by rw [State.currentJob, State.currentJob, h]

theorem boardNumber_congr (h : t.stc = s.stc) : t.boardNumber = s.boardNumber := by rw [State.boardNumber, State.boardNumber, h]

/-- The late objection is counted (R25). -/
def lateCounted (s : State) : State := s.onCounters fun c => { c with late := saturate16 c.late }

theorem lateObject_placing (hc : s.scu.held = some c) (hk : c.kind = .standing) (hp : c.placing = true) :
    lateObject s = startConflict (lateCounted s) := by
  unfold lateObject
  extract_lets v
  have hv : v.scu.held = some c := hc
  split
  next d hd =>
    obtain rfl : c = d := Option.some.inj (hv.symm.trans hd)
    rw [if_neg (by simp [hk]), if_pos hp]
    rfl
  next hd => exact absurd (hv.symm.trans hd) (by simp)

/-- A late objection to the placing claim fences the head, whatever its mode (R105, R190). -/
theorem lateConflict (hr : u.Running) (hm : u.msq.motion.moves = true) (hf : u.flu.fence = .noFence)
    (hw : u.windowOrdinal ≠ some (rxOrdinal f)) (hg : u.scu.lastGranted = some (rxOrdinal f))
    (hc : u.scu.held = some c) (hk : c.kind = .standing) (hp : c.placing = true) :
    let mode := max u.cfg.fenceMode 2
    JustSilenced mode (.fault 0x04 mode u.msq.motion u.currentJob) ((lateCounted (objected f u)).entered 0x04)
      (settle (objectAtClaimant (rxOrdinal f) (rxRect f) (rxOwner f) u)) := by
  intro mode
  obtain ⟨hheld, -, -, -, hdoubt⟩ := objected_scu f u
  set v := lateCounted (objected f u) with hv
  have hmsq : v.msq = u.msq := objected_msq f u
  have hstc : v.stc = u.stc := objected_stc f u
  have hflu : v.flu = u.flu := objected_flu f u
  have hjob : v.currentJob = u.currentJob := currentJob_congr (objected_rvu f u)
  have hlift : v.lifting = false := (congrArg (fun c => c.restart == .lifting) hstc).trans hr.noLift
  have hconf : startConflict v = silentFence mode 0x04 (v.entered 0x04) := by
    rw [startConflict_moving (by rwa [hmsq]) hlift (by rwa [hflu]), State.cfg, hstc]
    rfl
  have hjust := silentFence_just (s := v.entered 0x04) mode 0x04 (by rw [← hmsq] at hm; exact hm)
  have hd : (silentFence mode 0x04 (v.entered 0x04)).scu.doubt = true :=
    (congrArg (fun c => c.2.2.2) hjust.claim).trans hdoubt
  rw [objectAtClaimant_late hw hg, lateObject_placing (hheld.trans hc) hk hp, ← hv, hconf, ← hjob, ← hmsq]
  exact (mapChanged_just hjust hd).settle

theorem lateConflict_counters (f : RxFrame) (u : State) : (lateCounted (objected f u)).lif.counters =
    { u.lif.counters with late := saturate16 u.lif.counters.late } := by
  show { (objected f u).lif.counters with late := saturate16 (objected f u).lif.counters.late } = _
  rw [objected_lif]

theorem lateConflict_entered (f : RxFrame) (u : State) : ((lateCounted (objected f u)).entered 0x04).faultState =
    ((u.onScu fun x => { x with doubt := true }).entered 0x04).faultState := by
  have hflu : (lateCounted (objected f u)).flu = u.flu := objected_flu f u
  have hmsq : (lateCounted (objected f u)).msq = u.msq := objected_msq f u
  exact entered_congr (by rw [hflu]; exact ⟨rfl, rfl, rfl⟩) (by rw [hmsq]; rfl) (by rw [hmsq]; rfl)
    (currentJob_congr (objected_rvu f u)) (boardNumber_congr (objected_stc f u)) (objected_scu f u).1

/-- The late objection as O54 states it. -/
theorem lateConflict_settled (h : s.AtWork) (ha : s.Accepts .object f) (ho : s.msq.motion ≠ .offline)
    (hside : rxAuxSide f = s.stc.side) (hclaim : rxClaimant f = s.own) (hc : s.scu.held = some c) (hk : c.kind = .standing)
    (hp : c.placing = true) (hw : s.windowOrdinal ≠ some (rxOrdinal f)) (hg : s.scu.lastGranted = some (rxOrdinal f)) :
    let mode := max s.cfg.fenceMode 2
    let r := received .object f s
    let u := r.onScu fun x => { x with doubt := true }
    ∃ t, exec (.object f) s = .next t ∧ t.lif.counters = { r.lif.counters with late := saturate16 r.lif.counters.late } ∧
      t.faultState = (u.entered 0x04).faultState ∧ Silenced mode (.fault 0x04 mode s.msq.motion s.currentJob) u t := by
  intro mode r u
  have hscu : r.scu = s.scu := received_scu ..
  have hmsq : r.msq = s.msq := received_msq ..
  have hcfg : r.cfg = s.cfg := by rw [State.cfg, State.cfg, received_config]
  have hjob : r.currentJob = s.currentJob := currentJob_congr (received_rvu ..)
  have hwin : r.windowOrdinal = s.windowOrdinal := windowOrdinal_congr (by rw [hscu])
  have hj := lateConflict (f := f) (c := c) (u := r) h.running.received (by rw [hmsq]; exact moves_of_not ho h.joined)
    ((congrArg Flu.fence (received_flu ..)).trans h.noFence) (by rwa [hwin]) (by rwa [hscu]) (by rwa [hscu]) hk hp
  rw [hcfg, hmsq, hjob] at hj
  have hclaimState : (lateCounted (objected f r)).claimState = u.claimState := by
    obtain ⟨h1, -, h2, h3, h4⟩ := objected_scu f r
    show ((objected f r).scu.held, (objected f r).scu.ordinal, (objected f r).scu.lastGranted, (objected f r).scu.doubt) = _
    rw [h1, h2, h3, h4]
    rfl
  refine ⟨_, exec_object h.running ha hside hclaim, ?_, hj.faults.trans (lateConflict_entered f r),
    hj.toSilenced.congr ?_ ?_ ?_ ?_ hclaimState ?_⟩
  · exact (congrArg Prod.fst hj.log).trans (lateConflict_counters f r)
  · show (objected f r).lif.tx = r.lif.tx
    rw [objected_lif]
  · exact congrArg Rvu.pending (objected_rvu f r)
  · have hm : (lateCounted (objected f r)).msq = r.msq := objected_msq f r
    exact ⟨congrArg Msq.motion hm, congrArg Msq.frozen hm, congrArg Msq.lastCommand hm⟩
  · show (objected f r).flu.haltDrive = r.flu.haltDrive
    rw [objected_flu]
  · exact objected_jtb f r

/-! ## The objection to the placing claim in its window -/

/-- An OBJECT to the placing claim ends the join in START_CONFLICT (R37, R104). -/
theorem placingObjected (h : s.Running) (hm : s.msq.motion = .joining) (hcur : s.rvu.current = none) (ha : s.Accepts .object f)
    (hside : rxAuxSide f = s.stc.side) (hclaim : rxClaimant f = s.own) (hw : s.windowOrdinal = some (rxOrdinal f))
    (hp : s.pendingPlacing = true) :
    ∃ t, exec (.object f) s = .next t ∧ StartConflicted s t ∧ t.scu.pending = none ∧ t.scu.doubt = true := by
  set r := received .object f s with hr
  set v := (objected f r).onScu fun c => { c with pending := none } with hv
  have hscu : r.scu = s.scu := received_scu ..
  have hvm : v.msq.motion = .joining := by rw [hv, State.onScu_msq, objected_msq, hr, received_msq, hm]
  have hvc : v.rvu.current = none := by rw [hv, State.onScu_rvu, objected_rvu, hr, received_rvu, hcur]
  have hvcfg : v.cfg = s.cfg := by rw [State.cfg, hv, State.onScu_stc, objected_stc, hr, received_config, State.cfg]
  have hvflu : v.flu = s.flu := by rw [hv, State.onScu_flu, objected_flu, hr, received_flu]
  have hwin : r.windowOrdinal = s.windowOrdinal := windowOrdinal_congr (by rw [hscu])
  have hplacing : r.pendingPlacing = s.pendingPlacing := by rw [State.pendingPlacing, State.pendingPlacing, hscu]
  have hpend : (startConflict v).scu.pending = none := startConflict_pending hvm rfl
  have hdoubt : (startConflict v).scu.doubt = true :=
    (congrArg (fun c => c.2.2.2) (startConflict_claimState v)).trans (objected_scu f r).2.2.2.2
  have hmap : mapChanged (startConflict v) = (startConflict v).onMsq fun m => { m with spaceEvent := true } :=
    if_neg (by simp [State.windowConflict, hpend])
  have hconf : StartConflicted v (mapChanged (startConflict v)) := by
    rw [hmap]
    exact startConflict_conflicted hvm hvc
  have hobj := objectAtClaimant_placing (f := f) (s := r) (by rwa [hwin]) (by rwa [hplacing])
  have hset : settle (mapChanged (startConflict v)) = regap (mapChanged (startConflict v)).msqRests := by
    refine hconf.settle_eq ?_ ?_ ?_ <;> rw [hmap]
    · exact startConflict_lifting hvm
    · exact startConflict_fresh hvm
    · exact startConflict_current hvm
  refine ⟨_, (exec_object h ha hside hclaim).trans (by rw [← hr, hobj]), ?_⟩
  rw [← hv, hset]
  refine ⟨StartConflicted.congr hconf hvcfg hvflu, ?_, ?_⟩ <;> rw [hmap]
  · exact hpend
  · exact hdoubt

end Sys2Proof.Machine
end

section
/-! SUPPORT. The end of a join's census, and the grant of the placing claim (R36, R37, R145): O54. -/

namespace Sys2Proof.Machine

open Sys2Proof

variable {s t u : State} {f : RxFrame} {c : Claim}

/-! ## The end of the census -/

/-- The census is over, and doubt with it (R111). -/
def censusEnded (s : State) : State :=
  (s.onScu fun c => { c with censusTimer := none, censusPending := false, repeatMark := false, doubt := false }).onMsq fun m =>
    { m with spaceEvent := true }

theorem endCensus_joins (ht : s.scu.censusTimer.isSome = true) (hr : s.scu.repeatMark = false) (hj : s.stc.join = .census)
    (hm : s.msq.motion = .joining) : endCensus s = censusJoin (censusEnded s) := by
  simp only [endCensus, ht, hr, if_true, Bool.false_eq_true, if_false]
  exact if_pos ⟨hj, hm⟩

theorem censusEnded_running (h : s.Running) : (censusEnded s).Running := h.congr rfl rfl rfl

theorem atPark_iff {r : ConfigRecord} {x y z : Nat} : atPark r x y z = true ↔ r.parkX ≤ x + r.m ∧ x ≤ r.parkX + r.m ∧
    r.parkY ≤ y + r.m ∧ y ≤ r.parkY + r.m ∧ r.zt ≤ z + r.m := by
  unfold atPark parkRegion Region.contains
  simp only [Bool.and_eq_true, decide_eq_true_eq]
  omega

/-! ## PARKED at the park point -/

theorem endPending_pending (s : State) : (endPending s).scu.pending = none := by
  unfold endPending
  split
  · simp
  · rename_i hp
    simpa using hp

/-- A head that takes a RELEASE holds and claims nothing (R106). -/
theorem takeRelease_released (hs : s.lif.silent = false) : (takeRelease s).scu.pending = none ∧ (takeRelease s).scu.held = none := by
  have hp := endPending_pending (setHeld none s)
  have hh : (endPending (setHeld none s)).scu.held = none := congrArg Prod.fst (endPending_claimState (setHeld none s))
  rw [takeRelease, if_neg (by simp [hs])]
  dsimp only
  split
  · exact ⟨hp, hh⟩
  · simp [hp, hh]

theorem takeRelease_joining (hm : s.msq.motion = .joining) : (takeRelease s).rvu = s.rvu ∧
    (takeRelease s).lif.deafness = s.lif.deafness ∧ (takeRelease s).msq.waiting = s.msq.waiting ∧
    (takeRelease s).scu.doubt = s.scu.doubt := by
  set u := setHeld none s with hu
  have hum : u.msq.motion = .joining := hm
  have he : endPending u = if u.scu.pending.isSome then (withdrawClaim u).onScu fun c => { c with pending := none } else u := by
    unfold endPending
    rw [reportVoid_joining (by simpa using hum)]
  have hkept : (endPending u).rvu = u.rvu ∧ (endPending u).lif.deafness = u.lif.deafness ∧ (endPending u).msq = u.msq ∧
      (endPending u).scu.doubt = u.scu.doubt := by
    rw [he]
    split
    · exact ⟨by simp, by simp, by simp, by rw [State.onScu_scu, withdrawClaim_scu]⟩
    · exact ⟨rfl, rfl, rfl, rfl⟩
  obtain ⟨hrvu, hdeaf, hmsq, hdoubt⟩ := hkept
  have hends : (endPending u).rvu = s.rvu ∧ (endPending u).lif.deafness = s.lif.deafness ∧
      (endPending u).msq.waiting = s.msq.waiting ∧ (endPending u).scu.doubt = s.scu.doubt :=
    ⟨hrvu, hdeaf, (congrArg Msq.waiting hmsq).trans rfl, hdoubt⟩
  unfold takeRelease
  split
  · exact ⟨rfl, rfl, rfl, rfl⟩
  · extract_lets v
    split
    · exact hends
    · simpa using hends

/-- A head at the park point stands PARKED without a claim (R37, R107). -/
theorem placeParked_settled (h : s.Running) (hf : s.flu.fence = .noFence) (hm : s.msq.motion = .joining)
    (hc : s.rvu.current = none) (hw : s.msq.waiting = none) (hs : s.lif.silent = false) (hd : s.scu.doubt = false) :
    let t := settle (placeParked s)
    t.msq.motion = .parked ∧ t.stc.join = .complete ∧ t.scu.held = none ∧ t.scu.doubt = false ∧
      t.lif.deafness = some 50000000 := by
  intro t
  set v := takeRelease (completeJoin s) with hv
  obtain ⟨hpend, hheld⟩ := takeRelease_released (s := completeJoin s) hs
  obtain ⟨hrvu, hdeaf, hwait, hdoubt⟩ := takeRelease_joining (s := completeJoin s) hm
  have hstc : v.stc = (completeJoin s).stc := takeRelease_stc hm
  have hflu : v.flu = s.flu := (takeRelease_flu _).trans (completeJoin_flu s)
  have hp : placeParked s = enterParked v := rfl
  have hmot : (enterParked v).msq.motion = .parked := by simp [enterParked]
  have hcalm : (enterParked v).Calm := {
    running := h.congr (by rw [identity_inReset (enterParked_identity v), hstc]; rfl)
      (by rw [enterParked_stc_restart, hstc]; rfl) (by rw [enterParked_flu, hflu])
    noFence := by rw [enterParked_flu, hflu, hf]
    noHalt := by rw [hmot]; exact Bool.and_false _
    joined := by rw [hmot]; decide
    current := by rw [enterParked_rvu, hrvu, completeJoin_rvu, hc]
    waiting := by
      rw [enterParked, changeBeacon_msq]
      exact hwait.trans hw
    pending := by rw [enterParked_scu, hpend] }
  have ht : t = regap (settleCensus (settleTake (enterParked v).msqRests)) := by
    rw [← settleSpace_still (by rw [hmot]; decide) (by rw [hmot]; decide) (by rw [hmot]; decide)]
    exact hcalm.settle_eq
  obtain ⟨kmsq, kstc, -, kdeaf, kclaim⟩ := offers_keep (enterParked v).msqRests
  have kheld := congrArg Prod.fst kclaim
  have kdoubt := congrArg (fun c => c.2.2.2) kclaim
  rw [ht]
  refine ⟨(congrArg Msq.motion kmsq).trans hmot, (congrArg Stc.join kstc).trans ?_, kheld.trans ?_, kdoubt.trans ?_,
    kdeaf.trans ?_⟩
  · show (enterParked v).stc.join = .complete
    rw [enterParked_stc_join, hstc]
    rfl
  · show (enterParked v).scu.held = none
    rw [enterParked_scu, hheld]
  · show (enterParked v).scu.doubt = false
    rw [enterParked_scu, hdoubt, completeJoin_scu, hd]
  · show (enterParked v).lif.deafness = some 50000000
    rw [enterParked_lif_deafness, hdeaf]
    rfl

/-! ## PLACING elsewhere -/

/-- The head in PLACING, before it claims its standing place (R37). -/
def placing (s : State) : State := s.onStc fun c => { c with join := .placing, placeAt := some (s.tipX, s.tipY, s.tipZ) }

theorem settlePlacing_places (hm : s.msq.motion = .joining) (hp : s.scu.pending = none) (hd : s.scu.doubt = false)
    (hr : s.scu.replyQueued = false) : settlePlacing (placing s) =
    if s.conflictsMap (placingClaim s s.tipX s.tipY).rect then startConflict (placing s)
    else queueClaim (placingClaim s s.tipX s.tipY) (placing s) := by
  have hpend : (placing s).scu.pending = none := hp
  have hgo : ((placing s).scu.doubt || (placing s).scu.replyQueued || (placing s).msq.motion != .joining) = false := by
    simp [placing, hd, hr, hm]
  simp only [settlePlacing, hpend, hgo]
  rfl

/-- A standing place that conflicts with the map is START_CONFLICT (R37). -/
theorem placing_conflicts (h : s.Running) (hm : s.msq.motion = .joining) (hc : s.rvu.current = none) (hp : s.scu.pending = none)
    (hd : s.scu.doubt = false) (hr : s.scu.replyQueued = false)
    (hx : s.conflictsMap (placingClaim s s.tipX s.tipY).rect = true) : StartConflicted s (settle (placing s)) := by
  have hconf : StartConflicted (placing s) (startConflict (placing s)) := startConflict_conflicted hm hc
  have hl := startConflict_lifting (s := placing s) hm
  have hfr := startConflict_fresh (s := placing s) hm
  rw [settle_places (s := placing s) (h.congr rfl rfl rfl) hm hp, settlePlacing_places hm hp hd hr, if_pos hx,
    (hconf.mute hl hfr).settleRest, hconf.settle_eq hl hfr (startConflict_current (s := placing s) hm)]
  exact hconf

/-- Elsewhere the STANDING claim is pending and queued (R37). -/
theorem placing_claims (h : s.Running) (hm : s.msq.motion = .joining) (hc : s.rvu.current = none) (hp : s.scu.pending = none)
    (hd : s.scu.doubt = false) (hr : s.scu.replyQueued = false) (hs : s.lif.silent = false)
    (hx : s.conflictsMap (placingClaim s s.tipX s.tipY).rect = false) :
    let t := settle (placing s)
    let claim := placingClaim s s.tipX s.tipY
    t.stc.join = .placing ∧ t.scu.doubt = false ∧ t.stc.placeAt = some (s.tipX, s.tipY, s.tipZ) ∧
      t.scu.pending = some { claim := claim, stage := .queued } ∧
      (s.lif.tx = none → TxFrame.claim .standing claim.rect ∈ t.lif.safety) := by
  intro t claim
  have hq : settlePlacing (placing s) = queueClaim claim (placing s) := by
    rw [settlePlacing_places hm hp hd hr, if_neg (by simp [hx])]
  have ht : t = regap (queueClaim claim (placing s)).msqRests := by
    simp only [t]
    rw [settle_places (s := placing s) (h.congr rfl rfl rfl) hm hp, hq]
    exact settleRest_joining (by simpa [queueClaim, placing] using hm) (by simpa [queueClaim, placing] using hc)
      (by simpa [queueClaim, placing] using hd)
  rw [ht]
  refine ⟨?_, ?_, ?_, ?_, fun hx => ?_⟩
  · simp [State.msqRests, queueClaim, placing]
  · simp [State.msqRests, queueClaim, placing, hd]
  · simp [State.msqRests, queueClaim, placing]
  · simp [State.msqRests, queueClaim, placing]
  · exact offerSafety_mem (s := (placing s).onScu fun u => { u with pending := some { claim := claim, stage := .queued } })
      hs h.noLift hx

/-! ## The grant of the placing claim -/

/-- The placing claim is held (R100). -/
def claimGranted (p : Claim) (o : Nat) (s : State) : State :=
  ((setHeld (some p) s).onScu fun c => { c with pending := none, lastGranted := some o }).onMsq fun m =>
    { m with grant := some p.region }

/-- The join is complete, with the standing XY at the place (R37). -/
def stood (x y : Nat) (s : State) : State := (completeJoin s).onMsq fun m => { m with standing := some (x, y) }

/-- SCU reports GRANTED to a head that joins (R37). -/
theorem granted_joining {x y z : Nat} (hl : s.lifting = false) (hm : s.msq.motion = .joining)
    (ha : s.stc.placeAt = some (x, y, z)) :
    granted c s = placed x y z (s.onMsq fun m => { m with grant := some c.region }) := by
  rw [granted, if_neg (by simp [hl])]
  extract_lets v
  have hv : v.msq.motion = .joining := hm
  have hat : v.stc.placeAt = some (x, y, z) := ha
  simp only [hv, hat]
  rfl

theorem windowExpires_placing {p : PendingClaim} {o w x y z : Nat} (hl : s.lifting = false) (hm : s.msq.motion = .joining)
    (hp : s.scu.pending = some p) (hw : p.stage = .window o w) (ha : s.stc.placeAt = some (x, y, z)) :
    windowExpires s = placed x y z (claimGranted p.claim o s) := by
  simp only [windowExpires, hp, hw]
  exact granted_joining hl hm ha

/-- A MOVE to a point of the grant and of the held claim passes the check of R123. -/
theorem sendMove_inside {g : Region} {h : Claim} {x y z : Nat} {p : Profile} (hg : s.msq.grant = some g) (hh : s.scu.held = some h)
    (h1 : g.contains x y = true) (h2 : h.region.contains x y = true) : sendMove x y z p s = sendCommand (.move x y z p) s :=
  if_pos (by simp [State.moveAllowed, hg, hh, h1, h2])

/-- What the grant of the placing claim leaves, wherever the head then goes (R37, R100). -/
structure PlacedAt (p : Claim) (o x y : Nat) (s t : State) : Prop where
  join     : t.stc.join = .complete
  held     : t.scu.held = some p
  granted  : t.scu.lastGranted = some o
  grant    : t.msq.grant = some p.region
  standing : t.msq.standing = some (x, y)
  deafness : t.lif.deafness = some 50000000
  flu      : t.flu = s.flu

theorem askPark_kept (s : State) : (askPark s).msq.motion = s.msq.motion ∧ (askPark s).msq.grant = s.msq.grant ∧
    (askPark s).stc = s.stc ∧ (askPark s).msq.spaceEvent = s.msq.spaceEvent := by
  unfold askPark queueClaim
  extract_lets c
  split <;> simp

theorem settleIdle_grant (s : State) : (settleIdle s).msq.grant = s.msq.grant := by
  unfold settleIdle
  (repeat' split) <;> simp [askPark_kept]

theorem askTravel_grant (s : State) : (askTravel s).msq.grant = s.msq.grant := by
  unfold askTravel enterWaitSpace startSpaceWait queueClaim
  extract_lets c
  split <;> simp

theorem settleSpace_grant (s : State) : (settleSpace s).msq.grant = s.msq.grant := by
  unfold settleSpace
  split
  · extract_lets v
    split
    · exact askTravel_grant v
    · split
      · exact (askPark_kept v).2.1
      · rfl
    · rfl
  · rfl

theorem settleSpace_parking (h : s.msq.motion = .parking) : (settleSpace s).msq.motion = .parking := by
  unfold settleSpace
  split
  · extract_lets v
    have hv : v.msq.motion = .parking := h
    simp only [hv]
    split
    · exact (askPark_kept v).1.trans hv
    · exact hv
  · exact h

/-- IDLE without an active board goes over to PARKING (R125). -/
theorem settleIdle_parks (h : s.msq.motion = .idle) (hb : s.boardActive = false) :
    (settleSpace (settleIdle s)).msq.motion = .parking := by
  refine settleSpace_parking ?_
  rw [settleIdle, if_pos h, if_pos (by simp [hb])]
  exact (askPark_kept _).1

/-- IDLE with an active board and no park request stays (R125). -/
theorem settleIdle_stays (h : s.msq.motion = .idle) (hb : s.boardActive = true) (hp : s.msq.parkRequest = false) :
    (settleSpace (settleIdle s)).msq.motion = .idle := by
  have hi : (settleIdle s).msq.motion = .idle := by
    rw [settleIdle, if_pos h, if_neg (by simp [hb, hp])]
    exact h
  unfold settleSpace
  split
  · extract_lets v
    have hv : v.msq.motion = .idle := hi
    simp only [hv]
  · exact hi

theorem State.Calm.placedAt {p : Claim} {o x y : Nat} (h : u.Calm) (hu : PlacedAt p o x y s u) :
    PlacedAt p o x y s (settle u) ∧ (settle u).msq.lastCommand = u.msq.lastCommand := by
  have ht := h.settle_eq
  obtain ⟨kmsq, kstc, kflu, kdeaf, kclaim⟩ := offers_keep (settleSpace (settleIdle u))
  rw [← ht] at kmsq kstc kflu kdeaf kclaim
  have hclaim : (settle u).claimState = u.claimState := kclaim.trans (by simp)
  refine ⟨⟨?_, (congrArg Prod.fst hclaim).trans hu.held, (congrArg (fun c => c.2.2.1) hclaim).trans hu.granted,
    ?_, ?_, ?_, ?_⟩, ?_⟩
  · rw [kstc, settleSpace_stc, settleIdle_stc, hu.join]
  · rw [kmsq, settleSpace_grant, settleIdle_grant, hu.grant]
  · rw [kmsq, settleSpace_msq_standing, settleIdle_msq_standing, hu.standing]
  · rw [kdeaf, settleSpace_lif_deafness, settleIdle_lif_deafness, hu.deafness]
  · rw [kflu, settleSpace_flu, settleIdle_flu, hu.flu]
  · rw [kmsq, settleSpace_msq_lastCommand, settleIdle_msq_lastCommand]

/-- The motion and the phase of a calm head that neither asks for space nor stands IDLE. -/
theorem State.Calm.stands (h : u.Calm) (h1 : u.msq.motion ≠ .idle) (h2 : u.msq.motion ≠ .waitSpace)
    (h3 : u.msq.motion ≠ .parking) : (settle u).msq.motion = u.msq.motion ∧ (settle u).msq.frozen = u.msq.frozen := by
  obtain ⟨kmsq, -⟩ := offers_keep u.msqRests
  rw [h.settle_eq, settleSpace_still h1 h2 h3, kmsq]
  exact ⟨rfl, rfl⟩

/-- The motion of a calm head in IDLE, by the board (R125). -/
theorem State.Calm.idles (h : u.Calm) (hm : u.msq.motion = .idle) :
    (u.boardActive = true → u.msq.parkRequest = false → (settle u).msq.motion = .idle) ∧
      (u.boardActive = false → (settle u).msq.motion = .parking) := by
  obtain ⟨kmsq, -⟩ := offers_keep (settleSpace (settleIdle u))
  rw [h.settle_eq, kmsq]
  exact ⟨settleIdle_stays hm, settleIdle_parks hm⟩

/-! ## Where the head goes with its placing claim -/

section Placed

variable {p : Claim} {o x y z : Nat}

/-- The head with its placing claim granted, in its motion state. -/
def placedIn (motion : MotionState) (frozen : FrozenPhase) (p : Claim) (o x y : Nat) (s : State) : State :=
  (stood x y (claimGranted p o s)).onMsq fun m => { m with motion := motion, frozen := frozen }

/-- The head lifts to travel height at its standing XY (R37, R135). -/
def liftedAt (x y : Nat) (s : State) : State := sendCommand (.move x y s.cfg.zt .lift) s

/-- The four ways out of JOINING with a granted claim (R37, R145). -/
theorem placed_eq (p : Claim) (o x y z : Nat) (s : State) : placed x y z (claimGranted p o s) =
    if s.halt then
      if z < s.cfg.zt then sendMove x y s.cfg.zt .lift (placedIn .frozen .lifting p o x y s)
      else placedIn .frozen .still p o x y s
    else if z < s.cfg.zt then sendMove x y s.cfg.zt .lift (placedIn .lift s.msq.frozen p o x y s)
    else enterIdle (stood x y (claimGranted p o s)) := rfl

theorem placedIn_moves (motion : MotionState) (frozen : FrozenPhase) (hin : p.region.contains x y = true) :
    sendMove x y s.cfg.zt .lift (placedIn motion frozen p o x y s) = liftedAt x y (placedIn motion frozen p o x y s) :=
  sendMove_inside rfl rfl hin hin

theorem State.Running.calm (h : s.Running) (hf : s.flu.fence = .noFence) (hc : s.rvu.current = none) (hw : s.msq.waiting = none)
    (hstc : u.stc.inReset = s.stc.inReset ∧ u.stc.restart = s.stc.restart) (hflu : u.flu = s.flu) (hrvu : u.rvu = s.rvu)
    (hwait : u.msq.waiting = s.msq.waiting) (hpins : u.pins = s.pins) (hp : u.scu.pending = none)
    (hj : u.msq.motion ≠ .joining) (hn : (s.halt && u.msq.motion.haltActs) = false) : u.Calm where
  running := h.congr hstc.1 hstc.2 (by rw [hflu])
  noFence := by rw [hflu, hf]
  noHalt := by rwa [State.halt, hpins, hflu]
  joined := hj
  current := by rw [hrvu, hc]
  waiting := hwait.trans hw
  pending := hp

end Placed

/-- The grant of the placing claim settles the head (R37, R145). -/
theorem grant_settles {p : PendingClaim} {o w x y z : Nat} (h : s.Running) (hm : s.msq.motion = .joining) (hc : s.rvu.current = none)
    (hw : s.msq.waiting = none) (hf : s.flu.fence = .noFence) (hp : s.scu.pending = some p) (hs : p.stage = .window o w)
    (ha : s.stc.placeAt = some (x, y, z)) (hin : p.claim.region.contains x y = true) :
    let t := settle (windowExpires s)
    let lifts : Prop := t.msq.lastCommand = some { number := s.nextCommand, order := .move x y s.cfg.zt .lift }
    PlacedAt p.claim o x y s t ∧
      (s.halt = true → t.msq.motion = .frozen ∧
        (z < s.cfg.zt → t.msq.frozen = .lifting ∧ lifts) ∧
        (s.cfg.zt ≤ z → t.msq.frozen = .still ∧ t.msq.lastCommand = s.msq.lastCommand)) ∧
      (s.halt = false → z < s.cfg.zt → t.msq.motion = .lift ∧ lifts) ∧
      (s.halt = false → s.cfg.zt ≤ z → t.msq.lastCommand = s.msq.lastCommand ∧
        (s.boardActive = true → s.msq.parkRequest = false → t.msq.motion = .idle) ∧
        (s.boardActive = false → t.msq.motion = .parking)) := by
  intro t lifts
  have hstep := windowExpires_placing h.noLift hm hp hs ha
  have hcalm {u : State} := h.calm (u := u) hf hc hw
  cases hh : s.halt <;> rcases Nat.lt_or_ge z s.cfg.zt with hz | hz
  · have ht : t = settle (liftedAt x y (placedIn .lift s.msq.frozen p.claim o x y s)) := by
      simp only [t, hstep]
      rw [placed_eq, if_neg (by simp [hh]), if_pos hz, placedIn_moves _ _ hin]
    have hk : (liftedAt x y (placedIn .lift s.msq.frozen p.claim o x y s)).Calm :=
      hcalm ⟨rfl, rfl⟩ rfl rfl rfl rfl rfl nofun (by rw [hh]; rfl)
    obtain ⟨hat, hcmd⟩ := hk.placedAt (s := s) ⟨rfl, rfl, rfl, rfl, rfl, rfl, rfl⟩
    have hmot := (hk.stands nofun nofun nofun).1
    rw [← ht] at hat hcmd hmot
    exact ⟨hat, nofun, fun _ _ => ⟨hmot, hcmd⟩, fun _ hz' => absurd hz (Nat.not_lt.2 hz')⟩
  · have ht : t = settle (enterIdle (stood x y (claimGranted p.claim o s))) := by
      simp only [t, hstep]
      rw [placed_eq, if_neg (by simp [hh]), if_neg (Nat.not_lt.2 hz)]
    have hk : (enterIdle (stood x y (claimGranted p.claim o s))).Calm :=
      hcalm ⟨rfl, rfl⟩ rfl rfl rfl rfl rfl nofun (by rw [hh]; rfl)
    obtain ⟨hat, hcmd⟩ := hk.placedAt (s := s) ⟨rfl, rfl, rfl, rfl, rfl, rfl, rfl⟩
    obtain ⟨hidle, hpark⟩ := hk.idles rfl
    rw [← ht] at hat hcmd hidle hpark
    exact ⟨hat, nofun, fun _ hz' => absurd hz' (Nat.not_lt.2 hz), fun _ _ => ⟨hcmd, hidle, hpark⟩⟩
  · have ht : t = settle (liftedAt x y (placedIn .frozen .lifting p.claim o x y s)) := by
      simp only [t, hstep]
      rw [placed_eq, if_pos hh, if_pos hz, placedIn_moves _ _ hin]
    have hk : (liftedAt x y (placedIn .frozen .lifting p.claim o x y s)).Calm :=
      hcalm ⟨rfl, rfl⟩ rfl rfl rfl rfl rfl nofun (Bool.and_false _)
    obtain ⟨hat, hcmd⟩ := hk.placedAt (s := s) ⟨rfl, rfl, rfl, rfl, rfl, rfl, rfl⟩
    obtain ⟨hmot, hphase⟩ := hk.stands nofun nofun nofun
    rw [← ht] at hat hcmd hmot hphase
    exact ⟨hat, fun _ => ⟨hmot, fun _ => ⟨hphase, hcmd⟩, fun hz' => absurd hz (Nat.not_lt.2 hz')⟩, nofun, nofun⟩
  · have ht : t = settle (placedIn .frozen .still p.claim o x y s) := by
      simp only [t, hstep]
      rw [placed_eq, if_pos hh, if_neg (Nat.not_lt.2 hz)]
    have hk : (placedIn .frozen .still p.claim o x y s).Calm :=
      hcalm ⟨rfl, rfl⟩ rfl rfl rfl rfl rfl nofun (Bool.and_false _)
    obtain ⟨hat, hcmd⟩ := hk.placedAt (s := s) ⟨rfl, rfl, rfl, rfl, rfl, rfl, rfl⟩
    obtain ⟨hmot, hphase⟩ := hk.stands nofun nofun nofun
    rw [← ht] at hat hcmd hmot hphase
    exact ⟨hat, fun _ => ⟨hmot, fun hz' => absurd hz' (Nat.not_lt.2 hz), fun _ => ⟨hphase, hcmd⟩⟩, nofun, nofun⟩

/-- The end of the census of a join: OFFLINE on a full side, PARKED at the park point, PLACING elsewhere (R35 to R37). -/
theorem census_settles (h : s.Running) (hm : s.msq.motion = .joining) (hc : s.rvu.current = none) (hw : s.msq.waiting = none)
    (hs : s.lif.silent = false) (hf : s.flu.fence = .noFence) (hj : s.stc.join = .census)
    (ht : s.scu.censusTimer.isSome = true) (hr : s.scu.repeatMark = false) :
    let t := settle (endCensus s)
    let claim := placingClaim s s.tipX s.tipY
    (4 ≤ s.sideCount → StoppedBy 0x12 (censusEnded s) t) ∧
      (s.sideCount < 4 → atPark s.cfg s.tipX s.tipY s.tipZ = true → t.msq.motion = .parked ∧ t.stc.join = .complete ∧
        t.scu.held = none ∧ t.scu.doubt = false ∧ t.lif.deafness = some 50000000) ∧
      (s.sideCount < 4 → ¬ atPark s.cfg s.tipX s.tipY s.tipZ = true → s.scu.pending = none → s.scu.replyQueued = false →
        (s.conflictsMap claim.rect = true → StartConflicted s t) ∧
        (s.conflictsMap claim.rect = false → t.stc.join = .placing ∧ t.scu.doubt = false ∧
          t.stc.placeAt = some (s.tipX, s.tipY, s.tipZ) ∧ t.scu.pending = some { claim := claim, stage := .queued } ∧
          (s.lif.tx = none → TxFrame.claim .standing claim.rect ∈ t.lif.safety))) := by
  have hrun := censusEnded_running h
  have hroom (hlt : s.sideCount < 4) : ¬ 4 ≤ (censusEnded s).sideCount := Nat.not_le.2 hlt
  intro t claim
  have het : t = settle (censusJoin (censusEnded s)) := congrArg settle (endCensus_joins ht hr hj hm)
  rw [het]
  refine ⟨fun hfull => ?_, fun hlt hpark => ?_, fun hlt hpark hpend hreply => ?_⟩
  · rw [censusJoin, if_pos (show 4 ≤ (censusEnded s).sideCount from hfull)]
    exact startFault_stops hrun
  · have hplace : censusJoin (censusEnded s) = placeParked (censusEnded s) := (if_neg (hroom hlt)).trans (if_pos hpark)
    rw [hplace]
    exact placeParked_settled hrun hf hm hc hw hs rfl
  · have hplace : censusJoin (censusEnded s) = placing (censusEnded s) := (if_neg (hroom hlt)).trans (if_neg hpark)
    have hclaim : placingClaim (censusEnded s) (censusEnded s).tipX (censusEnded s).tipY = claim := rfl
    have hmap : (censusEnded s).conflictsMap claim.rect = s.conflictsMap claim.rect := rfl
    have hconf := placing_conflicts (s := censusEnded s) hrun hm hc hpend rfl hreply
    have hclaims := placing_claims (s := censusEnded s) hrun hm hc hpend rfl hreply hs
    rw [hplace]
    simp only [hclaim, hmap] at hconf hclaims
    exact ⟨fun hx => StartConflicted.congr (hconf hx) rfl rfl, hclaims⟩

/-- Settles O54: the late OBJECT (`lateConflict_settled`), the end of the census by its three ways, the grant (`grant_settles`)
and the OBJECT in the window (`placingObjected`). -/
theorem placingSettlesTheHead : Obligations.PlacingSettlesTheHead := by
  refine ⟨fun s f c h ha _ ho hside hclaim hc hk hp hw hg => lateConflict_settled h ha ho hside hclaim hc hk hp hw hg, ?_⟩
  intro s h hm hc hn hw hs hf mode conflict
  refine ⟨fun hj ht hr => ?_, fun p o w x y z _ hp hst ha hin => ?_, fun f ha hside hclaim _ hwin hpl => ?_⟩
  · obtain ⟨hfull, hpark, hplace⟩ := census_settles h hm hc hw hs hf hj ht hr
    exact ⟨_, live_eq _ h.noReset, fun h4 => ⟨(hfull h4).motion, (hfull h4).join, (hfull h4).reason⟩,
      fun hlt hp => hpark hlt (atPark_iff.2 hp), fun hlt hp => hplace hlt (mt atPark_iff.1 hp)⟩
  · obtain ⟨hat, hhalt, hlift, hidle⟩ := grant_settles h hm hc hw hf hp hst ha hin
    exact ⟨_, live_eq _ h.noReset, hat.join, hat.held, hat.granted, hat.grant, hat.standing, hat.deafness, hat.flu, hhalt, hlift,
      hidle⟩
  · exact placingObjected h hm hc ha hside hclaim hwin hpl

end Sys2Proof.Machine
end

section
/-! SUPPORT. The job table and the claim map stay sound: O59. -/

namespace Sys2Proof.Machine

open Sys2Proof

/-- Settles O59: every step keeps the conditions on the table and on the claim in its window (`step_keepsSafe`). -/
theorem tableAndMapStaySound : Obligations.TableAndMapStaySound := by
  refine ⟨fun s hs => ?_, fun s hs => ?_⟩
  · obtain ⟨t, ht, hk, -⟩ := step_keepsSafe s
    exact ⟨t, ht, hk.table hs⟩
  · obtain ⟨t, ht, hk, -⟩ := step_keepsSafe s
    exact ⟨t, ht, hk.window hs⟩

end Sys2Proof.Machine
end

section
/-! SUPPORT. What an OFFER makes of the job table (R52 to R56): O14 and O15. -/

namespace Sys2Proof.Machine

open Sys2Proof

variable {s t : State} {k : Kind} {f : RxFrame} {o : Offer} {e v w : Entry} {job : Nat} {l : List Entry}

/-! ## A frame at the job table -/

theorem received_board (k : Kind) (f : RxFrame) (s : State) : (received k f s).stc.board = s.stc.board :=
  congrArg (·.board) (received_stcRest k f s)

theorem received_cfg (k : Kind) (f : RxFrame) (s : State) : (received k f s).cfg = s.cfg := by
  rw [State.cfg, State.cfg, received_config]

@[simp] theorem received_entry? (k : Kind) (f : RxFrame) (s : State) (job : Nat) :
    (received k f s).entry? job = s.entry? job := by
  simp [State.entry?]

@[simp] theorem received_servable (k : Kind) (f : RxFrame) (s : State) : (received k f s).servable = s.servable := by
  funext p
  simp only [State.servable, received_cfg, identity_side (received_identity k f s)]

/-- What the offer makes of its job is told from the state before its reception. -/
@[simp] theorem received_newEntry (k : Kind) (f : RxFrame) (s : State) (o : Offer) (rank : Nat) :
    (received k f s).newEntry o rank = s.newEntry o rank := by
  simp only [State.newEntry, received_servable, received_cfg]

theorem any_servable_iff : (o.points.map s.servable).any id = true ↔ ∃ p ∈ o.points, s.servable p = true := by
  simp

/-- An accepted OFFER of a running part is JTB's to judge (R52). -/
theorem offer_heard (hs : s.Running) (ha : s.Accepts .offer f) :
    hear .offer f (unlessLift (hearOffer f)) s = hearOffer f (received .offer f s) := by
  rw [hear_accepts _ ha, unlessLift, if_neg (by simp [hs.noLift])]

/-- The answer to an accepted OFFER, from what JTB makes of it. -/
theorem offer_answer {u : State} (hs : s.Running) (ha : s.Accepts .offer f) (hu : hearOffer f (received .offer f s) = u)
    (hr : u.Running) : exec (.offer f) s = .next (settle u) ∧ RunKept u (settle u) :=
  live_run hs.noReset ((offer_heard hs ha).trans hu) hr

/-! ## Admission -/

/-- The last to arrive enters behind its equals and before those of lower priority (R54). -/
theorem insertEntry_latest (hl : l.Pairwise fun a b => a.before b = true) (hr : ∀ x ∈ l, x.rank < e.rank) :
    insertEntry e l = (l.filter fun x => decide (e.offer.priority ≤ x.offer.priority)) ++ e ::
      l.filter fun x => decide (x.offer.priority < e.offer.priority) := by
  induction l with
  | nil => rfl
  | cons x xs ih =>
    obtain ⟨hx, hxs⟩ := List.pairwise_cons.1 hl
    have hrx := hr x (.head xs)
    unfold insertEntry
    split
    next hb =>
      have hp : e.offer.priority ≤ x.offer.priority := by
        rw [Entry.before_iff] at hb
        omega
      rw [ih hxs fun y hy => hr y (.tail x hy)]
      simp [hp]
    next hb =>
      have hp : x.offer.priority < e.offer.priority := by
        rw [Entry.before_iff] at hb
        omega
      have hrest (y : Entry) (hy : y ∈ xs) : y.offer.priority < e.offer.priority := by
        have h := Entry.before_iff.1 (hx y hy)
        omega
      have hhigh : xs.filter (fun x => decide (e.offer.priority ≤ x.offer.priority)) = [] :=
        List.filter_eq_nil_iff.2 fun y hy => by simpa using hrest y hy
      have hlow : xs.filter (fun x => decide (x.offer.priority < e.offer.priority)) = xs :=
        List.filter_eq_self.2 fun y hy => by simpa using hrest y hy
      simp [hp, hhigh, hlow]

/-- What a sound table is after an offer is admitted (R52, R54). -/
theorem admitOffer_eq (ht : s.TableSafe) (o : Offer) : admitOffer o s = s.onJtb fun t => {
    entries := (t.entries.filter fun x => decide (o.priority ≤ x.offer.priority)) ++ s.newEntry o t.nextRank ::
      t.entries.filter fun x => decide (x.offer.priority < o.priority)
    nextRank := t.nextRank + 1 } := by
  obtain ⟨-, -, -, hord, hent⟩ := tableSafe_iff.1 ht
  have hins := insertEntry_latest (e := s.newEntry o s.jtb.nextRank) hord fun x hx => (hent x hx).1
  simp only [admitOffer, State.onJtb, hins]
  rfl

/-! ## Eviction -/

theorem evictable_iff {p : Nat} : s.evictable p e = true ↔
    e.isOpen = true ∧ e.offer.priority < p ∧ s.takePending e.offer.job = false := by
  simp [State.evictable, and_assoc]

theorem Entry.evictedBefore_iff : v.evictedBefore w = true ↔
    v.offer.priority < w.offer.priority ∨ v.offer.priority = w.offer.priority ∧ w.rank < v.rank := by
  simp [Entry.evictedBefore]

/-- The search of R55, one entry after the other. -/
def worse (best : Option Entry) (e : Entry) : Option Entry :=
  match best with
  | none => some e
  | some b => if e.evictedBefore b then some e else some b

theorem victim_eq (s : State) (p : Nat) : s.victim p = (s.jtb.entries.filter (s.evictable p)).foldl worse none := rfl

/-- What the search finds: one of the entries, before which none is evicted. -/
theorem foldl_worse_some (b : Entry) (l : List Entry) : ∃ v ∈ b :: l, l.foldl worse (some b) = some v ∧
    ∀ w ∈ b :: l, w.evictedBefore v = false := by
  induction l generalizing b with
  | nil => exact ⟨b, .head _, rfl, by simp [Entry.evictedBefore]⟩
  | cons x xs ih =>
    by_cases hx : x.evictedBefore b = true
    · obtain ⟨v, hv, hf, hall⟩ := ih x
      refine ⟨v, .tail _ hv, by rw [← hf, List.foldl_cons, worse, if_pos hx], fun w hw => ?_⟩
      rcases List.mem_cons.1 hw with rfl | hw
      · have hxv := hall x (.head _)
        rw [Bool.eq_false_iff, ne_eq, Entry.evictedBefore_iff] at hxv ⊢
        rw [Entry.evictedBefore_iff] at hx
        omega
      · exact hall w hw
    · obtain ⟨v, hv, hf, hall⟩ := ih b
      refine ⟨v, ?_, by rw [← hf, List.foldl_cons, worse, if_neg hx], fun w hw => ?_⟩
      · rcases List.mem_cons.1 hv with rfl | hv
        · exact .head _
        · exact .tail _ (.tail _ hv)
      · have hbv := hall b (.head _)
        rcases List.mem_cons.1 hw with rfl | hw
        · exact hbv
        · rcases List.mem_cons.1 hw with rfl | hw
          · rw [Bool.eq_false_iff, ne_eq, Entry.evictedBefore_iff] at hbv ⊢
            rw [Entry.evictedBefore_iff] at hx
            omega
          · exact hall w (.tail _ hw)

theorem victim_none {p : Nat} (h : ∀ w ∈ s.jtb.entries, s.evictable p w = false) : s.victim p = none := by
  rw [victim_eq, List.filter_eq_nil_iff.2 fun w hw => by simp [h w hw]]
  rfl

/-- The eviction candidate of a sound table is the evictable entry of lowest priority, among them the latest arrival (R55). -/
theorem victim_unique {p : Nat} (ht : s.TableSafe) (hv : v ∈ s.jtb.entries) (hev : s.evictable p v = true)
    (hmin : ∀ w ∈ s.jtb.entries, s.evictable p w = true →
      v.offer.priority < w.offer.priority ∨ v.offer.priority = w.offer.priority ∧ w.rank ≤ v.rank) :
    s.victim p = some v := by
  have hmem : v ∈ s.jtb.entries.filter (s.evictable p) := List.mem_filter.2 ⟨hv, hev⟩
  obtain ⟨b, l, hl⟩ : ∃ b l, s.jtb.entries.filter (s.evictable p) = b :: l := by
    cases h : s.jtb.entries.filter (s.evictable p) with
    | nil => simp [h] at hmem
    | cons b l => exact ⟨b, l, rfl⟩
  obtain ⟨x, hx, hfold, hall⟩ := foldl_worse_some b l
  rw [← hl] at hx hall
  obtain ⟨hxm, hxe⟩ := List.mem_filter.1 hx
  have hle := hmin x hxm hxe
  have hnb := hall v hmem
  rw [Bool.eq_false_iff, ne_eq, Entry.evictedBefore_iff] at hnb
  have hxv : x = v := TableSafe_rank_unique ht hxm hv (by omega)
  rw [victim_eq, hl, List.foldl_cons, worse, hfold, hxv]

/-! ## The judgement of an OFFER (R52) -/

theorem takeOffer_otherBoard (hb : s.stc.board ≠ .active o.board) : takeOffer o s = countDiscard s := by
  rw [takeOffer, if_pos hb]

theorem takeOffer_held (hb : s.stc.board = .active o.board) (he : s.entry? o.job = some e) :
    takeOffer o s = replaceOffer o e s := by
  simp only [takeOffer, hb, ne_eq, not_true_eq_false, if_false, he]

theorem takeOffer_unservable (hb : s.stc.board = .active o.board) (hn : s.entry? o.job = none)
    (hp : ¬ ∃ p ∈ o.points, s.servable p = true) : takeOffer o s = s := by
  have h : (!(o.points.map s.servable).any id) = true := by simpa using hp
  simp only [takeOffer, hb, ne_eq, not_true_eq_false, if_false, hn, if_pos h]

theorem takeOffer_servable (hb : s.stc.board = .active o.board) (hn : s.entry? o.job = none)
    (hp : ∃ p ∈ o.points, s.servable p = true) :
    (s.jtb.entries.length < 24 → takeOffer o s = admitOffer o s) ∧
    (¬ s.jtb.entries.length < 24 →
      (∀ v, s.victim o.priority = some v → takeOffer o s = admitOffer o (dropEntry v.offer.job s)) ∧
      (s.victim o.priority = none → takeOffer o s = s)) := by
  have h : ¬ (!(o.points.map s.servable).any id) = true := by simpa using hp
  simp only [takeOffer, hb, ne_eq, not_true_eq_false, if_false, hn, if_neg h]
  refine ⟨fun hl => if_pos hl, fun hl => ⟨fun v hv => ?_, fun hv => ?_⟩⟩
  · rw [if_neg hl, hv]
  · rw [if_neg hl, hv]

/-- Settles O14: below 24 entries the offer is admitted (`admitOffer_eq`), at 24 for the eviction candidate (`victim_unique`). -/
theorem offerEntersTheTable : Obligations.OfferEntersTheTable := by
  intro s f o hs ht ha ho hb hj hp r e admitted goes
  have htr : r.TableSafe := by simpa [State.TableSafe, r] using ht
  have hhear : hearOffer f r = takeOffer o r := by rw [hearOffer, ho]
  obtain ⟨hadmit, hevict⟩ := takeOffer_servable (s := r) ((received_board ..).trans hb) ((received_entry? ..).trans hj)
    (by simpa [r] using hp)
  rw [show r.jtb = s.jtb from received_jtb ..] at hadmit hevict
  have hgoes (w : Entry) : goes w ↔ w ∈ r.jtb.entries ∧ r.evictable o.priority w = true := by
    simp only [goes, evictable_iff, r, received_jtb, State.takePending, received_rvu]
  refine ⟨fun hlt => ?_, fun hfull => ⟨fun v hv hmin => ?_, fun hno => ?_⟩⟩
  · intro u
    refine offer_answer hs ha ?_ (hs.received.congr rfl rfl rfl)
    rw [hhear, hadmit hlt, admitOffer_eq htr]
    simp only [State.onJtb, r, received_jtb, received_newEntry, u, admitted]
    rfl
  · intro u
    obtain ⟨hvm, hve⟩ := (hgoes v).1 hv
    have hvic : r.victim o.priority = some v :=
      victim_unique htr hvm hve fun w hw hwe => hmin w ((hgoes w).2 ⟨hw, hwe⟩)
    refine offer_answer hs ha ?_ (hs.received.congr rfl rfl rfl)
    rw [hhear, (hevict (by omega)).1 v hvic, admitOffer_eq ((dropEntry_safeKept v.offer.job r).table htr)]
    have hnew : (dropEntry v.offer.job r).newEntry o s.jtb.nextRank = e := received_newEntry .offer f s o _
    simp only [dropEntry, State.onJtb, u, admitted, r, received_jtb] at hnew ⊢
    rw [hnew]
  · have hvic : r.victim o.priority = none :=
      victim_none fun w hw => Bool.eq_false_iff.2 fun hwe => hno w ((hgoes w).2 ⟨hw, hwe⟩)
    refine offer_answer hs ha ?_ hs.received
    rw [hhear, (hevict (by omega)).2 hvic]

/-! ## Replacement (R56) -/

/-- A sound table finds an entry by its job. -/
theorem TableSafe_entry? (h : s.TableSafe) (he : e ∈ s.jtb.entries) (hj : e.offer.job = job) : s.entry? job = some e := by
  cases hf : s.entry? job with
  | none => exact absurd hj (entry?_none hf e he)
  | some x =>
    obtain ⟨hx, hxj⟩ := entry?_mem hf
    rw [TableSafe_unique h hx he (hxj.trans hj.symm)]

theorem find?_insertEntry_other (h : e.offer.job ≠ job) (l : List Entry) :
    (insertEntry e l).find? (fun x => x.offer.job == job) = l.find? fun x => x.offer.job == job := by
  induction l with
  | nil => simp [insertEntry, h]
  | cons x xs ih =>
    unfold insertEntry
    split
    · simp only [List.find?_cons, ih]
    · rw [List.find?_cons_of_neg (by simpa using h)]

/-- An entry that leaves is no longer found; the others are. -/
theorem dropEntry_entry? (job j : Nat) (s : State) :
    (dropEntry job s).entry? j = if j = job then none else s.entry? j := by
  simp only [State.entry?, dropEntry, State.onJtb_jtb, List.find?_filter]
  split
  next h => simp [h]
  next h =>
    congr 1
    funext x
    by_cases hx : x.offer.job = j <;> simp_all

/-- The table of an OPEN entry that is replaced, where a point of the new offer is servable. -/
def replaced (o : Offer) (e : Entry) (s : State) : State :=
  (dropEntry o.job s).onJtb fun t => { t with entries := insertEntry (s.newEntry o e.rank) t.entries }

theorem replaceOffer_open (h : e.isOpen = true) :
    ((∃ p ∈ o.points, s.servable p = true) → replaceOffer o e s = replaced o e s) ∧
    ((¬ ∃ p ∈ o.points, s.servable p = true) → replaceOffer o e s = dropEntry o.job s) := by
  have hserv : (dropEntry o.job s).servable = s.servable := rfl
  have hany : (o.points.map (dropEntry o.job s).servable).any id = true ↔ ∃ p ∈ o.points, s.servable p = true := by
    rw [hserv, any_servable_iff]
  simp only [replaceOffer, if_pos h]
  exact ⟨fun hp => if_pos (hany.2 hp), fun hp => if_neg (mt hany.1 hp)⟩

theorem replaceOffer_taken (h : e.isOpen = false) : replaceOffer o e s = countDiscard s := by
  rw [replaceOffer, if_neg (by simp [h])]

theorem replaced_entry?_other {j : Nat} (h : j ≠ o.job) : (replaced o e s).entry? j = s.entry? j := by
  have hd := dropEntry_entry? o.job j s
  rw [if_neg h] at hd
  rw [← hd]
  exact find?_insertEntry_other (e := s.newEntry o e.rank) (Ne.symm h) _

/-- The table stays sound, the new entry at the place of the old one's rank. -/
theorem replaced_tableSafe (ht : s.TableSafe) (he : s.entry? o.job = some e) (ho : e.isOpen = true)
    (hp : ∃ p ∈ o.points, s.servable p = true) : (replaced o e s).TableSafe :=
  (replaceOffer_open ho).1 hp ▸ (replaceOffer_safeKept he).table ht

theorem replaced_entry? (ht : (replaced o e s).TableSafe) : (replaced o e s).entry? o.job = some (s.newEntry o e.rank) :=
  TableSafe_entry? ht ((insertEntry_perm ..).mem_iff.2 (.head _)) rfl

/-- What the blocks' own action keeps of a sound table. -/
theorem RunKept.tableSafe {u : State} (h : RunKept u t) (hu : u.TableSafe) : t.TableSafe := by
  simpa only [State.TableSafe, h.jtb] using hu

theorem RunKept.entry? {u : State} (h : RunKept u t) (j : Nat) : t.entry? j = u.entry? j := by
  simp only [State.entry?, h.jtb]

/-- Settles O15: by the judgement of R52, and for an OPEN entry by its replacement (`replaceOffer_open`). -/
theorem offerIsTurnedAwayOrReplaces : Obligations.OfferIsTurnedAwayOrReplaces := by
  intro s f hs ht ha r u
  have htr : r.TableSafe := by simpa [State.TableSafe, r] using ht
  have hcount (h : hearOffer f r = countDiscard r) : exec (.offer f) s = .next (settle u) ∧ RunKept u (settle u) :=
    offer_answer hs ha h (hs.received.congr rfl rfl rfl)
  refine ⟨fun ho => hcount (by rw [hearOffer, ho]), fun o ho => ?_⟩
  intro fits
  have hhear : hearOffer f r = takeOffer o r := by rw [hearOffer, ho]
  have hfits : (∃ p ∈ o.points, r.servable p = true) ↔ fits := by simp only [r, received_servable, fits]
  refine ⟨fun hb => hcount (hhear.trans (takeOffer_otherBoard (by simpa [r, received_board] using hb))), fun hb => ⟨?_, ?_⟩⟩
  · intro hn hp
    exact offer_answer hs ha (hhear.trans (takeOffer_unservable ((received_board ..).trans hb) ((received_entry? ..).trans hn)
      (mt hfits.1 hp))) hs.received
  intro e he
  have her : r.entry? o.job = some e := (received_entry? ..).trans he
  have hheld : hearOffer f r = replaceOffer o e r := hhear.trans (takeOffer_held ((received_board ..).trans hb) her)
  refine ⟨fun hopen => hcount (hheld.trans (replaceOffer_taken hopen)), fun hopen => ?_⟩
  by_cases hp : fits
  · have hnew := hheld.trans ((replaceOffer_open hopen).1 (hfits.2 hp))
    obtain ⟨hexec, hk⟩ := offer_answer hs ha hnew (hs.received.congr rfl rfl rfl)
    have hsafe := replaced_tableSafe htr her hopen (hfits.2 hp)
    refine ⟨_, hexec, hk.log, hk.tableSafe hsafe, fun j hj => ?_, fun h => absurd hp h, fun _ => ?_⟩
    · rw [hk.entry?, replaced_entry?_other hj, received_entry?]
    · rw [hk.entry?, replaced_entry? hsafe, received_newEntry]
      rfl
  · have hgone := hheld.trans ((replaceOffer_open hopen).2 (mt hfits.1 hp))
    obtain ⟨hexec, hk⟩ := offer_answer hs ha hgone (hs.received.congr rfl rfl rfl)
    refine ⟨_, hexec, hk.log, hk.tableSafe ((dropEntry_safeKept ..).table htr), fun j hj => ?_, fun _ => ?_, fun h => absurd h hp⟩
    · rw [hk.entry?, dropEntry_entry?, if_neg hj, received_entry?]
    · rw [hk.entry?, dropEntry_entry?, if_pos rfl]

end Sys2Proof.Machine
end

section
/-! SUPPORT. A job that leaves the table, and the membership in it (R60, R63, R90, R136): O20 and O25. -/

namespace Sys2Proof.Machine

open Sys2Proof

variable {s t u v : State} {k : Kind} {f : RxFrame} {g : TxFrame} {e : Entry} {m : Membership} {job : Nat}

/-! ## The jobs of the memberships -/

/-- The jobs of the current and of the next membership. -/
def State.seats (s : State) : Option Nat × Option Nat := (s.rvu.current.map (·.job), s.rvu.next.map (·.job))

theorem seats_congr (h : t.rvu = s.rvu) : t.seats = s.seats := by simp only [State.seats, h]

theorem memberJobs_of_seats (s : State) : s.memberJobs = s.seats.1.toList ++ s.seats.2.toList := rfl

theorem memberJobs_congr (h : t.seats = s.seats) : t.memberJobs = s.memberJobs := by
  rw [memberJobs_of_seats, memberJobs_of_seats, h]

theorem member?_of_not_mem (h : job ∉ s.memberJobs) : s.member? job = none := by
  cases hm : s.member? job with
  | none => rfl
  | some m =>
    refine absurd ?_ h
    rcases member?_cases hm with ⟨hc, hj⟩ | ⟨hn, hj, -⟩
    · simp [State.memberJobs, hc, hj]
    · simp [State.memberJobs, hn, hj]

/-- The next membership takes the place of the current one that ends (R77). -/
theorem endMember_seats (hc : s.rvu.current = some m) :
    (endMember m.job s).seats = (s.rvu.next.map (·.job), none) := by
  simp [State.seats, endMember, hc]

/-- A membership that ends leaves no new one. -/
theorem endMember_memberJobs (job : Nat) (s : State) : (endMember job s).memberJobs ⊆ s.memberJobs := by
  unfold endMember
  intro j
  cases hc : s.rvu.current with
  | none => simp [State.memberJobs, hc]
  | some c =>
    by_cases h : c.job = job
    · simp +contextual [State.memberJobs, hc, h]
    · cases hn : s.rvu.next with
      | none => simp [State.memberJobs, hc, h, hn]
      | some n =>
        by_cases h' : n.job = job
        · simp +contextual [State.memberJobs, hc, h, hn, h']
        · simp [State.memberJobs, hc, h, hn, h']

/-! ## The memberships through the blocks' own action -/

theorem settleHandover_seats (s : State) : (settleHandover s).seats = s.seats := by
  unfold settleHandover
  (repeat' split) <;> simp_all [State.seats]

@[simp] theorem settleTake_next (s : State) : (settleTake s).rvu.next = s.rvu.next := by
  unfold settleTake offerTake
  (repeat' split) <;> simp

/-- Past the re-check of a queued claim the blocks' own action leaves the memberships in their jobs. -/
theorem settle_seats (h : s.AtWork) : (settle s).seats = (settleClaim s).seats := by
  rw [settle_atWork h fun hj => h.joined (settleClaim_joining hj), ← settleHandover_seats (settleClaim s)]
  simp [State.seats]

theorem settle_seats_engaged (h : s.AtWork) (he : s.msq.motion.engaged = true) : (settle s).seats = s.seats := by
  rw [settle_seats h]
  rcases settleClaim_engaged he with hc | hc <;> rw [hc]
  exact seats_congr (withdrawClaim_rvu s)

theorem reportVoid_memberJobs (s : State) : (reportVoid s).memberJobs ⊆ s.memberJobs := by
  have hrvu {v : State} (h : v.rvu = s.rvu) : v.memberJobs ⊆ s.memberJobs := by
    rw [memberJobs_congr (seats_congr h)]
    exact List.Subset.refl _
  unfold reportVoid
  split
  · split
    · exact hrvu (by simp)
    · split
      · unfold spaceDrop
        split
        next m _ =>
          rw [memberJobs_congr (seats_congr (idleOrParked_rvu _))]
          exact List.Subset.trans (endMember_memberJobs ..) (hrvu (by simp))
        · exact hrvu (by simp)
      · exact hrvu (by simp)
  · exact hrvu (by simp)
  · exact List.Subset.refl _

/-- The blocks' own action makes no membership. -/
theorem settle_memberJobs (h : s.AtWork) : (settle s).memberJobs ⊆ s.memberJobs := by
  have hw : (withdrawClaim s).memberJobs = s.memberJobs := memberJobs_congr (seats_congr (withdrawClaim_rvu s))
  rw [memberJobs_congr (settle_seats h)]
  dsimp only [settleClaim, withdrawAndReport]
  split
  · split
    · exact hw ▸ reportVoid_memberJobs _
    · exact hw ▸ List.Subset.refl _
  · exact List.Subset.refl _

/-! ## What MSQ's abandonment leaves -/

/-- The part stays at work, its memberships in their jobs, and what was offered to the WORK queue stays offered. -/
structure ServiceKept (s t : State) : Prop where
  atWork  : s.AtWork → t.AtWork
  seats   : t.seats = s.seats
  offered : ∀ f ∈ s.offered, f ∈ t.offered

theorem ServiceKept.refl (s : State) : ServiceKept s s := ⟨id, rfl, fun _ h => h⟩

theorem ServiceKept.trans (h : ServiceKept s t) (k : ServiceKept t u) : ServiceKept s u :=
  ⟨k.atWork ∘ h.atWork, k.seats.trans h.seats, fun f hf => k.offered f (h.offered f hf)⟩

/-- A change of MSQ that begins no join. -/
theorem ServiceKept.onMsq {q : Msq → Msq} (h : (q s.msq).motion = .joining → s.msq.motion = .joining) :
    ServiceKept s (s.onMsq q) := ⟨fun hw => hw.congr rfl rfl rfl rfl h, rfl, fun _ hf => hf⟩

theorem withdrawClaim_serviceKept (s : State) : ServiceKept s (withdrawClaim s) where
  atWork hw := hw.congr (by simp) (by simp) (by simp) (halt_congr (by simp) (by simp)) (by simp)
  seats := seats_congr (withdrawClaim_rvu s)
  offered f hf := by rwa [withdrawClaim_offered]

theorem idleOrParked_serviceKept (s : State) : ServiceKept s (idleOrParked s) where
  atWork hw := hw.congr idleOrParked_stc_eq.2 (by simp) (by simp) (halt_congr (by simp) (by simp)) fun h =>
    absurd h idleOrParked_joined
  seats := seats_congr (idleOrParked_rvu s)
  offered f hf := idleOrParked_offered hf

theorem offerWork_serviceKept (g : TxFrame) (s : State) : ServiceKept s (offerWork g s) where
  atWork hw := hw.congr (by simp) (by simp) (by simp) (halt_congr (by simp) (by simp)) (by simp)
  seats := seats_congr (offerWork_rvu g s)
  offered f hf := offerWork_offered hf

/-- What a head that is not down does of an abandonment: it stands, goes to IDLE or PARKED, or marks it, in CLAIMING past the
withdrawal of its claim (R136). -/
theorem msqAbandon_cases (hd : ¬ s.msq.motion.isDown) :
    ∃ v, (v = s ∨ v = withdrawClaim (s.onMsq fun m => { m with spaceWait := none, spaceExpired := false })) ∧
      (msqAbandon s = v ∨ msqAbandon s = idleOrParked v ∨
        msqAbandon s = v.onMsq fun m => { m with abandonMark := true }) := by
  cases hm : s.msq.motion
  case claiming =>
    refine ⟨_, .inr rfl, ?_⟩
    simp only [msqAbandon, hm]
    split
    · exact .inr (.inl rfl)
    · exact .inr (.inr rfl)
  case waitSpace => exact ⟨s, .inl rfl, .inr (.inl (by simp only [msqAbandon, hm]))⟩
  case travel => exact ⟨s, .inl rfl, .inr (.inr (by simp only [msqAbandon, hm]))⟩
  case descend => exact absurd (.inl hm) hd
  case landed => exact absurd (.inr (.inl hm)) hd
  case measure => exact absurd (.inr (.inr (.inl hm))) hd
  case hold => exact absurd (.inr (.inr (.inr hm))) hd
  all_goals exact ⟨s, .inl rfl, .inl (by simp only [msqAbandon, hm])⟩

theorem meuAbort_seats (s : State) : (meuAbort s).seats = s.seats := by
  simp [State.seats, meuAbort, Function.comp_def]

/-- MSQ abandons the membership it served; where the head is down it can be lifted. -/
theorem msqAbandon_serviceKept (hl : s.LiftsSafely) : ServiceKept s (msqAbandon s) := by
  by_cases hd : s.msq.motion.isDown
  · rw [msqAbandon_down hd hl]
    exact ⟨fun hw => hw.congr rfl rfl rfl rfl fun h => absurd h (by simp [sendCommand]), meuAbort_seats s, fun _ hf => hf⟩
  · obtain ⟨v, hv, ht⟩ := msqAbandon_cases hd
    have hkv : ServiceKept s v := by
      rcases hv with rfl | rfl
      · exact .refl _
      · exact (ServiceKept.onMsq (s := s) (q := fun m => { m with spaceWait := none, spaceExpired := false }) id).trans
          (withdrawClaim_serviceKept _)
    rcases ht with ht | ht | ht <;> rw [ht]
    · exact hkv
    · exact hkv.trans (idleOrParked_serviceKept v)
    · exact hkv.trans (.onMsq id)

/-! ## Removal -/

/-- A membership in a job ends at a head that holds none in it, nor a READING for it. -/
theorem endMember_apart {c : Membership} (hc : s.rvu.current = some c) (hcj : c.job ≠ job)
    (hnj : ∀ n, s.rvu.next = some n → n.job ≠ job) (hh : ∀ g ∈ s.lif.held, isReadingOf job g = false) :
    endMember job s = s := by
  have hheld : s.lif.held.filter (fun f => !isReadingOf job f) = s.lif.held :=
    List.filter_eq_self.2 fun g hg => by simp [hh g hg]
  refine State.ext_blocks ?_ rfl rfl ?_ rfl rfl rfl rfl rfl
  · simp [endMember, hheld]
  · cases hn : s.rvu.next with
    | none =>
      simp only [endMember, State.onRvu_rvu, State.onLif_rvu, hc, if_neg hcj, hn]
      rw [← hc, ← hn]
    | some n =>
      simp only [endMember, State.onRvu_rvu, State.onLif_rvu, hc, if_neg hcj, hn, if_neg (hnj n hn)]
      rw [← hc, ← hn]

/-- Without a membership in a job or a READING held for it, its abandonment changes nothing. -/
theorem abandonMember_apart (hm : s.member? job = none) (hh : ∀ g ∈ s.lif.held, isReadingOf job g = false) :
    abandonMember job s = s := by
  unfold abandonMember
  cases hc : s.rvu.current with
  | none => rfl
  | some c =>
    have hcj : c.job ≠ job := fun h => by simp [State.member?, hc, h] at hm
    have hnj (n : Membership) (hn : s.rvu.next = some n) : n.job ≠ job := fun h => by
      simp [State.member?, hc, hcj, hn, h] at hm
    exact (if_neg hcj).trans (endMember_apart hc hcj hnj hh)

/-- A job in which the head holds no membership leaves the table, and no more. -/
theorem removeJob_apart (hm : s.member? job = none) (hh : ∀ g ∈ s.lif.held, isReadingOf job g = false) :
    removeJob job s = dropEntry job s := abandonMember_apart (s := dropEntry job s) hm hh

/-- The head's own membership that ends with the job, before MSQ abandons it. -/
def unseated (m : Membership) (s : State) : State :=
  (endMember m.job (dropEntry m.job s)).onMsq fun q => { q with waiting := none }

theorem removeJob_current (hc : s.rvu.current = some m) : removeJob m.job s = msqAbandon (unseated m s) := by
  have hc' : (dropEntry m.job s).rvu.current = some m := hc
  simp only [removeJob, abandonMember, hc', if_true]
  rfl

theorem unseated_msq (m : Membership) (s : State) : (unseated m s).msq = { s.msq with waiting := none } := by
  simp [unseated, dropEntry]

theorem unseated_cfg (m : Membership) (s : State) : (unseated m s).cfg = s.cfg := by
  simp [unseated, dropEntry, State.cfg]

theorem unseated_atWork (h : s.AtWork) (m : Membership) : (unseated m s).AtWork :=
  h.congr (by simp [unseated, dropEntry]) (by simp [unseated, dropEntry]) (by simp [unseated, dropEntry])
    (halt_congr (by simp [unseated, dropEntry]) (by simp [unseated, dropEntry])) (by simp [unseated, dropEntry])

theorem unseated_liftsSafely (h : s.LiftsSafely) (m : Membership) : (unseated m s).LiftsSafely := by
  simpa [State.LiftsSafely, State.stand, State.tip, State.tipX, State.tipY, unseated_msq] using h

theorem unseated_seats (hc : s.rvu.current = some m) : (unseated m s).seats = (s.rvu.next.map (·.job), none) :=
  endMember_seats (s := dropEntry m.job s) hc

theorem unseated_offered (hf : g ∈ s.offered) (hr : ∀ j, isReadingOf j g = false) : g ∈ (unseated m s).offered :=
  endMember_offered (s := dropEntry m.job s) m.job hf hr

/-- What is left of a job in which the head held its current membership. -/
theorem removeJob_settled (hw : s.AtWork) (hl : s.LiftsSafely) (hc : s.rvu.current = some m)
    (hn : ∀ n, s.rvu.next = some n → n.job ≠ m.job) :
    (settle (removeJob m.job s)).jtb = (dropEntry m.job s).jtb ∧ (settle (removeJob m.job s)).member? m.job = none ∧
      ∀ g ∈ s.offered, (∀ j, isReadingOf j g = false) → g ∈ (settle (removeJob m.job s)).offered := by
  have hab := msqAbandon_serviceKept (unseated_liftsSafely hl m)
  rw [removeJob_current hc]
  have haw := hab.atWork (unseated_atWork hw m)
  have hk := settle_workKept haw
  refine ⟨hk.jtb.trans (by simp [unseated]), member?_of_not_mem fun hj => ?_, fun g hg hr =>
    hk.offered g (hab.offered g (unseated_offered hg hr)) hr⟩
  have hj' := settle_memberJobs haw hj
  rw [memberJobs_of_seats, hab.seats, unseated_seats hc] at hj'
  cases hnx : s.rvu.next with
  | none => simp [hnx] at hj'
  | some n => exact hn n hnx (by simpa [hnx, eq_comm] using hj')

/-- A head that is down for a job which leaves the table ends its membership and lifts (R90, R136, R166). -/
theorem removeJob_down (hw : s.AtWork) (hd : s.msq.motion.isDown) (hl : s.LiftsSafely) (hc : s.rvu.current = some m) :
    let t := settle (removeJob m.job s)
    t.jtb = (dropEntry m.job s).jtb ∧ t.seats = (s.rvu.next.map (·.job), none) ∧ t.meu = Meu.powerOn ∧ t.msq.motion = .lift ∧
      t.msq.lastCommand = some { number := s.nextCommand, order := .move s.tipX s.tipY s.cfg.zt .lift } ∧
      t.claimState = s.claimState ∧ t.flu = s.flu := by
  intro t
  have hdv : (unseated m s).msq.motion.isDown := by rwa [unseated_msq]
  have hab := msqAbandon_serviceKept (unseated_liftsSafely hl m)
  have hdown := msqAbandon_down hdv (unseated_liftsSafely hl m)
  set u := msqAbandon (unseated m s) with hu
  have ht : t = settle u := congrArg settle (removeJob_current hc)
  have hlift : u.msq.motion = .lift := by rw [hdown]; rfl
  have huw := hab.atWork (unseated_atWork hw m)
  have hk := settle_workKept huw
  have heng : u.msq.motion.engaged = true := by rw [hlift]; rfl
  rw [ht]
  refine ⟨hk.jtb.trans (by simp [hu, unseated]), ?_, hk.meu.trans (by rw [hdown]; rfl), (hk.motion heng).trans hlift, ?_, ?_, ?_⟩
  · rw [settle_seats_engaged huw heng, hab.seats, unseated_seats hc]
  · rw [hk.command, hdown]
    simp [sendCommand, State.nextCommand, State.tipX, State.tipY, unseated_msq, unseated_cfg]
  · rw [hk.claimState, hdown]
    simp [sendCommand, unseated, dropEntry]
  · rw [hk.flu, hdown]
    simp [sendCommand, unseated, dropEntry]

/-! ## The frames that remove a job -/

theorem logErrors_held (k : Kind) (f : RxFrame) (s : State) : (logErrors k f s).lif.held = s.lif.held := by
  refine foldl_view (fun t : State => t.lif.held) (fun t x => ?_) _
  dsimp only [decodeInto]
  split <;> rfl

theorem received_held (k : Kind) (f : RxFrame) (s : State) : (received k f s).lif.held = s.lif.held := by
  have hm (n : Nat) (own : Bool) (t : State) : (moveTracker k n (frameEnd own t)).lif.held = t.lif.held := by
    unfold moveTracker
    (repeat' split) <;> rfl
  have hh (t : State) : (hearOther t).lif.held = t.lif.held := by
    unfold hearOther
    split <;> rfl
  dsimp only [received]
  split
  · split
    · exact (hm ..).trans (logErrors_held k f s)
    · exact (hm ..).trans (logErrors_held k f s)
  · rw [storeSide_lif]
    split
    · rw [hh, hearPresence_lif, hm, logErrors_held]
    · rw [hm, logErrors_held]

theorem received_member? (k : Kind) (f : RxFrame) (s : State) (job : Nat) :
    (received k f s).member? job = s.member? job := member?_congr (received_rvu k f s) job

theorem received_boardActive (k : Kind) (f : RxFrame) (s : State) : (received k f s).boardActive = s.boardActive := by
  simp only [State.boardActive, received_board]

/-- An accepted frame that names a held job, at its entry (R60). -/
theorem entry_heard {act : Entry → State → State} (hs : s.Running) (ha : s.Accepts k f) (he : s.entry? (rxJob f) = some e) :
    hear k f (atEntry f act) s = act e (received k f s) := by
  rw [hear_accepts _ ha, atEntry, unlessLift, if_neg (by simp [hs.noLift]), received_entry?, he]

/-- A frame that removes a job, its membership apart. -/
theorem removal_apart {act : Entry → State → State} (hs : s.Running) (ha : s.Accepts k f) (he : s.entry? (rxJob f) = some e)
    (hact : act e (received k f s) = removeJob e.offer.job (received k f s)) (hm : s.member? e.offer.job = none)
    (hh : ∀ g ∈ s.lif.held, isReadingOf e.offer.job g = false) :
    live (hear k f (atEntry f act)) s = .next (settle (dropEntry e.offer.job (received k f s))) ∧
      RunKept (dropEntry e.offer.job (received k f s)) (settle (dropEntry e.offer.job (received k f s))) := by
  refine live_run hs.noReset ?_ (hs.received.congr rfl rfl rfl)
  rw [entry_heard hs ha he, hact,
    removeJob_apart (by rwa [received_member?]) fun g hg => hh g (by rwa [received_held] at hg)]

/-- A frame that removes the job for which a head is down. -/
theorem removal_down {act : Entry → State → State} (hw : s.AtWork) (ha : s.Accepts k f) (he : s.entry? (rxJob f) = some e)
    (hact : act e (received k f s) = removeJob e.offer.job (received k f s)) (hd : s.msq.motion.isDown)
    (hc : s.rvu.current = some m) (hj : m.job = e.offer.job) (hr : s.msq.lastReport ≠ none) (hst : s.stand = s.tip) :
    ∃ t, live (hear k f (atEntry f act)) s = .next t ∧ t.jtb = (dropEntry e.offer.job (received k f s)).jtb ∧
      t.rvu.current.map (·.job) = s.rvu.next.map (·.job) ∧ t.rvu.next = none ∧ t.meu = Meu.powerOn ∧ t.msq.motion = .lift ∧
      t.msq.lastCommand = some { number := s.nextCommand, order := .move s.tipX s.tipY s.cfg.zt .lift } ∧
      t.claimState = s.claimState ∧ t.flu = s.flu := by
  have hmsq := received_msq k f s
  have hl : (received k f s).LiftsSafely := fun _ => by
    simpa [State.stand, State.tip, State.tipX, State.tipY, hmsq] using And.intro hr hst
  obtain ⟨hjtb, hseats, hmeu, hmot, hcmd, hclaim, hflu⟩ :=
    removeJob_down (m := m) hw.received (by rwa [hmsq]) hl (by rwa [received_rvu])
  simp only [State.seats, Prod.mk.injEq, Option.map_eq_none_iff, received_rvu] at hseats
  obtain ⟨hcur, hnext⟩ := hseats
  refine ⟨settle (removeJob m.job (received k f s)), ?_, hj ▸ hjtb, hcur, hnext, hmeu, hmot, ?_, hclaim.trans (by simp),
    hflu.trans (by simp)⟩
  · rw [live_eq _ hw.noReset, entry_heard hw.running ha he, hact, hj]
  · rw [hcmd]
    simp [State.nextCommand, State.tipX, State.tipY, received_cfg]

/-- Settles O20: WITHDRAW and RESULT each pass over the job or remove it (`removal_apart`, `removal_down`). -/
theorem removedJobEndsTheMembership : Obligations.RemovedJobEndsTheMembership := by
  intro s f e hs he apart gone lifts
  have hwith (hb : s.boardActive = true) : takeWithdraw e (received .withdraw f s) = removeJob e.offer.job (received .withdraw f s) :=
    if_pos ((received_boardActive ..).trans hb)
  have hres (hb : rxResultBoard f = e.offer.board) :
      takeResult (rxResultBoard f) e (received .result f s) = removeJob e.offer.job (received .result f s) := if_pos hb.symm
  refine ⟨fun ha hb => ?_, fun ha hb => ⟨fun h => ?_, fun m hw hd hc hj hr hst => ?_⟩, fun ha => ⟨fun hb => ?_, fun hb =>
    ⟨fun h => ?_, fun m hw hd hc hj hr hst => ?_⟩⟩⟩
  · refine live_run hs.noReset ((entry_heard hs ha he).trans ?_) hs.received
    exact if_neg (by simp [received_boardActive, hb])
  · exact removal_apart hs ha he (hwith hb) h.1 h.2
  · exact removal_down hw ha he (hwith hb) hd hc hj hr hst
  · refine live_run hs.noReset ((entry_heard hs ha he).trans ?_) hs.received
    exact if_neg (Ne.symm hb)
  · exact removal_apart hs ha he (hres hb) h.1 h.2
  · exact removal_down hw ha he (hres hb) hd hc hj hr hst

/-! ## The timers of an entry -/

theorem Entry.hasTaker_iff {n : Nat} : e.hasTaker n = true ↔ ∃ t ∈ e.takers, t = some n := by
  simp [Entry.hasTaker]

theorem Entry.openServable_iff : e.openServable = true ↔ ∃ p ∈ e.takers.zip e.servable, p.1 = none ∧ p.2 = true := by
  simp [Entry.openServable]

theorem Entry.full_iff : e.full = true ↔ ∀ t ∈ e.takers, t ≠ none := by
  simp [Entry.full, Option.isSome_iff_ne_none]

theorem keeps_iff : s.keeps e = true ↔ (∃ t ∈ e.takers, t = some s.own) ∨
    s.cfg.catchFlag = true ∧ (∃ p ∈ e.takers.zip e.servable, p.1 = none ∧ p.2 = true) ∨ ∀ t ∈ e.takers, t ≠ none := by
  simp only [State.keeps, Bool.or_eq_true, Bool.and_eq_true, Entry.hasTaker_iff, Entry.openServable_iff, Entry.full_iff, or_assoc]

theorem sendsUnplaced_iff : s.sendsUnplaced e m = true ↔
    none ∈ e.takers ∧ e.takerOf m.role = some s.own ∧ ∀ x ∈ e.takers.take m.role, x = none := by
  have hfull : e.full = false ↔ none ∈ e.takers := by
    rw [Bool.eq_false_iff, ne_eq, Entry.full_iff]
    simp
  simp [State.sendsUnplaced, hfull, and_assoc]

/-- The take window of an entry not FORMED has run out (R58). -/
theorem endTakeWindow_eq (he : s.entry? job = some e) (hw : e.window.isSome = true) (hf : e.formed = false) :
    endTakeWindow job s = decideWindow e s := by
  simp [endTakeWindow, he, hw, hf]

/-- What the head sends, where it is its to send, as the catch grace runs out (R73). -/
def unplacedSent (job : Nat) (e : Entry) (s : State) : State :=
  match s.member? job with
  | some m => if s.sendsUnplaced e m then offerWork (.drop job .unplaced 0) s else s
  | none => s

/-- The catch grace of an entry not FORMED has run out (R59, R73). -/
theorem endCatchGrace_eq (he : s.entry? job = some e) (hg : e.grace.isSome = true) (hf : e.formed = false) :
    endCatchGrace job s = removeJob job (unplacedSent job e s) := by
  simp only [endCatchGrace, he, hg, hf, Bool.not_false, Bool.and_self, if_true]
  rfl

/-- Settles O25: the take window by the decision of R58 (`keeps_iff`), the catch grace by the removal of the job. -/
theorem entryTimersDecideTheEntry : Obligations.EntryTimersDecideTheEntry := by
  intro s job e hs he hf gone apart
  obtain ⟨-, rfl⟩ := entry?_mem he
  refine ⟨fun hw => ?_, fun hg => ⟨fun h => ?_, fun m hwork hsil hl hc hj hn => ?_⟩⟩
  · intro kept
    have hend := endTakeWindow_eq he hw hf
    refine ⟨fun hk => ?_, fun hk => ?_⟩
    · intro u
      exact live_run hs.noReset (hend.trans (if_pos (keeps_iff.2 hk))) (hs.congr rfl rfl rfl)
    · exact live_run hs.noReset (hend.trans (if_neg (mt keeps_iff.1 hk))) (hs.congr rfl rfl rfl)
  · have hsent : unplacedSent e.offer.job e s = s := by simp [unplacedSent, h.1]
    refine live_run hs.noReset ?_ (hs.congr rfl rfl rfl)
    rw [endCatchGrace_eq he hg hf, hsent, removeJob_apart h.1 h.2]
    rfl
  · have hm : s.member? e.offer.job = some m := by simp [State.member?, hc, hj]
    have hsent : unplacedSent e.offer.job e s =
        if s.sendsUnplaced e m then offerWork (.drop e.offer.job .unplaced 0) s else s := by simp only [unplacedSent, hm]
    set v := unplacedSent e.offer.job e s with hv
    have hkept : ServiceKept s v ∧ v.msq = s.msq ∧ v.rvu = s.rvu ∧ v.jtb = s.jtb := by
      rw [hsent]
      split
      · exact ⟨offerWork_serviceKept .., by simp⟩
      · exact ⟨.refl s, rfl, rfl, rfl⟩
    obtain ⟨hserv, hmsq, hrvu, hjtb⟩ := hkept
    have hlv : v.LiftsSafely := by
      simpa [State.LiftsSafely, State.stand, State.tip, State.tipX, State.tipY, hmsq] using hl
    obtain ⟨h1, h2, h3⟩ := removeJob_settled (hserv.atWork hwork) hlv (hrvu ▸ hc) fun n hnx => hj ▸ hn n (hrvu ▸ hnx)
    rw [hj] at h1 h2 h3
    refine ⟨_, (live_eq _ hs.noReset).trans (by rw [endCatchGrace_eq he hg hf, ← hv]), h1.trans ?_, h2, fun hnone htaker hlow =>
      h3 _ ?_ fun _ => rfl⟩
    · simp [dropEntry, gone, hjtb]
    · rw [hsent, if_pos (sendsUnplaced_iff.2 ⟨hnone, htaker, hlow⟩)]
      exact offerWork_mem hsil hwork.noLift

end Sys2Proof.Machine
end

section
/-! SUPPORT. The head's own TAKE at its readback (R69 to R72, R74): O17. -/

namespace Sys2Proof.Machine

open Sys2Proof

variable {s t u : State} {f : RxFrame} {e : Entry} {m : Membership} {job role src : Nat} {c : Bool}

/-! ## The judgement of a TAKE -/

/-- A TAKE comes while the take window runs, or as a catch while the catch grace does (R69, R73). -/
def Entry.onTime (e : Entry) (c : Bool) : Prop := e.window.isSome = true ∨ c = true ∧ e.grace.isSome = true

theorem Entry.late_iff : (e.window.isNone && !(c && e.grace.isSome)) = true ↔ ¬ e.onTime c := by
  cases c <;> simp [Entry.onTime]

theorem judgeTake_discarded (h : e.offer.points.length ≤ role ∨ e.formed = false ∧
    (¬ e.onTime c ∨ e.takerOf role = none ∧ e.hasTaker src = true)) : e.judgeTake src role c = .discarded := by
  unfold Entry.judgeTake
  split
  · rfl
  next hlen =>
    obtain ⟨hf, h⟩ := h.resolve_left hlen
    rw [if_neg (by simp [hf])]
    split
    · rfl
    next ht =>
      obtain ⟨hto, hst⟩ := h.resolve_left (mt Entry.late_iff.2 ht)
      rw [if_neg (by simp [hto]), if_pos hst]

theorem judgeTake_lost (hlen : role < e.offer.points.length)
    (h : e.formed = true ∨ e.onTime c ∧ (e.takerOf role).isSome = true) : e.judgeTake src role c = .lost := by
  rw [Entry.judgeTake, if_neg (by omega)]
  split
  · rfl
  next hf =>
    obtain ⟨ht, hto⟩ := h.resolve_left hf
    rw [if_neg (fun hl => Entry.late_iff.1 hl ht), if_pos hto]

theorem judgeTake_wins (hlen : role < e.offer.points.length) (hf : e.formed = false) (ht : e.onTime c)
    (hto : e.takerOf role = none) (hst : e.hasTaker src = false) : e.judgeTake src role c = .won := by
  rw [Entry.judgeTake, if_neg (by omega), if_neg (by simp [hf]), if_neg (fun hl => Entry.late_iff.1 hl ht),
    if_neg (by simp [hto]), if_neg (by simp [hst])]

/-! ## The taker recorded -/

/-- The entry of a job after a change that leaves the jobs of the entries. -/
theorem updEntry_entry? {g : Entry → Entry} (hg : ∀ x, (g x).offer = x.offer) (job j : Nat) (s : State) :
    (updEntry job g s).entry? j = (s.entry? j).map fun x => if x.offer.job = job then g x else x := by
  have hjob (x : Entry) : (if x.offer.job = job then g x else x).offer.job = x.offer.job := by
    split
    · rw [hg]
    · rfl
  simp only [State.entry?, updEntry, State.onJtb_jtb, List.find?_map, Function.comp_def, hjob]

/-- The station recorded as the taker of the role. -/
def recordTaker (e : Entry) (src role : Nat) (s : State) : State :=
  updEntry e.offer.job (fun e => { e with takers := e.takers.set role (some src) }) s

theorem recordTaker_entry? (he : s.entry? e.offer.job = some e) : (recordTaker e src role s).entry? e.offer.job =
    some { e with takers := e.takers.set role (some src) } := by
  refine (updEntry_entry? (g := fun e => { e with takers := e.takers.set role (some src) }) (fun _ => rfl) ..).trans ?_
  simp [he]

theorem takeRole_own_won (h : e.judgeTake s.own role c = .won) :
    takeRole e s.own role c s = offerSet e.offer.job (ownWin e role (recordTaker e s.own role s)) := by
  have hown : (updEntry e.offer.job (fun e => { e with takers := e.takers.set role (some s.own) }) s).own = s.own := rfl
  simp only [takeRole, h, hown, if_true]
  rfl

/-! ## The membership made -/

/-- The membership that a won TAKE makes: current where the head held none, next otherwise (R70, R77). -/
def seated (m : Membership) (s : State) : State :=
  s.onRvu fun r => if s.rvu.current = none then { r with current := some m } else { r with next := some m }

theorem seated_eq {o : Option Membership} (h : s.rvu.current = o) (m : Membership) : seated m s =
    s.onRvu fun r => if o = none then { r with current := some m } else { r with next := some m } := by
  rw [← h]
  rfl

theorem makeMember_eq (h : s.member? m.job = none) : makeMember m s = seated m s := by
  rw [makeMember, if_neg (by simp [h])]
  cases hc : s.rvu.current <;> simp [seated, State.onRvu, hc]

theorem seated_member? (h : s.member? m.job = none) : (seated m s).member? m.job = some m := by
  cases hc : s.rvu.current with
  | none => simp [seated, State.member?, hc]
  | some c =>
    have hj : c.job ≠ m.job := fun hj => by simp [State.member?, hc, hj] at h
    simp [seated, State.member?, hc, hj]

/-- A head at work that is not OFFLINE has what it won, where the role is servable, and gives it up otherwise (R70). -/
theorem ownWin_eq (h : s.AtWork) (ho : s.msq.motion ≠ .offline) : ownWin e role s =
    if e.servable[role]? = some true then makeMember (.fresh e.offer.job role e.offer.points.length) s
    else offerWork (.drop e.offer.job .space 0) s := by
  rw [ownWin, if_neg]
  simp [State.fenced23, h.noFence, h.joined, ho]

/-! ## The SET of the lead -/

theorem offerSet_noLead (h : s.leadMember? job = none) : offerSet job s = s := by
  simp only [offerSet, h]
  split
  next h' => cases h'
  · rfl

theorem leadMember?_none (h : s.member? job = none) : s.leadMember? job = none := by
  simp only [State.leadMember?, h]

theorem leadMember?_of_role (h : s.member? job = some m) (hr : m.role ≠ 0) : s.leadMember? job = none := by
  simp [State.leadMember?, h, Membership.lead, hr]

theorem offerSet_notFull (he : s.entry? job = some e) (hf : e.full = false) : offerSet job s = s := by
  cases hl : s.leadMember? job with
  | none => exact offerSet_noLead hl
  | some m => simp [offerSet, he, hl, hf]

/-- The lead whose entry is full sends SET once (R74). -/
theorem offerSet_full (he : s.entry? job = some e) (hm : s.member? job = some m) (hr : m.role = 0) (hst : m.state = .taken)
    (hsent : m.setSent = false) (hf : e.formed = false) (hfull : e.full = true) : offerSet job s =
      updMember job (fun m => { m with setSent := true }) (offerWork (.set job (e.takers.filterMap id)) s) := by
  have hl : s.leadMember? job = some m := by simp [State.leadMember?, hm, Membership.lead, hr]
  simp [offerSet, he, hl, hfull, hf, hst, hsent]

theorem updMember_serviceKept {g : Membership → Membership} (hj : ∀ m, (g m).job = m.job) (job : Nat) (s : State) :
    ServiceKept s (updMember job g s) where
  atWork hw := hw.congr rfl rfl rfl rfl id
  seats := by
    have hg (m : Membership) : (if m.job = job then g m else m).job = m.job := by
      split
      · exact hj m
      · rfl
    simp [State.seats, updMember, Function.comp_def, hg]
  offered _ hf := hf

/-! ## The readback -/

/-- What the readback of the head's own TAKE leaves before its judgement: it is no longer pending (R66). -/
def takeHeard (f : RxFrame) (s : State) : State := (received .take f s).onRvu fun v => { v with pending := none }

theorem takeHeard_atWork (h : s.AtWork) : (takeHeard f s).AtWork := h.received.congr rfl rfl rfl rfl id

theorem takeHeard_own : (takeHeard f s).own = s.own := received_own .take f s

theorem takeHeard_entry? (job : Nat) : (takeHeard f s).entry? job = s.entry? job := received_entry? .take f s job

theorem takeHeard_member? (job : Nat) : (takeHeard f s).member? job = s.member? job := by
  have h := received_member? .take f s job
  simpa only [takeHeard, State.member?, State.onRvu_rvu] using h

/-- The head's own TAKE is no longer pending, whatever its outcome (R66). -/
theorem ownTake_heard (ha : s.Accepts .take f) (ho : s.isOwn f = true) : hear .take f (hearTake f) s =
    atEntry f (fun e s => takeRole e f.src.toNat (rxTakeRole f) (rxTakeCatch f) s) (takeHeard f s) := by
  have hown : (f.src.toNat == (received .take f s).own) = true := by rw [received_own]; exact ho
  rw [hear_accepts _ ha, hearTake, hown]
  rfl

theorem ownTake_unknown (hs : s.AtWork) (ha : s.Accepts .take f) (ho : s.isOwn f = true) (he : s.entry? (rxJob f) = none) :
    hear .take f (hearTake f) s = takeHeard f s := by
  rw [ownTake_heard ha ho, atEntry, unlessLift, if_neg (by simp [(takeHeard_atWork hs).noLift]), takeHeard_entry?, he]

theorem ownTake_held (hs : s.AtWork) (ha : s.Accepts .take f) (ho : s.isOwn f = true) (he : s.entry? (rxJob f) = some e) :
    hear .take f (hearTake f) s = takeRole e s.own (rxTakeRole f) (rxTakeCatch f) (takeHeard f s) := by
  have hsrc : f.src.toNat = s.own := by simpa [State.isOwn] using ho
  rw [ownTake_heard ha ho, atEntry, unlessLift, if_neg (by simp [(takeHeard_atWork hs).noLift]), takeHeard_entry?, he, hsrc]

end Sys2Proof.Machine
end

section
/-! SUPPORT. The choice of a role (R64, R65, R72): O17. -/

namespace Sys2Proof.Machine

open Sys2Proof

variable {s t u : State} {e : Entry} {p : Point} {c : Candidate} {i k : Nat} {caught : Bool}

/-! ## Lists split at a place -/

theorem getElem?_split {α : Type} {l : List α} {k : Nat} {x : α} (h : l[k]? = some x) :
    l = l.take k ++ x :: l.drop (k + 1) := by
  obtain ⟨hk, rfl⟩ := List.getElem?_eq_some_iff.1 h
  rw [List.getElem_cons_drop, List.take_append_drop]

theorem getElem?_of_mem_take {α : Type} {l : List α} {k : Nat} {x : α} (h : x ∈ l.take k) : ∃ j < k, l[j]? = some x := by
  obtain ⟨j, hj, rfl⟩ := List.mem_take_iff_getElem.1 h
  exact ⟨j, by omega, by simp⟩

/-! ## The best of a list -/

theorem Candidate.beats_iff {a b : Candidate} : a.beats b = true ↔
    b.priority < a.priority ∨ a.priority = b.priority ∧ a.distance < b.distance := by
  simp [Candidate.beats]

theorem bestOf_mem {l : List Candidate} (h : bestOf l = some c) : c ∈ l := by
  induction l generalizing c with
  | nil => cases h
  | cons a l ih =>
    unfold bestOf at h
    split at h
    · cases h
      exact .head _
    next d hd =>
      split at h
      · cases h
        exact .tail _ (ih hd)
      · cases h
        exact .head _

/-- The first of a list that beats all before it and that none after it beats. -/
theorem bestOf_split {A B : List Candidate} (hA : ∀ a ∈ A, c.beats a = true) (hB : ∀ b ∈ B, b.beats c = false) :
    bestOf (A ++ c :: B) = some c := by
  induction A with
  | nil =>
    cases h : bestOf B with
    | none => simp [bestOf, h]
    | some d => simp [bestOf, h, hB d (bestOf_mem h)]
  | cons a A ih =>
    have hrest := ih fun x hx => hA x (.tail a hx)
    simp [bestOf, hrest, hA a (.head _)]

/-! ## The roles a head might take -/

/-- Role `i` of an entry is servable and untaken, at point `p`, and the head has no role in its job (R65). -/
structure State.RoleOpen (s : State) (e : Entry) (i : Nat) (p : Point) : Prop where
  index    : i < 4
  point    : e.offer.points[i]? = some p
  servable : e.servable[i]? = some true
  untaken  : e.takers[i]? = some none
  apart    : e.hasTaker s.own = false

/-- The candidate that role `i` of an entry makes. -/
def State.candidate (s : State) (e : Entry) (i : Nat) (p : Point) : Candidate :=
  { job := e.offer.job, role := i, priority := e.offer.priority
    distance := chebyshev s.reference.1 s.reference.2 p.x p.y }

/-- What role `i` of an entry brings to the choice. -/
def roleCandidate (s : State) (e : Entry) (i : Nat) : Option Candidate :=
  match e.offer.points[i]?, e.servable[i]?, e.takers[i]? with
  | some p, some true, some none => some (s.candidate e i p)
  | _, _, _ => none

theorem entryCandidates_eq (s : State) (e : Entry) : entryCandidates s e =
    if e.hasTaker s.own then [] else (List.range 4).filterMap (roleCandidate s e) := rfl

theorem roleCandidate_some (h : roleCandidate s e i = some c) : ∃ p, e.offer.points[i]? = some p ∧
    e.servable[i]? = some true ∧ e.takers[i]? = some none ∧ c = s.candidate e i p := by
  unfold roleCandidate at h
  split at h
  next p hp hs ht => exact ⟨p, hp, hs, ht, by simpa using h.symm⟩
  · cases h

theorem State.RoleOpen.roleCandidate (h : s.RoleOpen e i p) : roleCandidate s e i = some (s.candidate e i p) := by
  simp [Machine.roleCandidate, h.point, h.servable, h.untaken]

theorem mem_entryCandidates (h : c ∈ entryCandidates s e) : ∃ i p, s.RoleOpen e i p ∧ c = s.candidate e i p := by
  rw [entryCandidates_eq] at h
  split at h
  · cases h
  next ht =>
    obtain ⟨i, hi, hc⟩ := List.mem_filterMap.1 h
    obtain ⟨p, h1, h2, h3, h4⟩ := roleCandidate_some hc
    exact ⟨i, p, ⟨List.mem_range.1 hi, h1, h2, h3, by simpa using ht⟩, h4⟩

/-- The roles before one in an entry. -/
theorem entryCandidates_split (h : s.RoleOpen e i p) : ∃ A B, entryCandidates s e = A ++ s.candidate e i p :: B ∧
    ∀ a ∈ A, ∃ j q, j < i ∧ s.RoleOpen e j q ∧ a = s.candidate e j q := by
  have hsplit := getElem?_split (l := List.range 4) (List.getElem?_range h.index)
  refine ⟨((List.range 4).take i).filterMap (roleCandidate s e), ((List.range 4).drop (i + 1)).filterMap (roleCandidate s e),
    ?_, fun a ha => ?_⟩
  · rw [entryCandidates_eq, if_neg (by simp [h.apart])]
    conv_lhs => rw [hsplit]
    rw [List.filterMap_append, List.filterMap_cons_some h.roleCandidate]
  · obtain ⟨j, hj, hc⟩ := List.mem_filterMap.1 ha
    obtain ⟨j', hj', hget⟩ := getElem?_of_mem_take hj
    obtain ⟨hlt, rfl⟩ := List.getElem?_eq_some_iff.1 hget
    rw [List.getElem_range] at hc
    obtain ⟨q, h1, h2, h3, h4⟩ := roleCandidate_some hc
    exact ⟨j', q, hj', ⟨by simpa using hlt, h1, h2, h3, h.apart⟩, h4⟩

/-! ## The candidates of the table -/

/-- A role of the entry may be taken: as a catch in its grace, or else in its take window (R65, R72). -/
def State.takeable (s : State) (caught : Bool) (e : Entry) : Bool :=
  if caught then s.cfg.catchFlag && e.grace.isSome else e.window.isSome && !e.formed

/-- The candidates of a table, in table order. -/
def State.pool (s : State) (caught : Bool) (l : List Entry) : List Candidate :=
  (l.filter (s.takeable caught)).flatMap (entryCandidates s)

theorem catchCandidates_eq (s : State) : s.catchCandidates = s.pool true s.jtb.entries := by
  unfold State.catchCandidates State.pool State.takeable
  cases s.cfg.catchFlag <;> simp

theorem candidates_eq (s : State) : s.candidates = s.pool false s.jtb.entries := rfl

/-- Entry `k` of the table has role `i` for the head to take, at point `p`. -/
structure State.Eligible (s : State) (caught : Bool) (k i : Nat) (e : Entry) (p : Point) : Prop where
  entry    : s.jtb.entries[k]? = some e
  takeable : s.takeable caught e = true
  role     : s.RoleOpen e i p

theorem mem_pool {l : List Entry} (h : c ∈ s.pool caught l) :
    ∃ e ∈ l, s.takeable caught e = true ∧ ∃ i p, s.RoleOpen e i p ∧ c = s.candidate e i p := by
  obtain ⟨e, he, hc⟩ := List.mem_flatMap.1 h
  obtain ⟨hl, ht⟩ := List.mem_filter.1 he
  exact ⟨e, hl, ht, mem_entryCandidates hc⟩

theorem pool_eligible (h : c ∈ s.pool caught s.jtb.entries) :
    ∃ k i e p, s.Eligible caught k i e p ∧ c = s.candidate e i p := by
  obtain ⟨e, he, ht, i, p, hr, hc⟩ := mem_pool h
  obtain ⟨k, hk⟩ := List.getElem?_of_mem he
  exact ⟨k, i, e, p, ⟨hk, ht, hr⟩, hc⟩

/-- The candidates before one in table order and role index. -/
theorem pool_split (h : s.Eligible caught k i e p) : ∃ A B, s.pool caught s.jtb.entries = A ++ s.candidate e i p :: B ∧
    ∀ a ∈ A, ∃ k' i' e' p', (k' < k ∨ k' = k ∧ i' < i) ∧ s.Eligible caught k' i' e' p' ∧ a = s.candidate e' i' p' := by
  obtain ⟨A, B, hsplit, hA⟩ := entryCandidates_split h.role
  refine ⟨s.pool caught (s.jtb.entries.take k) ++ A, B ++ s.pool caught (s.jtb.entries.drop (k + 1)), ?_, fun a ha => ?_⟩
  · conv_lhs => rw [getElem?_split h.entry]
    simp [State.pool, List.filter_append, h.takeable, hsplit]
  · rcases List.mem_append.1 ha with ha | ha
    · obtain ⟨e', he', ht', i', p', hr', hc'⟩ := mem_pool ha
      obtain ⟨k', hk', hget⟩ := getElem?_of_mem_take he'
      exact ⟨k', i', e', p', .inl hk', ⟨hget, ht', hr'⟩, hc'⟩
    · obtain ⟨j, q, hj, hr, hc⟩ := hA a ha
      exact ⟨k, j, e, q, .inr ⟨rfl, hj⟩, ⟨h.entry, h.takeable, hr⟩, hc⟩

/-- The candidate chosen: highest in priority, then nearest, then first in table order (R65). -/
theorem bestOf_pool {d : Point → Nat} (hd : ∀ p, chebyshev s.reference.1 s.reference.2 p.x p.y = d p)
    (h : s.Eligible caught k i e p)
    (hbest : ∀ k' i' e' p', s.Eligible caught k' i' e' p' → e'.offer.priority < e.offer.priority ∨
      e'.offer.priority = e.offer.priority ∧ (d p < d p' ∨ d p = d p' ∧ (k < k' ∨ k = k' ∧ i ≤ i'))) :
    bestOf (s.pool caught s.jtb.entries) = some (s.candidate e i p) := by
  obtain ⟨A, B, hsplit, hA⟩ := pool_split h
  rw [hsplit]
  refine bestOf_split (fun a ha => ?_) fun b hb => ?_
  · obtain ⟨k', i', e', p', hpos, helig, rfl⟩ := hA a ha
    have hle := hbest k' i' e' p' helig
    simp only [Candidate.beats_iff, State.candidate, hd]
    omega
  · obtain ⟨k', i', e', p', helig, rfl⟩ := pool_eligible (hsplit ▸ List.mem_append_right A (.tail _ hb))
    have hle := hbest k' i' e' p' helig
    rw [Bool.eq_false_iff, ne_eq, Candidate.beats_iff]
    simp only [State.candidate, hd]
    omega

theorem bestOf_pool_none (h : ∀ k i e p, ¬ s.Eligible caught k i e p) : bestOf (s.pool caught s.jtb.entries) = none := by
  have hnil : s.pool caught s.jtb.entries = [] := List.eq_nil_iff_forall_not_mem.2 fun c hc => by
    obtain ⟨k, i, e, p, he, -⟩ := pool_eligible hc
    exact h k i e p he
  rw [hnil]
  rfl

/-- The choice reads the table, the head's number and catch flag, and its reference position. -/
theorem pool_congr (h1 : t.own = s.own) (h2 : t.cfg = s.cfg) (h3 : t.reference = s.reference) : t.pool = s.pool := by
  have hrole : roleCandidate t = roleCandidate s := by
    funext e i
    simp only [roleCandidate, State.candidate, h3]
  have hcand : entryCandidates t = entryCandidates s := by
    funext e
    rw [entryCandidates_eq, entryCandidates_eq, h1, hrole]
  have htake : t.takeable = s.takeable := by
    funext caught e
    simp only [State.takeable, h2]
  funext caught l
  rw [State.pool, State.pool, hcand, htake]

theorem chebyshev_eq (x y : Nat) (p : Point) :
    chebyshev x y p.x p.y = max ((p.x : Int) - x).natAbs ((p.y : Int) - y).natAbs := by
  unfold chebyshev
  omega

end Sys2Proof.Machine
end

section
/-! SUPPORT. The TAKE that a head which may take offers (R64, R65, R72), and O17. -/

namespace Sys2Proof.Machine

open Sys2Proof

variable {s t u : State} {f : RxFrame} {e : Entry} {p : Point} {i k : Nat} {caught : Bool}

/-! ## The take conditions -/

theorem memberRoom_iff : s.memberRoom = true ↔ s.rvu.next = none ∧
    ∀ m, s.rvu.current = some m → m.state = .landed ∨ m.state = .measuring ∨ m.state = .hold := by
  cases hc : s.rvu.current <;> cases hn : s.rvu.next <;> simp [State.memberRoom, hc, hn, or_assoc]

/-- The take conditions (R64, R170). -/
theorem mayTake_iff : s.mayTake = true ↔ s.boardActive = true ∧ s.planPresent = true ∧ s.lif.post.length < 6 ∧
    s.msq.motion ≠ .joining ∧ s.msq.motion ≠ .offline ∧ s.msq.motion ≠ .frozen ∧ s.stc.restart = .noRestart ∧
      s.flu.fence = .noFence ∧ s.rvu.pending = none ∧ s.memberRoom = true := by
  simp [State.mayTake, and_assoc]

theorem mayTake_iff_atWork (h : s.AtWork) : s.mayTake = true ↔
    s.boardActive = true ∧ (s.rosterOf 0).presence = .present ∧ s.lif.post.length < 6 ∧
      s.msq.motion ≠ .offline ∧ s.msq.motion ≠ .frozen ∧ s.stc.restart = .noRestart ∧ s.rvu.pending = none ∧
      s.rvu.next = none ∧
      (∀ m, s.rvu.current = some m → m.state = .landed ∨ m.state = .measuring ∨ m.state = .hold) := by
  simp [mayTake_iff, State.planPresent, h.joined, h.noFence, memberRoom_iff]

theorem boardActive_congr (h : t.stc = s.stc) : t.boardActive = s.boardActive := by simp only [State.boardActive, h]

theorem planPresent_congr (h : t.stc = s.stc) : t.planPresent = s.planPresent := by
  simp only [State.planPresent, State.rosterOf, h]
  split <;> rfl

theorem memberRoom_congr (h : t.rvu = s.rvu) : t.memberRoom = s.memberRoom := by simp only [State.memberRoom, h]

theorem settleTake_idle (h : s.mayTake = false) : settleTake s = s := by
  rw [settleTake, if_neg (by simp [h])]

/-- The role chosen: of the catch candidates, where there is one, and of the others otherwise (R65, R72). -/
theorem settleTake_eq (h : s.mayTake = true) : settleTake s =
    match bestOf s.catchCandidates with
    | some c => offerTake c true s
    | none => match bestOf s.candidates with
      | some c => offerTake c false s
      | none => s := if_pos h

theorem settleTake_catch {c : Candidate} (h : s.mayTake = true) (hc : bestOf (s.pool true s.jtb.entries) = some c) :
    settleTake s = offerTake c true s := by
  rw [settleTake_eq h, catchCandidates_eq, hc]

theorem settleTake_other {c : Candidate} (h : s.mayTake = true) (hn : bestOf (s.pool true s.jtb.entries) = none)
    (hc : bestOf (s.pool false s.jtb.entries) = some c) : settleTake s = offerTake c false s := by
  rw [settleTake_eq h, catchCandidates_eq, hn, candidates_eq, hc]

theorem settleTake_none (hn : ∀ caught, bestOf (s.pool caught s.jtb.entries) = none) : settleTake s = s := by
  by_cases h : s.mayTake = true
  · rw [settleTake_eq h, catchCandidates_eq, hn, candidates_eq, hn]
  · exact settleTake_idle (by simpa using h)

/-! ## The head when it takes -/

/-- The state in which a part at work whose claim is not stale takes: what the blocks do before it. -/
def poised (s : State) : State := settleSpace (settleIdle (settleServe (settleHandover s)))

theorem poised_workKept (s : State) : WorkKept s (poised s) :=
  (settleHandover_workKept s).trans <| (settleServe_workKept _).trans <| (settleIdle_workKept _).trans (settleSpace_workKept _)

theorem poised_stc (s : State) : (poised s).stc = s.stc := by simp [poised]

theorem poised_rvu (s : State) : (poised s).rvu = (settleHandover s).rvu := by simp [poised]

theorem settle_poised (h : s.AtWork) (hc : s.claimStale = false) :
    settle s = regap (settleCensus (settleTake (poised s))) := by
  have hcl : settleClaim s = s := by simp [settleClaim, hc]
  rw [settle_atWork h (by rw [hcl]; exact h.joined), hcl]
  rfl

theorem settleHandover_pending (s : State) : (settleHandover s).rvu.pending = s.rvu.pending := by
  unfold settleHandover
  (repeat' split) <;> rfl

/-- A membership handed over gives no room for another. -/
theorem settleHandover_memberRoom (s : State) : (settleHandover s).memberRoom = s.memberRoom := by
  unfold settleHandover
  split
  next m hc =>
    split
    next hf =>
      split
      · cases hn : s.rvu.next with
        | none =>
          simp only [State.memberRoom, State.onMsq_rvu, State.onRvu_rvu, hc, hn, hf.1]
          rfl
        | some n => simp [State.memberRoom, hn]
      · rfl
    · rfl
  · rfl

/-- A head that may not take does not come to it by what the blocks do before. -/
theorem poised_mayTake (h : s.AtWork) (ht : (poised s).mayTake = true) : s.mayTake = true := by
  have hk := poised_workKept s
  have hmotion (m : MotionState) (he : m.engaged = true) (hm : (poised s).msq.motion ≠ m) : s.msq.motion ≠ m := fun hs =>
    hm ((hk.motion (hs ▸ he)).trans hs)
  obtain ⟨hboard, hplan, hpost, -, hoff, hfroz, hrest, hfence, hpend, hroom⟩ := mayTake_iff.1 ht
  rw [boardActive_congr (poised_stc s)] at hboard
  rw [planPresent_congr (poised_stc s)] at hplan
  rw [poised_rvu, settleHandover_pending] at hpend
  rw [memberRoom_congr (poised_rvu s), settleHandover_memberRoom] at hroom
  exact mayTake_iff.2 ⟨hboard, hplan, hk.post ▸ hpost, h.joined, hmotion _ rfl hoff, hmotion _ rfl hfroz,
    hk.restart ▸ hrest, hk.flu ▸ hfence, hpend, hroom⟩

/-- IDLE goes over to PARKING at most, and keeps the tip as reference. -/
theorem settleIdle_motion (s : State) : (settleIdle s).msq.motion = s.msq.motion ∨
    s.msq.motion = .idle ∧ (settleIdle s).msq.motion = .parking := by
  unfold settleIdle
  split
  next hi =>
    split
    · exact .inr ⟨hi, (askPark_kept _).1⟩
    · exact .inl rfl
  · exact .inl rfl

theorem settleIdle_spaceEvent (s : State) : (settleIdle s).msq.spaceEvent = s.msq.spaceEvent := by
  unfold settleIdle
  split
  · split
    · exact (askPark_kept _).2.2.2
    · rfl
  · rfl

/-- A head that may take, with no point waiting and no event of the claim space, does at most go over from IDLE to PARKING
before it takes. -/
theorem poised_eq (h : s.mayTake = true) (hw : s.msq.waiting = none) (he : s.msq.spaceEvent = false) :
    poised s = settleIdle s := by
  obtain ⟨-, -, -, -, -, -, -, -, -, hroom⟩ := mayTake_iff.1 h
  have hh : settleHandover s = s := by
    unfold settleHandover
    split
    next m hc =>
      refine if_neg fun hf => ?_
      have hst := (memberRoom_iff.1 hroom).2 m hc
      simp [hf.1] at hst
    · rfl
  have hs : settleServe s = s := by simp only [settleServe, hw]
  rw [poised, hh, hs, settleSpace, if_neg (by simp [settleIdle_spaceEvent, he])]

theorem settleIdle_reference (s : State) : (settleIdle s).reference = s.reference := by
  have hx : (settleIdle s).tipX = s.tipX := by simp [State.tipX]
  have hy : (settleIdle s).tipY = s.tipY := by simp [State.tipY]
  rcases settleIdle_motion s with hm | ⟨h1, h2⟩
  · simp [State.reference, hm, hx, hy, State.cfg]
  · simp [State.reference, h1, h2, hx, hy]

theorem settleIdle_mayTake (h : s.mayTake = true) : (settleIdle s).mayTake = true := by
  have hmotion (m : MotionState) (hne : s.msq.motion ≠ m) (hp : .parking ≠ m) : (settleIdle s).msq.motion ≠ m := by
    rcases settleIdle_motion s with hm | ⟨-, hm⟩ <;> rw [hm]
    · exact hne
    · exact hp
  obtain ⟨hboard, hplan, hpost, hjoin, hoff, hfroz, hrest, hfence, hpend, hroom⟩ := mayTake_iff.1 h
  rw [mayTake_iff, boardActive_congr (settleIdle_stc s), planPresent_congr (settleIdle_stc s),
    memberRoom_congr (settleIdle_rvu s), settleIdle_stc, settleIdle_flu, settleIdle_rvu, settleIdle_lif_post]
  exact ⟨hboard, hplan, hpost, hmotion _ hjoin (by decide), hmotion _ hoff (by decide), hmotion _ hfroz (by decide), hrest,
    hfence, hpend, hroom⟩

/-- Such a head takes with the conditions and the candidates it had (R64, R65). -/
theorem poised_takes (ht : s.mayTake = true) (hw : s.msq.waiting = none) (he : s.msq.spaceEvent = false) :
    (poised s).mayTake = true ∧ (poised s).pool = s.pool := by
  rw [poised_eq ht hw he]
  exact ⟨settleIdle_mayTake ht, pool_congr (by simp [State.own]) (by simp [State.cfg]) (settleIdle_reference s)⟩

/-! ## The TAKE offered -/

theorem settleCensus_offered (s : State) : (settleCensus s).offered = s.offered := by
  unfold settleCensus
  split
  · rw [offerSafety_offered]
    rfl
  · rfl

/-- A TAKE offered at the end of a command is pending, and offered to the WORK queue (R64, R66). -/
theorem settle_offersTake {c : Candidate} (h : s.AtWork) (hs : s.lif.silent = false) (hc : s.claimStale = false)
    (ht : settleTake (poised s) = offerTake c caught (poised s)) :
    (settle s).rvu.pending = some { job := c.job, role := c.role, catchFlag := caught } ∧
      TxFrame.take c.job c.role caught ∈ (settle s).offered := by
  have hk := poised_workKept s
  rw [settle_poised h hc, ht]
  refine ⟨by simp [offerTake], ?_⟩
  change _ ∈ (settleCensus _).offered
  rw [settleCensus_offered, offerTake]
  exact offerWork_mem (hk.silent.trans hs) (by simpa [State.lifting, poised_stc] using h.noLift)

/-- No TAKE offered leaves the pending one as it was. -/
theorem settle_offersNone (h : s.AtWork) (hc : s.claimStale = false) (ht : settleTake (poised s) = poised s) :
    (settle s).rvu.pending = s.rvu.pending := by
  rw [settle_poised h hc, ht]
  simp [poised_rvu, settleHandover_pending]

theorem eligible_iff : s.Eligible caught k i e p ↔ s.jtb.entries[k]? = some e ∧ i < 4 ∧ e.offer.points[i]? = some p ∧
    e.servable[i]? = some true ∧ e.takers[i]? = some none ∧ e.hasTaker s.own = false ∧
      if caught = true then s.cfg.catchFlag = true ∧ e.grace.isSome = true else e.window.isSome = true ∧ e.formed = false := by
  have ht : s.takeable caught e = true ↔
      if caught = true then s.cfg.catchFlag = true ∧ e.grace.isSome = true else e.window.isSome = true ∧ e.formed = false := by
    cases caught <;> simp [State.takeable]
  rw [← ht]
  exact ⟨fun ⟨h1, h2, ⟨h3, h4, h5, h6, h7⟩⟩ => ⟨h1, h3, h4, h5, h6, h7, h2⟩,
    fun ⟨h1, h3, h4, h5, h6, h7, h2⟩ => ⟨h1, h2, ⟨h3, h4, h5, h6, h7⟩⟩⟩

/-! ## The obligation -/

/-- A TAKE of the head's own that wins a servable role (R70, R74, R77). -/
theorem ownTake_seats {r : State} {role : Nat} {c : Bool} (hw : r.AtWork) (ho : r.msq.motion ≠ .offline)
    (he : r.entry? e.offer.job = some e) (hwon : e.judgeTake r.own role c = .won) (hsv : e.servable[role]? = some true)
    (hm : r.member? e.offer.job = none) (hf : e.formed = false) :
    let v := recordTaker e r.own role r
    let w := seated (.fresh e.offer.job role e.offer.points.length) v
    let takers := e.takers.set role (some r.own)
    (role ≠ 0 ∨ takers.any (·.isNone) = true → takeRole e r.own role c r = w) ∧
      (role = 0 → takers.all (·.isSome) = true → r.lif.silent = false →
        (settle (takeRole e r.own role c r)).jtb = v.jtb ∧
          TxFrame.set e.offer.job (takers.filterMap id) ∈ (settle (takeRole e r.own role c r)).offered) := by
  intro v w takers
  have hmem : w.member? e.offer.job = some (.fresh e.offer.job role e.offer.points.length) := seated_member? (s := v) hm
  have hent : w.entry? e.offer.job = some { e with takers := takers } := recordTaker_entry? he
  have hvw : v.AtWork := hw.congr rfl rfl rfl rfl id
  have hww : w.AtWork := hvw.congr rfl rfl rfl rfl id
  have htake : takeRole e r.own role c r = offerSet e.offer.job w := by
    rw [takeRole_own_won hwon, ownWin_eq hvw ho, if_pos hsv, makeMember_eq (s := v) (m := .fresh ..) hm]
  rw [htake]
  refine ⟨fun h => ?_, fun h0 hall hsil => ?_⟩
  · rcases h with h | h
    · exact offerSet_noLead (leadMember?_of_role hmem h)
    · refine offerSet_notFull hent ?_
      obtain ⟨x, hx, hxn⟩ := List.any_eq_true.1 h
      exact List.all_eq_false.2 ⟨x, hx, by simpa using hxn⟩
  · rw [offerSet_full hent hmem h0 rfl rfl hf hall]
    have hkept := (offerWork_serviceKept (.set e.offer.job (takers.filterMap id)) w).trans
      (updMember_serviceKept (g := fun m => { m with setSent := true }) (fun _ => rfl) e.offer.job _)
    have hk := settle_workKept (hkept.atWork hww)
    refine ⟨hk.jtb.trans (by simp [updMember]; rfl), hk.offered _ ?_ fun _ => rfl⟩
    exact (updMember_serviceKept (g := fun m => { m with setSent := true }) (fun _ => rfl) e.offer.job _).offered _
      (offerWork_mem hsil hww.noLift)

/-- A TAKE of the head's own that wins a role it cannot serve is given up by DROP(SPACE) (R70). -/
theorem ownTake_givesUp {r : State} {role : Nat} {c : Bool} (hw : r.AtWork) (ho : r.msq.motion ≠ .offline)
    (hwon : e.judgeTake r.own role c = .won) (hsv : e.servable[role]? ≠ some true) (hm : r.member? e.offer.job = none)
    (hsil : r.lif.silent = false) :
    let t := settle (takeRole e r.own role c r)
    t.jtb = (recordTaker e r.own role r).jtb ∧ TxFrame.drop e.offer.job .space 0 ∈ t.offered ∧
      (r.msq.motion.engaged = true → (∀ m, r.rvu.current = some m → m.state ≠ .formed) →
        t.rvu.current = r.rvu.current ∧ t.rvu.next = r.rvu.next) := by
  intro t
  set v := recordTaker e r.own role r with hv
  have hvw : v.AtWork := hw.congr rfl rfl rfl rfl id
  set w := offerWork (.drop e.offer.job .space 0) v with hwdef
  have hww : w.AtWork := (offerWork_serviceKept ..).atWork hvw
  have hmem : w.member? e.offer.job = none := (member?_congr (t := w) (s := r) (by simp [w, v, recordTaker, updEntry]) _).trans hm
  have ht : t = settle w := by
    change settle (takeRole e r.own role c r) = settle w
    rw [takeRole_own_won hwon, ownWin_eq hvw ho, if_neg hsv, offerSet_noLead (leadMember?_none hmem)]
  have hk := settle_workKept hww
  rw [ht]
  refine ⟨hk.jtb.trans (by simp [w]), hk.offered _ (offerWork_mem hsil hvw.noLift) fun _ => rfl, fun he hc => ?_⟩
  have hrvu : w.rvu = r.rvu := by simp [w, v, recordTaker, updEntry]
  have hmsq : w.msq = r.msq := by simp [w, v, recordTaker, updEntry]
  have hcur := hk.current (by rwa [hmsq]) (by rwa [hrvu])
  rwa [hrvu] at hcur

/-- A head in which a TAKE is decided by the take conditions and the candidates alone: its claim is not stale, no point waits,
and nothing has happened in the claim space. -/
structure State.Settled (s : State) : Prop where
  atWork  : s.AtWork
  fresh   : s.claimStale = false
  noPoint : s.msq.waiting = none
  noEvent : s.msq.spaceEvent = false

theorem poised_jtb (s : State) : (poised s).jtb = s.jtb := (poised_workKept s).jtb

theorem settle_takesCatch {c : Candidate} (h : s.Settled) (hs : s.lif.silent = false) (hm : s.mayTake = true)
    (hc : bestOf (s.pool true s.jtb.entries) = some c) :
    (settle s).rvu.pending = some { job := c.job, role := c.role, catchFlag := true } ∧
      TxFrame.take c.job c.role true ∈ (settle s).offered := by
  obtain ⟨hpm, hpp⟩ := poised_takes hm h.noPoint h.noEvent
  exact settle_offersTake h.atWork hs h.fresh (settleTake_catch hpm (by rwa [hpp, poised_jtb]))

theorem settle_takesOther {c : Candidate} (h : s.Settled) (hs : s.lif.silent = false) (hm : s.mayTake = true)
    (hn : bestOf (s.pool true s.jtb.entries) = none) (hc : bestOf (s.pool false s.jtb.entries) = some c) :
    (settle s).rvu.pending = some { job := c.job, role := c.role, catchFlag := false } ∧
      TxFrame.take c.job c.role false ∈ (settle s).offered := by
  obtain ⟨hpm, hpp⟩ := poised_takes hm h.noPoint h.noEvent
  exact settle_offersTake h.atWork hs h.fresh (settleTake_other hpm (by rwa [hpp, poised_jtb]) (by rwa [hpp, poised_jtb]))

theorem settle_takesNone (h : s.Settled)
    (hn : s.mayTake = false ∨ ∀ caught, bestOf (s.pool caught s.jtb.entries) = none) :
    (settle s).rvu.pending = s.rvu.pending := by
  refine settle_offersNone h.atWork h.fresh ?_
  by_cases hm : s.mayTake = true
  · obtain ⟨-, hpp⟩ := poised_takes hm h.noPoint h.noEvent
    exact settleTake_none fun caught => by simpa [hpp, poised_jtb] using hn.resolve_left (by simp [hm]) caught
  · exact settleTake_idle (Bool.eq_false_iff.2 (mt (poised_mayTake h.atWork) hm))

/-- Settles O17: the readback by its judgement (`ownTake_held`, `ownTake_seats`, `ownTake_givesUp`), the TAKE offered
(`settle_takesCatch`, `settle_takesOther`) by the choice among the candidates (`bestOf_pool`). -/
theorem ownTakeMakesAMembership : Obligations.OwnTakeMakesAMembership := by
  refine ⟨fun s f hs ho ha hown => ⟨fun he => ?_, fun e he => ?_⟩, fun s hs hsil hwin hst hw hev => ?_⟩
  · exact live_work hs.noReset (ownTake_unknown hs ha hown he) (takeHeard_atWork hs)
  · set r := takeHeard f s with hr
    have hrw : r.AtWork := takeHeard_atWork hs
    have hrm : r.msq.motion ≠ .offline := by simpa [r, takeHeard] using ho
    have hro : s.own = r.own := takeHeard_own.symm
    have hheld := ownTake_held hs ha hown he
    have hexec := (live_eq _ hs.noReset).trans (congrArg (fun t => Host.Outcome.next (settle t)) hheld)
    rw [← hr, hro] at hheld hexec
    have hcur : r.rvu.current = s.rvu.current := by simp [r, takeHeard]
    intro onTime
    rw [hro]
    refine ⟨fun h => live_work hs.noReset ?_ (hrw.congr rfl rfl rfl rfl id), fun hlen h => live_work hs.noReset ?_ hrw,
      fun hlen hf hont hto htaker => ?_⟩
    · rw [hheld, takeRole, judgeTake_discarded h]
      rfl
    · rw [hheld, takeRole, judgeTake_lost hlen h]
      rfl
    intro takers v
    have hwon : e.judgeTake r.own (rxTakeRole f) (rxTakeCatch f) = .won := judgeTake_wins hlen hf hont hto htaker
    have hsil (h : s.lif.silent = false) : r.lif.silent = false := (received_silent .take f s).trans h
    have hmr (h : s.member? e.offer.job = none) : r.member? e.offer.job = none := by rw [takeHeard_member?, h]
    refine ⟨fun hsv hm => ?_, fun hsv hsl hm => ?_⟩
    · have hent : r.entry? e.offer.job = some e := by rw [takeHeard_entry?, (entry?_mem he).2, he]
      obtain ⟨hseat, hset⟩ := ownTake_seats hrw hrm hent hwon hsv (hmr hm) hf
      rw [seated_eq (s := recordTaker e r.own (rxTakeRole f) r) hcur] at hseat
      exact ⟨fun h => live_work hs.noReset (hheld.trans (hseat h)) (hrw.congr rfl rfl rfl rfl id),
        fun h0 hall hsl => ⟨_, hexec, hset h0 hall (hsil hsl)⟩⟩
    · obtain ⟨hjtb, hdrop, hkeep⟩ := ownTake_givesUp hrw hrm hwon hsv (hmr hm) (hsil hsl)
      exact ⟨_, hexec, hjtb, hdrop, fun h1 h2 => by
        simpa [r, takeHeard] using hkeep (by simpa [r, takeHeard] using h1) (by simpa [r, takeHeard] using h2)⟩
  intro able distance candidate best takes
  have hexec : exec .settleEnd s = .next (settle s) := (live_eq _ hs.noReset).trans (by rw [beginSampling, hwin])
  have hjtb : (settle s).jtb = s.jtb := (settle_workKept hs).jtb
  have hable : able ↔ s.mayTake = true := (mayTake_iff_atWork hs).symm
  have hset : s.Settled := ⟨hs, hst, hw, hev⟩
  have hcand (caught : Bool) (k i : Nat) (e : Entry) (p : Point) : candidate caught k i e p ↔ s.Eligible caught k i e p :=
    eligible_iff.symm
  have hdist (p : Point) : chebyshev s.reference.1 s.reference.2 p.x p.y = distance p := chebyshev_eq ..
  have hbest {caught : Bool} {k i : Nat} {e : Entry} {p : Point} (h : best caught k i e p) :
      bestOf (s.pool caught s.jtb.entries) = some (s.candidate e i p) :=
    bestOf_pool hdist ((hcand ..).1 h.1) fun k' i' e' p' h' => h.2 k' i' e' p' ((hcand ..).2 h')
  have hnone {caught : Bool} (h : ∀ k i e p, ¬ candidate caught k i e p) : bestOf (s.pool caught s.jtb.entries) = none :=
    bestOf_pool_none fun k i e p h' => h k i e p ((hcand ..).2 h')
  refine ⟨fun ha k i e p hb => ?_, fun ha hn k i e p hb => ?_, fun h => ⟨_, hexec, settle_takesNone hset ?_, hjtb⟩⟩
  · exact ⟨_, hexec, hjtb, settle_takesCatch hset hsil (hable.1 ha) (hbest hb)⟩
  · exact ⟨_, hexec, hjtb, settle_takesOther hset hsil (hable.1 ha) (hnone hn) (hbest hb)⟩
  · rcases h with h | h
    · exact .inl (Bool.eq_false_iff.2 (mt hable.2 h))
    · exact .inr fun caught => hnone (h caught)

end Sys2Proof.Machine
end

section
/-! SUPPORT. A TAKE of another head (R69, R73, R74): O16. -/

namespace Sys2Proof.Machine

open Sys2Proof

variable {s t : State} {f : RxFrame} {e : Entry} {m : Membership} {role src : Nat} {c : Bool}

/-- A TAKE of another head for a held job is judged, and leaves the head's own pending one (R66, R69). -/
theorem peerTake_heard (hs : s.Running) (ha : s.Accepts .take f) (ho : s.isOwn f = false) (he : s.entry? (rxJob f) = some e) :
    hear .take f (hearTake f) s = takeRole e f.src.toNat (rxTakeRole f) (rxTakeCatch f) (received .take f s) := by
  have hown : (f.src.toNat == (received .take f s).own) = false := by
    rw [received_own]
    exact ho
  rw [hear_accepts _ ha, hearTake, hown]
  exact (hear_accepts _ ha).symm.trans (entry_heard hs ha he)

/-- Another head that wins a role is recorded, and the lead looks whether its entry is full (R69, R74). -/
theorem takeRole_peer_won (h : e.judgeTake src role c = .won) (hsrc : src ≠ s.own) :
    takeRole e src role c s = offerSet e.offer.job (recordTaker e src role s) := by
  have hown : src ≠ (updEntry e.offer.job (fun e => { e with takers := e.takers.set role (some src) }) s).own := hsrc
  simp only [takeRole, h, if_neg hown]
  rfl

theorem offerSet_running (h : s.Running) (job : Nat) : (offerSet job s).Running := h.congr (by simp) (by simp) (by simp)

theorem leadMember?_iff {job : Nat} : s.leadMember? job = some m ↔ s.member? job = some m ∧ m.role = 0 := by
  cases hm : s.member? job with
  | none => simp [State.leadMember?, hm]
  | some n =>
    simp only [State.leadMember?, hm, Membership.lead, Option.ite_none_right_eq_some, Option.some.injEq, beq_iff_eq]
    exact ⟨fun ⟨h0, h⟩ => ⟨h, h ▸ h0⟩, fun ⟨h, h0⟩ => ⟨h ▸ h0, h⟩⟩

theorem updMember_offered (job : Nat) (g : Membership → Membership) (s : State) : (updMember job g s).offered = s.offered := rfl

/-- Settles O16: by the judgement of R69 (`judgeTake_discarded`, `judgeTake_lost`, `judgeTake_wins`), and the SET of a lead whose
entry a won TAKE fills (`offerSet_full`). -/
theorem takeIsJudged : Obligations.TakeIsJudged := by
  intro s f e hs ha ho he r u role onTime won
  have hheard := peerTake_heard hs ha ho he
  have hsrc : f.src.toNat ≠ r.own := by
    rw [received_own]
    simpa [State.isOwn] using ho
  refine ⟨fun h => live_run hs.noReset ?_ (hs.received.congr rfl rfl rfl), fun hlen h => live_run hs.noReset ?_ hs.received,
    fun hlen hf hont hto htaker => ?_⟩
  · have hj : e.judgeTake f.src.toNat (rxTakeRole f) (rxTakeCatch f) = .discarded :=
      judgeTake_discarded (h.imp_right And.right)
    rw [hheard, takeRole, hj]
    rfl
  · rw [hheard, takeRole, judgeTake_lost hlen h]
  · set v := recordTaker e f.src.toNat role r with hv
    have hwon := hheard.trans (takeRole_peer_won (s := r) (judgeTake_wins hlen hf hont hto htaker) hsrc)
    have hvr : v.Running := hs.received.congr rfl rfl rfl
    have hk := settle_runKept (offerSet_running hvr e.offer.job)
    have hexec : exec (.take f) s = .next (settle (offerSet e.offer.job v)) :=
      (live_eq _ hs.noReset).trans (congrArg (fun t => Host.Outcome.next (settle t)) hwon)
    have htable : won (settle (offerSet e.offer.job v)) := by
      refine (hk.jtb.trans (offerSet_jtb ..)).trans ?_
      simp only [v, recordTaker, updEntry, State.onJtb_jtb, r, received_jtb]
    refine ⟨⟨_, hexec, htable, ?_, ?_, ?_⟩, fun m hw hsil hm hst hsent hall => ⟨_, hexec, htable, ?_⟩⟩
    · exact hk.log.trans (offerSet_log ..)
    · exact (hk.space.trans (offerSet_space ..)).trans (received_space ..)
    · exact (hk.claimState.trans (offerSet_claimState ..)).trans (received_claimState ..)
    · obtain ⟨hmem, hrole⟩ := leadMember?_iff.1 hm
      have hent : v.entry? e.offer.job = some { e with takers := e.takers.set role (some f.src.toNat) } :=
        recordTaker_entry? (by rw [received_entry?, (entry?_mem he).2, he])
      have hvw : v.AtWork := hw.received.congr rfl rfl rfl rfl id
      have hset := offerSet_full hent ((received_member? ..).trans hmem) hrole hst hsent hf hall
      have hvo : (offerSet e.offer.job v).AtWork :=
        hvw.congr (by simp) (by simp) (by simp) (halt_congr (by simp) (by simp)) (by simp)
      refine (settle_workKept hvo).offered _ ?_ fun _ => rfl
      rw [hset, updMember_offered]
      exact offerWork_mem ((received_silent ..).trans hsil) hvw.noLift

end Sys2Proof.Machine
end

section
/-! SUPPORT. What a head at work that abandons its current membership leaves (R77, R79, R136), and the timers of a membership
(R84, R90): O26. -/

namespace Sys2Proof.Machine

open Sys2Proof

variable {s t u : State} {m : Membership} {job n : Nat} {reason : DropReason}

/-! ## IDLE or PARKED -/

theorem idleOrParked_holding (h : s.scu.held ≠ none) : idleOrParked s = enterIdle s := if_pos (Option.isSome_iff_ne_none.2 h)

theorem idleOrParked_free (h : s.scu.held = none) : idleOrParked s = enterParked s := if_neg (by simp [h])

theorem enterParked_msq (s : State) : (enterParked s).msq = { s.msq with
    motion := .parked, grant := none, parkRequest := false, spaceWait := none, spaceExpired := false
    abandonMark := false, lateStop := false } := changeBeacon_msq _

theorem idleOrParked_motion (s : State) : (idleOrParked s).msq.motion = .idle ∨ (idleOrParked s).msq.motion = .parked := by
  by_cases h : s.scu.held = none
  · exact .inr (by rw [idleOrParked_free h, enterParked_msq])
  · exact .inl (by rw [idleOrParked_holding h]; rfl)

/-! ## The re-check of a queued claim -/

/-- A VOID ends a membership in CLAIMING alone, and there in none that MSQ has abandoned (R128, R136). -/
theorem reportVoid_rvu (h : s.msq.motion = .claiming → s.msq.abandonMark = true) : (reportVoid s).rvu = s.rvu := by
  unfold reportVoid
  split
  next hm =>
    rw [if_pos (h hm)]
    exact idleOrParked_rvu s
  · rfl
  · rfl

theorem settleClaim_rvu (h : s.msq.motion = .claiming → s.msq.abandonMark = true) : (settleClaim s).rvu = s.rvu := by
  have hv : (reportVoid (withdrawClaim s)).rvu = s.rvu :=
    (reportVoid_rvu (by rwa [withdrawClaim_msq])).trans (withdrawClaim_rvu s)
  simp only [settleClaim, withdrawAndReport]
  split
  · split
    · exact hv
    · exact withdrawClaim_rvu s
  · rfl

/-- What the blocks do of themselves leaves the memberships in their jobs, unless it ends the space wait of a claim. -/
theorem settle_seats_marked (hw : s.AtWork) (h : s.msq.motion = .claiming → s.msq.abandonMark = true) :
    (settle s).seats = s.seats := (settle_seats hw).trans (seats_congr (settleClaim_rvu h))

theorem member?_none_of_seats {o : Option Membership} (h : t.seats = (o.map (·.job), none)) (ho : ∀ n, o = some n → n.job ≠ job) :
    t.member? job = none := by
  refine member?_of_not_mem ?_
  rw [memberJobs_of_seats, h]
  cases o with
  | none => simp
  | some n => simpa [eq_comm] using ho n rfl

/-! ## The abandonment of the current membership -/

/-- What a head that abandons its current membership has left: the next one is current, the job table, the claim map, the claim
and the post queue stand, and a head that was down lifts (R77, R136, R166). -/
structure Departed (s t : State) : Prop where
  seats      : t.seats = (s.rvu.next.map (·.job), none)
  jtb        : t.jtb = s.jtb
  space      : t.space = s.space
  claimState : t.claimState = s.claimState
  post       : t.lif.post = s.lif.post
  offered    : ∀ f ∈ s.offered, (∀ j, isReadingOf j f = false) → f ∈ t.offered
  lifted     : s.msq.motion.isDown → t.meu = Meu.powerOn ∧ t.msq.motion = .lift ∧
    t.msq.lastCommand = some { number := s.nextCommand, order := .move s.tipX s.tipY s.cfg.zt .lift }

/-- The same before the blocks act; a claim that cannot be withdrawn is marked (R136). -/
structure Departing (s t : State) : Prop extends Departed s t where
  atWork : t.AtWork
  marked : t.msq.motion = .claiming → t.msq.abandonMark = true

theorem Departing.settle (h : Departing s t) : Departed s (settle t) where
  seats := (settle_seats_marked h.atWork h.marked).trans h.seats
  jtb := (settle_workKept h.atWork).jtb.trans h.jtb
  space := (settle_workKept h.atWork).space.trans h.space
  claimState := (settle_workKept h.atWork).claimState.trans h.claimState
  post := (settle_workKept h.atWork).post.trans h.post
  offered f hf hr := (settle_workKept h.atWork).offered f (h.offered f hf hr) hr
  lifted hd := by
    have hk := settle_workKept h.atWork
    obtain ⟨hmeu, hmot, hcmd⟩ := h.lifted hd
    exact ⟨hk.meu.trans hmeu, (hk.motion (by rw [hmot]; rfl)).trans hmot, hk.command.trans hcmd⟩

/-- MSQ's abandonment leaves the claim and the post queue. -/
theorem msqAbandon_claimState_post (hl : s.LiftsSafely) :
    (msqAbandon s).claimState = s.claimState ∧ (msqAbandon s).lif.post = s.lif.post := by
  by_cases hd : s.msq.motion.isDown
  · rw [msqAbandon_down hd hl]
    exact ⟨rfl, rfl⟩
  · obtain ⟨v, hv, ht⟩ := msqAbandon_cases hd
    have hkept : v.claimState = s.claimState ∧ v.lif.post = s.lif.post := by
      rcases hv with rfl | rfl <;> simp
    rcases ht with ht | ht | ht <;> rw [ht] <;> simpa using hkept

/-- A head that has abandoned a membership in CLAIMING, its claim not withdrawn, has it marked (R136). -/
theorem msqAbandon_marked (hl : s.LiftsSafely) (h : (msqAbandon s).msq.motion = .claiming) :
    (msqAbandon s).msq.abandonMark = true := by
  by_cases hd : s.msq.motion.isDown
  · rw [msqAbandon_down hd hl] at h
    cases h
  have hnot (v : State) : (idleOrParked v).msq.motion ≠ .claiming := by
    rcases idleOrParked_motion v with hi | hi <;> simp [hi]
  cases hm : s.msq.motion
  case claiming =>
    simp only [msqAbandon, hm] at h ⊢
    split at h
    · exact absurd h (hnot _)
    next hp =>
      rw [if_neg hp]
      rfl
  case waitSpace =>
    simp only [msqAbandon, hm] at h
    exact absurd h (hnot s)
  case descend => exact absurd (.inl hm) hd
  case landed => exact absurd (.inr (.inl hm)) hd
  case measure => exact absurd (.inr (.inr (.inl hm))) hd
  case hold => exact absurd (.inr (.inr (.inr hm))) hd
  all_goals simp [msqAbandon, hm] at h

/-- The head without its current membership, before MSQ abandons it (R77, R124). -/
def parted (m : Membership) (s : State) : State := (endMember m.job s).onMsq fun q => { q with waiting := none }

theorem abandonMember_current (hc : s.rvu.current = some m) : abandonMember m.job s = msqAbandon (parted m s) := by
  simp [abandonMember, hc, parted]

theorem parted_msq (m : Membership) (s : State) : (parted m s).msq = { s.msq with waiting := none } := by simp [parted]

theorem parted_atWork (h : s.AtWork) (m : Membership) : (parted m s).AtWork :=
  h.congr (by simp [parted]) (by simp [parted]) (by simp [parted]) (halt_congr (by simp [parted]) (by simp [parted]))
    (by simp [parted])

theorem parted_liftsSafely (h : s.LiftsSafely) (m : Membership) : (parted m s).LiftsSafely := by
  simpa [State.LiftsSafely, State.stand, State.tip, State.tipX, State.tipY, parted_msq] using h

/-- The current membership is abandoned (R136). -/
theorem abandonMember_departing (hw : s.AtWork) (hl : s.LiftsSafely) (hc : s.rvu.current = some m) :
    Departing s (abandonMember m.job s) := by
  have hlp := parted_liftsSafely hl m
  have hserv := msqAbandon_serviceKept hlp
  obtain ⟨hclaim, hpost⟩ := msqAbandon_claimState_post hlp
  rw [abandonMember_current hc]
  exact {
    seats := hserv.seats.trans (endMember_seats hc)
    jtb := (msqAbandon_jtb _).trans (by simp [parted])
    space := (msqAbandon_space _).trans (by simp [parted])
    claimState := hclaim.trans (by simp [parted])
    post := hpost.trans (by simp [parted])
    offered := fun f hf hr => hserv.offered f (endMember_offered m.job hf hr)
    lifted := fun hd => by
      rw [msqAbandon_down (by rwa [parted_msq]) hlp]
      refine ⟨rfl, rfl, ?_⟩
      simp [sendCommand, State.nextCommand, State.tipX, State.tipY, State.cfg, parted]
    atWork := hserv.atWork (parted_atWork hw m)
    marked := msqAbandon_marked hlp }

/-- The current membership is abandoned with a DROP (R79). -/
theorem dropMember_departing (hw : s.AtWork) (hl : s.LiftsSafely) (hs : s.lif.silent = false) (hc : s.rvu.current = some m) :
    Departing s (dropMember m.job reason n s) ∧ TxFrame.drop m.job reason n ∈ (dropMember m.job reason n s).offered := by
  set v := offerWork (.drop m.job reason n) s with hv
  have hvl : v.LiftsSafely := by simpa [State.LiftsSafely, State.stand, State.tip, State.tipX, State.tipY, v] using hl
  have h : Departing v (abandonMember m.job v) :=
    abandonMember_departing ((offerWork_serviceKept ..).atWork hw) hvl (by simpa [v] using hc)
  refine ⟨{ h with
    seats := h.seats.trans (by simp [v]), jtb := h.jtb.trans (by simp [v]), space := h.space.trans (by simp [v])
    claimState := h.claimState.trans (by simp [v]), post := h.post.trans (by simp [v])
    offered := fun f hf => h.offered f (offerWork_offered hf), lifted := fun hd => ?_ },
    h.offered _ (offerWork_mem hs hw.noLift) fun _ => rfl⟩
  simpa [v, dropMember, State.nextCommand, State.tipX, State.tipY, State.cfg] using h.lifted (by simpa [v] using hd)

/-! ## The timers of a membership -/

theorem member?_current (hc : s.rvu.current = some m) : s.member? m.job = some m := by simp [State.member?, hc]

theorem endMembershipTimer_eq {runs : Membership → Bool} (hw : s.AtWork) (hc : s.rvu.current = some m) :
    unlessLift (endMembershipTimer m.job runs reason) s = if runs m then dropMember m.job reason 0 s else s := by
  rw [unlessLift, if_neg (by simp [hw.noLift]), endMembershipTimer, member?_current hc]

/-- Settles O26: each timer, while it runs, ends with its DROP (`dropMember_departing`). -/
theorem membershipTimersDropTheJob : Obligations.MembershipTimersDropTheJob := by
  intro s m hw hsil hl hc hn ends
  have hends {c : Instr} {timer : Timer} {reason : DropReason} {runs : Membership → Bool}
      (hexec : exec c s = live (unlessLift (endMembershipTimer m.job runs reason)) s) (hruns : runs m = timer.isSome) :
      ends c timer reason := by
    refine ⟨fun h => hexec ▸ live_work hw.noReset ?_ hw, fun h => ?_⟩
    · rw [endMembershipTimer_eq hw hc, if_neg (by simp [hruns, h])]
    · obtain ⟨hdep, hoff⟩ := dropMember_departing (n := 0) (reason := reason) hw hl hsil hc
      have hd := hdep.settle
      have hseats := hd.seats
      simp only [State.seats, Prod.mk.injEq, Option.map_eq_none_iff] at hseats
      refine ⟨settle (dropMember m.job reason 0 s), ?_, (settle_workKept hdep.atWork).offered _ hoff fun _ => rfl,
        member?_none_of_seats hd.seats hn, hseats.2, hd.jtb, hd.space, hd.claimState, fun hdown => ⟨hseats.1, hd.lifted hdown⟩⟩
      rw [hexec, live_eq _ hw.noReset, endMembershipTimer_eq hw hc,
        if_pos (hruns.trans (Option.isSome_iff_ne_none.2 h))]
  exact ⟨hends rfl rfl, hends rfl rfl, hends rfl rfl⟩

end Sys2Proof.Machine
end

section
/-! SUPPORT. A DROP of another head (R63, R80, R81, R83): O19. -/

namespace Sys2Proof.Machine

open Sys2Proof

variable {s t : State} {f : RxFrame} {e x : Entry} {m : Membership} {n src j : Nat} {reason : DropReason}

/-! ## The table -/

theorem updEntry_updEntry {g h : Entry → Entry} (hh : ∀ x, (h x).offer = x.offer) (job : Nat) (s : State) :
    updEntry job g (updEntry job h s) = updEntry job (g ∘ h) s := by
  have hcomp (x : Entry) : (if (if x.offer.job = job then h x else x).offer.job = job then
      g (if x.offer.job = job then h x else x) else if x.offer.job = job then h x else x) =
        if x.offer.job = job then g (h x) else x := by
    by_cases hx : x.offer.job = job <;> simp [hx, hh]
  simp only [updEntry, State.onJtb, List.map_map, Function.comp_def, hcomp]

/-- A change to an entry goes with the entry that leaves. -/
theorem dropEntry_updEntry {g : Entry → Entry} (hg : ∀ x, (g x).offer = x.offer) (job : Nat) (s : State) :
    dropEntry job (updEntry job g s) = dropEntry job s := by
  have hlist (l : List Entry) : (l.map fun x => if x.offer.job = job then g x else x).filter (fun x => x.offer.job != job) =
      l.filter fun x => x.offer.job != job := by
    induction l with
    | nil => rfl
    | cons x xs ih => by_cases hx : x.offer.job = job <;> simp [hx, hg, ih]
  simp only [dropEntry, updEntry, State.onJtb, hlist]

theorem updEntry_entry?_self {g : Entry → Entry} (hg : ∀ x, (g x).offer = x.offer) (job : Nat) (s : State) :
    (updEntry job g s).entry? job = (s.entry? job).map g := by
  rw [updEntry_entry? hg]
  cases hx : s.entry? job with
  | none => rfl
  | some x => simp [(entry?_mem hx).2]

theorem updEntry_entry?_other {g : Entry → Entry} (hg : ∀ x, (g x).offer = x.offer) {job : Nat} (h : j ≠ job) :
    (updEntry job g s).entry? j = s.entry? j := by
  rw [updEntry_entry? hg]
  cases hx : s.entry? j with
  | none => rfl
  | some x => simp [(entry?_mem hx).2, h]

/-- The entry past its take window, which is kept (R58, R59). -/
def Entry.decided (grace : Nat) (e : Entry) : Entry :=
  { e with window := none, grace := match e.grace with | some t => some t | none => some grace }

theorem decideWindow_kept (h : s.keeps e = true) :
    decideWindow e s = updEntry e.offer.job (Entry.decided s.graceTime) s := if_pos h

theorem decideWindow_gone (h : ¬ s.keeps e = true) : decideWindow e s = dropEntry e.offer.job s := if_neg h

/-- The decision of R58 is the table's alone. -/
theorem decideWindow_onJtb (e : Entry) (s : State) : ∃ g, decideWindow e s = s.onJtb g := by
  by_cases h : s.keeps e = true
  · exact ⟨_, decideWindow_kept h⟩
  · exact ⟨_, decideWindow_gone h⟩

theorem decideWindow_entry?_other (h : j ≠ e.offer.job) : (decideWindow e s).entry? j = s.entry? j := by
  by_cases hk : s.keeps e = true
  · rw [decideWindow_kept hk, updEntry_entry?_other (g := Entry.decided s.graceTime) (fun _ => rfl) h]
  · rw [decideWindow_gone hk, dropEntry_entry?, if_neg h]

/-- An entry decided again has the takers it had. -/
theorem decideWindow_takers (h : (decideWindow e s).entry? e.offer.job = some x) :
    ∃ y, s.entry? e.offer.job = some y ∧ x.takers = y.takers := by
  by_cases hk : s.keeps e = true
  · rw [decideWindow_kept hk, updEntry_entry?_self (g := Entry.decided s.graceTime) (fun _ => rfl)] at h
    obtain ⟨y, hy, rfl⟩ := Option.map_eq_some_iff.1 h
    exact ⟨y, hy, rfl⟩
  · rw [decideWindow_gone hk, dropEntry_entry?, if_pos rfl] at h
    cases h

/-! ## A role freed -/

/-- The entry with the taker records of a station cleared (R80). -/
def Entry.without (n : Nat) (e : Entry) : Entry := { e with takers := clearTaker n e.takers }

theorem Entry.hasTaker_without (n : Nat) (e : Entry) : (e.without n).hasTaker n = false := by
  simp only [Entry.hasTaker, Entry.without, clearTaker, List.any_map, List.any_eq_false]
  intro y _
  by_cases hy : y = some n <;> simp [hy]

/-- The taker records of a station cleared in the table (R80). -/
def freed (e : Entry) (n : Nat) (s : State) : State := updEntry e.offer.job (Entry.without n) s

/-- A role freed, by whether the take window still runs (R80). -/
theorem freeRole_eq (h : e.hasTaker n = true) : freeRole e n s =
    let v := if n = s.own then abandonMember e.offer.job (freed e n s) else freed e n s
    if e.window.isSome then v else decideWindow (e.without n) v := if_pos h

/-- A role freed of a job in which the head holds no membership. -/
theorem freeRole_apart (h : e.hasTaker n = true) (hm : s.member? e.offer.job = none)
    (hh : ∀ g ∈ s.lif.held, isReadingOf e.offer.job g = false) : freeRole e n s =
      if e.window.isSome then freed e n s else decideWindow (e.without n) (freed e n s) := by
  have hap : abandonMember e.offer.job (freed e n s) = freed e n s := abandonMember_apart (s := freed e n s) hm hh
  rw [freeRole_eq h, hap, ite_self]

/-- The entry after its take window is kept, or it leaves (R58, R80). -/
theorem decideWindow_freed : decideWindow (e.without n) (freed e n s) =
    if s.keeps (e.without n) = true then updEntry e.offer.job (Entry.decided s.graceTime ∘ Entry.without n) s
    else dropEntry e.offer.job s := by
  have hkeep : (freed e n s).keeps (e.without n) = s.keeps (e.without n) := rfl
  split
  next h => exact (decideWindow_kept (hkeep.trans h)).trans (updEntry_updEntry (h := Entry.without n) (fun _ => rfl) ..)
  next h => exact (decideWindow_gone (by rwa [hkeep])).trans (dropEntry_updEntry (g := Entry.without n) (fun _ => rfl) ..)

theorem keeps_iff_takers : s.keeps e = true ↔ e.takers.any (· == some s.own) = true ∨
    s.cfg.catchFlag = true ∧ (∃ p ∈ e.takers.zip e.servable, p.1 = none ∧ p.2 = true) ∨ e.takers.all (·.isSome) = true := by
  simp only [State.keeps, Bool.or_eq_true, Bool.and_eq_true, Entry.openServable_iff, or_assoc]
  rfl

/-! ## The DROP judged -/

/-- The station whose role a DROP frees (R80). -/
def freedStation (reason : DropReason) (src lost : Nat) : Nat := if reason = .partnerLost then lost else src

theorem takeDrop_removes {lost : Nat} (h : reason = .unplaced ∨ e.formed = true ∧ e.hasTaker src = true) :
    takeDrop e src reason lost s = removeJob e.offer.job s := by
  unfold takeDrop
  extract_lets job
  split
  next hf => exact if_pos (h.symm.imp_left And.right)
  next hf => exact if_pos (h.resolve_right fun h => hf h.1)

theorem takeDrop_counted {lost : Nat} (hf : e.formed = true) (hr : reason ≠ .unplaced) (ht : e.hasTaker src = false) :
    takeDrop e src reason lost s = countDiscard s := by
  simp [takeDrop, hf, hr, ht]

theorem takeDrop_open {lost : Nat} (hf : e.formed = false) (hr : reason ≠ .unplaced) : takeDrop e src reason lost s =
    if e.hasTaker src then freeRole e (freedStation reason src lost) s else s := by
  simp [takeDrop, hf, hr, freedStation]

/-- A DROP of another head for a held job (R80). -/
theorem peerDrop_heard (hs : s.Running) (ha : s.Accepts .drop f) (ho : s.isOwn f = false) (hr : rxDropReason f = some reason)
    (he : s.entry? (rxJob f) = some e) :
    hear .drop f (hearDrop f) s = takeDrop e f.src.toNat reason (rxLost f) (received .drop f s) := by
  have hown : (f.src.toNat == (received .drop f s).own) = false := by
    rw [received_own]
    exact ho
  simp only [hear_accepts _ ha, hearDrop, hr, hown, dropHeard, Bool.false_and, Bool.false_eq_true, if_false]
  exact (hear_accepts _ ha).symm.trans (entry_heard hs ha he)

/-- A DROP(PARTNER_LOST) that names the head itself ends its current membership (R63, R83). -/
theorem freeRole_own {r : State} (hw : r.AtWork) (hl : r.LiftsSafely) (he : r.entry? e.offer.job = some e)
    (ht : e.hasTaker r.own = true) (hc : r.rvu.current = some m) (hj : m.job = e.offer.job) :
    let t := settle (freeRole e r.own r)
    t.seats = (r.rvu.next.map (·.job), none) ∧
      (∀ x, t.entry? e.offer.job = some x → x.hasTaker r.own = false) ∧
      ∀ j, j ≠ e.offer.job → t.entry? j = r.entry? j := by
  intro t
  set v := freed e r.own r with hv
  set u := abandonMember e.offer.job v with hu
  have hdep : Departing v u := by
    rw [hu, ← hj]
    exact abandonMember_departing (s := v) (hw.congr rfl rfl rfl rfl id) hl hc
  have hue (j : Nat) : u.entry? j = v.entry? j := by simp only [State.entry?, hdep.jtb]
  obtain ⟨w, hfree, ⟨g, hg⟩, hown, hother⟩ : ∃ w, freeRole e r.own r = w ∧ (∃ g, w = u.onJtb g) ∧
      (∀ x, w.entry? e.offer.job = some x → ∃ y, u.entry? e.offer.job = some y ∧ x.takers = y.takers) ∧
      ∀ j, j ≠ e.offer.job → w.entry? j = u.entry? j := by
    refine ⟨_, freeRole_eq ht, ?_⟩
    simp only [if_true]
    split
    · exact ⟨⟨id, rfl⟩, fun x hx => ⟨x, hx, rfl⟩, fun _ _ => rfl⟩
    · exact ⟨decideWindow_onJtb _ _, fun x hx => decideWindow_takers (e := e.without r.own) hx,
        fun j hne => decideWindow_entry?_other (e := e.without r.own) hne⟩
  have hww : w.AtWork := hg ▸ hdep.atWork.congr rfl rfl rfl rfl id
  have hk := (settle_workKept hww).toRunKept
  have ht' : t = settle w := congrArg settle hfree
  rw [ht']
  refine ⟨?_, fun x hx => ?_, fun j hne => ?_⟩
  · rw [settle_seats_marked hww (by rw [hg]; exact hdep.marked)]
    exact (congrArg State.seats hg).trans hdep.seats
  · rw [hk.entry?] at hx
    obtain ⟨y, hy, htakers⟩ := hown x hx
    rw [hue, hv, freed, updEntry_entry?_self (g := Entry.without r.own) (fun _ => rfl), he] at hy
    cases hy
    exact (congrArg (List.any · _) htakers).trans (e.hasTaker_without r.own)
  · rw [hk.entry?, hother j hne, hue]
    exact updEntry_entry?_other (g := Entry.without r.own) (fun _ => rfl) hne

/-- Settles O19: the DROP by its judgement (`takeDrop_removes`, `takeDrop_counted`, `takeDrop_open`), a role freed by
`decideWindow_freed`, and the head's own membership by its abandonment (`freeRole_own`). -/
theorem dropFreesOrRemoves : Obligations.DropFreesOrRemoves := by
  refine ⟨fun s f e reason hs ha ho hr he hm hh => ?_, fun s f e m hw hl ha ho hr hlost he hf hsrc hown hc hj hn => ?_⟩
  · intro r src gone n takers kept freed'
    have hgo {u : State} (hu : takeDrop e src reason (rxLost f) r = u) (hur : u.Running) :
        exec (.drop f) s = .next (settle u) ∧ RunKept u (settle u) :=
      live_run hs.noReset ((peerDrop_heard hs ha ho hr he).trans hu) hur
    have hrm : r.member? e.offer.job = none := (received_member? ..).trans hm
    have hrh : ∀ g ∈ r.lif.held, isReadingOf e.offer.job g = false := fun g hg => hh g (by rwa [received_held] at hg)
    have hkeep : r.keeps (e.without n) = true ↔ kept := by
      rw [keeps_iff_takers, received_own, received_cfg]
      rfl
    refine ⟨fun h => hgo ((takeDrop_removes h).trans (removeJob_apart hrm hrh)) (hs.received.congr rfl rfl rfl),
      fun hf hru ht => hgo (takeDrop_counted hf hru ht) (hs.received.congr rfl rfl rfl), fun hf hru => ⟨fun ht => ?_, fun ht htn => ?_⟩⟩
    · exact hgo ((takeDrop_open hf hru).trans (if_neg (by simp [ht]))) hs.received
    · have hfree : takeDrop e src reason (rxLost f) r = freeRole e n r := (takeDrop_open hf hru).trans (if_pos ht)
      have hap := hfree.trans (freeRole_apart htn hrm hrh)
      have hgrace : r.graceTime = s.graceTime := by simp only [State.graceTime, r, received_cfg]
      refine ⟨fun hwin => hgo (hap.trans (if_pos hwin)) (hs.received.congr rfl rfl rfl), fun hwin hk => ?_, fun hwin hk => ?_⟩
      · refine hgo (hap.trans ?_) (hs.received.congr rfl rfl rfl)
        rw [if_neg (by simp [hwin]), decideWindow_freed, if_pos (hkeep.2 hk), hgrace]
        rfl
      · refine hgo (hap.trans ?_) (hs.received.congr rfl rfl rfl)
        rw [if_neg (by simp [hwin]), decideWindow_freed, if_neg (mt hkeep.1 hk)]
        rfl
  · set r := received .drop f s with hrdef
    have hmsq : r.msq = s.msq := received_msq ..
    have hro : r.own = s.own := received_own ..
    have hrvu : r.rvu = s.rvu := received_rvu ..
    have hjob : e.offer.job = rxJob f := (entry?_mem he).2
    have hlr : r.LiftsSafely := by
      simpa [State.LiftsSafely, State.stand, State.tip, State.tipX, State.tipY, hmsq] using hl
    obtain ⟨hseats, htaker, hother⟩ := freeRole_own hw.received hlr (by rw [received_entry?, hjob, he]) (hro ▸ hown)
      (hrvu ▸ hc) hj
    have hdrop : takeDrop e f.src.toNat .partnerLost (rxLost f) r = freeRole e r.own r := by
      rw [takeDrop_open hf (by decide), if_pos hsrc, hlost, hro]
      rfl
    rw [hrvu] at hseats
    have hparts := hseats
    simp only [State.seats, Prod.mk.injEq, Option.map_eq_none_iff] at hparts
    refine ⟨_, live_eq _ hw.noReset, ?_⟩
    rw [peerDrop_heard hw.running ha ho hr he, ← hrdef, hdrop]
    exact ⟨member?_none_of_seats hseats hn, hparts.1, hparts.2, fun x hx => hro ▸ htaker x hx,
      fun j hne => (hother j hne).trans (received_entry? ..)⟩

end Sys2Proof.Machine
end

section
/-! SUPPORT. A LANDED at the lead (R86, R87): O21. -/

namespace Sys2Proof.Machine

open Sys2Proof

variable {s t : State} {k : Kind} {f : RxFrame} {e : Entry} {m : Membership} {src role pass : Nat} {nc : Bool}

/-! ## Frames at a membership -/

/-- An accepted frame that names a held job, at the head's membership in it. -/
theorem member_heard {act : Entry → Membership → State → State} (hs : s.Running) (ha : s.Accepts k f)
    (he : s.entry? (rxJob f) = some e) (hm : s.member? e.offer.job = some m) :
    hear k f (atMember f act) s = act e m (received k f s) := by
  refine (entry_heard hs ha he).trans ?_
  simp only [received_member?, hm]

/-- An accepted frame that names a held job, at the head's lead membership in it. -/
theorem lead_heard {act : Entry → Membership → State → State} (hs : s.Running) (ha : s.Accepts k f)
    (he : s.entry? (rxJob f) = some e) (hm : s.leadMember? e.offer.job = some m) :
    hear k f (atLead f act) s = act e m (received k f s) := by
  have hr : (received k f s).leadMember? e.offer.job = some m := by
    obtain ⟨hmem, hrole⟩ := leadMember?_iff.1 hm
    exact leadMember?_iff.2 ⟨(received_member? ..).trans hmem, hrole⟩
  refine (entry_heard hs ha he).trans ?_
  simp only [hr]

theorem received_post (k : Kind) (f : RxFrame) (s : State) : (received k f s).lif.post = s.lif.post := by
  have hl : (logErrors k f s).lif.post = s.lif.post := by
    refine foldl_view (fun t : State => t.lif.post) (fun t x => ?_) _
    dsimp only [decodeInto]
    split <;> rfl
  have hm (n : Nat) (own : Bool) (t : State) : (moveTracker k n (frameEnd own t)).lif.post = t.lif.post := by
    unfold moveTracker
    (repeat' split) <;> rfl
  have hh (t : State) : (hearOther t).lif.post = t.lif.post := by
    unfold hearOther
    split <;> rfl
  dsimp only [received]
  split
  · split <;> exact (hm ..).trans hl
  · rw [storeSide_lif]
    split
    · rw [hh, hearPresence_lif, hm, hl]
    · rw [hm, hl]

/-- Two changes of the one membership in a job that agree on it. -/
theorem updMember_congr {g h : Membership → Membership} (hm : s.member? m.job = some m)
    (hd : ∀ c n, s.rvu.current = some c → s.rvu.next = some n → c.job ≠ n.job) (hg : g m = h m) :
    updMember m.job g s = updMember m.job h s := by
  have hat (o : Option Membership) (ho : ∀ c, o = some c → c.job = m.job → c = m) :
      o.map (fun c => if c.job = m.job then g c else c) = o.map fun c => if c.job = m.job then h c else c := by
    cases o with
    | none => rfl
    | some c =>
      by_cases hj : c.job = m.job
      · simp [ho c rfl hj, hg]
      · simp [hj]
  have hone : (∀ c, s.rvu.current = some c → c.job = m.job → c = m) ∧ ∀ n, s.rvu.next = some n → n.job = m.job → n = m := by
    rcases member?_cases hm with ⟨hc, -⟩ | ⟨hn, -, c, hc, hj⟩
    · refine ⟨fun c h _ => ?_, fun n h hj => absurd hj.symm (hd m n hc h)⟩
      exact Option.some.inj (h.symm.trans hc)
    · refine ⟨fun c' h hj' => absurd hj' ?_, fun n h _ => Option.some.inj (h.symm.trans hn)⟩
      cases h.symm.trans hc
      exact hj
  simp only [updMember, State.onRvu, hat _ hone.1, hat _ hone.2]

/-! ## The end of a lead's job -/

/-- The membership in a job that is abandoned, current or next, is over; the table and the post queue stand (R77, R136). -/
theorem abandonMember_settled (hw : s.AtWork) (hl : s.LiftsSafely) (hm : s.member? m.job = some m)
    (hd : ∀ c n, s.rvu.current = some c → s.rvu.next = some n → c.job ≠ n.job) :
    let t := settle (abandonMember m.job s)
    t.member? m.job = none ∧ t.jtb = s.jtb ∧ t.lif.post = s.lif.post := by
  intro t
  rcases member?_cases hm with ⟨hc, -⟩ | ⟨hn, -, c, hc, hj⟩
  · have hdep := (abandonMember_departing hw hl hc).settle
    exact ⟨member?_none_of_seats hdep.seats fun n hn => (hd m n hc hn).symm, hdep.jtb, hdep.post⟩
  · set u := endMember m.job s with hu
    have hab : abandonMember m.job s = u := by simp [abandonMember, hc, hj, u]
    have huw : u.AtWork := hw.congr (by simp [u]) (by simp [u]) (by simp [u]) (halt_congr (by simp [u]) (by simp [u]))
      (by simp [u])
    have hk := settle_workKept huw
    have ht : t = settle u := congrArg settle hab
    have hjobs : u.memberJobs = [c.job] := by simp [State.memberJobs, u, endMember, hc, hj, hn]
    rw [ht]
    refine ⟨member?_of_not_mem fun hin => ?_, hk.jtb.trans (by simp [u]), hk.post.trans (by simp [u])⟩
    have hin' := settle_memberJobs huw hin
    rw [hjobs, List.mem_singleton] at hin'
    exact hj hin'.symm

theorem postResult_eq {r : ResultRecord} (hs : s.lif.silent = false) :
    postResult r s = s.onLif fun l => { l with post := l.post ++ [.result r] } := if_neg (by simp [hs])

/-- The lead's job ends with its RESULT (R164, R168). -/
theorem postJob_settled {v : State} {n : Membership} {verdict : Verdict} {value : Int} {neg : Bool} (hw : v.AtWork)
    (hl : v.LiftsSafely) (hs : v.lif.silent = false) (hm : v.member? n.job = some n)
    (hd : ∀ c n, v.rvu.current = some c → v.rvu.next = some n → c.job ≠ n.job) (hj : m.job = n.job) :
    let t := settle (postJob e m verdict value neg v)
    t.member? m.job = none ∧ t.jtb = v.jtb ∧ t.lif.post = v.lif.post ++ [.result {
      job := m.job, board := e.offer.board, verdict := verdict, value := BitVec.ofInt 32 value
      passesUsed := m.pass + 1, neg := neg, members := m.takers }] := by
  intro t
  simp only [t, postJob, hj, postResult_eq hs]
  exact abandonMember_settled (s := v.onLif _) (hw.congr rfl rfl rfl rfl id) hl hm hd

/-! ## The landing decision -/

/-- The membership with its landing wait stopped (R84). -/
def Membership.unwaited (m : Membership) : Membership := { m with landingWait := none }

/-- The lead's membership with a role's landing stored (R86). -/
def Membership.store (role : Nat) (nc : Bool) (m : Membership) : Membership :=
  { m with landings := m.landings.set role (some nc) }

theorem all_isSome_iff {α : Type} {l : List (Option α)} : l.all (·.isSome) = true ↔ none ∉ l := by
  simp only [List.all_eq_true]
  constructor
  · intro h hn
    cases h none hn
  · intro h x hx
    cases x with
    | none => exact absurd hx h
    | some _ => rfl

theorem landingDecision_waits (h : none ∈ m.landings) : landingDecision e m s = s :=
  if_neg (mt all_isSome_iff.1 (not_not_intro h))

/-- The lead's decision, once every role has landed (R87). -/
theorem landingDecision_full (h : none ∉ m.landings) : landingDecision e m s =
    if some true ∈ m.landings then
      if m.pass < e.offer.budget then offerWork (.again m.job false (m.pass + 1)) (updMember m.job Membership.unwaited s)
      else postJob e m .noContact 0 false (updMember m.job Membership.unwaited s)
    else offerWork (.start m.job m.pass) (updMember m.job Membership.unwaited s) := by
  rw [landingDecision, if_pos (all_isSome_iff.2 h)]
  refine if_congr ?_ rfl rfl
  simp

theorem takeLanding_counted (h : ¬ (e.takerOf role = some src ∧ pass = m.pass ∧ m.landings[role]? = some none)) :
    takeLanding e m src role pass nc s = countDiscard s := if_pos (by tauto)

theorem takeLanding_stored (h : e.takerOf role = some src ∧ pass = m.pass ∧ m.landings[role]? = some none) :
    takeLanding e m src role pass nc s = landingDecision e (m.store role nc) (updMember m.job (Membership.store role nc) s) :=
  if_neg (by tauto)

/-- A frame that the lead offers on a decision. -/
theorem offerWork_settled {v : State} {g : TxFrame} (hw : v.AtWork) (hs : v.lif.silent = false)
    (hg : ∀ j, isReadingOf j g = false) :
    g ∈ (settle (offerWork g v)).offered ∧ (settle (offerWork g v)).lif.post = v.lif.post := by
  have hk := settle_workKept ((offerWork_serviceKept g v).atWork hw)
  exact ⟨hk.offered _ (offerWork_mem hs hw.noLift) hg, hk.post.trans (by simp)⟩

/-- The seats stay distinct when the memberships are changed. -/
theorem updMember_distinct {g : Membership → Membership} (hg : ∀ m, (g m).job = m.job) (job : Nat)
    (hd : ∀ c n, s.rvu.current = some c → s.rvu.next = some n → c.job ≠ n.job) :
    ∀ c n, (updMember job g s).rvu.current = some c → (updMember job g s).rvu.next = some n → c.job ≠ n.job := by
  intro c n hc hn
  have hjob (x : Membership) : (if x.job = job then g x else x).job = x.job := by
    split
    · exact hg x
    · rfl
  obtain ⟨c', hc', rfl⟩ := Option.map_eq_some_iff.1 hc
  obtain ⟨n', hn', rfl⟩ := Option.map_eq_some_iff.1 hn
  rw [hjob, hjob]
  exact hd c' n' hc' hn'

/-- Settles O21: a LANDED that fits is stored (`takeLanding_stored`), and the last one decides (`landingDecision_full`). -/
theorem landingsDecideThePass : Obligations.LandingsDecideThePass := by
  intro s f e m hw hsil ha he hlead hd r role fits rows
  obtain ⟨hmem, hrole⟩ := leadMember?_iff.1 hlead
  have hjob : m.job = e.offer.job := member?_job hmem
  have hrm : r.member? m.job = some m := by rw [received_member?, hjob, hmem]
  have hrd : ∀ c n, r.rvu.current = some c → r.rvu.next = some n → c.job ≠ n.job := by rwa [received_rvu]
  have hheard : hear .landed f (Instr.effect (.landed f)) s = takeLanding e m f.src.toNat role (rxLandedPass f) (rxNoContact f) r :=
    lead_heard hw.running ha he hlead
  refine ⟨fun h => live_work hw.noReset (hheard.trans (takeLanding_counted h)) (hw.received.congr rfl rfl rfl rfl id),
    fun h => ?_⟩
  set m' := m.store role (rxNoContact f) with hm'
  set u := updMember m.job (Membership.store role (rxNoContact f)) r with hu
  set v := updMember m.job Membership.unwaited u with hv
  have hstored := hheard.trans (takeLanding_stored h)
  have hru : updMember m.job (fun x => { x with landings := rows }) r = u := updMember_congr hrm hrd rfl
  have hvw : v.AtWork := hw.received.congr rfl rfl rfl rfl id
  have hvs : v.lif.silent = false := (received_silent ..).trans hsil
  have hvpost : v.lif.post = s.lif.post := received_post ..
  have hexec {w : State} (hw' : landingDecision e m' u = w) : exec (.landed f) s = .next (settle w) :=
    (live_eq _ hw.noReset).trans (congrArg (fun t => Host.Outcome.next (settle t)) (hstored.trans hw'))
  refine ⟨fun hnone => hru ▸ live_work hw.noReset (hstored.trans (landingDecision_waits hnone))
    (hw.received.congr rfl rfl rfl rfl id), fun hall hnc => ?_, fun hall hnc hb => ?_, fun hall hnc hb hl => ?_⟩
  · have hdec := hexec ((landingDecision_full hall).trans (if_neg hnc))
    obtain ⟨hoff, hpost⟩ := offerWork_settled (g := .start m.job m.pass) hvw hvs fun _ => rfl
    exact ⟨_, hdec, hoff, hpost.trans hvpost⟩
  · have hdec := hexec ((landingDecision_full hall).trans ((if_pos hnc).trans (if_pos hb)))
    obtain ⟨hoff, hpost⟩ := offerWork_settled (g := .again m.job false (m.pass + 1)) hvw hvs fun _ => rfl
    exact ⟨_, hdec, hoff, hpost.trans hvpost⟩
  · have hdec := hexec ((landingDecision_full hall).trans ((if_pos hnc).trans (if_neg (Nat.not_lt.2 hb))))
    have hlv : v.LiftsSafely := by
      have hmsq : v.msq = s.msq := received_msq ..
      simpa [State.LiftsSafely, State.stand, State.tip, State.tipX, State.tipY, hmsq] using hl
    have hvm : v.member? m.job = some m'.unwaited := by
      rw [hv, member?_updMember (g := Membership.unwaited) (fun _ => rfl), hu,
        member?_updMember (g := Membership.store role (rxNoContact f)) (fun _ => rfl), hrm]
      rfl
    have hvd := updMember_distinct (g := Membership.unwaited) (fun _ => rfl) m.job
      (updMember_distinct (g := Membership.store role (rxNoContact f)) (fun _ => rfl) m.job hrd)
    obtain ⟨hgone, hjtb, hpost⟩ := postJob_settled (e := e) (m := m') (n := m'.unwaited) (verdict := .noContact) (value := 0) (neg := false)
      hvw hlv hvs hvm hvd rfl
    exact ⟨_, hdec, hgone, hjtb.trans (received_jtb ..), hpost.trans (by rw [hvpost]; rfl)⟩

end Sys2Proof.Machine
end

section
/-! SUPPORT. A START and an AGAIN at the head's membership (R88, R89, R133, R134): O22 and O24. -/

namespace Sys2Proof.Machine

open Sys2Proof

variable {s t : State} {k : Kind} {f : RxFrame} {e : Entry} {m : Membership} {src pass x y z : Nat} {rep : Bool}

/-! ## The membership changed -/

/-- The current membership is changed, and the next one, of another job, is not. -/
theorem updMember_current_eq (hc : s.rvu.current = some m) (hn : ∀ n, s.rvu.next = some n → n.job ≠ m.job)
    (g : Membership → Membership) : updMember m.job g s = s.onRvu fun v => { v with current := some (g m) } := by
  have hnext : s.rvu.next.map (fun n => if n.job = m.job then g n else n) = s.rvu.next := by
    cases h : s.rvu.next with
    | none => rfl
    | some n => simp [hn n h]
  simp only [updMember, State.onRvu, hnext, hc, Option.map_some, if_true]

theorem received_takersOf (k : Kind) (f : RxFrame) (s : State) (m : Membership) :
    (received k f s).takersOf m = s.takersOf m := by
  simp only [State.takersOf, received_entry?]

theorem isLeadOf_iff : s.isLeadOf m src = true ↔ (s.takersOf m).head? = some (some src) := beq_iff_eq

/-! ## START -/

theorem frontEndOf_eq (role : Nat) : frontEndOf role = if role = 0 then .force else if role = 1 then .ret else .sense := by
  unfold frontEndOf
  split <;> simp_all

theorem settleTime_eq (code : Nat) : settleTime code = max code 1 * 50000 := Nat.mul_assoc _ 50 1000

theorem deadlineTime_eq (settle sample : Nat) :
    deadlineTime settle sample = max settle 1 * 50000 + 4 * 2 ^ min sample 4 * 10000 + 5000000 := by
  rw [deadlineTime, windowTime, settleTime_eq]
  rfl

theorem takeStart_opens (h : (s.takersOf m).head? = some (some src) ∧ pass = m.pass ∧ m.state = .landed) :
    takeStart e m src pass s = openWindow e m s := if_pos (h.imp_left isLeadOf_iff.2)

theorem takeStart_counted (h : ¬ ((s.takersOf m).head? = some (some src) ∧ pass = m.pass ∧ m.state = .landed)) :
    takeStart e m src pass s = countDiscard s := if_neg (mt (And.imp_left isLeadOf_iff.1) h)

/-- Settles O22: a START that fits opens the window (`openWindow_eq`), any other is counted. -/
theorem startOpensTheWindow : Obligations.StartOpensTheWindow := by
  intro s f e m hw ha he hc hj hn r o settleNs samples fits
  have hfits : ((r.takersOf m).head? = some (some f.src.toNat) ∧ rxPass f = m.pass ∧ m.state = .landed) ↔ fits := by
    rw [received_takersOf]
  have hheard : hear .start f (Instr.effect (.start f)) s = takeStart e m f.src.toNat (rxPass f) r :=
    member_heard hw.running ha he (hj ▸ member?_current hc)
  refine ⟨fun h => live_work hw.noReset (hheard.trans (takeStart_counted (mt hfits.1 h))) (hw.received.congr rfl rfl rfl rfl id),
    fun h => live_work hw.noReset (hheard.trans ?_) (hw.received.congr rfl rfl rfl rfl nofun)⟩
  have hopen := updMember_current_eq (s := r.onMsq fun q => { q with motion := .measure }) (m := m) (by simpa [r] using hc)
    (by simpa [r] using hn) (·.toMeasuring e)
  rw [takeStart_opens (hfits.2 h), openWindow_eq, hopen]
  simp only [Membership.toMeasuring, Membership.lead, frontEndOf_eq, settleTime_eq, deadlineTime_eq, beq_iff_eq]
  rfl

/-! ## AGAIN -/

/-- A MOVE in the LIFT profile to where the tip stands passes the check of R123. -/
theorem sendMove_standing (hr : s.msq.lastReport ≠ none) (h : s.tip = (x, y)) :
    sendMove x y z .lift s = sendCommand (.move x y z .lift) s := by
  obtain ⟨hx, hy⟩ := Prod.mk.inj h
  exact if_pos (by simp [State.moveAllowed, Option.isSome_iff_ne_none, hr, hx, hy])

/-- The retouch of a pass lifts the tip at the standing XY (R134). -/
theorem startRise_eq (hr : s.msq.lastReport ≠ none) (hst : s.stand = s.tip) : startRise pass s = s.onMsq fun q => { q with
    motion := .descend, descend := .rise, retouch := 2 * pass
    lastCommand := some { number := s.nextCommand, order := .move s.tipX s.tipY s.cfg.zs .lift } } := by
  have hstand : s.stand = (s.tipX, s.tipY) := hst
  rw [startRise, hstand]
  exact sendMove_standing (s := s.onMsq _) hr rfl

theorem takeAgain_deferred (h : m.state = .measuring) : takeAgain m src rep pass s =
    updMember m.job (fun m => { m with deferred := some { source := src, repeated := rep, pass := pass } }) s := if_pos h

theorem takeAgain_applied (h : (s.takersOf m).head? = some (some src) ∧ pass = m.pass + 1 ∧ (m.state = .landed ∨ m.state = .hold)) :
    takeAgain m src rep pass s = applyAgain m.job rep pass s := by
  have hne : m.state ≠ .measuring := by rcases h.2.2 with hs | hs <;> simp [hs]
  rw [takeAgain, if_neg hne, if_pos (h.imp_left isLeadOf_iff.2)]

theorem takeAgain_counted (hne : m.state ≠ .measuring) (h : ¬ ((s.takersOf m).head? = some (some src) ∧ pass = m.pass + 1 ∧
    (m.state = .landed ∨ m.state = .hold))) : takeAgain m src rep pass s = countDiscard s := by
  rw [takeAgain, if_neg hne, if_neg (mt (And.imp_left isLeadOf_iff.1) h)]

/-- The probe stays down for the repeat of a pass (R133). -/
def repeating (m : Membership) (pass : Nat) (s : State) : State :=
  (s.onRvu fun v => { v with current := some (m.toPass true pass) }).onMsq fun q => { q with motion := .landed }

/-- The lead of a pass to be repeated offers START (R89). -/
theorem applyAgain_repeat (hc : s.rvu.current = some m) (hn : ∀ n, s.rvu.next = some n → n.job ≠ m.job) :
    applyAgain m.job true pass s =
      if m.role = 0 then offerWork (.start m.job pass) (repeating m pass s) else repeating m pass s := by
  have hv : (updMember m.job (·.toPass true pass) s).onMsq (fun q => { q with motion := .landed }) = repeating m pass s := by
    rw [updMember_current_eq hc hn]
    rfl
  have hm : (repeating m pass s).member? m.job = some (m.toPass true pass) :=
    member?_current (s := repeating m pass s) (m := m.toPass true pass) rfl
  rw [applyAgain_eq, if_pos rfl, hv]
  split
  next n h =>
    obtain ⟨hmem, h0⟩ := leadMember?_iff.1 h
    cases hm.symm.trans hmem
    exact (if_pos h0).symm
  next h => rw [if_neg fun h0 => by simp [leadMember?_iff.2 ⟨hm, h0⟩] at h]

theorem repeat_settled (hw : s.AtWork) (hs : s.lif.silent = false) (hc : s.rvu.current = some m)
    (hn : ∀ n, s.rvu.next = some n → n.job ≠ m.job) :
    let t := settle (applyAgain m.job true pass s)
    t.msq.motion = .landed ∧ t.msq.lastCommand = s.msq.lastCommand ∧ t.rvu.current = some (m.toPass true pass) ∧
      (m.role = 0 → TxFrame.start m.job pass ∈ t.offered) := by
  intro t
  set w := applyAgain m.job true pass s with hwdef
  have happ : w = _ := applyAgain_repeat hc hn
  have hvw : (repeating m pass s).AtWork := hw.congr rfl rfl rfl rfl nofun
  obtain ⟨hww, hwmsq, hwrvu⟩ : w.AtWork ∧ w.msq = (repeating m pass s).msq ∧ w.rvu = (repeating m pass s).rvu := by
    rw [happ]
    split
    · exact ⟨(offerWork_serviceKept ..).atWork hvw, by simp, by simp⟩
    · exact ⟨hvw, rfl, rfl⟩
  have hk := settle_workKept hww
  have hmot : w.msq.motion = .landed := congrArg Msq.motion hwmsq
  have hcur : w.rvu.current = some (m.toPass true pass) := congrArg Rvu.current hwrvu
  have heng : w.msq.motion.engaged = true := by
    rw [hmot]
    rfl
  refine ⟨(hk.motion heng).trans hmot, hk.command.trans (by rw [hwmsq]; rfl), (hk.current heng fun c hc' => ?_).1.trans hcur,
    fun h0 => hk.offered _ ?_ fun _ => rfl⟩
  · cases hcur.symm.trans hc'
    exact nofun
  · rw [happ, if_pos h0]
    exact offerWork_mem hs hvw.noLift

/-- Settles O24: an AGAIN that fits begins a retouch (`startRise_eq`) or a repeat (`applyAgain_repeat`); one heard while MEASURING
is kept, and any other is counted. -/
theorem againBeginsTheNextPass : Obligations.AgainBeginsTheNextPass := by
  intro s f e m hw hsil ha he hc hj hn r lead fits m'
  have hrc : r.rvu.current = some m := by rwa [received_rvu]
  have hrn : ∀ n, r.rvu.next = some n → n.job ≠ m.job := by rwa [received_rvu]
  have hmsq : r.msq = s.msq := received_msq ..
  have hfits : ((r.takersOf m).head? = some (some f.src.toNat) ∧ rxPass f = m.pass + 1 ∧
      (m.state = .landed ∨ m.state = .hold)) ↔ fits := by
    rw [received_takersOf]
  have hheard : hear .again f (Instr.effect (.again f)) s = takeAgain m f.src.toNat (rxRepeat f) (rxPass f) r :=
    member_heard hw.running ha he (hj ▸ member?_current hc)
  refine ⟨fun hst => live_work hw.noReset (hheard.trans ?_) (hw.received.congr rfl rfl rfl rfl id),
    fun hst h => live_work hw.noReset (hheard.trans (takeAgain_counted hst (mt hfits.1 h))) (hw.received.congr rfl rfl rfl rfl id),
    fun h hrep hr hst => live_work hw.noReset (hheard.trans ?_) (hw.received.congr rfl rfl rfl rfl nofun), fun h hrep => ?_⟩
  · rw [takeAgain_deferred hst, updMember_current_eq hrc hrn]
  · have hup := updMember_current_eq hrc hrn (·.toPass false (rxPass f))
    rw [takeAgain_applied (hfits.2 h), hrep, applyAgain_eq, hup, if_neg Bool.false_ne_true,
      startRise_eq (by rw [State.onRvu_msq, hmsq]; exact hr)
        (by simpa [State.stand, State.tip, State.tipX, State.tipY, hmsq] using hst)]
    simp only [Membership.toPass, Membership.lead, beq_iff_eq, State.nextCommand, State.tipX, State.tipY, State.cfg,
      State.onRvu_msq, State.onRvu_stc, hmsq, r, received_config, Bool.not_false, Bool.and_true]
    rfl
  · obtain ⟨hmot, hcmd, hcur, hstart⟩ := repeat_settled (pass := rxPass f) hw.received ((received_silent ..).trans hsil) hrc hrn
    refine ⟨settle (applyAgain m.job true (rxPass f) r), ?_, hmot, hcmd.trans (congrArg Msq.lastCommand hmsq), hcur.trans ?_, hstart⟩
    · have hact := hheard.trans (takeAgain_applied (hfits.2 h))
      rw [hrep] at hact
      exact (live_eq _ hw.noReset).trans (congrArg (fun t => Host.Outcome.next (settle t)) hact)
    · simp only [Membership.toPass, Membership.lead, beq_iff_eq, Bool.not_true, Bool.and_false, Bool.false_eq_true, if_false,
        if_true]
      rfl

end Sys2Proof.Machine
end

section
/-! SUPPORT. The end of a descent by the contact input (R132, R133, R140, R152): O48. -/

namespace Sys2Proof.Machine

open Sys2Proof

variable {s t : State} {m : Membership} {nc : Bool}

/-! ## The end of a descent -/

/-- A descent has ended: its membership is LANDED, LANDED is offered, and the head is in LANDED (R85, R132). -/
structure DescentEnded (nc : Bool) (m : Membership) (s t : State) : Prop where
  motion     : t.msq.motion = .landed
  current    : t.rvu.current = some { m with state := .landed }
  next       : t.rvu.next = s.rvu.next
  offered    : TxFrame.landed m.job m.role m.pass nc ∈ t.offered
  command    : t.msq.lastCommand = s.msq.lastCommand
  outer      : t.outer = s.outer
  claimState : t.claimState = s.claimState
  space      : t.space = s.space
  jtb        : t.jtb = s.jtb
  flu        : t.flu = s.flu
  meu        : t.meu = s.meu

theorem descentEnd_eq (hc : s.rvu.current = some m) : descentEnd nc s =
    ((offerWork (.landed m.job m.role m.pass nc) s).onRvu fun r => { r with current := some { m with state := .landed } }).onMsq
      fun q => { q with motion := .landed } := by
  simp only [descentEnd, hc]

theorem descentEnd_settled (hw : s.AtWork) (hs : s.lif.silent = false) (hc : s.rvu.current = some m) :
    DescentEnded nc m s (settle (descentEnd nc s)) := by
  set u := descentEnd nc s with hu
  have hueq := hu.trans (descentEnd_eq hc)
  have huw : u.AtWork := by
    rw [hueq]
    exact ((offerWork_serviceKept (.landed m.job m.role m.pass nc) s).atWork hw).congr rfl rfl rfl rfl nofun
  have hk := settle_workKept huw
  have hmot : u.msq.motion = .landed := congrArg (fun t : State => t.msq.motion) hueq
  have hcur : u.rvu.current = some { m with state := .landed } := congrArg (fun t : State => t.rvu.current) hueq
  have heng : u.msq.motion.engaged = true := by
    rw [hmot]
    rfl
  obtain ⟨hkc, hkn⟩ := hk.current heng fun c hcc => by
    cases hcur.symm.trans hcc
    exact nofun
  exact {
    motion := (hk.motion heng).trans hmot
    current := hkc.trans hcur
    next := hkn.trans (by rw [hueq]; simp)
    offered := hk.offered _ (by rw [hueq]; exact offerWork_mem hs hw.noLift) fun _ => rfl
    command := hk.command.trans (by rw [hueq]; simp)
    outer := hk.outer.trans (by simp [u])
    claimState := hk.claimState.trans (by simp [u])
    space := hk.space.trans (by simp [u])
    jtb := hk.jtb.trans (by simp [u])
    flu := hk.flu.trans (by simp [u])
    meu := hk.meu.trans (by simp [u]) }

/-! ## The contact input -/

theorem closed_atWork (h : s.AtWork) : s.closed.AtWork := h.congr rfl rfl rfl rfl id

theorem exec_closing (hr : s.stc.inReset = false) (hc : s.pins.contact = false) :
    exec .contactClosing s = .next (settle (takeClosing s.closed)) := by
  have h : contactClose s = settle (takeClosing s.closed) := by
    rw [contactClose, if_neg (by simp [hc])]
    exact if_neg (by simp [hr])
  exact congrArg Host.Outcome.next h

theorem closingExpected_iff {q : MotionState} :
    q.closingExpected = true ↔ q = .landed ∨ q = .measure ∨ q = .hold ∨ q = .offline := by
  cases q <;> simp [MotionState.closingExpected]

/-- The contact input open, as a running part sees it. -/
def State.opened (s : State) : State := s.onPins fun p => { p with contact := false }

theorem exec_opening (hr : s.stc.inReset = false) (hc : s.pins.contact = true) : exec .contactOpening s =
    .next (settle (if s.msq.motion = .measure then s.opened.onMeu fun u => { u with acc := { u.acc with lifted := true } }
      else s.opened)) := by
  have h : contactOpen s = settle (if s.msq.motion = .measure then
      s.opened.onMeu fun u => { u with acc := { u.acc with lifted := true } } else s.opened) := by
    rw [contactOpen, if_pos hc]
    exact if_neg (by simp [hr])
  exact congrArg Host.Outcome.next h

/-- Settles O48: a closing in DESCEND is the touchdown (`descentEnd_settled`); an expected one, and an opening, change the input
and what watches it. -/
theorem contactEndsTheDescent : Obligations.ContactEndsTheDescent := by
  intro s hw
  refine ⟨fun hc => congrArg Host.Outcome.next (if_pos hc), fun hc => congrArg Host.Outcome.next (if_neg (by simp [hc])),
    fun m hc hd hsil hm => ?_, fun hc hexp => ?_, fun hc => ?_⟩
  · have htouch : takeClosing s.closed = descentEnd false (sendCommand .stop s.closed) := if_pos hd
    have hend : DescentEnded false m (sendCommand .stop s.closed) _ :=
      descentEnd_settled ((closed_atWork hw).congr rfl rfl rfl rfl id) hsil hm
    exact ⟨_, (exec_closing hw.noReset hc).trans (by rw [htouch]), outer_pins hend.outer, hend.motion, hend.command, hend.next,
      hend.current, hend.offered, hend.claimState, hend.space, hend.jtb, hend.flu, hend.meu⟩
  · intro u
    have hrest : takeClosing s.closed = u := by
      have hnd : s.closed.msq.motion ≠ .descend := by
        intro hd
        have hd' : s.msq.motion = .descend := hd
        simp [hd'] at hexp
      exact (if_neg hnd).trans (if_pos (closingExpected_iff.2 hexp))
    exact ⟨(exec_closing hw.noReset hc).trans (by rw [hrest]), settle_workKept (closed_atWork hw)⟩
  · intro u v
    have hexec := exec_opening hw.noReset hc
    refine ⟨fun hm => ⟨hexec.trans (by rw [if_pos hm]; rfl), settle_workKept (hw.congr rfl rfl rfl rfl id)⟩,
      fun hm => ⟨hexec.trans (by rw [if_neg hm]; rfl), settle_workKept (hw.congr rfl rfl rfl rfl id)⟩⟩

end Sys2Proof.Machine
end

section
/-! SUPPORT. The phases of DESCEND (R132, R134): O47. -/

namespace Sys2Proof.Machine

open Sys2Proof

variable {s t u : State} {r : DriveReport} {m : Membership} {x y z px py gx gy : Nat} {p : Profile}

/-! ## MOVEs inside the grant -/

/-- A point lies inside the grant and the held region (R123). -/
def State.allows (s : State) (x y : Nat) : Bool :=
  match s.msq.grant, s.scu.held with
  | some g, some h => g.contains x y && h.region.contains x y
  | _, _ => false

theorem sendMove_allowed (h : s.allows x y = true) : sendMove x y z p s = sendCommand (.move x y z p) s :=
  if_pos (Bool.or_eq_true_iff.2 (.inr h))

/-! ## The phases -/

/-- The SEARCH phase at a point where the contact is open (R132). -/
def searching (x y : Nat) (s : State) : State := s.onMsq fun m => { m with
  motion := .descend, descend := .search
  lastCommand := some { number := s.nextCommand, order := .move x y s.cfg.zo .search } }

theorem startSearch_moves (hc : s.pins.contact = false) (hst : s.stand = (x, y)) (ha : s.allows x y = true) :
    startSearch s = searching x y s := by
  have h : startSearch s = sendMove s.stand.1 s.stand.2 s.cfg.zo .search
      (s.onMsq fun m => { m with motion := .descend, descend := .search }) := if_neg (by simp [hc])
  rw [h, hst]
  exact sendMove_allowed (by exact ha)

theorem searching_eq (hm : s.msq.motion = .descend) (hst : s.msq.standing = some (x, y)) : searching x y s =
    s.onMsq fun m => { m with
      descend := .search, standing := some (x, y)
      lastCommand := some { number := s.nextCommand, order := .move x y s.cfg.zo .search } } := by
  simp only [searching, State.onMsq, hm, hst]

theorem startSearch_touches (hc : s.pins.contact = true) :
    startSearch s = touchdown (s.onMsq fun m => { m with motion := .descend, descend := .search }) := if_pos hc

theorem startScrub_moves (ha : s.allows s.scrubTarget.1 s.scrubTarget.2 = true) : startScrub s =
    sendCommand (.move s.scrubTarget.1 s.scrubTarget.2 s.cfg.zs .search) (s.onMsq fun m => { m with descend := .scrub }) := if_pos ha

theorem startScrub_skips (ha : s.allows s.scrubTarget.1 s.scrubTarget.2 = false) : startScrub s = startSearch s :=
  if_neg (by rw [show s.moveAllowed _ _ .search = false from ha]; exact Bool.false_ne_true)

/-! ## The REPORT that completes a command -/

/-- A REPORT without a fault is kept, and completes its command (R121, R122). -/
theorem takeReport_clean (hf : r.fault = false) (hb : s.breaches r = false) : takeReport r s =
    if s.completes r then commandComplete (keepReport r s) else keepReport r s := by
  simp only [takeReport, hf, hb, Bool.and_false, reportFaults]
  rfl

/-- What a REPORT without a fault leaves of a head that descends (R122, R139). -/
theorem keepReport_descend (hm : s.msq.motion = .descend) (hf : r.fault = false) (hb : s.breaches r = false) : keepReport r s =
    (s.onStc fun c => { c with driveSeen := c.driveSeen || c.selfTesting }).onMsq fun m => { m with
      lastReport := some r, driveReported := false, breachReported := false
      driveSilence := if s.msq.motion = .offline then m.driveSilence else some 2000000 } := by
  have hb' : (s.onStc fun c => { c with driveSeen := c.driveSeen || c.selfTesting }).breaches r = false := hb
  simp only [keepReport, hf, Bool.not_false, Bool.and_true, Bool.and_false, State.supervises, State.onStc_msq, hm, hb']
  rfl

theorem completes_iff : s.completes r = true ↔
    ∃ c, s.msq.lastCommand = some c ∧ r.inPosition = true ∧ r.number.toNat = c.number := by
  unfold State.completes
  cases s.msq.lastCommand <;> simp

/-- A REPORT that completes the last command of a descent. -/
theorem takeReport_descend (hw : s.AtWork) (hm : s.msq.motion = .descend) (hf : r.fault = false) (hb : s.breaches r = false)
    (hd : s.completes r = true) : takeReport r s = descendComplete (keepReport r s) := by
  have hmot : (keepReport r s).msq.motion = .descend := hm
  have hl : (keepReport r s).lifting = false := hw.noLift
  rw [takeReport_clean hf hb, if_pos hd, commandComplete, if_neg (by simp [hl])]
  simp only [hmot]

/-- Settles O47: each phase completes into the next (`startSearch_moves`, `startScrub_moves`), or the descent ends
(`descentEnd_settled`). -/
theorem descentFollowsTheDrive : Obligations.DescentFollowsTheDrive := by
  intro s r px py gx gy hw hm hf hb hst htg kept done allowed goes searching' ends hdone
  have hkept : keepReport r s = kept := keepReport_descend hm hf hb
  have hstand : kept.stand = (px, py) := by simp [kept, State.stand, hst]
  have hgoal : kept.goal = (gx, gy) := by simp [kept, State.goal, htg]
  have hscrub : kept.scrubTarget = (gx + s.msq.retouch, gy) := by
    rw [State.scrubTarget, hgoal]
    rfl
  have hexec {u : State} (hu : descendComplete kept = u) : exec (.driveReport r) s = .next (settle u) := by
    rw [exec_driveReport hw.noReset, takeReport_descend hw hm hf hb (completes_iff.2 hdone), hkept, hu]
  have hkm : kept.msq.motion = .descend := hm
  have hkw : kept.AtWork := hw.congr rfl rfl rfl rfl id
  have hphase : descendComplete kept = match s.msq.descend with
      | .approach => startSearch kept
      | .search => if s.pins.contact then kept else overtravel kept
      | .rise => startScrub kept
      | .scrub => startSearch (standAtTip kept) := rfl
  have hgoes {u : State} (hu : descendComplete kept = u) (huw : u.AtWork) : goes u := ⟨hexec hu, settle_workKept huw⟩
  have hends {v : State} {nc : Bool} {order : DriveOrder} {m : Membership} (hv : descendComplete kept = descentEnd nc v)
      (hvw : v.AtWork) (hsil : v.lif.silent = false) (hrvu : v.rvu = s.rvu) (hflu : v.flu = s.flu)
      (hclaim : v.claimState = s.claimState) (hcur : s.rvu.current = some m)
      (hcmd : v.msq.lastCommand = some { number := s.nextCommand, order := order }) : ends nc order m := by
    have h : DescentEnded nc m v _ := descentEnd_settled hvw hsil (hrvu ▸ hcur)
    exact ⟨_, hexec hv, h.motion, h.next.trans (by rw [hrvu]), h.current, h.flu.trans hflu, h.claimState.trans hclaim,
      h.command.trans hcmd, h.offered⟩
  refine ⟨fun hd hc ha => ?_, fun m hd hc hsil hcur => ?_, fun m hd hc hsil hcur hin => ?_, fun hd hc => ?_, fun hd ha => ?_,
    fun hd ha hc ha' => ?_, fun hd hc ha => ?_⟩ <;> rw [hd] at hphase
  · refine hgoes (hphase.trans ?_) (hw.congr rfl rfl rfl rfl id)
    exact (startSearch_moves (s := kept) hc hstand ha).trans (searching_eq hkm hst)
  · exact hends (hphase.trans (startSearch_touches hc)) (hw.congr rfl rfl rfl rfl nofun) hsil rfl rfl rfl hcur rfl
  · have hover : sendMove kept.stand.1 kept.stand.2 kept.cfg.zs .lift kept = sendCommand (.move px py s.cfg.zs .lift) kept := by
      rw [hstand]
      rcases hin with ⟨hx, hy⟩ | hin
      · exact sendMove_standing (by simp [kept]) (by rw [← hx, ← hy]; rfl)
      · exact sendMove_allowed hin
    have hv : descendComplete kept = descentEnd true (sendCommand (.move px py s.cfg.zs .lift) kept) :=
      hphase.trans ((if_neg (by simp [hc])).trans (congrArg (descentEnd true) hover))
    exact hends hv (hw.congr rfl rfl rfl rfl id) hsil rfl rfl rfl hcur rfl
  · exact hgoes (hphase.trans (if_pos hc)) hkw
  · refine hgoes (hphase.trans ?_) (hw.congr rfl rfl rfl rfl id)
    rw [startScrub_moves (by rw [hscrub]; exact ha), hscrub]
    rfl
  · refine hgoes (hphase.trans ?_) (hw.congr rfl rfl rfl rfl id)
    rw [startScrub_skips (by rw [hscrub]; exact ha)]
    exact (startSearch_moves (s := kept) hc hstand ha').trans (searching_eq hkm hst)
  · refine hgoes (hphase.trans ?_) (hw.congr rfl rfl rfl rfl id)
    exact (startSearch_moves (s := standAtTip kept) hc rfl ha).trans (searching_eq (s := standAtTip kept) hkm rfl)

end Sys2Proof.Machine
end

section
/-! SUPPORT. A request for a corridor that is taken (R98), and the timers of a head that waits (R125, R128, R137): O49. -/

namespace Sys2Proof.Machine

open Sys2Proof

variable {s t u : State} {m : Membership} {c : Claim}

/-! ## A corridor asked for -/

theorem refusesClaim_iff : s.refusesClaim c = true ↔
    s.scu.doubt = true ∨ s.scu.replyQueued = true ∨ s.scu.pending ≠ none ∨ s.conflictsMap c.rect = true := by
  simp [State.refusesClaim, or_assoc, Option.isSome_iff_ne_none]

/-- A request of `s` was taken: its claim is pending and, with nothing on the lane, its CLAIM stands in the SAFETY queue (R98). -/
structure Requested (c : Claim) (s t : State) : Prop where
  pending : t.scu.pending = some { claim := c, stage := .queued }
  sure    : t.scu.doubt = false
  free    : t.conflictsMap c.rect = false
  claim   : s.lif.tx = none → TxFrame.claim c.kind c.rect ∈ t.lif.safety

theorem Requested.congr (h : Requested c s t) (hscu : u.scu = t.scu) (hlif : u.lif = t.lif) : Requested c s u where
  pending := by rw [hscu, h.pending]
  sure := by rw [hscu, h.sure]
  free := by
    have hf := h.free
    rwa [State.conflictsMap, State.mapRects, ← hscu] at hf
  claim hx := by
    rw [hlif]
    exact h.claim hx

theorem queueClaim_requested (hs : s.lif.silent = false) (hl : s.lifting = false) (hr : s.refusesClaim c = false) :
    Requested c s (queueClaim c s) := by
  obtain ⟨hd, -, -, hc⟩ : s.scu.doubt = false ∧ s.scu.replyQueued = false ∧ s.scu.pending = none ∧
      s.conflictsMap c.rect = false := by
    simpa [refusesClaim_iff] using Bool.eq_false_iff.1 hr
  exact {
    pending := by simp [queueClaim]
    sure := by simpa [queueClaim] using hd
    free := by simpa [State.conflictsMap, State.mapRects, queueClaim] using hc
    claim := fun hx => offerSafety_mem (s := s.onScu fun u => { u with pending := some { claim := c, stage := .queued } }) hs hl hx }

theorem Requested.fresh (h : Requested c s t) : t.claimStale = false := by
  simp [State.claimStale, h.pending, h.sure, h.free]

/-- A request taken is no cause for a census, and a TAKE offered after it leaves it. -/
theorem Requested.offers (h : Requested c s t) : Requested c s (regap (settleCensus (settleTake t))) := by
  have hc : settleCensus (settleTake t) = settleTake t := if_neg (by simp [h.sure])
  rw [hc]
  refine { pending := by simpa using h.pending, sure := by simpa using h.sure, free := ?_, claim := fun hx => ?_ }
  · simpa [State.conflictsMap, State.mapRects] using h.free
  · change _ ∈ (settleTake t).lif.safety
    rw [(settleTake_safety t).1]
    exact h.claim hx

/-! ## The idle-park timer -/

/-- A head that waits for its park corridor asks for no other. -/
theorem settleSpace_seeking (hm : s.msq.motion = .parking) (hp : s.msq.park = .seek) :
    settleSpace (settleIdle s) = s.msqRests := by
  rw [settleIdle_notIdle (by simp [hm])]
  simp only [settleSpace, State.msqRests, State.onMsq, hm, hp]
  split
  · rfl
  next he => simp_all

theorem settleServe_moving (h1 : s.msq.motion ≠ .idle) (h2 : s.msq.motion ≠ .parked) : settleServe s = s := by
  unfold settleServe
  split
  · exact if_neg (by simp [h1, h2])
  · rfl

theorem settleHandover_park (s : State) : (settleHandover s).msq.park = s.msq.park := by
  unfold settleHandover
  (repeat' split) <;> rfl

/-- A head that has asked for its park corridor waits for it. -/
theorem settle_seeking (hw : u.AtWork) (hm : u.msq.motion = .parking) (hp : u.msq.park = .seek) (hr : Requested c s u) :
    (settle u).msq.motion = .parking ∧ (settle u).msq.park = .seek ∧ Requested c s (settle u) := by
  have hv : poised u = (settleHandover u).msqRests := by
    rw [poised, settleServe_moving (by simp [hm]) (by simp [hm]), settleSpace_seeking (by simp [hm]) (by simp [settleHandover_park, hp])]
  have hreq : Requested c s (poised u) := hr.congr (by simp [hv, State.msqRests]) (by simp [hv, State.msqRests])
  obtain ⟨kmsq, -⟩ := offers_keep (poised u)
  rw [settle_poised hw hr.fresh]
  refine ⟨?_, ?_, hreq.offers⟩
  · rw [kmsq, hv]
    exact (settleHandover_motion u).trans hm
  · rw [kmsq, hv]
    exact (settleHandover_park u).trans hp

/-! ## A head that stands IDLE or PARKED -/

/-- The VOID of a claim changes nothing of a head that neither asks for its way nor parks. -/
theorem settleClaim_stands (h1 : s.msq.motion ≠ .claiming) (h2 : s.msq.motion ≠ .parking) :
    (settleClaim s).msq = s.msq ∧ (settleClaim s).rvu = s.rvu ∧ (settleClaim s).stc = s.stc := by
  have hv : reportVoid (withdrawClaim s) = withdrawClaim s := by
    unfold reportVoid
    split
    next hm => exact absurd ((withdrawClaim_msq s).symm ▸ hm) h1
    next hm => exact absurd ((withdrawClaim_msq s).symm ▸ hm) h2
    · rfl
  have hr : withdrawAndReport s = withdrawClaim s := by
    dsimp only [withdrawAndReport]
    rw [hv, ite_self]
  unfold settleClaim
  split
  · rw [hr]
    exact ⟨withdrawClaim_msq s, withdrawClaim_rvu s, withdrawClaim_stc s⟩
  · exact ⟨rfl, rfl, rfl⟩

/-- What the blocks do of a head without memberships and points that stands IDLE or PARKED. -/
theorem settle_standing (hw : s.AtWork) (h1 : s.msq.motion ≠ .claiming) (h2 : s.msq.motion ≠ .parking)
    (hc : s.rvu.current = none) (hp : s.msq.waiting = none) :
    (settle s).msq = (settleSpace (settleIdle (settleClaim s))).msq := by
  obtain ⟨hmsq, hrvu, -⟩ := settleClaim_stands h1 h2
  have hserve : settleServe (settleClaim s) = settleClaim s := by simp [settleServe, hmsq, hp]
  rw [settle_atWork hw fun hj => hw.joined (settleClaim_joining hj), settleHandover_memberless (by rw [hrvu, hc]), hserve,
    (offers_keep _).1]

/-! ## The end of the space wait -/

theorem endMember_atWork (hw : s.AtWork) (job : Nat) : (endMember job s).AtWork :=
  hw.congr (by simp) (by simp) (by simp) (halt_congr (by simp) (by simp)) (by simp)

theorem endSpaceWait_stopped (h : s.msq.spaceWait = none) : endSpaceWait s = s := if_neg (by simp [h])

/-- The space wait has run out in WAIT_SPACE: the membership given up, before the head turns to IDLE or PARKED (R79, R128). -/
def givenUp (m : Membership) (s : State) : State :=
  endMember m.job (offerWork (.drop m.job .space 0) (s.onMsq fun q => { q with spaceWait := none }))

theorem endSpaceWait_waiting (h : s.msq.spaceWait ≠ none) (hm : s.msq.motion = .waitSpace) (hc : s.rvu.current = some m) :
    endSpaceWait s = idleOrParked (givenUp m s) := by
  have hc' : (s.onMsq fun q => { q with spaceWait := none }).rvu.current = some m := hc
  rw [endSpaceWait, if_pos (Option.isSome_iff_ne_none.2 h)]
  simp only [State.onMsq_msq, hm, spaceDrop, hc', givenUp]

theorem givenUp_msq (m : Membership) (s : State) : (givenUp m s).msq = { s.msq with spaceWait := none } := by
  simp [givenUp]

theorem givenUp_atWork (hw : s.AtWork) (m : Membership) : (givenUp m s).AtWork := by
  have hv : (s.onMsq fun q => { q with spaceWait := none }).AtWork := hw.congr rfl rfl rfl rfl id
  exact endMember_atWork ((offerWork_serviceKept ..).atWork hv) _

theorem givenUp_offered (hw : s.AtWork) (hs : s.lif.silent = false) (m : Membership) :
    TxFrame.drop m.job .space 0 ∈ (givenUp m s).offered :=
  endMember_offered _ (offerWork_mem hs hw.noLift) fun _ => rfl

/-- A head that has given its last membership up stands IDLE or PARKED (R128). -/
theorem givenUp_settles (hw : s.AtWork) (hc : s.rvu.current = some m) (hn : s.rvu.next = none) (hp : s.msq.waiting = none) :
    (s.scu.held = none → (settle (idleOrParked (givenUp m s))).msq.motion = .parked ∧
      (settle (idleOrParked (givenUp m s))).msq.grant = none) ∧
    (s.scu.held ≠ none → s.boardActive = true → s.msq.parkRequest = false →
      (settle (idleOrParked (givenUp m s))).msq.motion = .idle) := by
  set v := givenUp m s with hv
  have hheld : v.scu.held = s.scu.held := by simp [v, givenUp]
  have hmsq : v.msq = _ := givenUp_msq m s
  have hstc : v.stc = s.stc := by simp [v, givenUp]
  have hcur : v.rvu.current = none := endMember_only (by simpa using hc) (by simpa using hn)
  have huw := (idleOrParked_serviceKept v).atWork (givenUp_atWork hw m)
  have hstand (h1 : (idleOrParked v).msq.motion ≠ .claiming) (h2 : (idleOrParked v).msq.motion ≠ .parking)
      (h3 : (idleOrParked v).msq.waiting = none) :=
    settle_standing huw h1 h2 (by rw [idleOrParked_rvu, hcur]) h3
  refine ⟨fun hh => ?_, fun hh hb hpr => ?_⟩
  · have hpm : (idleOrParked v).msq = _ := (congrArg State.msq (idleOrParked_free (hheld.trans hh))).trans (enterParked_msq v)
    have hcm := (settleClaim_stands (s := idleOrParked v) (by simp [hpm]) (by simp [hpm])).1
    rw [hstand (by simp [hpm]) (by simp [hpm]) (by rw [hpm, hmsq]; exact hp),
      settleSpace_still (by simp [hcm, hpm]) (by simp [hcm, hpm]) (by simp [hcm, hpm])]
    simp [State.msqRests, hcm, hpm]
  · have hid : idleOrParked v = enterIdle v := idleOrParked_holding (by rwa [hheld])
    have him : (idleOrParked v).msq.motion = .idle := by rw [hid]; rfl
    obtain ⟨hcm, -, hcs⟩ := settleClaim_stands (s := idleOrParked v) (by simp [him]) (by simp [him])
    rw [hstand (by simp [him]) (by simp [him]) (by rw [hid]; change v.msq.waiting = none; rw [hmsq]; exact hp)]
    refine settleIdle_stays (by rw [hcm, him]) ?_ ?_
    · rw [boardActive_congr (s := s) (by rw [hcs, hid, enterIdle_stc, hstc])]
      exact hb
    · rw [hcm, hid]
      change v.msq.parkRequest = false
      rw [hmsq]
      exact hpr

/-! ## The obligation -/

/-- Settles O49: the idle-park timer by the corridor asked for (`settle_seeking`), the space wait by the membership given up
(`givenUp_settles`). -/
theorem idleAndSpaceTimersEndTheWait : Obligations.IdleAndSpaceTimersEndTheWait := by
  intro s hw c refused
  have hgate (g : State → State) : unlessLift g s = g s := if_neg (by simp [hw.noLift])
  have hexec {k : Instr} {g : State → State} (hk : exec k s = live (unlessLift g) s) : exec k s = .next (settle (g s)) := by
    rw [hk, live_eq _ hw.noReset, hgate]
  refine ⟨fun h => live_work hw.noReset ((hgate _).trans <| if_neg fun hi => ?_) hw, fun ht hm => ?_,
    fun h => live_work hw.noReset ((hgate _).trans <| endSpaceWait_stopped h) hw, fun h => ⟨fun hm => ?_, fun h1 h2 => ?_,
      fun m hm hsil hc => ?_⟩⟩
  · rcases h with h | h
    · simp [h] at hi
    · exact h hi.2
  · set v := s.onMsq fun m => { m with motion := .parking, idleTimer := none } with hv
    have hvw : v.AtWork := hw.congr rfl rfl rfl rfl nofun
    have hpark : idlePark s = askPark v := if_pos ⟨Option.isSome_iff_ne_none.2 ht, hm⟩
    have href : refused ↔ v.refusesClaim c = true := refusesClaim_iff.symm
    refine ⟨fun hr => live_work hw.noReset ((hgate _).trans <| hpark.trans (if_pos (href.1 hr))) (hw.congr rfl rfl rfl rfl nofun),
      fun hr hsil => ?_⟩
    have hr' : v.refusesClaim c = false := Bool.eq_false_iff.2 (mt href.2 hr)
    have hask : askPark v = (queueClaim c v).onMsq fun m => { m with park := .seek } := if_neg (mt href.2 hr)
    have huw : (askPark v).AtWork := by
      rw [hask]
      exact hvw.congr (by simp) (by simp) (by simp) (halt_congr (by simp) (by simp)) (by simp [v])
    have hreq : Requested c v (askPark v) := by
      rw [hask]
      exact (queueClaim_requested (s := v) hsil hw.noLift hr').congr rfl rfl
    obtain ⟨hmot, hseek, hend⟩ := settle_seeking huw (by rw [hask]; simp [v]) (by rw [hask]; simp) hreq
    have hk := settle_workKept huw
    exact ⟨_, (hexec rfl).trans (by rw [hpark]), hmot, hseek, hend.pending,
      hk.command.trans (by rw [hask]; simp [v]), hk.claimState.trans (by simp [v]), hk.jtb.trans (by simp [v]), hend.claim⟩
  · refine live_work hw.noReset ((hgate _).trans ?_) (hw.congr rfl rfl rfl rfl id)
    rw [endSpaceWait, if_pos (Option.isSome_iff_ne_none.2 h)]
    simp only [State.onMsq_msq, hm]
    rfl
  · refine live_work hw.noReset ((hgate _).trans ?_) (hw.congr rfl rfl rfl rfl id)
    rw [endSpaceWait, if_pos (Option.isSome_iff_ne_none.2 h)]
    dsimp only
    split
    next hx => exact absurd hx h2
    next hx => exact absurd hx h1
    · rfl
  · set u := idleOrParked (givenUp m s) with hu
    have huw : u.AtWork := (idleOrParked_serviceKept _).atWork (givenUp_atWork hw m)
    have hmarked : u.msq.motion = .claiming → u.msq.abandonMark = true := fun hcl => by
      rcases idleOrParked_motion (givenUp m s) with hi | hi <;> simp [u, hi] at hcl
    have hk := settle_workKept huw
    have hseats : (settle u).seats = (s.rvu.next.map (·.job), none) := by
      rw [settle_seats_marked huw hmarked, (idleOrParked_serviceKept _).seats, givenUp, endMember_seats (by simpa using hc)]
      simp
    simp only [State.seats, Prod.mk.injEq, Option.map_eq_none_iff] at hseats
    refine ⟨settle u, (hexec rfl).trans (by rw [endSpaceWait_waiting h hm hc]),
      hk.offered _ (idleOrParked_offered (givenUp_offered hw hsil m)) fun _ => rfl, hk.jtb.trans (by simp [u, givenUp]),
      hseats.1, hseats.2, hk.claimState.trans (by simp [u, givenUp]), fun hn hp => givenUp_settles hw hc hn hp⟩

end Sys2Proof.Machine
end

section
/-! SUPPORT. A SET at the entry and at the head's own membership (R74 to R76), and the serving of a FORMED membership's point
(R78, R124, R127): O18. -/

namespace Sys2Proof.Machine

open Sys2Proof

variable {s t u : State} {f : RxFrame} {e : Entry} {m : Membership} {src job x y : Nat} {ts : List Nat} {p : Point}

/-! ## A SET and its entry -/

theorem acceptsSet_iff : e.acceptsSet src ts = true ↔ ts.length = e.offer.points.length ∧ (∀ n ∈ ts, 1 ≤ n ∧ n ≤ 8) ∧
    ts.Nodup ∧ ts.head? = some src ∧ e.formed = false := by
  simp [Entry.acceptsSet, isHead, and_assoc]

/-- The entry of a job is FORMED with the takers of its SET (R74). -/
def setForms (job : Nat) (ts : List Nat) (s : State) : State :=
  updEntry job (fun e => { e with takers := ts.map some, formed := true, window := none, grace := none }) s

theorem takeSet_counted (h : e.acceptsSet src ts ≠ true) : takeSet e src ts s = countDiscard s := if_neg h

theorem takeSet_own (h : e.acceptsSet src ts = true) (ho : src = s.own) :
    takeSet e src ts s = ownSet e.offer.job (compareSet e.offer.job ts (setForms e.offer.job ts s)) := by
  rw [takeSet, if_pos h]
  exact if_pos (by simpa [State.own, updEntry] using ho)

theorem takeSet_peer (h : e.acceptsSet src ts = true) (ho : src ≠ s.own) :
    takeSet e src ts s = compareSet e.offer.job ts (setForms e.offer.job ts s) := by
  rw [takeSet, if_pos h]
  exact if_neg (by simpa [State.own, updEntry] using ho)

/-! ## A SET and the head's membership -/

/-- The membership that a SET names for its role (R75, R90). -/
def Membership.toFormed (ts : List Nat) (m : Membership) : Membership :=
  { m with state := .formed, takers := ts, landingLimit := if m.lead then none else some landingLimitTime }

theorem compareSet_named (hc : s.rvu.current = some m) (hn : s.rvu.next = none) (hst : m.state = .taken)
    (hr : ts[m.role]? = some s.own) :
    compareSet m.job ts s = s.onRvu fun v => { v with current := some (m.toFormed ts) } := by
  have h : compareSet m.job ts s = updMember m.job (·.toFormed ts) s := by
    rw [compareSet, member?_current hc]
    dsimp only
    rw [if_neg (not_not.2 hst), if_pos hr]
    rfl
  rw [h, updMember_current_eq hc (by simp [hn])]

theorem compareSet_left_out (hc : s.rvu.current = some m) (hst : m.state = .taken) (hr : ts[m.role]? ≠ some s.own) :
    compareSet m.job ts s = countMismatch (endMember m.job s) := by
  rw [compareSet, member?_current hc]
  dsimp only
  rw [if_neg (not_not.2 hst), if_neg hr]

theorem compareSet_memberless (h : s.member? job = none) :
    compareSet job ts s = if s.own ∈ ts then countMismatch s else s := by
  rw [compareSet, h]

theorem ownSet_lead (hc : s.rvu.current = some m) (hn : s.rvu.next = none) (h0 : m.role = 0) (hst : m.state = .formed) :
    ownSet m.job s = s.onRvu fun v => { v with current := some { m with landingWait := some landingWaitTime } } := by
  have h : ownSet m.job s = updMember m.job (fun m => { m with landingWait := some landingWaitTime }) s := by
    rw [ownSet, member?_current hc]
    exact if_pos (by simp [Membership.lead, h0, hst])
  rw [h, updMember_current_eq hc (by simp [hn])]

theorem ownSet_memberless (h : s.member? job = none) (hj : s.msq.motion ≠ .joining) :
    ownSet job s = offerWork (.drop job .late 0) s := by
  rw [ownSet, h]
  exact if_neg fun hl => hj hl.2

/-- A membership that its SET names for its role is FORMED; the lead at its own SET waits for the landings (R75, R76, R90). -/
theorem takeSet_named (ha : e.acceptsSet src ts = true) (hc : s.rvu.current = some m) (hn : s.rvu.next = none)
    (hj : m.job = e.offer.job) (hst : m.state = .taken) (hr : ts[m.role]? = some s.own) (ho : src = s.own ↔ m.role = 0) :
    takeSet e src ts s = (setForms e.offer.job ts s).onRvu fun v => { v with current := some { m with
      state := .formed, takers := ts
      landingLimit := if m.role = 0 then none else some 2100000000
      landingWait := if m.role = 0 then some 2000000000 else m.landingWait } } := by
  set v := setForms e.offer.job ts s with hv
  have hcmp : compareSet e.offer.job ts v = v.onRvu fun v => { v with current := some (m.toFormed ts) } :=
    hj ▸ compareSet_named (s := v) hc hn hst hr
  by_cases h0 : m.role = 0
  · have hown := ownSet_lead (s := v.onRvu fun v => { v with current := some (m.toFormed ts) }) (m := m.toFormed ts) rfl hn h0 rfl
    rw [takeSet_own ha (ho.2 h0), hcmp, ← hj]
    refine hown.trans ?_
    simp only [Membership.toFormed, Membership.lead, h0]
    rfl
  · rw [takeSet_peer ha (mt ho.1 h0), hcmp]
    simp only [Membership.toFormed, Membership.lead, beq_iff_eq, h0, if_false]
    rfl

/-- The blocks make no membership of themselves in a running part either. -/
theorem settle_noMember (h : s.Running) (hc : s.rvu.current = none) : (settle s).rvu.current = none := by
  have hhalt : (settleHalt s).rvu.current = none := by
    unfold settleHalt
    split
    · simp [haltFreeze, endMembers]
    · exact hc
  have hfence : (settleAction (settleClaim (settleHalt s))).flu.fence ≠ .restartWait :=
    settleAction_fence (by simpa using h.noFence1)
  have hplace (v : State) (hv : v.rvu.current = none) : (settlePlacing v).rvu.current = none := by
    unfold settlePlacing
    split
    · extract_lets c
      split
      · exact hv
      next hq =>
        split
        · exact startConflict_current (by simp at hq; exact hq.2)
        · simpa using hv
    · exact hv
  have hplaced := hplace (settleAction (settleClaim (settleHalt s))) (by simpa using settleClaim_current hhalt)
  rw [settle, if_neg (by simp [h.noLift]), settleRestart_idle hfence, settleHandover_memberless hplaced]
  simpa using hplaced

/-! ## The point of a FORMED membership -/

/-- A membership handed over touches the waiting point of MSQ alone. -/
theorem settleHandover_msq (s : State) :
    (settleHandover s).msq = { s.msq with waiting := (settleHandover s).msq.waiting } := by
  unfold settleHandover
  (repeat' split) <;> rfl

theorem settleHandover_formed (hc : s.rvu.current = some m) (hst : m.state = .formed) (hm : s.msq.motion ≠ .frozen)
    (hf : s.flu.fence = .noFence) (he : s.entry? m.job = some e) (hp : e.offer.points[m.role]? = some p) :
    (settleHandover s).rvu.current = some { m with state := .moving } ∧
      (settleHandover s).msq.waiting = some (p.x, p.y) := by
  simp only [settleHandover, hc, if_pos (⟨hst, hm, hf⟩ : m.state = .formed ∧ s.msq.motion ≠ .frozen ∧ s.flu.fence = .noFence),
    he, Option.bind_some, hp]
  exact ⟨rfl, rfl⟩

theorem settleHandover_stays (h : ∀ m, s.rvu.current = some m → m.state = .formed → s.msq.motion = .frozen) :
    settleHandover s = s := by
  unfold settleHandover
  split
  next m hc => exact if_neg fun hf => hf.2.1 (h m hc hf.1)
  · rfl

/-- Without an event of the claim space a head that is not in IDLE asks for no corridor. -/
theorem settleSpace_unasked (hm : s.msq.motion ≠ .idle) (he : s.msq.spaceEvent = false) :
    settleSpace (settleIdle s) = s.msqRests := by
  rw [settleIdle_notIdle hm, settleSpace, if_neg (by simp [he]), State.msqRests]
  simp only [State.onMsq, ← he]

theorem settle_membership (hw : s.AtWork) (hf : s.claimStale = false) :
    (settle s).rvu.current = (settleHandover s).rvu.current := by
  rw [settle_poised hw hf]
  simp [poised_rvu]

/-- A head that does not stand IDLE or PARKED keeps its waiting point (R124). -/
theorem settle_keepsPoint (hw : s.AtWork) (hf : s.claimStale = false) (he : s.msq.spaceEvent = false)
    (hi : s.msq.motion ≠ .idle) (hp : s.msq.motion ≠ .parked) :
    (settle s).msq.waiting = (settleHandover s).msq.waiting := by
  have hv : poised s = (settleHandover s).msqRests := by
    rw [poised, settleServe_moving (by simpa using hi) (by simpa using hp), settleSpace_unasked (by simpa using hi) (by simpa using he)]
  rw [settle_poised hw hf, (offers_keep _).1, hv]
  rfl

/-- The TRAVEL corridor from the tip to a point (R127). -/
def State.travelTo (s : State) (x y : Nat) : Claim := corridor s.cfg .travel s.tipX s.tipY x y

/-- A point is served: its corridor was asked for, and refused or taken (R124, R127). -/
structure ServedAt (x y : Nat) (s t : State) : Prop where
  waiting : t.msq.waiting = none
  target  : t.msq.target = some (x, y)
  retouch : t.msq.retouch = 0
  refused : s.refusesClaim (s.travelTo x y) = true →
    t.msq.motion = .waitSpace ∧ t.msq.spaceWait = (startSpaceWait s).msq.spaceWait
  asked   : s.refusesClaim (s.travelTo x y) = false → t.msq.motion = .claiming ∧ Requested (s.travelTo x y) s t

theorem ServedAt.congr (h : ServedAt x y s t) (hmsq : u.msq = { t.msq with idleTimer := none, spaceEvent := false })
    (hscu : u.scu = t.scu) (hlif : u.lif = t.lif) : ServedAt x y s u where
  waiting := by rw [hmsq]; exact h.waiting
  target := by rw [hmsq]; exact h.target
  retouch := by rw [hmsq]; exact h.retouch
  refused hr := by rw [hmsq]; exact h.refused hr
  asked hr := ⟨by rw [hmsq]; exact (h.asked hr).1, (h.asked hr).2.congr hscu hlif⟩

theorem ServedAt.offers (h : ServedAt x y s t) : ServedAt x y s (regap (settleCensus (settleTake t))) := by
  obtain ⟨kmsq, -⟩ := offers_keep t
  exact {
    waiting := by rw [kmsq]; exact h.waiting
    target := by rw [kmsq]; exact h.target
    retouch := by rw [kmsq]; exact h.retouch
    refused := fun hr => by rw [kmsq]; exact h.refused hr
    asked := fun hr => ⟨by rw [kmsq]; exact (h.asked hr).1, (h.asked hr).2.offers⟩ }

/-- MSQ takes a point as its target and asks for its way there (R124, R127). -/
def serving (x y : Nat) (s : State) : State :=
  askTravel (s.onMsq fun m => { m with waiting := none, retouch := 0, target := some (x, y) })

theorem serving_served (hs : s.lif.silent = false) (hl : s.lifting = false) :
    ServedAt x y s (serving x y s) ∧ (serving x y s).msq.motion ≠ .idle ∧
      (serving x y s).msq.spaceEvent = s.msq.spaceEvent := by
  set v := s.onMsq fun m => { m with waiting := none, retouch := 0, target := some (x, y) } with hv
  by_cases hr : s.refusesClaim (s.travelTo x y) = true
  · have h : serving x y s = enterWaitSpace v := if_pos hr
    rw [h]
    exact ⟨⟨rfl, rfl, rfl, fun _ => ⟨rfl, rfl⟩, fun hn => absurd hr (by simp [hn])⟩, nofun, rfl⟩
  · have h : serving x y s = (queueClaim (s.travelTo x y) v).onMsq fun m => { m with motion := .claiming } := if_neg hr
    have hq : Requested (s.travelTo x y) v (queueClaim (s.travelTo x y) v) :=
      queueClaim_requested (s := v) hs hl (Bool.eq_false_iff.2 hr)
    rw [h]
    refine ⟨⟨?_, ?_, ?_, fun hp => absurd hp hr, fun _ => ⟨rfl, { hq.congr rfl rfl with claim := hq.claim }⟩⟩, nofun, ?_⟩ <;>
      simp [v]

/-- A head that stands IDLE, or PARKED at work, serves its waiting point. -/
theorem settle_serves (hw : s.AtWork) (hs : s.lif.silent = false) (hf : s.claimStale = false) (he : s.msq.spaceEvent = false)
    (hm : s.msq.motion = .idle ∨ s.msq.motion = .parked) (hp : (settleHandover s).msq.waiting = some (x, y)) :
    ServedAt x y s (settle s) := by
  set v := settleHandover s with hv
  have hvmsq : v.msq = { s.msq with waiting := v.msq.waiting } := settleHandover_msq s
  have hhalt : v.halt = false := (halt_congr (by simp [v]) (by simp [v])).trans hw.noHalt
  have hserve : settleServe v = serving x y v := by
    simp only [settleServe, hp]
    exact if_pos (by simpa [hhalt, v] using hm)
  obtain ⟨hserved, hidle, hevent⟩ := serving_served (s := v) (x := x) (y := y) (by simpa [v] using hs)
    (by simpa [State.lifting, v] using hw.noLift)
  have hway : v.travelTo x y = s.travelTo x y := by
    simp [State.travelTo, State.cfg, State.tipX, State.tipY, v]
  have hrefuse : v.refusesClaim (s.travelTo x y) = s.refusesClaim (s.travelTo x y) := by
    simp [State.refusesClaim, State.conflictsMap, State.mapRects, v]
  have hwait : (startSpaceWait v).msq.spaceWait = (startSpaceWait s).msq.spaceWait := by
    have hsw : v.msq.spaceWait = s.msq.spaceWait := by rw [hvmsq]
    simp only [startSpaceWait, State.onMsq_msq, hsw, State.cfg, v, settleHandover_stc]
  have hfrom : ServedAt x y s (serving x y v) := {
    waiting := hserved.waiting, target := hserved.target, retouch := hserved.retouch
    refused := fun hr => by
      have h := hserved.refused (by rwa [hway, hrefuse])
      rwa [hwait] at h
    asked := fun hr => by
      obtain ⟨hmot, hreq⟩ := hserved.asked (by rwa [hway, hrefuse])
      rw [hway] at hreq
      exact ⟨hmot, { hreq with claim := fun hx => hreq.claim (by simpa [v] using hx) }⟩ }
  have hpoised : poised s = (serving x y v).msqRests := by
    rw [poised, hserve, settleSpace_unasked hidle (hevent.trans (by simpa [v] using he))]
  rw [settle_poised hw hf, hpoised]
  exact (hfrom.congr (u := (serving x y v).msqRests) rfl rfl rfl).offers

/-! ## Under HALT -/

theorem settleAction_halt (s : State) : (settleAction s).halt = s.halt := by
  unfold settleAction
  (repeat' split) <;> rfl

/-- Under HALT a point waits in PARKED (R124, R141). -/
theorem settle_haltedParked (h : s.Running) (hm : s.msq.motion = .parked) (hh : s.halt = true)
    (hc : ∀ m, s.rvu.current = some m → m.state ≠ .formed) :
    (settle s).msq.motion = .parked ∧ (settle s).msq.waiting = s.msq.waiting := by
  have hhalt : settleHalt s = s := by simp [settleHalt, hm, MotionState.haltActs]
  obtain ⟨hcm, hcr, -⟩ := settleClaim_stands (s := s) (by simp [hm]) (by simp [hm])
  set v := settleAction (settleClaim s) with hv
  have hvm : v.msq = s.msq := (settleAction_msq _).trans hcm
  have hvr : v.rvu = s.rvu := (settleAction_rvu _).trans hcr
  have hvh : v.halt = true := (settleAction_halt _).trans ((halt_congr (by simp) (by simp)).trans hh)
  have hfence : v.flu.fence ≠ .restartWait := settleAction_fence (by simpa using h.noFence1)
  have hserve : settleServe v = v := by
    unfold settleServe
    split
    · exact if_neg (by simp [hvm, hm, hvh])
    · rfl
  rw [settle, if_neg (by simp [h.noLift]), hhalt, settleRestart_idle hfence, settlePlacing_idle (by simp [hvm, hm]),
    settleHandover_stays fun m hcm hst => absurd hst (hc m (hvr ▸ hcm)), hserve,
    settleSpace_still (by simp [hvm, hm]) (by simp [hvm, hm]) (by simp [hvm, hm]), (offers_keep _).1]
  have hvw : v.msq.waiting = s.msq.waiting := congrArg Msq.waiting hvm
  exact ⟨(congrArg Msq.motion hvm).trans hm, hvw⟩

/-! ## The obligation -/

/-- A SET for a held job is judged at its entry (R74). -/
theorem set_heard (hs : s.Running) (ha : s.Accepts .set f) (he : s.entry? (rxJob f) = some e) :
    hear .set f (Instr.effect (.set f)) s = takeSet e f.src.toNat (rxSetTakers f) (received .set f s) := by
  refine (hear_accepts _ ha).trans ?_
  change unlessLift (hearSet f) (received .set f s) = _
  rw [unlessLift, if_neg (by simp [hs.noLift]), hearSet, received_entry?, he]

/-- A SET that leaves the head's TAKEN membership out ends it, and is a mismatch (R75). -/
theorem takeSet_left_out (hr : s.Running) (ha : e.acceptsSet src ts = true) (ho : src ≠ s.own) (hc : s.rvu.current = some m)
    (hn : s.rvu.next = none) (hj : m.job = e.offer.job) (hst : m.state = .taken) (hts : ts[m.role]? ≠ some s.own) :
    (settle (takeSet e src ts s)).jtb = (setForms e.offer.job ts s).jtb ∧ (settle (takeSet e src ts s)).rvu.current = none ∧
      (settle (takeSet e src ts s)).rvu.mismatches = saturate8 s.rvu.mismatches := by
  set v := setForms e.offer.job ts s with hv
  have hleft : compareSet e.offer.job ts v = countMismatch (endMember e.offer.job v) :=
    hj ▸ compareSet_left_out (s := v) hc hst hts
  have hcmp : takeSet e src ts s = countMismatch (endMember e.offer.job v) := (takeSet_peer ha ho).trans hleft
  have hcur : (endMember e.offer.job v).rvu.current = none := hj ▸ endMember_only (s := v) hc hn
  rw [hcmp]
  set u := countMismatch (endMember e.offer.job v) with hu
  have hur : u.Running := hr.congr (by simp [u, v, setForms, updEntry]) (by simp [u, v, setForms, updEntry])
    (by simp [u, v, setForms, updEntry])
  have hk := settle_runKept hur
  refine ⟨hk.jtb.trans (by simp [u]), settle_noMember hur hcur, hk.mismatches.trans ?_⟩
  simp [u, countMismatch, v, setForms, updEntry]

/-- The head's own SET for a job in which it has lost its membership is taken back by DROP(LATE) (R76). -/
theorem takeSet_lost (hw : s.AtWork) (hs : s.lif.silent = false) (ha : e.acceptsSet src ts = true) (ho : src = s.own)
    (hm : s.member? e.offer.job = none) :
    (settle (takeSet e src ts s)).jtb = (setForms e.offer.job ts s).jtb ∧
      TxFrame.drop e.offer.job .late 0 ∈ (settle (takeSet e src ts s)).offered := by
  set v := setForms e.offer.job ts s with hv
  have hnamed : v.own ∈ ts := by
    obtain ⟨-, -, -, hhead, -⟩ := acceptsSet_iff.1 ha
    exact List.mem_of_head? (ho ▸ hhead)
  have hvm : v.member? e.offer.job = none := hm
  have hcw : (countMismatch v).AtWork := hw.congr rfl rfl rfl rfl id
  have hcmp : takeSet e src ts s = offerWork (.drop e.offer.job .late 0) (countMismatch v) := by
    rw [takeSet_own ha ho, compareSet_memberless hvm, if_pos hnamed]
    exact ownSet_memberless (s := countMismatch v) hm hw.joined
  have hk := settle_workKept ((offerWork_serviceKept (.drop e.offer.job .late 0) _).atWork hcw)
  rw [hcmp]
  exact ⟨hk.jtb.trans (by simp), hk.offered _ (offerWork_mem hs hw.noLift) fun _ => rfl⟩

/-- Settles O18: a SET by its entry and the head's membership (`takeSet_named`, `takeSet_left_out`, `takeSet_lost`), a point by
its handing over and serving (`settleHandover_formed`, `settle_serves`, `settle_keepsPoint`). -/
theorem setFormsTheWorkingSet : Obligations.SetFormsTheWorkingSet := by
  refine ⟨fun s f e hs ha he => ?_, fun s hw hsil hwin hfresh hev => ?_, fun s hs hwin hm hh hc => ?_⟩
  · intro r ts job good formed
    have hgood : e.acceptsSet f.src.toNat ts = true ↔ good := acceptsSet_iff
    have hheard := set_heard hs ha he
    have hexec : exec (.set f) s = .next (settle (takeSet e f.src.toNat ts r)) :=
      (live_eq _ hs.noReset).trans (congrArg (fun t => Host.Outcome.next (settle t)) hheard)
    have hrvu : r.rvu = s.rvu := received_rvu ..
    have hown : r.own = s.own := received_own ..
    have hrm : r.member? job = s.member? job := received_member? ..
    have hsrc : s.isOwn f = true ↔ f.src.toNat = r.own := by
      rw [hown]
      simp [State.isOwn]
    have hfr : formed.Running := hs.received.congr rfl rfl rfl
    refine ⟨fun h => live_run hs.noReset (hheard.trans (takeSet_counted (mt hgood.1 h))) (hs.received.congr rfl rfl rfl),
      fun h => ⟨fun m hc hn hj hst => ⟨fun hts hrole => ?_, fun hts ho => ⟨_, hexec, ?_⟩⟩, fun hm ho => ?_,
        fun hm ho hw hsil => ⟨_, hexec, ?_⟩⟩⟩
    · exact live_run hs.noReset (hheard.trans (takeSet_named (hgood.2 h) (hrvu ▸ hc) (hrvu ▸ hn) hj hst (hown ▸ hts)
        (hsrc.symm.trans hrole))) (hfr.congr rfl rfl rfl)
    · have hleft := takeSet_left_out hs.received (hgood.2 h) (mt hsrc.2 (by simp [ho])) (hrvu ▸ hc) (hrvu ▸ hn) hj hst (hown ▸ hts)
      rwa [hrvu] at hleft
    · refine live_run hs.noReset (hheard.trans ?_) ?_
      · rw [takeSet_peer (hgood.2 h) (mt hsrc.2 (by simp [ho])), compareSet_memberless (s := setForms job ts r) (hrm.trans hm), ← hown]
        rfl
      · split
        · exact hfr.congr rfl rfl rfl
        · exact hfr
    · exact takeSet_lost hw.received ((received_silent ..).trans hsil) (hgood.2 h) (hsrc.1 ho) (hrm.trans hm)
  · have hexec : exec .settleEnd s = .next (settle s) := (live_eq _ hw.noReset).trans (by rw [beginSampling, hwin])
    have hk := settle_workKept hw
    intro formed point served stands
    have hserved {x y : Nat} (h : ServedAt x y s (settle s)) : served x y (settle s) := by
      refine ⟨h.waiting, h.target, h.retouch, fun hr => h.refused (refusesClaim_iff.2 hr), fun hr => ?_⟩
      obtain ⟨hmot, hreq⟩ := h.asked (Bool.eq_false_iff.2 (mt refusesClaim_iff.1 hr))
      exact ⟨hmot, hreq.pending, hreq.claim⟩
    have hmember := settle_membership hw hfresh
    have hpoint {x y : Nat} (hp : (settleHandover s).msq.waiting = some (x, y)) :
        (stands → served x y (settle s)) ∧ (¬ stands → (settle s).msq.waiting = some (x, y)) := by
      refine ⟨fun hst => hserved (settle_serves hw hsil hfresh hev hst hp), fun hst => ?_⟩
      exact (settle_keepsPoint hw hfresh hev (mt .inl hst) (mt .inr hst)).trans hp
    refine ⟨fun m p hform hp hfroz => ?_, fun m hform hfroz => ?_, fun hnone x y hp => ?_⟩
    · obtain ⟨e, he, hpt⟩ := hp
      obtain ⟨hcur, hwait⟩ := settleHandover_formed hform.1 hform.2 hfroz hw.noFence he hpt
      exact ⟨_, hexec, hmember.trans hcur, hk.jtb, hk.claimState, hpoint hwait⟩
    · have hstay : settleHandover s = s := settleHandover_stays fun _ _ _ => hfroz
      refine ⟨_, hexec, hmember.trans (by rw [hstay, hform.1]), ?_⟩
      rw [settle_keepsPoint hw hfresh hev (by simp [hfroz]) (by simp [hfroz]), hstay]
    · have hstay : settleHandover s = s := settleHandover_stays fun m hc hst => absurd ⟨hc, hst⟩ (hnone m)
      exact ⟨_, hexec, hmember.trans (by rw [hstay]), hk.jtb, hk.claimState, hpoint (by rw [hstay, hp])⟩
  · have hexec : exec .settleEnd s = .next (settle s) := (live_eq _ hs.noReset).trans (by rw [beginSampling, hwin])
    obtain ⟨hmot, hwait⟩ := settle_haltedParked hs hm hh hc
    exact ⟨_, hexec, hmot, hwait, (settle_runKept hs).jtb⟩

end Sys2Proof.Machine
end

section
/-! SUPPORT. The geometry of claims (R93 to R96): O29. -/

namespace Sys2Proof.Machine

open Sys2Proof

variable {s : State} {c : ConfigRecord} {kind : ClaimKind} {xc yc xt yt x y m d : Nat} {a b : Rect} {p q : Int}

/-! ## Bounds -/

/-- The larger move, as R94 has it. -/
theorem chebyshev_natAbs (x y x' y' : Nat) : chebyshev x y x' y' = max ((x' : Int) - x).natAbs ((y' : Int) - y).natAbs := by
  unfold chebyshev
  omega

theorem swell_eq (kind : ClaimKind) (m d : Nat) :
    swell kind m d = if kind = .travel then m + min m ((d + 63) / 64) else m := by
  cases kind <;> rfl

/-- The swell lies from M to 2M (R94). -/
theorem swell_bounds (kind : ClaimKind) (m d : Nat) : m ≤ swell kind m d ∧ swell kind m d ≤ 2 * m := by
  cases kind <;> simp only [swell] <;> omega

theorem swell_standing (m d : Nat) : swell .standing m d = m := rfl

theorem swell_zero (kind : ClaimKind) (m : Nat) : swell kind m 0 = m := by
  cases kind <;> simp [swell]

theorem clampBound_eq (n : Int) : clampBound n = (max 0 (min 65535 n)).toNat := by
  unfold clampBound
  split_ifs <;> omega

/-- Clamping keeps the order and brings no two bounds further apart. -/
theorem clampBound_le_add (h : p ≤ q + m) : clampBound p ≤ clampBound q + m := by
  rw [clampBound_eq, clampBound_eq]
  omega

/-- Bounds that lie apart, the lower below the end of the range and the upper above its start, stay apart. -/
theorem clampBound_lt (h : p < q) (hp : p < 65535) (hq : 0 < q) : clampBound p < clampBound q := by
  rw [clampBound_eq, clampBound_eq]
  omega

/-! ## Corridors -/

/-- A corridor along one axis, with swell S and extents: the rectangle's bounds of R95. -/
structure AxisBounds (m sw : Nat) (lo hi : Nat) : Prop where
  lt    : lo < hi
  upper : m ≤ 1000 → sw ≤ hi
  lower : lo ≤ 59992

/-- The box of two ends, grown by extents and swell, is not empty. -/
theorem axisBounds {sw e e' : Nat} (hm : 8 ≤ m) (h1 : m ≤ sw) (h2 : sw ≤ 2 * m) (hx : xc ≤ 60000) (hy : xt ≤ 60000) :
    AxisBounds m sw (clampBound ((min xc xt : Nat) - (e : Int) - sw)) (clampBound ((max xc xt : Nat) + (e' : Int) + sw)) where
  lt := clampBound_lt (by omega) (by omega) (by omega)
  upper h := by
    rw [clampBound_eq]
    omega
  lower := by
    rw [clampBound_eq]
    omega

/-- A move of length 0 has the STANDING rectangle (R94). -/
theorem corridorRect_still (c : ConfigRecord) (kind : ClaimKind) (x y : Nat) :
    corridorRect c kind x y x y = corridorRect c .standing x y x y := by
  have h : chebyshev x y x y = 0 := by simp [chebyshev]
  simp only [corridorRect, h, swell_zero]

theorem Region.contains_iff {r : Region} :
    r.contains x y = true ↔ r.xmin ≤ x ∧ (x : Int) ≤ r.xmax ∧ r.ymin ≤ y ∧ (y : Int) ≤ r.ymax := by
  simp [Region.contains, and_assoc]

/-- The STANDING rectangle at a point of the tip region reaches at most M beyond the corridor (R96). -/
theorem standing_within (h : (corridorRegion c kind xc yc xt yt).contains x y = true) :
    let k := corridorRect c kind xc yc xt yt
    let b := corridorRect c .standing x y x y
    k.xmin ≤ b.xmin + c.m ∧ b.xmax ≤ k.xmax + c.m ∧ k.ymin ≤ b.ymin + c.m ∧ b.ymax ≤ k.ymax + c.m := by
  obtain ⟨h1, h2, h3, h4⟩ := Region.contains_iff.1 h
  simp only [corridorRegion] at h1 h2 h3 h4
  simp only [corridorRect, swell_standing]
  generalize swell kind c.m (chebyshev xc yc xt yt) = sw at *
  refine ⟨clampBound_le_add ?_, clampBound_le_add ?_, clampBound_le_add ?_, clampBound_le_add ?_⟩ <;> omega

/-! ## Rectangles and the map -/

theorem Rect.conflicts_iff :
    a.conflicts b = true ↔ a.xmin < b.xmax ∧ b.xmin < a.xmax ∧ a.ymin < b.ymax ∧ b.ymin < a.ymax := by
  simp [Rect.conflicts, and_assoc]

theorem Rect.inside_iff :
    a.inside b = true ↔ b.xmin ≤ a.xmin ∧ a.xmax ≤ b.xmax ∧ b.ymin ≤ a.ymin ∧ a.ymax ≤ b.ymax := by
  simp [Rect.inside, and_assoc]

theorem Rect.conflicts_of_inside (ha : a.proper = true) (h : a.inside b = true) : a.conflicts b = true := by
  obtain ⟨h1, h2, h3, h4⟩ := inside_iff.1 h
  obtain ⟨h5, h6⟩ : a.xmin < a.xmax ∧ a.ymin < a.ymax := by simpa [Rect.proper] using ha
  rw [conflicts_iff]
  omega

/-- What is kept for the heads, with their stations. -/
theorem Heads.mem_list {α : Type} {h : Heads α} {n : Nat} {e : α} : (n, e) ∈ h.list ↔ h.at? n = some e := by
  unfold Heads.at?
  split <;> simp_all [Heads.list, eq_comm]

/-- Settles O29: the bounds of a corridor axis by axis (`axisBounds`, `standing_within`), then the relations of rectangles. -/
theorem corridorsFollowTheMove : Obligations.CorridorsFollowTheMove := by
  refine ⟨fun c kind xc yc xt yt hm hxc hyc hxt hyt => ?_, fun a b => ?_, fun s r => ?_⟩
  · intro d sw bound k
    have hsw : swell kind c.m (chebyshev xc yc xt yt) = sw := by rw [swell_eq, chebyshev_natAbs]
    obtain ⟨h1, h2⟩ := hsw ▸ swell_bounds kind c.m (chebyshev xc yc xt yt)
    have hrect : k.rect = { xmin := bound (min (xc : Int) xt - c.exn - sw), xmax := bound (max (xc : Int) xt + c.exp + sw)
                            ymin := bound (min (yc : Int) yt - c.eyn - sw), ymax := bound (max (yc : Int) yt + c.eyp + sw) } := by
      simp only [k, corridor, corridorRect, hsw, clampBound_eq, bound, Nat.cast_min, Nat.cast_max]
    have hx : AxisBounds c.m sw k.rect.xmin k.rect.xmax := by
      simpa only [k, corridor, corridorRect, hsw] using axisBounds hm h1 h2 hxc hxt
    have hy : AxisBounds c.m sw k.rect.ymin k.rect.ymax := by
      simpa only [k, corridor, corridorRect, hsw] using axisBounds hm h1 h2 hyc hyt
    have hregion : k.region = { xmin := min (xc : Int) xt - sw, xmax := max (xc : Int) xt + sw
                                ymin := min (yc : Int) yt - sw, ymax := max (yc : Int) yt + sw } := by
      simp only [k, corridor, corridorRegion, hsw, Nat.cast_min, Nat.cast_max]
    refine ⟨rfl, h1, h2, hrect, by simp [Rect.proper, hx.lt, hy.lt], fun h => ⟨hx.upper h, hy.upper h⟩, hx.lower, hy.lower,
      hregion, ?_, fun x y => ⟨Region.contains_iff, standing_within⟩⟩
    rintro rfl rfl
    exact ⟨by rw [← hsw, chebyshev_natAbs]; simp [swell_zero], corridorRect_still ..⟩
  · refine ⟨Rect.conflicts_comm a b, Rect.conflicts_iff, fun h => ?_, fun h => ?_, Rect.inside_iff, rfl, ?_, ?_,
      fun ha _ => Rect.conflicts_of_inside ha⟩
    · exact Bool.eq_false_iff.2 fun hc => by
        rw [Rect.conflicts_iff] at hc
        omega
    · exact Bool.eq_false_iff.2 fun hc => by
        rw [Rect.conflicts_iff] at hc
        omega
    · simp [Rect.inside_iff, Rect.bounding]
    · simp [Rect.inside_iff, Rect.bounding]
  · rw [conflictsMap_iff, Prod.exists]
    refine exists_congr fun n => exists_congr fun sl => and_congr Heads.mem_list (exists_congr fun q => ?_)
    rw [and_comm]
    refine and_congr_right fun _ => ?_
    cases sl.holds with
    | empty => simp [SlotHolds.rects]
    | held h => simp [SlotHolds.rects]
    | heldPending h p o t => simp [SlotHolds.rects]
    | frozen h p => simp [SlotHolds.rects]

end Sys2Proof.Machine
end

section
/-! SUPPORT. The frames of the claim space at their unit (chapter 05), and the map changed by a peer's SHRINK, RELEASE, window or
census reply (R100, R102, R108, R113, R114): O33 and O36. -/

namespace Sys2Proof.Machine

open Sys2Proof

variable {s t u v : State} {c : Instr} {k : Kind} {f : RxFrame} {n : Nat} {side : Side} {own : State → State}
  {peer : Nat → State → State}

/-! ## A frame of the claim space -/

theorem onSide_own (hr : s.Running) (ho : f.src.toNat = s.own) (hs : side = s.stc.side) : onSide side f own peer s = own s := by
  rw [onSide, unlessLift, if_neg (by simp [hr.noLift]), if_pos hs, if_pos ho]

theorem onSide_peer (hr : s.Running) (ho : f.src.toNat ≠ s.own) (hs : side = s.stc.side) :
    onSide side f own peer s = peer f.src.toNat s := by
  rw [onSide, unlessLift, if_neg (by simp [hr.noLift]), if_pos hs, if_neg ho]

theorem received_side (k : Kind) (f : RxFrame) (s : State) : (received k f s).stc.side = s.stc.side :=
  identity_side (received_identity k f s)

theorem received_slotOf (k : Kind) (f : RxFrame) (s : State) (n : Nat) : (received k f s).slotOf n = s.slotOf n :=
  slotOf_congr (by simp) n

theorem isOwn_iff : s.isOwn f = true ↔ f.src.toNat = s.own := by simp [State.isOwn]

theorem not_isOwn (h : s.isOwn f = false) : f.src.toNat ≠ s.own := by simpa [State.isOwn] using h

/-- At the readback of a frame of its own, the head's unit finds it received. -/
theorem hear_own (hr : s.Running) (ha : s.Accepts k f) (ho : s.isOwn f = true) (hs : side = s.stc.side) :
    hear k f (onSide side f own peer) s = own (received k f s) := by
  rw [hear_accepts _ ha]
  exact onSide_own hr.received ((isOwn_iff.1 ho).trans (received_own ..).symm) (hs.trans (received_side ..).symm)

/-- A same-side peer's frame is handed to the unit with its source. -/
theorem hear_peer (hr : s.Running) (ha : s.Accepts k f) (ho : s.isOwn f = false) (hs : side = s.stc.side) :
    hear k f (onSide side f own peer) s = peer f.src.toNat (received k f s) := by
  rw [hear_accepts _ ha]
  refine onSide_peer hr.received ?_ (hs.trans (received_side ..).symm)
  rw [received_own]
  exact not_isOwn ho

/-! ## The map changed -/

/-- The map has changed, and MSQ is told (R127). -/
def State.told (s : State) : State := s.onMsq fun m => { m with spaceEvent := true }

theorem mapChanged_eq (s : State) : mapChanged s = if s.told.windowConflict then selfVoid s.told else s.told := rfl

/-- A command that changes the map, and what that does to the head's claim in its window (R100, R127). -/
theorem mapChange_answers (he : exec c s = .next (settle (mapChanged u))) (hv : u.told = v) (hr : u.Running)
    (hheld : u.scu.held = s.scu.held) (hj : u.jtb = s.jtb) :
    (v.windowConflict = false → exec c s = .next (settle v) ∧ RunKept v (settle v)) ∧
      (v.windowConflict = true → ∃ t, exec c s = .next t ∧ t.space = v.space ∧ t.scu.held = s.scu.held ∧
        t.scu.pending = none ∧ t.scu.doubt = true ∧ t.rosters = v.rosters ∧ t.log = v.log ∧ t.jtb = s.jtb) := by
  subst hv
  have hvr : u.told.Running := hr.congr rfl rfl rfl
  rw [mapChanged_eq] at he
  refine ⟨fun hw => ?_, fun hw => ?_⟩
  · rw [if_neg (by simp [hw])] at he
    exact ⟨he, settle_runKept hvr⟩
  · rw [if_pos hw] at he
    obtain ⟨h1, h2, h3, h4, h5, h6, h7⟩ := selfVoid_settled hvr
    exact ⟨_, he, h1, h2.trans hheld, h3, h4, h5, h6, h7.trans hj⟩

/-! ## SHRINK, RELEASE and the end of a peer's window -/

/-- The slot of a peer that has SHRINKed: the new rectangle inside the reference one, or the bounding one, counted (R108). -/
theorem peerShrink_new (h : (s.slotOf n).holds.reference = none) (o : Nat) (r : Rect) :
    peerShrink n o r s = mapChanged (setSlot n (.held r) o s) := by simp only [peerShrink, h]

theorem peerShrink_inside {q r : Rect} (h : (s.slotOf n).holds.reference = some q) (hi : r.inside q = true) (o : Nat) :
    peerShrink n o r s = mapChanged (setSlot n (.held r) o s) := by simp only [peerShrink, h, hi, if_true]

theorem peerShrink_beyond {q r : Rect} (h : (s.slotOf n).holds.reference = some q) (hi : r.inside q ≠ true) (o : Nat) :
    peerShrink n o r s = mapChanged (countDiscard (setSlot n (.held (q.bounding r)) o s)) := by
  simp only [peerShrink, h]
  exact if_neg hi

theorem endSlotWindow_pending {h : Option Rect} {p : Rect} {o d : Nat} (hs : (s.slotOf n).holds = .heldPending h p o d) :
    endSlotWindow n s = mapChanged (putSlot n { holds := .held p, lastOrdinal := (s.slotOf n).lastOrdinal } s) := by
  simp only [endSlotWindow, hs]

theorem endSlotWindow_other (hs : ∀ h p o d, (s.slotOf n).holds ≠ .heldPending h p o d) : endSlotWindow n s = s := by
  simp only [endSlotWindow]

/-- The head's held claim and job table through a frame's reception and a slot's change. -/
theorem received_held_jtb (k : Kind) (f : RxFrame) (s : State) :
    (received k f s).scu.held = s.scu.held ∧ (received k f s).jtb = s.jtb :=
  ⟨congrArg Scu.held (received_scu k f s), received_jtb k f s⟩

/-- Settles O33: each change of a peer's slot is one of the map (`mapChange_answers`). -/
theorem peerShrinkReleaseAndWindowEnd : Obligations.PeerShrinkReleaseAndWindowEnd := by
  intro s hr changes slot
  have hgo {c : Instr} {g : State → State} {u v : State} (hc : exec c s = live g s) (hg : g s = mapChanged u) (hv : u.told = v)
      (hur : u.Running) (hheld : u.scu.held = s.scu.held) (hj : u.jtb = s.jtb) : changes c v :=
    mapChange_answers (hc.trans ((live_eq g hr.noReset).trans (by rw [hg]))) hv hur hheld hj
  refine ⟨fun f ha ho hs => ?_, fun f ha ho hs => ?_, fun n => ?_⟩
  · intro n r rect
    obtain ⟨hheld, hj⟩ := received_held_jtb .shrink f s
    have href : (r.slotOf n).holds.reference = (s.slotOf n).holds.reference := by rw [received_slotOf]
    have hheard : hear .shrink f _ s = _ := hear_peer (own := setOrdinal (rxOrdinal f))
      (peer := fun n => peerShrink n (rxOrdinal f) (rxRect f)) hr ha ho hs
    have hrr : r.Running := hr.received
    split
    next hq =>
      exact hgo rfl (hheard.trans (peerShrink_new (href.trans hq) ..)) rfl (hrr.congr rfl rfl rfl) hheld hj
    next q hq =>
      split
      next hi => exact hgo rfl (hheard.trans (peerShrink_inside (href.trans hq) hi ..)) rfl (hrr.congr rfl rfl rfl) hheld hj
      next hi => exact hgo rfl (hheard.trans (peerShrink_beyond (href.trans hq) hi ..)) rfl (hrr.congr rfl rfl rfl) hheld hj
  · obtain ⟨hheld, hj⟩ := received_held_jtb .release f s
    exact hgo rfl (hear_peer (own := setOrdinal (rxOrdinal f)) (peer := fun n => peerRelease n (rxOrdinal f)) hr ha ho hs) rfl
      (hr.received.congr rfl rfl rfl) hheld hj
  · split
    next h p o d hq => exact hgo rfl (endSlotWindow_pending hq) rfl (hr.congr rfl rfl rfl) rfl rfl
    next hq => exact live_nothing hr (endSlotWindow_other hq)

/-! ## Census replies -/

theorem Heads.at_put_ne {α : Type} (h : Heads α) {n m : Nat} (a : α) (hne : m ≠ n) : (h.put n a).at? m = h.at? m := by
  unfold Heads.put
  split <;> unfold Heads.at? <;> split <;> first | rfl | exact absurd rfl hne

theorem Heads.put_at {α : Type} {h : Heads α} {n : Nat} {a : α} (ha : h.at? n = some a) : h.put n a = h := by
  unfold Heads.at? at ha
  unfold Heads.put
  split at ha <;> simp_all <;> cases h <;> simp_all

/-- What a note on a frozen rectangle makes of a slot: it is frozen around it, but where its owner is present and holds one that
is not (R114). -/
def SlotHolds.noted (present : Bool) (rect : Rect) : SlotHolds → SlotHolds
  | .empty => .frozen (some rect) none
  | .held h => if present then .held h else .frozen (some (h.bounding rect)) none
  | .heldPending h p i d => if present then .heldPending h p i d else .frozen (some (rect.boundingWith h)) none
  | .frozen h p => .frozen (some (rect.boundingWith h)) p

theorem takeNote_eq {o : Nat} {rect : Rect} {sl : Slot} (hs : s.stc.station ≠ some o) (hat : s.scu.map.at? o = some sl) :
    takeNote (o, rect) s =
      putSlot o { sl with holds := sl.holds.noted ((s.rosterOf o).presence == .present) rect } s := by
  have hsl : s.slotOf o = sl := by simp [State.slotOf, hat]
  have hsame : putSlot o sl s = s := by simp only [putSlot, State.onScu, Heads.put_at hat]
  rw [takeNote, if_neg hs]
  dsimp only
  rw [hsl]
  cases hh : sl.holds with
  | empty => rfl
  | held h =>
    by_cases hp : (s.rosterOf o).presence = .present
    · simp [SlotHolds.noted, hp, hsame, ← hh]
    · simp [SlotHolds.noted, hp]
  | heldPending h p i d =>
    by_cases hp : (s.rosterOf o).presence = .present
    · simp [SlotHolds.noted, hp, hsame, ← hh]
    · simp [SlotHolds.noted, hp]
  | frozen h p => rfl

theorem isHead_at {α : Type} {h : Heads α} (hn : isHead n = true) : ∃ a, h.at? n = some a := by
  obtain ⟨h1, h8⟩ : 1 ≤ n ∧ n ≤ 8 := by simpa [isHead] using hn
  unfold Heads.at?
  interval_cases n <;> exact ⟨_, rfl⟩

/-- Settles O36: without notes a reply is a change of its sender's slot; a note on a third head changes that head's roster entry
and its slot too (`takeNote_eq`). -/
theorem censusReplyReplacesTheSlot : Obligations.CensusReplyReplacesTheSlot := by
  intro s f hr ha hs changes r n told own
  obtain ⟨hheld, hj⟩ := received_held_jtb .censusReply f s
  have hrr : r.Running := hr.received
  have hside : rxAuxSide f = r.stc.side := hs.trans (received_side ..).symm
  have hheard : hear .censusReply f (hearReply f) s = hearReply f r := hear_accepts _ ha
  have hgo {u v : State} (hg : hearReply f r = mapChanged u) (hv : u.told = v) (hur : u.Running)
      (hheld : u.scu.held = s.scu.held) (hj : u.jtb = s.jtb) : changes (.censusReply f) v :=
    mapChange_answers ((live_eq _ hr.noReset).trans (by rw [hheard, hg])) hv hur hheld hj
  refine ⟨fun ho hn => ?_, fun ho hn => ?_, fun o rect e ho hn hne hst he => ?_⟩
  · refine live_run hr.noReset (hheard.trans ?_) (hrr.congr rfl rfl rfl)
    rw [hearReply, hn]
    exact onSide_own hrr ((isOwn_iff.1 ho).trans (received_own ..).symm) hside
  · refine hgo (u := setSlot n (.ofHeld (rxReplyHeld f)) (rxOrdinal f) r) ?_ ?_ (hrr.congr rfl rfl rfl) hheld hj
    · rw [hearReply, hn]
      refine (onSide_peer hrr ?_ hside).trans rfl
      rw [received_own]
      exact not_isOwn ho
    · simp only [own]
      cases rxReplyHeld f <;> rfl
  · intro e' sl holds
    have hpeer : r.Peer o e := ⟨by rwa [identity_station (received_identity ..)], he⟩
    set w := r.withEntry o e' with hw
    have hwr : w.Running := hrr.congr rfl rfl rfl
    have howner : noteOwners (rxAuxSide f) [(o, rect)] r = w := by
      refine (hpeer.updRoster _).trans ?_
      rw [hs]
    obtain ⟨slot, hslot⟩ := isHead_at (h := s.scu.map) (isHead_of_at he)
    have hsl : sl = slot := by simp [sl, State.slotOf, hslot]
    set x := setSlot n (.ofHeld (rxReplyHeld f)) (rxOrdinal f) w with hx
    have hxat : x.scu.map.at? o = some sl := by
      have hmap : w.scu.map = s.scu.map := congrArg Scu.map (received_scu ..)
      rw [hsl, ← hslot, ← hmap]
      exact Heads.at_put_ne _ _ hne
    have hxp : x.rosterOf o = e' := (hpeer.withEntry e').rosterOf
    have hpres : (e'.presence == .present) = (e.presence == .present) := by
      simp only [e']
      cases e.presence <;> rfl
    have hnote : takeNote (o, rect) x = putSlot o { holds := holds, lastOrdinal := sl.lastOrdinal } x := by
      rw [takeNote_eq (s := x) hpeer.other hxat, hxp, hpres]
      congr 2
      simp only [holds]
      cases sl.holds with
      | empty => rfl
      | held h => simp [SlotHolds.noted]
      | heldPending h p i d => cases h <;> simp [SlotHolds.noted, Rect.boundingWith]
      | frozen h p => cases h <;> rfl
    refine hgo (u := putSlot o { holds := holds, lastOrdinal := sl.lastOrdinal } x) ?_ ?_ (hwr.congr rfl rfl rfl) hheld hj
    · rw [hearReply, hn, howner]
      refine (onSide_peer hwr ?_ hside).trans ?_
      · exact fun h => not_isOwn ho (h.trans (received_own ..))
      · exact congrArg mapChanged hnote
    · simp only [x, own]
      cases rxReplyHeld f <;> rfl

end Sys2Proof.Machine
end

section
/-! SUPPORT. The head's own CLAIM at its readback (R97, R100), and the grant of its claim (R127, R129, R137): O30 and O31. -/

namespace Sys2Proof.Machine

open Sys2Proof

variable {s t u v : State} {k : Kind} {f : RxFrame} {p : PendingClaim} {c : Claim} {kind : ClaimKind} {rect : Rect} {o d : Nat}

/-! ## The frame on the lane through a reception -/

/-- The frame on the lane stays there; the head's own is marked as heard. -/
theorem received_lane (k : Kind) (f : RxFrame) (s : State) : (received k f s).lif.tx = s.lif.tx ∨
    (received k f s).lif.tx = s.lif.tx.map fun t => { t with heard := true } := by
  cases ho : s.isOwn f with
  | false => exact .inl (received_tx ho)
  | true =>
    have hm (b : Bool) (u : State) : (moveTracker k f.src.toNat (frameEnd b u)).lif.tx = u.lif.tx := by
      unfold moveTracker
      (repeat' split) <;> rfl
    simp only [received, ho, if_true]
    split
    · exact .inr (congrArg (Option.map _) ((hm _ _).trans (logErrors_tx k f s)))
    · exact .inl ((hm _ _).trans (logErrors_tx k f s))

theorem received_laneFree (k : Kind) (f : RxFrame) (s : State) : (received k f s).lif.tx = none ↔ s.lif.tx = none := by
  rcases received_lane k f s with h | h <;> simp [h]

@[simp] theorem received_claimWaits (k : Kind) (f : RxFrame) (s : State) : (received k f s).claimWaits = s.claimWaits := by
  rcases received_lane k f s with h | h
  · simp only [State.claimWaits, h]
  · simp only [State.claimWaits, h]
    cases s.lif.tx <;> rfl

@[simp] theorem received_claimOnLane (k : Kind) (f : RxFrame) (s : State) : (received k f s).claimOnLane = s.claimOnLane := by
  rcases received_lane k f s with h | h
  · simp only [State.claimOnLane, h]
  · simp only [State.claimOnLane, h]
    cases s.lif.tx <;> rfl

@[simp] theorem received_conflictsMap (k : Kind) (f : RxFrame) (s : State) (r : Rect) :
    (received k f s).conflictsMap r = s.conflictsMap r := by
  simp [State.conflictsMap, State.mapRects]

/-! ## The readback of a CLAIM -/

theorem matchesPending_iff : s.matchesPending kind rect p = true ↔
    p.stage = .queued ∧ p.claim.kind = kind ∧ p.claim.rect = rect ∧ s.claimWaits = false := by
  simp [State.matchesPending, and_assoc]

theorem ownClaim_unmatched (h : ∀ p, s.scu.pending = some p → ¬ s.matchesPending kind rect p = true) :
    ownClaim o kind rect s = setOrdinal o s := by
  have hp : (setOrdinal o s).scu.pending = s.scu.pending := rfl
  dsimp only [ownClaim]
  rw [hp]
  split
  next p hq => exact if_neg (h p hq)
  · rfl

/-- The pending claim in its objection window, from the readback of its CLAIM (R100). -/
def claimWindow (o : Nat) (p : PendingClaim) (s : State) : State :=
  (setOrdinal o s).onScu fun c => { c with pending := some { p with stage := .window o 200000 } }

theorem ownClaim_matched (hp : s.scu.pending = some p) (hm : s.matchesPending kind rect p = true) : ownClaim o kind rect s =
    if s.scu.doubt || s.conflictsMap p.claim.rect then selfVoid (claimWindow o p s) else claimWindow o p s := by
  have hp' : (setOrdinal o s).scu.pending = some p := hp
  dsimp only [ownClaim]
  simp only [hp']
  exact if_pos hm

theorem selfVoid_running (h : s.Running) : (selfVoid s).Running :=
  h.congr (identity_inReset (selfVoid_identity s)) (by simp [selfVoid]) (by simp)

theorem selfVoid_ordinal (s : State) : (selfVoid s).scu.ordinal = s.scu.ordinal := by simp [selfVoid, setDoubt]

/-- Settles O30: the ordinal is taken (`setOrdinal`), and a CLAIM that matches opens its window (`ownClaim_matched`). -/
theorem ownClaimFamilySetsTheOrdinal : Obligations.OwnClaimFamilySetsTheOrdinal := by
  intro s f hr ho numbered
  have hnr (k : Kind) : (numbered k).Running := hr.received.congr rfl rfl rfl
  refine ⟨fun ha hs => live_run hr.noReset (hear_own hr ha ho hs) (hnr _),
    fun ha hs => live_run hr.noReset (hear_own hr ha ho hs) (hnr _), fun ha hs => ?_⟩
  intro fits
  set r := received .claim f s with hrec
  have hrr : r.Running := hr.received
  have hscu : r.scu = s.scu := received_scu ..
  have hheard : hear .claim f _ s = ownClaim (rxOrdinal f) (rxClaimKind f) (rxRect f) r :=
    hear_own (peer := fun n => peerClaim n (rxOrdinal f) (rxRect f)) hr ha ho hs
  have hfits (p : PendingClaim) : r.matchesPending (rxClaimKind f) (rxRect f) p = true ↔ fits p := by
    rw [matchesPending_iff, received_claimWaits]
  refine ⟨fun hno => live_run hr.noReset (hheard.trans (ownClaim_unmatched fun p hp => ?_)) (hnr _), fun p hp hfit => ?_⟩
  · exact mt (hfits p).1 (hno p (hscu ▸ hp))
  · have hmatch := hheard.trans (ownClaim_matched (hscu ▸ hp) ((hfits p).2 hfit))
    rw [hscu, received_conflictsMap] at hmatch
    have hwr : (claimWindow (rxOrdinal f) p r).Running := hrr.congr rfl rfl rfl
    refine ⟨fun hd hc => live_run hr.noReset (hmatch.trans (if_neg (by simp [hd, hc]))) hwr, fun hvoid => ?_⟩
    have hexec : exec (.claim f) s = .next (settle (selfVoid (claimWindow (rxOrdinal f) p r))) :=
      (live_eq _ hr.noReset).trans (congrArg (fun t => Host.Outcome.next (settle t))
        (hmatch.trans (if_pos (Bool.or_eq_true_iff.2 hvoid))))
    obtain ⟨hspace, hheld, hpend, hdoubt, -⟩ := selfVoid_settled hwr
    have hord := congrArg (fun c => c.2.1) (settle_runKept (selfVoid_running hwr)).claimState
    have hheld' : r.scu.held = s.scu.held := congrArg Scu.held hscu
    exact ⟨_, hexec, hpend, hdoubt, hord.trans (selfVoid_ordinal _), hheld.trans hheld', hspace.trans (received_space ..)⟩

/-! ## The grant -/

theorem windowExpires_windowless (h : s.windowOrdinal = none) : windowExpires s = s := by
  unfold State.windowOrdinal at h
  unfold windowExpires
  (repeat' split) <;> simp_all

theorem windowExpires_eq (hp : s.scu.pending = some p) (hw : p.stage = .window o d) : windowExpires s =
    granted p.claim ((setHeld (some p.claim) s).onScu fun c => { c with pending := none, lastGranted := some o }) := by
  simp only [windowExpires, hp, hw]

/-- The grant reaches MSQ by its motion state (R127, R129, R137). -/
theorem granted_claiming (hl : s.lifting = false) (hm : s.msq.motion = .claiming) : granted c s =
    if s.msq.abandonMark then enterIdle (s.onMsq fun m => { m with grant := some c.region })
    else startTravel (s.onMsq fun m => { m with grant := some c.region }) := by
  rw [granted, if_neg (by simp [hl])]
  simp only [State.onMsq_msq, hm]

theorem granted_parking (hl : s.lifting = false) (hm : s.msq.motion = .parking) (hp : s.msq.park = .seek) :
    granted c s = startParkMove (s.onMsq fun m => { m with grant := some c.region }) := by
  rw [granted, if_neg (by simp [hl])]
  simp only [State.onMsq_msq, hm]
  exact if_pos hp

theorem granted_engaged (hl : s.lifting = false) (he : s.msq.motion.engaged = true) :
    granted c s = s.onMsq fun m => { m with grant := some c.region } := by
  rw [granted, if_neg (by simp [hl])]
  simp only [State.onMsq_msq]
  split
  next hm => simp [hm, MotionState.engaged] at he
  next hm => simp [hm, MotionState.engaged] at he
  next hm => simp [hm, MotionState.engaged] at he
  · rfl

/-- Settles O31: the claim is granted (`windowExpires_eq`), and MSQ begins the move it was made for. -/
theorem objectionWindowGrantsTheClaim : Obligations.ObjectionWindowGrantsTheClaim := by
  intro s hw
  refine ⟨fun h => live_work hw.noReset (windowExpires_windowless h) hw, fun p o d hp hst => ?_⟩
  intro g moves
  set w := (setHeld (some p.claim) s).onScu fun c => { c with pending := none, lastGranted := some o } with hwdef
  have hgrant : windowExpires s = granted p.claim w := windowExpires_eq hp hst
  have hl : w.lifting = false := hw.noLift
  refine ⟨fun hm ha hin => ?_, fun hm hpk hin => ?_, fun hm ha => ?_, fun he => ?_⟩
  · refine live_work hw.noReset (hgrant.trans ?_) (hw.congr rfl rfl rfl rfl nofun)
    rw [granted_claiming (s := w) hl hm, if_neg (by simp [w, setHeld, ha])]
    exact sendMove_inside (g := p.claim.region) (h := p.claim) rfl rfl hin hin
  · refine live_work hw.noReset (hgrant.trans ?_) (hw.congr rfl rfl rfl rfl id)
    rw [granted_parking (s := w) hl hm hpk]
    exact sendMove_inside (g := p.claim.region) (h := p.claim) rfl rfl hin hin
  · refine live_work hw.noReset (hgrant.trans ?_) (hw.congr rfl rfl rfl rfl nofun)
    rw [granted_claiming (s := w) hl hm, if_pos (by simp [w, setHeld, ha])]
    rfl
  · exact live_work hw.noReset (hgrant.trans (granted_engaged (s := w) hl he)) (hw.congr rfl rfl rfl rfl id)

end Sys2Proof.Machine
end

section
/-! SUPPORT. What the blocks' own action leaves of SCU and of the SAFETY queue in a part at work, and of a head that asks for no
corridor; then the census of the side (R109 to R112, R116): O35 and O37. -/

namespace Sys2Proof.Machine

open Sys2Proof

variable {s t u v : State} {f g : TxFrame} {x : RxFrame} {c : Claim} {n d : Nat}

/-! ## Frames that stay in the SAFETY queue -/

theorem mem_replaceSort {q : List TxFrame} (h : g ∈ q) (hn : sameSort f g = false) : g ∈ replaceSort f q := by
  induction q with
  | nil => simp at h
  | cons a q ih =>
    rw [replaceSort]
    rcases List.mem_cons.1 h with rfl | h
    · simp [hn]
    · split
      · exact List.mem_cons_of_mem _ h
      · exact List.mem_cons_of_mem _ (ih h)

/-- With nothing on the lane a frame that enters SAFETY puts none of another sort out (R13, R15). -/
theorem offerSafety_keeps (hx : s.lif.tx = none) (h : g ∈ s.lif.safety) (hn : sameSort f g = false) :
    g ∈ (offerSafety f s).lif.safety := by
  dsimp only [offerSafety]
  split
  · exact h
  · rw [if_neg (by simp [State.onLane, hx])]
    split
    · exact mem_replaceSort h hn
    · simp [h]

theorem offerSafety_lane (hx : s.lif.tx = none) : (offerSafety f s).lif.tx = none := by
  simp only [offerSafety, askReplacement, updTx]
  (repeat' split) <;> simp [hx]

/-- A frame is an OBJECT. -/
def isObjectFrame : TxFrame → Bool
  | .object .. => true
  | _ => false

theorem sameSort_claim_object {kind : ClaimKind} {r : Rect} (h : isObjectFrame g = true) : sameSort (.claim kind r) g = false := by
  cases g <;> simp_all [isObjectFrame, sameSort]

theorem isClaimFrame_object (h : isObjectFrame g = true) : isClaimFrame g = false := by
  cases g <;> simp_all [isObjectFrame, isClaimFrame]

/-! ## What the blocks' own action stirs -/

/-- What the blocks' own action leaves of SCU, of the way OFFLINE, and, with nothing on the lane, of the OBJECTs queued: SCU
changes by the claim pending alone. -/
structure Stirred (s t : State) : Prop where
  scu     : t.scu = { s.scu with pending := t.scu.pending }
  online  : t.msq.motion = .offline → s.msq.motion = .offline
  lane    : s.lif.tx = none → t.lif.tx = none
  objects : s.lif.tx = none → ∀ g ∈ s.lif.safety, isObjectFrame g = true → g ∈ t.lif.safety

theorem Stirred.refl (s : State) : Stirred s s := ⟨rfl, id, id, fun _ _ h _ => h⟩

theorem Stirred.trans (h : Stirred s t) (k : Stirred t u) : Stirred s u where
  scu := by rw [k.scu, h.scu]
  online := h.online ∘ k.online
  lane := k.lane ∘ h.lane
  objects hx g hg ho := k.objects (h.lane hx) g (h.objects hx g hg ho) ho

/-- What leaves SCU and the SAFETY queue alone. -/
theorem Stirred.of_same (hscu : t.scu = s.scu) (hlif : t.lif.safety = s.lif.safety ∧ t.lif.tx = s.lif.tx)
    (hm : t.msq.motion = .offline → s.msq.motion = .offline) : Stirred s t where
  scu := by rw [hscu]
  online := hm
  lane hx := hlif.2.trans hx
  objects _ g hg _ := by rwa [hlif.1]

theorem Stirred.onMsq {q : Msq → Msq} (hm : (q s.msq).motion = .offline → s.msq.motion = .offline) :
    Stirred s (s.onMsq q) := .of_same rfl ⟨rfl, rfl⟩ hm

theorem queueClaim_stirred (c : Claim) (s : State) : Stirred s (queueClaim c s) where
  scu := by simp [queueClaim]
  online h := by simpa [queueClaim] using h
  lane hx := offerSafety_lane (s := s.onScu _) hx
  objects hx g hg ho := offerSafety_keeps (s := s.onScu _) hx hg (sameSort_claim_object ho)

theorem enterWaitSpace_stirred (s : State) : Stirred s (enterWaitSpace s) := .of_same rfl ⟨rfl, rfl⟩ nofun

theorem askTravel_stirred (s : State) : Stirred s (askTravel s) := by
  unfold askTravel
  extract_lets c
  split
  · exact enterWaitSpace_stirred s
  · exact (queueClaim_stirred c s).trans (.of_same rfl ⟨rfl, rfl⟩ nofun)

theorem askPark_stirred (s : State) : Stirred s (askPark s) := by
  unfold askPark
  extract_lets c
  split
  · exact .onMsq id
  · exact (queueClaim_stirred c s).trans (.onMsq id)

theorem withdrawClaim_stirred (s : State) : Stirred s (withdrawClaim s) := by
  obtain ⟨hlane, -, hkeep⟩ := withdrawClaim_safety s
  refine ⟨?_, by simp, hlane.2, fun _ g hg ho => hkeep g hg (isClaimFrame_object ho)⟩
  rw [withdrawClaim_scu]

theorem changeBeacon_safety (s : State) : (changeBeacon s).lif.safety = s.lif.safety ∧ (changeBeacon s).lif.tx = s.lif.tx := by
  unfold changeBeacon offerBeacon
  (repeat' split) <;> first | exact ⟨rfl, rfl⟩ | exact offerWork_safety _ _

theorem idleOrParked_stirred (s : State) : Stirred s (idleOrParked s) := by
  unfold idleOrParked enterIdle enterParked
  split
  · exact .onMsq nofun
  · exact .of_same (by simp) (changeBeacon_safety _) (by simp)

theorem endMember_stirred (job : Nat) (s : State) : Stirred s (endMember job s) :=
  .of_same (by simp) ⟨rfl, rfl⟩ (by simp)

theorem spaceDrop_stirred (s : State) : Stirred s (spaceDrop s) := by
  unfold spaceDrop
  split
  · exact (Stirred.of_same (by simp) (offerWork_safety _ s) (by simp)).trans
      ((endMember_stirred ..).trans (idleOrParked_stirred _))
  · exact idleOrParked_stirred s

theorem reportVoid_stirred (s : State) : Stirred s (reportVoid s) := by
  unfold reportVoid
  (repeat' split)
  · exact idleOrParked_stirred s
  · exact spaceDrop_stirred s
  · exact enterWaitSpace_stirred s
  · exact .onMsq id
  · exact .refl s

/-- A claim that is withdrawn is reported VOID where it is gone (R99). -/
theorem withdrawAndReport_cases (s : State) :
    withdrawAndReport s = reportVoid (withdrawClaim s) ∨ withdrawAndReport s = withdrawClaim s := by
  dsimp only [withdrawAndReport]
  split
  · exact .inl rfl
  · exact .inr rfl

theorem withdrawAndReport_stirred (s : State) : Stirred s (withdrawAndReport s) := by
  rcases withdrawAndReport_cases s with h | h <;> rw [h]
  · exact (withdrawClaim_stirred s).trans (reportVoid_stirred _)
  · exact withdrawClaim_stirred s

theorem settleClaim_stirred (s : State) : Stirred s (settleClaim s) := by
  unfold settleClaim
  split
  · exact withdrawAndReport_stirred s
  · exact .refl s

theorem settleServe_stirred (s : State) : Stirred s (settleServe s) := by
  unfold settleServe
  (repeat' split)
  · exact (Stirred.onMsq id).trans (askTravel_stirred _)
  · exact .refl s
  · exact .refl s

theorem settleIdle_stirred (s : State) : Stirred s (settleIdle s) := by
  unfold settleIdle
  split
  · split
    · exact Stirred.trans (.of_same (t := s.onMsq fun m => { m with motion := .parking, idleTimer := none }) rfl ⟨rfl, rfl⟩ nofun)
        (askPark_stirred _)
    · exact .onMsq id
  · exact .onMsq id

theorem settleSpace_stirred (s : State) : Stirred s (settleSpace s) := by
  simp only [settleSpace]
  (repeat' split)
  · exact (Stirred.onMsq id).trans (askTravel_stirred _)
  · exact (Stirred.onMsq id).trans (askPark_stirred _)
  · exact .onMsq id
  · exact .onMsq id
  · exact .refl s

theorem poised_stirred (s : State) : Stirred s (poised s) :=
  (Stirred.of_same (by simp) ⟨by simp, by simp⟩ (by simp)).trans <| (settleServe_stirred _).trans <|
    (settleIdle_stirred _).trans (settleSpace_stirred _)

theorem settleTake_stirred (s : State) : Stirred s (settleTake s) := .of_same (by simp) (settleTake_safety s) (by simp)

/-- The state with its census pending or not. -/
def State.withCensus (b : Bool) (s : State) : State := s.onScu fun c => { c with censusPending := b }

theorem Stirred.withCensus (h : Stirred s t) (b : Bool) : Stirred (s.withCensus b) (t.withCensus b) where
  scu := by simp only [State.withCensus, State.onScu]; rw [h.scu]
  online := h.online
  lane := h.lane
  objects := h.objects

theorem settleCensus_stirred (s : State) : Stirred (s.withCensus (settleCensus s).scu.censusPending) (settleCensus s) where
  scu := by
    unfold settleCensus
    split <;> simp [State.withCensus, State.onScu]
  online := by simp [State.withCensus]
  lane hx := by
    unfold settleCensus
    split
    · exact offerSafety_lane (s := s.onScu _) hx
    · exact hx
  objects hx g hg _ := (settleCensus_safety (s := s) hx).1 g hg

/-- The blocks' own action in a part at work, with the re-check of a queued claim first. -/
theorem settle_eq_poised (h : s.AtWork) : settle s = regap (settleCensus (settleTake (poised (settleClaim s)))) :=
  settle_atWork h fun hj => h.joined (settleClaim_joining hj)

/-- What a part at work has before it offers a TAKE and a census. -/
theorem poised_settleClaim_stirred (s : State) : Stirred s (poised (settleClaim s)) :=
  (settleClaim_stirred s).trans (poised_stirred _)

theorem settle_stirred (h : s.AtWork) : Stirred (s.withCensus (settle s).scu.censusPending) (settle s) := by
  rw [settle_eq_poised h]
  exact (((poised_settleClaim_stirred s).trans (settleTake_stirred _)).withCensus _).trans <| (settleCensus_stirred _).trans <|
    .of_same rfl ⟨rfl, rfl⟩ id

/-- What a TAKE and a census leave in the SAFETY queue. -/
theorem offers_safety (hx : s.lif.tx = none) :
    (∀ g ∈ s.lif.safety, g ∈ (regap (settleCensus (settleTake s))).lif.safety) ∧
      ∀ g ∈ (regap (settleCensus (settleTake s))).lif.safety, g ∈ s.lif.safety ∨ g = .censusReq := by
  obtain ⟨hsafety, htx⟩ := settleTake_safety s
  have h := settleCensus_safety (s := settleTake s) (htx.trans hx)
  rwa [hsafety] at h

/-! ## A head that asks for no corridor -/

/-- SCU refuses every corridor: in doubt, or with a reply queued (R98). -/
def State.Refusing (s : State) : Prop := s.scu.doubt = true ∨ s.scu.replyQueued = true

theorem State.Refusing.congr (h : s.Refusing) (hs : t.scu = s.scu) : t.Refusing := by rwa [State.Refusing, hs]

theorem State.Refusing.refuses (h : s.Refusing) (c : Claim) : s.refusesClaim c = true := by
  rcases h with h | h <;> simp [State.refusesClaim, h]

theorem askTravel_refusing (h : s.Refusing) : askTravel s = enterWaitSpace s := if_pos (h.refuses _)

theorem askPark_refusing (h : s.Refusing) : askPark s = s.onMsq fun m => { m with park := .wait } := if_pos (h.refuses _)

/-- The lane interface and SCU are as before. -/
def SpaceSame (s t : State) : Prop := t.lif = s.lif ∧ t.scu = s.scu

theorem SpaceSame.trans (h : SpaceSame s t) (k : SpaceSame t u) : SpaceSame s u := ⟨k.1.trans h.1, k.2.trans h.2⟩

/-- A refused request changes MSQ alone. -/
theorem askTravel_same (h : s.Refusing) : SpaceSame s (askTravel s) := by
  rw [askTravel_refusing h]
  exact ⟨rfl, rfl⟩

theorem askPark_same (h : s.Refusing) : SpaceSame s (askPark s) := by
  rw [askPark_refusing h]
  exact ⟨rfl, rfl⟩

theorem settleServe_same (h : s.Refusing) : SpaceSame s (settleServe s) := by
  unfold settleServe
  (repeat' split)
  · exact askTravel_same (s := s.onMsq _) h
  · exact ⟨rfl, rfl⟩
  · exact ⟨rfl, rfl⟩

theorem settleIdle_same (h : s.Refusing) : SpaceSame s (settleIdle s) := by
  unfold settleIdle
  split
  · split
    · exact askPark_same (s := s.onMsq _) h
    · exact ⟨rfl, rfl⟩
  · exact ⟨rfl, rfl⟩

theorem settleSpace_same (h : s.Refusing) : SpaceSame s (settleSpace s) := by
  simp only [settleSpace]
  (repeat' split)
  · exact askTravel_same (s := s.onMsq _) h
  · exact askPark_same (s := s.onMsq _) h
  · exact ⟨rfl, rfl⟩
  · exact ⟨rfl, rfl⟩
  · exact ⟨rfl, rfl⟩

/-- A refused head changes by MSQ alone before it offers a TAKE and a census. -/
theorem poised_same (h : s.Refusing) : SpaceSame s (poised s) := by
  have h1 : SpaceSame s (settleHandover s) := ⟨by simp, by simp⟩
  have h2 := h1.trans (settleServe_same (h.congr h1.2))
  have h3 := h2.trans (settleIdle_same (h.congr h2.2))
  exact h3.trans (settleSpace_same (h.congr h3.2))

/-- A refused head with no claim pending has none afterwards, and with nothing on the lane its SAFETY frames stay. -/
theorem settle_refusing (hw : s.AtWork) (h : s.Refusing) (hp : s.scu.pending = none) : (settle s).scu.pending = none ∧
    (s.lif.tx = none → ∀ g ∈ s.lif.safety, g ∈ (settle s).lif.safety) := by
  obtain ⟨hlif, hscu⟩ := poised_same h
  rw [settle_poised hw (by simp [State.claimStale, hp])]
  refine ⟨by simp [hscu, hp], fun hx g hg => (offers_safety (by rw [hlif, hx])).1 g (by rwa [hlif])⟩

/-! ## A census request -/

/-- The head's own pending claim goes at a CENSUS_REQ, the CLAIM not being on the lane (R112). -/
theorem censusVoid_pending (hl : s.claimOnLane = false) (hw : s.claimWaits = false) : (censusVoid s).scu.pending = none := by
  unfold censusVoid
  split
  next p hp =>
    split
    next hst =>
      have hgone : (withdrawClaim s).scu.pending = none := by simp [withdrawClaim, hp, hst, hl, hw]
      rcases withdrawAndReport_cases s with h | h <;> rw [h]
      · rw [reportVoid_scu, hgone]
      · exact hgone
    · simp
  next hp => exact hp

theorem reportVoid_joined (h : s.msq.motion ≠ .joining) : (reportVoid s).msq.motion ≠ .joining := by
  unfold reportVoid
  (repeat' split)
  · exact idleOrParked_joined
  · unfold spaceDrop
    split <;> exact idleOrParked_joined
  · simp [enterWaitSpace, startSpaceWait]
  · exact h
  · exact h

theorem reportVoid_atWork (h : s.AtWork) : (reportVoid s).AtWork :=
  h.congr (identity_inReset (reportVoid_identity s)) (by simp) (by simp) (halt_congr (by simp) (by simp)) fun hj =>
    absurd hj (reportVoid_joined h.joined)

/-- What the VOID of the head's claim at a CENSUS_REQ leaves. -/
structure VoidKept (s t : State) : Prop extends Stirred s t where
  atWork     : s.AtWork → t.AtWork
  claimState : t.claimState = s.claimState
  space      : t.space = s.space
  jtb        : t.jtb = s.jtb
  rosters    : t.rosters = s.rosters
  silent     : t.lif.silent = s.lif.silent

theorem VoidKept.refl (s : State) : VoidKept s s := ⟨.refl s, id, rfl, rfl, rfl, rfl, rfl⟩

theorem VoidKept.trans (h : VoidKept s t) (k : VoidKept t u) : VoidKept s u :=
  ⟨h.toStirred.trans k.toStirred, k.atWork ∘ h.atWork, k.claimState.trans h.claimState, k.space.trans h.space,
    k.jtb.trans h.jtb, k.rosters.trans h.rosters, k.silent.trans h.silent⟩

theorem withdrawClaim_voidKept (s : State) : VoidKept s (withdrawClaim s) :=
  ⟨withdrawClaim_stirred s, (withdrawClaim_serviceKept s).atWork, by simp, by simp, by simp, by simp, by simp⟩

theorem reportVoid_voidKept (s : State) : VoidKept s (reportVoid s) :=
  ⟨reportVoid_stirred s, reportVoid_atWork, by simp, by simp, by simp, by simp, by simp⟩

theorem censusVoid_voidKept (s : State) : VoidKept s (censusVoid s) := by
  unfold censusVoid
  (repeat' split)
  · rcases withdrawAndReport_cases s with h | h <;> rw [h]
    · exact (withdrawClaim_voidKept s).trans (reportVoid_voidKept _)
    · exact withdrawClaim_voidKept s
  · exact VoidKept.trans (t := s.onScu fun c => { c with pending := none })
      ⟨⟨rfl, id, id, fun _ _ h _ => h⟩, fun h => h.congr rfl rfl rfl rfl id, rfl, rfl, rfl, rfl, rfl⟩ (reportVoid_voidKept _)
  · exact .refl s

end Sys2Proof.Machine
end

section
/-! SUPPORT. A census request of the side (R111, R112), the end of the head's own census, and the clearing of a frozen slot (R116):
O35 and O37. -/

namespace Sys2Proof.Machine

open Sys2Proof

variable {s t u v : State} {f g : TxFrame} {x : RxFrame} {n : Nat}

/-! ## The reply -/

/-- The head that answers a census request: it may offer frames and is in the census (R112). -/
structure State.Answers (s : State) : Prop extends s.AtWork where
  online : s.msq.motion ≠ .offline
  spoken : s.lif.silent = false

/-- The reply of a head that answers is queued: now, or from an earlier request. -/
theorem queueReply_eq (h : s.Answers) : queueReply s = if s.scu.replyQueued then s else
    offerSafety .censusReply (s.onScu fun c => { c with replyQueued := true }) := by
  simp [queueReply, h.joined, h.online, h.spoken, h.noLift]

theorem queueReply_scu (h : s.Answers) : (queueReply s).scu = { s.scu with replyQueued := true } := by
  rw [queueReply_eq h]
  split
  next hq => rw [← hq]
  · simp

theorem queueReply_lane (h : s.Answers) (hx : s.lif.tx = none) : (queueReply s).lif.tx = none ∧
    (s.scu.replyQueued = false → .censusReply ∈ (queueReply s).lif.safety) := by
  rw [queueReply_eq h]
  split
  next hq => exact ⟨hx, fun hn => absurd (hn.symm.trans hq) nofun⟩
  · exact ⟨offerSafety_lane (s := s.onScu _) hx, fun _ => offerSafety_mem (s := s.onScu _) h.spoken h.noLift hx⟩

theorem queueReply_atWork (h : s.Answers) : (queueReply s).AtWork := by
  rw [queueReply_eq h]
  split
  · exact h.toAtWork
  · exact h.toAtWork.congr (by simp) (by simp) (by simp) (halt_congr (by simp) (by simp)) (by simp)

/-! ## The request -/

/-- SCU at a census request, when the head's own claim is void: the pending rectangles of its peers are taken out (R112). -/
def askedMap (s : State) : State :=
  s.onScu fun c => { c with map := c.map.map fun sl => { sl with holds := sl.holds.dropPending } }

/-- With no claim pending a change of the map is told alone. -/
theorem mapChanged_told (h : s.scu.pending = none) : mapChanged s = s.told :=
  (mapChanged_eq s).trans (if_neg (by simp [State.windowConflict, State.told, State.onMsq, h]))

theorem censusRequest_eq (h : (queueReply (askedMap (censusVoid s))).scu.pending = none) :
    censusRequest s = (queueReply (askedMap (censusVoid s))).told := mapChanged_told h

/-- What a census request leaves in a head that answers it (R112). -/
structure Asked (s t : State) : Prop where
  pending    : t.scu.pending = none
  reply      : t.scu.replyQueued = true
  claimState : t.claimState = s.claimState
  jtb        : t.jtb = s.jtb
  rosters    : t.rosters = s.rosters
  space      : t.space = s.scu.map.map fun sl => { sl with holds := sl.holds.dropPending }
  frame      : s.scu.replyQueued = false → s.lif.tx = none → .censusReply ∈ t.lif.safety
  timer      : t.scu.censusTimer = s.scu.censusTimer
  repeatMark : t.scu.repeatMark = s.scu.repeatMark

theorem censusRequest_asked (h : s.Answers) (hl : s.claimOnLane = false) (hc : s.claimWaits = false) :
    Asked s (settle (censusRequest s)) := by
  have hv := censusVoid_voidKept s
  have ha : (askedMap (censusVoid s)).Answers :=
    { (hv.atWork h.toAtWork).congr (t := askedMap (censusVoid s)) rfl rfl rfl rfl id with
      online := fun hm => h.online (hv.online hm)
      spoken := hv.silent.trans h.spoken }
  set q := queueReply (askedMap (censusVoid s)) with hq
  have hscu : q.scu = { s.scu with
      pending := none
      map := s.scu.map.map fun sl => { sl with holds := sl.holds.dropPending }
      replyQueued := true
      censusPending := (censusVoid s).scu.censusPending } := by
    rw [hq, queueReply_scu ha]
    simp only [askedMap, State.onScu]
    rw [hv.scu, censusVoid_pending hl hc]
  have hpend : q.scu.pending = none := by rw [hscu]
  have htimer : q.scu.censusTimer = s.scu.censusTimer := by rw [hscu]
  have hmark : q.scu.repeatMark = s.scu.repeatMark := by rw [hscu]
  have hw : q.told.AtWork := (queueReply_atWork ha).congr rfl rfl rfl rfl id
  have hk := settle_workKept hw
  obtain ⟨hnone, hstay⟩ := settle_refusing hw (.inr (congrArg Scu.replyQueued hscu)) hpend
  rw [censusRequest_eq hpend]
  exact {
    pending := hnone
    reply := hk.reply.trans (congrArg Scu.replyQueued hscu)
    claimState := hk.claimState.trans (by simp [State.claimState, State.told, State.onMsq, hscu])
    jtb := hk.jtb.trans ((queueReply_jtb _).trans hv.jtb)
    rosters := hk.rosters.trans ((queueReply_rosters _).trans hv.rosters)
    space := hk.space.trans (congrArg Scu.map hscu)
    frame := fun hn hx => by
      obtain ⟨hlane, hin⟩ := queueReply_lane ha (hv.lane hx)
      exact hstay hlane _ (hin ((congrArg Scu.replyQueued hv.scu).trans hn))
    timer := hk.censusTimer.trans htimer
    repeatMark := (congrArg Scu.repeatMark (settle_stirred hw).scu).trans hmark }

/-- The pending rectangle of each slot taken out, slot by slot as R112 says it. -/
theorem map_dropPending (m : Heads Slot) : m.map (fun sl => { sl with holds := sl.holds.dropPending }) = m.map fun sl =>
    { sl with holds := match sl.holds with
      | .heldPending (some h) _ _ _ => .held h
      | .heldPending none _ _ _ => .empty
      | h => h } := by
  refine congrArg m.map (funext fun sl => ?_)
  obtain ⟨holds, o⟩ := sl
  cases holds with
  | heldPending h p i d => cases h <;> rfl
  | empty => rfl
  | held h => rfl
  | frozen h p => rfl

/-- Settles O35: the head's own request starts its census window first, then each is answered alike (`censusRequest_asked`). -/
theorem censusRequestVoidsAndAsks : Obligations.CensusRequestVoidsAndAsks := by
  intro s f hw hm hsil hl hc ha hs
  set r := received .censusReq f s with hr
  have hra : r.Answers := { hw.received with
    online := by rwa [hr, received_msq]
    spoken := (received_silent ..).trans hsil }
  have hscu : r.scu = s.scu := received_scu ..
  have hlane : r.claimOnLane = false := (received_claimOnLane ..).trans hl
  have hwait : r.claimWaits = false := (received_claimWaits ..).trans hc
  have hfree (hx : s.lif.tx = none) : r.lif.tx = none := (received_laneFree ..).2 hx
  have hspace {t : State} (h : t.space = r.scu.map.map fun sl => { sl with holds := sl.holds.dropPending }) := by
    rwa [hscu, map_dropPending] at h
  have hclaim : r.claimState = s.claimState := received_claimState ..
  have hjtb : r.jtb = s.jtb := received_jtb ..
  have hexec {u : State} (h : hear .censusReq f _ s = censusRequest u) : exec (.censusReq f) s = .next (settle (censusRequest u)) :=
    (live_eq _ hw.noReset).trans (by rw [h])
  by_cases hstart : s.isOwn f = true ∧ s.scu.censusPending = true
  · obtain ⟨ho, hp⟩ := hstart
    have hu := censusRequest_asked (s := censusStart r) { hra.toAtWork.congr (t := censusStart r) rfl rfl rfl rfl id with
      online := hra.online
      spoken := hra.spoken } hlane hwait
    have hheard : hear .censusReq f (onSide (rxAuxSide f) f ownCensus fun _ => censusRequest) s = censusRequest (censusStart r) :=
      (hear_own hw.running ha ho hs).trans (congrArg censusRequest (if_pos ((congrArg Scu.censusPending hscu).trans hp)))
    exact ⟨_, hexec hheard, hu.pending, hu.reply, hu.claimState.trans hclaim, hu.jtb.trans hjtb, hu.rosters, hspace hu.space,
      fun hn hx => hu.frame ((congrArg Scu.replyQueued hscu).trans hn) (hfree hx), fun _ _ => ⟨hu.timer, hu.repeatMark⟩,
      fun hn => absurd (ho.symm.trans hn) nofun⟩
  · have hu := censusRequest_asked hra hlane hwait
    have hheard : hear .censusReq f (onSide (rxAuxSide f) f ownCensus fun _ => censusRequest) s = censusRequest r := by
      cases ho : s.isOwn f with
      | false => exact hear_peer hw.running ha ho hs
      | true =>
        refine (hear_own hw.running ha ho hs).trans (congrArg censusRequest (if_neg fun hp => hstart ⟨ho, ?_⟩))
        exact (congrArg Scu.censusPending hscu).symm.trans hp
    exact ⟨_, hexec hheard, hu.pending, hu.reply, hu.claimState.trans hclaim, hu.jtb.trans hjtb, hu.rosters, hspace hu.space,
      fun hn hx => hu.frame ((congrArg Scu.replyQueued hscu).trans hn) (hfree hx), fun ho hp => absurd ⟨ho, hp⟩ hstart,
      fun _ => hu.timer.trans (congrArg Scu.censusTimer hscu)⟩

/-! ## The end of the census -/

theorem endCensus_clear (hj : s.msq.motion ≠ .joining) (hc : s.scu.censusTimer.isSome = true) (hr : s.scu.repeatMark = false) :
    endCensus s = (s.onScu fun c => { c with
      censusTimer := none, censusPending := false, repeatMark := false, doubt := false }).told := by
  rw [endCensus, if_pos hc, hr]
  exact if_neg fun (h : _ ∧ _) => hj h.2

theorem endCensus_again (hc : s.scu.censusTimer.isSome = true) (hr : s.scu.repeatMark = true) : endCensus s =
    s.onScu fun c => { c with censusTimer := none, censusPending := false, repeatMark := false, doubt := true } := by
  rw [endCensus, if_pos hc, hr]
  rfl

theorem WorkKept.mayOffer (h : WorkKept s t) (hm : t.msq.motion = .offline → s.msq.motion = .offline) (ho : s.mayOffer = true) :
    t.mayOffer = true := by
  have hl : t.lifting = s.lifting := by simp [State.lifting, h.restart]
  simp only [State.mayOffer, Bool.and_eq_true, bne_iff_ne, Bool.not_eq_true'] at ho ⊢
  obtain ⟨⟨⟨hj, hoff⟩, hs⟩, hlift⟩ := ho
  exact ⟨⟨⟨by rwa [h.join], fun h => hoff (hm h)⟩, by rwa [h.silent]⟩, by rwa [hl]⟩

/-- A part at work in doubt asks for a census, where it may offer frames and none is pending (R111). -/
theorem settle_censusAsked (hw : s.AtWork) (hd : s.scu.doubt = true) (hc : s.scu.censusPending = false) (ho : s.mayOffer = true) :
    (settle s).scu.censusPending = true ∧ (s.lif.tx = none → .censusReq ∈ (settle s).lif.safety) := by
  rw [settle_eq_poised hw]
  set q := settleTake (poised (settleClaim s)) with hq
  have hk : WorkKept s q := (settleClaim_workKept s).trans ((poised_workKept _).trans (settleTake_workKept _))
  have hstir : Stirred s q := (poised_settleClaim_stirred s).trans (settleTake_stirred _)
  have hoffer : q.mayOffer = true := hk.mayOffer hstir.online ho
  have hdoubt : q.scu.doubt = true := (congrArg Scu.doubt hstir.scu).trans hd
  have hpend : q.scu.censusPending = false := (congrArg Scu.censusPending hstir.scu).trans hc
  have hask : settleCensus q = offerSafety .censusReq (q.withCensus true) := if_pos (by simp [hdoubt, hpend, hoffer])
  have hlift : q.lifting = false := by simpa [State.lifting, hk.restart] using hw.noLift
  have hsil : q.lif.silent = false := by
    simp only [State.mayOffer, Bool.and_eq_true, Bool.not_eq_true'] at hoffer
    exact hoffer.1.2
  rw [hask]
  exact ⟨by simp [State.withCensus], fun hx => offerSafety_mem (s := q.withCensus true) hsil hlift (hstir.lane hx)⟩

/-! ## A frozen slot cleared -/

theorem clearSlot_outside (h : n = 0 ∨ 8 < n) : clearSlot n s = countDiscard s :=
  if_pos (by simp [isHead]; omega)

theorem clearSlot_kept (h : isHead n = true) (hk : s.stc.station = some n ∨ ∀ a p, (s.slotOf n).holds ≠ .frozen a p) :
    clearSlot n s = s := by
  rw [clearSlot, if_neg (by simp [h])]
  split
  · rfl
  next hne =>
    split
    next a p hf => exact absurd hf (hk.resolve_left hne a p)
    · rfl

theorem clearSlot_frozen {a p : Option Rect} (h : isHead n = true) (hs : s.stc.station ≠ some n)
    (hf : (s.slotOf n).holds = .frozen a p) : clearSlot n s = mapChanged (putSlot n .empty s) := by
  rw [clearSlot, if_neg (by simp [h]), if_neg hs, hf]

/-- Settles O37: the census that ends clears doubt or is asked for anew (`settle_censusAsked`); a slot cleared is a change of the
map (`mapChange_answers`). -/
theorem censusEndAndClearFrozen : Obligations.CensusEndAndClearFrozen := by
  refine ⟨fun s hw hc => ⟨fun hr => ?_, fun hr ho => ?_⟩, fun s f hr ha => ?_⟩
  · exact live_work hw.noReset (endCensus_clear hw.joined hc hr) (hw.congr rfl rfl rfl rfl id)
  · set u := s.onScu fun c => { c with censusTimer := none, censusPending := false, repeatMark := false, doubt := true } with hu
    have huw : u.AtWork := hw.congr rfl rfl rfl rfl id
    have hscu := (settle_stirred huw).scu
    obtain ⟨hask, hin⟩ := settle_censusAsked huw rfl rfl ho
    refine ⟨_, (live_eq _ hw.noReset).trans (by rw [endCensus_again hc hr]), ?_, ?_, ?_, hask, hin⟩
    · exact congrArg Scu.doubt hscu
    · exact congrArg Scu.repeatMark hscu
    · exact congrArg Scu.censusTimer hscu
  · intro changes r n
    have hrr : r.Running := hr.received
    have hheard : hear .clearFrozen f (unlessLift (clearSlot n)) s = clearSlot n r := by
      rw [hear_accepts _ ha]
      exact if_neg (by simp [hr.noLift])
    have hst : r.stc.station = s.stc.station := identity_station (received_identity ..)
    have hslot : r.slotOf n = s.slotOf n := received_slotOf ..
    refine ⟨fun hn => ?_, fun h1 h8 => ⟨fun hk => ?_, fun hs a p hf => ?_⟩⟩
    · exact live_run hr.noReset (hheard.trans (clearSlot_outside hn)) (hrr.congr rfl rfl rfl)
    · exact live_run hr.noReset (hheard.trans (clearSlot_kept (by simp [isHead, h1, h8]) (by rwa [hst, hslot]))) hrr
    · obtain ⟨hheld, hj⟩ := received_held_jtb .clearFrozen f s
      have hclear : clearSlot n r = mapChanged (putSlot n .empty r) :=
        clearSlot_frozen (by simp [isHead, h1, h8]) (by rwa [hst]) (by rwa [hslot])
      exact mapChange_answers (u := putSlot n .empty r) ((live_eq _ hr.noReset).trans (by rw [hheard, hclear])) rfl
        (hrr.congr rfl rfl rfl) hheld hj

end Sys2Proof.Machine
end

section
/-! SUPPORT. A REPORT without a fault that completes a command (R121, R122), the claim narrowed or given up where the head stops
(R106, R107), and the STOP that ends in STILL (R142): O51. -/

namespace Sys2Proof.Machine

open Sys2Proof

variable {s t u : State} {f : TxFrame} {r : DriveReport} {q : Option Claim} {x y : Nat}

/-! ## The claim narrowed or given up -/

/-- The head neither waits for the corridor of its travel nor seeks its park point. -/
def State.Unasking (s : State) : Prop := s.msq.motion.engaged = true ∨ s.msq.motion = .parking ∧ s.msq.park ≠ .seek

/-- A VOID changes nothing in a head that neither claims nor seeks its park point. -/
theorem reportVoid_unasking (h : s.Unasking) :
    reportVoid s = s := by
  rcases h with h | ⟨hm, hp⟩
  · exact reportVoid_engaged h
  · have hv : reportVoid s = s.onMsq fun m => { m with park := if m.park = .seek then .wait else m.park } := by
      simp only [reportVoid, hm]
    rw [hv]
    simp only [State.onMsq, if_neg hp]

/-- The held claim is changed to `q`, a pending one ends, and a frame tells of it (R106, R107). -/
structure HeldTaken (q : Option Claim) (f : TxFrame) (s t : State) : Prop where
  held    : t.scu.held = q
  pending : t.scu.pending = none
  doubt   : t.scu.doubt = s.scu.doubt
  msq     : t.msq = { s.msq with breachReported := false }
  rvu     : t.rvu = s.rvu
  stc     : t.stc = s.stc
  lane    : s.lif.tx = none → t.lif.tx = none
  frame   : s.scu.replyQueued = false → s.lif.tx = none → s.lif.silent = false → s.lifting = false → f ∈ t.lif.safety

theorem endPending_unasking (h : s.Unasking) :
    endPending s = s ∨ endPending s = (withdrawClaim s).onScu fun c => { c with pending := none } := by
  unfold endPending
  split
  · exact .inr (reportVoid_unasking (by simpa [State.Unasking] using h))
  · exact .inl rfl

theorem endPending_heldTaken (h : s.Unasking) :
    HeldTaken q f s (let u := endPending (setHeld q s); if u.scu.replyQueued then u else offerSafety f u) := by
  set u := endPending (setHeld q s) with hu
  have hheld : u.scu.held = q := congrArg Prod.fst (endPending_claimState (setHeld q s))
  have hdoubt : u.scu.doubt = s.scu.doubt := congrArg (·.2.2.2) (endPending_claimState (setHeld q s))
  have hnone : u.scu.pending = none := endPending_pending _
  obtain ⟨hmsq, hrvu, hstc, hreply, hsil⟩ : u.msq = (setHeld q s).msq ∧ u.rvu = s.rvu ∧ u.stc = s.stc ∧
      u.scu.replyQueued = s.scu.replyQueued ∧ u.lif.silent = s.lif.silent := by
    rcases endPending_unasking (s := setHeld q s) h with he | he <;> rw [hu, he] <;> simp [setHeld]
  have hlane (hx : s.lif.tx = none) : u.lif.tx = none := by
    rcases endPending_unasking (s := setHeld q s) h with he | he <;> rw [hu, he]
    · exact hx
    · exact (withdrawClaim_stirred (setHeld q s)).lane hx
  dsimp only
  split
  next hr => exact ⟨hheld, hnone, hdoubt, hmsq, hrvu, hstc, hlane, fun hn => absurd (hreply.symm.trans hr) (by simp [hn])⟩
  · exact ⟨by simp [hheld], by simp [hnone], by simp [hdoubt], by simp [hmsq, setHeld], by simp [hrvu], by simp [hstc],
      fun hx => offerSafety_lane (hlane hx),
      fun _ hx hs hl => offerSafety_mem (hsil.trans hs) (by simpa [State.lifting, hstc] using hl) (hlane hx)⟩

theorem takeRelease_heldTaken (h : s.Unasking)
    (hs : s.lif.silent = false) : HeldTaken none .release s (takeRelease s) := by
  rw [takeRelease, if_neg (by simp [hs])]
  exact endPending_heldTaken h

/-- The frame that tells of the held claim narrowed at (x, y), or of none (R106). -/
def narrowingFrame (s : State) (x y : Nat) : TxFrame :=
  match s.scu.held with
  | some h => .shrink (standingWithin s.cfg h x y).rect
  | none => .release

theorem takeShrink_heldTaken (h : s.Unasking)
    (hs : s.lif.silent = false) : HeldTaken (s.scu.held.map fun h => standingWithin s.cfg h x y) (narrowingFrame s x y) s
      (takeShrink x y s) := by
  rw [takeShrink, if_neg (by simp [hs])]
  unfold narrowingFrame
  cases hh : s.scu.held with
  | none => exact takeRelease_heldTaken h hs
  | some c => exact endPending_heldTaken h

theorem tip_congr (h : t.msq.lastReport = s.msq.lastReport) : t.tip = s.tip := by
  simp [State.tip, State.tipX, State.tipY, h]

/-- Where the head stops: its claim is narrowed there, and the standing XY is there (R106, R123). -/
theorem arrive_msq (h : s.Unasking) (hs : s.lif.silent = false) :
    (arrive s).msq = { s.msq with breachReported := false, standing := some s.tip } := by
  have hm := (takeShrink_heldTaken (x := s.tipX) (y := s.tipY) h hs).msq
  have ht : (takeShrink s.tipX s.tipY s).tip = s.tip := tip_congr (by rw [hm])
  simp only [arrive, standAtTip, State.onMsq, ht, hm]

/-! ## The REPORT -/

/-- The REPORT kept, where it carries no fault (R122, R139). -/
def State.reported (r : DriveReport) (s : State) : State :=
  (s.onStc fun c => { c with driveSeen := c.driveSeen || c.selfTesting }).onMsq fun m => { m with
    lastReport := some r, driveReported := false, breachReported := false
    driveSilence := if s.msq.motion = .offline then m.driveSilence else some 2000000 }

theorem keepReport_clean (hf : r.fault = false) (hb : s.breaches r = false) : keepReport r s = s.reported r := by
  have hb' : (s.onStc fun c => { c with driveSeen := c.driveSeen || c.selfTesting }).breaches r = false := hb
  simp only [keepReport, State.reported, hf, Bool.not_false, Bool.and_true, Bool.and_false, State.supervises, State.onStc_msq, hb']
  by_cases hm : s.msq.motion = .offline
  · simp [hm]
  · simp [hm]
    rfl

/-- A REPORT without a fault that completes the last command (R121). -/
theorem takeReport_completes (hf : r.fault = false) (hb : s.breaches r = false)
    (hd : s.completes r = true) : takeReport r s = commandComplete (s.reported r) := by
  rw [takeReport_clean hf hb, if_pos hd, keepReport_clean hf hb]

/-! ## A frozen head -/

/-- The blocks' own action of a frozen head: its CLAIM may be withdrawn, a REPORT action ends, and a TAKE or a census may be
offered; it begins no motion (R142). -/
theorem settle_frozen (h : s.Running) (hm : s.msq.motion = .frozen) :
    settle s = regap (settleCensus (settleTake (settleAction (settleClaim s)).msqRests)) := by
  have he : s.msq.motion.engaged = true := by rw [hm]; rfl
  have hhalt : settleHalt s = s := by simp [settleHalt, hm, MotionState.haltActs]
  have hclaim : (settleClaim s).msq = s.msq := by rcases settleClaim_engaged he with hc | hc <;> simp [hc]
  set v := settleAction (settleClaim s) with hv
  have hvm : v.msq = s.msq := (settleAction_msq _).trans hclaim
  have hve : v.msq.motion.engaged = true := by rwa [hvm]
  have hfence : v.flu.fence ≠ .restartWait := settleAction_fence (by simpa using h.noFence1)
  rw [settle, if_neg (by simp [h.noLift]), hhalt, settleRestart_idle hfence, settlePlacing_idle (by simp [hvm, hm]),
    settleHandover_stays (fun _ _ _ => by rw [hvm, hm]), settleServe_engaged hve, settleSpace_settleIdle hve]

theorem settle_frozenMsq (h : s.Running) (hm : s.msq.motion = .frozen) :
    (settle s).msq = s.msqRests.msq ∧ (settle s).faultState = s.faultState := by
  have hclaim : (settleClaim s).msq = s.msq := by
    rcases settleClaim_engaged (s := s) (by rw [hm]; rfl) with hc | hc <;> simp [hc]
  have hfault (v : State) : v.msqRests.faultState = v.faultState := rfl
  rw [settle_frozen h hm]
  exact ⟨by simp [State.msqRests, hclaim], by simp [hfault]⟩

/-- A head that reaches STILL without a resume mark stays there (R142, R143). -/
theorem enterStill_eq (h : s.msq.resumeMark = false) : enterStill s = s.onMsq fun m => { m with frozen := .still } :=
  if_neg (by simp [State.onMsq, h])

/-- The head where its STOP ended in FROZEN: a tip below travel height is lifted, one at it stands still (R142). -/
def State.stopped (s : State) : State := (arrive s).onMsq fun m =>
  if s.tipZ < s.cfg.zt then { m with
    frozen := .lifting, lastCommand := some { number := s.nextCommand, order := .move s.tipX s.tipY s.cfg.zt .lift } }
  else { m with frozen := .still }

/-- The STOP that completes in FROZEN, at the tip (R106, R142). -/
theorem frozenComplete_stopping (hm : s.msq.motion = .frozen) (hp : s.msq.frozen = .stopping) (hr : s.msq.resumeMark = false)
    (hs : s.lif.silent = false) (hrep : s.msq.lastReport ≠ none) : frozenComplete s = s.stopped := by
  have he : s.msq.motion.engaged = true := by rw [hm]; rfl
  set v := arrive s with hv
  have hmsq : v.msq = { s.msq with breachReported := false, standing := some s.tip } := arrive_msq (.inl he) hs
  have hlast : v.msq.lastReport = s.msq.lastReport := by rw [hmsq]
  have hz : v.tipZ = s.tipZ := by simp [State.tipZ, hlast]
  have hcfg : v.cfg = s.cfg := congrArg (fun c : Stc => c.config.getD .zero) (takeShrink_heldTaken (.inl he) hs).stc
  have hstand : v.stand = (s.tipX, s.tipY) := by simp [State.stand, hmsq, State.tip]
  have hnext : v.nextCommand = s.nextCommand := by simp [State.nextCommand, hmsq]
  have hfc : frozenComplete s = if v.tipZ < v.cfg.zt then
      sendMove v.stand.1 v.stand.2 v.cfg.zt .lift (v.onMsq fun m => { m with frozen := .lifting }) else enterStill v := by
    simp only [frozenComplete, hp, ← hv]
  rw [hfc, hz, hcfg, State.stopped]
  by_cases hl : s.tipZ < s.cfg.zt
  · simp only [if_pos hl]
    set w := v.onMsq fun m => { m with frozen := .lifting } with hw
    have hsend : sendMove s.tipX s.tipY s.cfg.zt .lift w = sendCommand (.move s.tipX s.tipY s.cfg.zt .lift) w :=
      sendMove_standing (by simpa [hw, hlast] using hrep) (tip_congr hlast)
    have hwn : w.nextCommand = s.nextCommand := hnext
    rw [hstand, hsend, sendCommand, hwn]
    rfl
  · simp only [if_neg hl]
    exact enterStill_eq (by rw [hmsq, hr])

/-- Settles O51: in STOPPING the claim is narrowed and the tip lifted (`frozenComplete_stopping`); a frozen head begins no motion of
itself (`settle_frozenMsq`). -/
theorem stopsEndInStill : Obligations.StopsEndInStill := by
  intro s r c hr hs hm hres hf hb hc hpos hnum x y
  have hd : s.completes r = true := completes_iff.2 ⟨c, hc, hpos, hnum⟩
  set k := s.reported r with hk
  have hkr : k.Running := hr.congr rfl rfl rfl
  have htake : takeReport r s = frozenComplete k := by
    have hkm : k.msq.motion = .frozen := hm
    rw [takeReport_completes hf hb hd, commandComplete, if_neg (by simp [← hk, hkr.noLift])]
    simp only [← hk, hkm]
  have hgo {v : State} (hv : frozenComplete k = v) (hvr : v.Running) (hvm : v.msq.motion = .frozen)
      (hrep : v.msq.lastReport = some r) (hjtb : v.jtb = s.jtb) (hfault : v.faultState = s.faultState) (hsp : v.space = s.space) :
      ∃ t, exec (.driveReport r) s = .next t ∧ t.msq.motion = .frozen ∧ t.msq.lastReport = some r ∧ t.jtb = s.jtb ∧
        t.faultState = s.faultState ∧ t.space = s.space ∧ t.msq = v.msqRests.msq ∧ t.scu.held = v.scu.held := by
    obtain ⟨hmsq, hflt⟩ := settle_frozenMsq hvr hvm
    have hkept := settle_runKept hvr
    refine ⟨_, (exec_driveReport hr.noReset).trans (by rw [htake, hv]), ?_, hkept.report.trans hrep, hkept.jtb.trans hjtb,
      hflt.trans hfault, hkept.space.trans hsp, hmsq, congrArg Prod.fst hkept.claimState⟩
    rw [hmsq]
    exact hvm
  have hkm : k.msq.motion = .frozen := hm
  have hkres : k.msq.resumeMark = false := hres
  cases hp : s.msq.frozen with
  | stopping =>
    have hkp : k.msq.frozen = .stopping := hp
    have hv : frozenComplete k = k.stopped := frozenComplete_stopping hkm hkp hkres hs nofun
    have hat : (arrive k).msq = { k.msq with breachReported := false, standing := some k.tip } :=
      arrive_msq (.inl (by rw [hkm]; rfl)) hs
    have hheldAt : (arrive k).scu.held = s.scu.held.map fun h => standingWithin s.cfg h x y :=
      (takeShrink_heldTaken (s := k) (x := x) (y := y) (.inl (by rw [hkm]; rfl)) hs).held
    have hstc : (arrive k).stc = k.stc := (takeShrink_heldTaken (s := k) (.inl (by rw [hkm]; rfl)) hs).stc
    have hmotion : k.stopped.msq.motion = .frozen ∧ k.stopped.msq.lastReport = some r ∧
        k.stopped.msq.standing = some (x, y) := by
      simp only [State.stopped, State.onMsq, hat]
      split <;> exact ⟨hm, rfl, rfl⟩
    have hrun : k.stopped.Running := hkr.congr (congrArg Stc.inReset hstc) (congrArg Stc.restart hstc)
      (congrArg Flu.fence (arrive_flu k))
    obtain ⟨t, ht, h1, h2, h3, h4, h5, hmsq, hheld⟩ := hgo hv hrun hmotion.1 hmotion.2.1 (arrive_jtb k) (arrive_faultState k)
      (arrive_space k)
    refine ⟨t, ht, h1, h2, h3, h4, h5, fun h => absurd rfl h, fun _ => ⟨?_, hheld.trans hheldAt, fun hz => ?_, fun hz => ?_⟩⟩
    · rw [hmsq]
      exact hmotion.2.2
    · have hlow : ¬ k.tipZ < k.cfg.zt := Nat.not_lt.2 hz
      rw [hmsq]
      simp only [State.msqRests, State.stopped, State.onMsq, if_neg hlow, hat]
      exact ⟨trivial, hc⟩
    · have hlow : k.tipZ < k.cfg.zt := hz
      rw [hmsq]
      simp only [State.msqRests, State.stopped, State.onMsq, if_pos hlow]
      exact ⟨trivial, rfl⟩
  | lifting =>
    have hv : frozenComplete k = k.onMsq fun m => { m with frozen := .still } := by
      have hkp : k.msq.frozen = .lifting := hp
      simp only [frozenComplete, hkp, enterStill_eq hkres]
    obtain ⟨t, ht, h1, h2, h3, h4, h5, hmsq, hheld⟩ := hgo hv (hkr.congr rfl rfl rfl) hm rfl rfl rfl rfl
    refine ⟨t, ht, h1, h2, h3, h4, h5, fun _ => ⟨by rw [hmsq]; rfl, ?_, hheld⟩, nofun⟩
    rw [hmsq]
    exact hc
  | still =>
    have hv : frozenComplete k = k := by
      have hkp : k.msq.frozen = .still := hp
      simp only [frozenComplete, hkp]
    obtain ⟨t, ht, h1, h2, h3, h4, h5, hmsq, hheld⟩ := hgo hv hkr hm rfl rfl rfl rfl
    refine ⟨t, ht, h1, h2, h3, h4, h5, fun _ => ⟨?_, ?_, hheld⟩, nofun⟩
    · rw [hmsq]
      exact hp
    · rw [hmsq]
      exact hc

end Sys2Proof.Machine
end

section
/-! SUPPORT. A head that begins no motion of itself (R98, R127, R137), and the travel and the park move that a REPORT completes
(R106, R107, R129, R130, R137): O46. -/

namespace Sys2Proof.Machine

open Sys2Proof

variable {s t u v : State} {f g : TxFrame} {r : DriveReport} {c : Claim} {h : Claim} {x y w : Nat}

/-! ## A head that begins no motion of itself -/

/-- The blocks hand a point over at most: MSQ asks for no corridor and begins no motion. -/
def State.Rests (s : State) : Prop := poised s = (settleHandover s).msqRests

/-- The corridors a waiting head asks for again: to its target, and to its park point (R127, R137). -/
def State.travelCorridor (s : State) : Claim := corridor s.cfg .travel s.tipX s.tipY s.goal.1 s.goal.2
def State.parkCorridor (s : State) : Claim := corridor s.cfg .travel s.tipX s.tipY s.cfg.parkX s.cfg.parkY

theorem rests_engaged (h : s.msq.motion.engaged = true) : s.Rests := by
  have he : (settleHandover s).msq.motion.engaged = true := by rwa [settleHandover_motion]
  rw [State.Rests, poised, settleServe_engaged he, settleSpace_settleIdle he]

/-- A refused head that waits goes on as it is. -/
theorem askTravel_waiting (hm : s.msq.motion = .waitSpace) (hw : s.msq.spaceWait ≠ none)
    (hr : s.refusesClaim s.travelCorridor = true) : askTravel s = s := by
  obtain ⟨w, hw⟩ := Option.ne_none_iff_exists'.1 hw
  refine (if_pos hr).trans ?_
  simp only [enterWaitSpace, startSpaceWait, State.onMsq, hw, ← hm]
  simp only [← hw]

theorem askPark_waiting (hp : s.msq.park = .wait) (hr : s.refusesClaim s.parkCorridor = true) : askPark s = s := by
  refine (if_pos hr).trans ?_
  simp only [State.onMsq, ← hp]

theorem settleHandover_refuses (s : State) (c : Claim) : (settleHandover s).refusesClaim c = s.refusesClaim c := by
  simp [State.refusesClaim, State.conflictsMap, State.mapRects]

theorem settleHandover_corridors (s : State) :
    (settleHandover s).travelCorridor = s.travelCorridor ∧ (settleHandover s).parkCorridor = s.parkCorridor := by
  simp only [State.travelCorridor, State.parkCorridor, State.cfg, State.tipX, State.tipY, State.goal, settleHandover_stc]
  rw [settleHandover_msq]
  exact ⟨rfl, rfl⟩

/-- A head in WAIT_SPACE that is not told of the space, or is refused again (R98, R127). -/
theorem rests_waiting (hm : s.msq.motion = .waitSpace) (hw : s.msq.spaceWait ≠ none)
    (h : s.msq.spaceEvent = false ∨ s.refusesClaim s.travelCorridor = true) : s.Rests := by
  set p := settleHandover s with hp
  have hpm : p.msq.motion = .waitSpace := (settleHandover_motion s).trans hm
  have hpw : p.msq.spaceWait ≠ none := by rwa [hp, settleHandover_msq]
  rw [State.Rests, poised, ← hp, settleServe_waitSpace hpm]
  by_cases he : s.msq.spaceEvent = false
  · exact settleSpace_unasked (by simp [hpm]) ((settleHandover_spaceEvent s).trans he)
  · have hr : p.refusesClaim p.travelCorridor = true := by
      rw [hp, (settleHandover_corridors s).1, settleHandover_refuses]
      exact h.resolve_left he
    have hpe : p.msq.spaceEvent = true := (settleHandover_spaceEvent s).trans (by simpa using he)
    rw [settleIdle_notIdle (by simp [hpm]), settleSpace]
    simp only [State.onMsq_msq, hpe, if_true, hpm]
    exact askTravel_waiting (s := p.msqRests) hpm hpw hr

/-- A head that waits in PARKING and is not told of the space, or is refused again (R98, R137). -/
theorem rests_parkWaiting (hm : s.msq.motion = .parking) (hk : s.msq.park = .wait)
    (h : s.msq.spaceEvent = false ∨ s.refusesClaim s.parkCorridor = true) : s.Rests := by
  set p := settleHandover s with hp
  have hpm : p.msq.motion = .parking := (settleHandover_motion s).trans hm
  have hpk : p.msq.park = .wait := (settleHandover_park s).trans hk
  rw [State.Rests, poised, ← hp, settleServe_moving (by simp [hpm]) (by simp [hpm])]
  by_cases he : s.msq.spaceEvent = false
  · exact settleSpace_unasked (by simp [hpm]) ((settleHandover_spaceEvent s).trans he)
  · have hr : p.refusesClaim p.parkCorridor = true := by
      rw [hp, (settleHandover_corridors s).2, settleHandover_refuses]
      exact h.resolve_left he
    have hpe : p.msq.spaceEvent = true := (settleHandover_spaceEvent s).trans (by simpa using he)
    rw [settleIdle_notIdle (by simp [hpm]), settleSpace]
    simp only [State.onMsq_msq, hpe, if_true, hpm, hpk]
    exact askPark_waiting (s := p.msqRests) hpk hr

/-- A PARKED head without a point to serve (R124). -/
theorem rests_parked (hm : s.msq.motion = .parked) (hp : s.msq.waiting = none)
    (hc : ∀ m, s.rvu.current = some m → m.state ≠ .formed) : s.Rests := by
  have hstay : settleHandover s = s := settleHandover_stays fun m hq hf => absurd hf (hc m hq)
  have hserve : settleServe s = s := by simp [settleServe, hp]
  rw [State.Rests, poised, hstay, hserve, settleSpace_still (by simp [hm]) (by simp [hm]) (by simp [hm])]

/-- What the blocks' own action leaves of a head that begins no motion of itself. -/
structure Rested (s t : State) : Prop where
  msq     : t.msq = { s.msq with waiting := t.msq.waiting, idleTimer := none, spaceEvent := false }
  pending : t.scu.pending = s.scu.pending
  safety  : s.lif.tx = none → ∀ g ∈ s.lif.safety, g ∈ t.lif.safety
  added   : s.lif.tx = none → ∀ g ∈ t.lif.safety, g ∈ s.lif.safety ∨ g = .censusReq

theorem settle_rests (hw : s.AtWork) (hc : s.claimStale = false) (h : s.Rests) : Rested s (settle s) := by
  have hlif : (poised s).lif = s.lif := by rw [h]; simp [State.msqRests]
  have hscu : (poised s).scu = s.scu := by rw [h]; simp [State.msqRests]
  have hmsq : (poised s).msq = { s.msq with waiting := (poised s).msq.waiting, idleTimer := none, spaceEvent := false } := by
    rw [h]
    simp only [State.msqRests, State.onMsq_msq]
    rw [settleHandover_msq]
  rw [settle_poised hw hc]
  refine ⟨?_, by simp [hscu], fun hx g hg => ?_, fun hx g hg => ?_⟩
  · rw [(offers_keep _).1]
    exact hmsq
  · exact (offers_safety (by rw [hlif, hx])).1 g (by rwa [hlif])
  · have := (offers_safety (by rw [hlif, hx])).2 g hg
    rwa [hlif] at this

/-! ## What the blocks' own action leaves of MSQ's marks -/

/-- The grant and the marks that a motion of the blocks' own does not change. -/
def State.marks (s : State) : Option Region × Bool × Bool × Bool :=
  (s.msq.grant, s.msq.parkRequest, s.msq.abandonMark, s.msq.lateStop)

theorem askTravel_marks (s : State) : (askTravel s).marks = s.marks := by
  unfold askTravel enterWaitSpace startSpaceWait queueClaim
  extract_lets c
  split <;> simp [State.marks]

theorem askPark_marks (s : State) : (askPark s).marks = s.marks := by
  unfold askPark queueClaim
  extract_lets c
  split <;> simp [State.marks]

theorem settleServe_marks (s : State) : (settleServe s).marks = s.marks := by
  unfold settleServe
  (repeat' split)
  · exact askTravel_marks (s.onMsq _)
  · rfl
  · rfl

theorem settleIdle_marks (s : State) : (settleIdle s).marks = s.marks := by
  unfold settleIdle
  split
  · split
    · exact askPark_marks (s.onMsq _)
    · rfl
  · rfl

theorem settleSpace_marks (s : State) : (settleSpace s).marks = s.marks := by
  simp only [settleSpace]
  (repeat' split)
  · exact askTravel_marks (s.onMsq _)
  · exact askPark_marks (s.onMsq _)
  · rfl
  · rfl
  · rfl

theorem settle_marks (hw : s.AtWork) (hc : s.claimStale = false) : (settle s).marks = s.marks := by
  have hh : (settleHandover s).marks = s.marks := by rw [State.marks, settleHandover_msq]; rfl
  have hp : (poised s).marks = s.marks :=
    (settleSpace_marks _).trans ((settleIdle_marks _).trans ((settleServe_marks _).trans hh))
  rw [settle_poised hw hc]
  refine Eq.trans ?_ hp
  simp [State.marks]

/-! ## The travel completed -/

/-- The head where its travel ended: the claim narrowed and the standing XY taken (R106, R129). -/
def State.travelled (s : State) : State := (arrive s).onMsq fun m => { m with lateStop := false }

theorem takeReport_travel (hl : s.lifting = false) (hm : s.msq.motion = .travel) (hf : r.fault = false)
    (hb : s.breaches r = false) (hd : s.completes r = true) : takeReport r s = travelComplete (s.reported r) := by
  have hkm : (s.reported r).msq.motion = .travel := hm
  have hkl : (s.reported r).lifting = false := hl
  rw [takeReport_completes hf hb hd, commandComplete, if_neg (by simp [hkl])]
  simp only [hkm]

/-- The head in TRAVEL that has reached its stop, its claim narrowed there. -/
structure Travelled (r : DriveReport) (h : Claim) (s t : State) : Prop where
  msq     : t.msq = { (s.reported r).msq with standing := some (r.x.toNat, r.y.toNat), lateStop := false }
  held    : t.scu.held = some (standingWithin s.cfg h r.x.toNat r.y.toNat)
  pending : t.scu.pending = none
  doubt   : t.scu.doubt = s.scu.doubt
  rvu     : t.rvu = s.rvu
  jtb     : t.jtb = s.jtb
  flu     : t.flu = s.flu
  stc     : t.stc = (s.reported r).stc
  halt    : t.halt = s.halt
  lane    : s.lif.tx = none → t.lif.tx = none
  frame   : s.scu.replyQueued = false → s.lif.tx = none → s.lifting = false →
    .shrink (standingWithin s.cfg h r.x.toNat r.y.toNat).rect ∈ t.lif.safety

theorem travelled_reported (hm : s.msq.motion = .travel) (hs : s.lif.silent = false) (hh : s.scu.held = some h) :
    Travelled r h s (s.reported r).travelled := by
  set k := s.reported r with hk
  have he : k.msq.motion.engaged = true := by rw [hk, show (s.reported r).msq.motion = .travel from hm]; rfl
  have hmsq := arrive_msq (s := k) (.inl he) hs
  have ht := takeShrink_heldTaken (s := k) (x := r.x.toNat) (y := r.y.toNat) (.inl he) hs
  have hframe : narrowingFrame k r.x.toNat r.y.toNat = .shrink (standingWithin s.cfg h r.x.toNat r.y.toNat).rect := by
    have hkh : k.scu.held = some h := hh
    simp only [narrowingFrame, hkh]
    rfl
  refine ⟨?_, ht.held.trans (congrArg (Option.map _) hh), ht.pending, ht.doubt, ht.rvu, arrive_jtb k, arrive_flu k, ht.stc,
    halt_congr (arrive_outer k) (arrive_flu k), ht.lane, fun hr hx hl => hframe ▸ ht.frame hr hx hs hl⟩
  simp only [State.travelled, State.onMsq_msq, hmsq]
  rfl

/-- The claim narrowed where the tip stands has the tip in its region (R106). -/
theorem standingWithin_contains (c : ConfigRecord) (hin : h.region.contains x y = true) :
    (standingWithin c h x y).region.contains x y = true := by
  obtain ⟨h1, h2, h3, h4⟩ := Region.contains_iff.1 hin
  refine Region.contains_iff.2 ?_
  simp only [standingWithin, Region.narrowTo, corridorRegion, clampInt]
  omega

theorem Travelled.atWork (ht : Travelled r h s v) (hw : s.AtWork) (hu : u = { v with msq := u.msq })
    (hj : u.msq.motion ≠ .joining) : u.AtWork := by
  rw [hu]
  refine hw.congr ?_ ?_ (congrArg Flu.fence ht.flu) ht.halt fun h => absurd h hj
  · exact (congrArg Stc.inReset ht.stc :)
  · exact (congrArg Stc.restart ht.stc :)

/-- What the end of a travel leaves, wherever the head then turns. -/
theorem Travelled.settled (ht : Travelled r h s v) (hw : s.AtWork) (hu : u = { v with msq := u.msq })
    (hj : u.msq.motion ≠ .joining) (hmsq : u.msq.lastReport = some r ∧ u.msq.lateStop = false ∧
      u.msq.standing = some (r.x.toNat, r.y.toNat)) :
    (settle u).msq.lastReport = some r ∧ (settle u).msq.lateStop = false ∧
      (settle u).msq.standing = some (r.x.toNat, r.y.toNat) ∧
      (settle u).scu.held = some (standingWithin s.cfg h r.x.toNat r.y.toNat) ∧ (settle u).jtb = s.jtb ∧
      (settle u).flu = s.flu := by
  obtain ⟨hrep, hlate, hst⟩ := hmsq
  have huw := ht.atWork hw hu hj
  have hk := settle_workKept huw
  have hp : u.scu.pending = none := by rw [hu]; exact ht.pending
  have hm := settle_marks huw (by simp [State.claimStale, hp])
  refine ⟨hk.report.trans hrep, (congrArg (·.2.2.2) hm).trans hlate, hk.standing.trans hst,
    (congrArg Prod.fst hk.claimState).trans ?_, hk.jtb.trans ?_, hk.flu.trans ?_⟩ <;> rw [hu]
  · exact ht.held
  · exact ht.jtb
  · exact ht.flu

/-- The approach begins at the stop, which lies in the grant and in the held claim (R123, R129). -/
theorem Travelled.approach (ht : Travelled r h s v) (hg : ∃ g ∈ s.msq.grant, g.contains r.x.toNat r.y.toNat = true)
    (hin : h.region.contains r.x.toNat r.y.toNat = true) : startApproach v = v.onMsq fun m => { m with
      motion := .descend, descend := .approach
      lastCommand := some { number := s.nextCommand, order := .move r.x.toNat r.y.toNat s.cfg.zs .travel } } := by
  obtain ⟨g, hgrant, hcont⟩ := hg
  set w := v.onMsq fun m => { m with motion := .descend, descend := .approach } with hw
  have hstand : v.stand = (r.x.toNat, r.y.toNat) := by simp [State.stand, ht.msq]
  have hcfg : v.cfg = s.cfg := (congrArg (fun c : Stc => c.config.getD .zero) ht.stc :)
  have hnext : w.nextCommand = s.nextCommand := by
    simp only [State.nextCommand, hw, State.onMsq_msq, ht.msq]
    rfl
  have hwg : w.msq.grant = some g := by
    simp only [hw, State.onMsq_msq, ht.msq]
    exact hgrant
  have hsend : startApproach v = sendMove v.stand.1 v.stand.2 v.cfg.zs .travel w := rfl
  rw [hsend, hstand, hcfg, sendMove_inside (s := w) hwg ht.held hcont (standingWithin_contains _ hin), sendCommand, hnext]
  rfl

/-- The reference region of a head that holds a claim holds the tip (R139). -/
theorem tip_inside (hm : s.msq.motion = .travel) (hb : s.breaches r = false) (hh : s.scu.held = some h) :
    h.region.contains r.x.toNat r.y.toNat = true := by
  have hc : s.checksTip = true := by simp [State.checksTip, hm]
  simpa [State.breaches, hc, State.referenceRegion, hh] using hb

/-- A head in doubt that waits goes on with its space wait (R98, R128). -/
theorem settle_waitsInDoubt (hw : u.AtWork) (hp : u.scu.pending = none) (hd : u.scu.doubt = true) (hm : u.msq.motion = .waitSpace)
    (ht : u.msq.spaceWait = some w) : (settle u).msq.motion = .waitSpace ∧ (settle u).msq.spaceWait = some w := by
  have hmsq := (settle_rests hw (by simp [State.claimStale, hp])
    (rests_waiting hm (by simp [ht]) (.inr (State.Refusing.refuses (.inl hd) _)))).msq
  rw [hmsq]
  exact ⟨hm, ht⟩

/-- A head that turns to IDLE with an active board and nothing to serve stays there (R125). -/
theorem settle_idles (hw : u.AtWork) (hp : u.scu.pending = none) (hm : u.msq.motion = .idle) (hb : u.boardActive = true)
    (hk : u.msq.parkRequest = false) (hwait : u.msq.waiting = none) (hc : ∀ m, u.rvu.current = some m → m.state ≠ .formed) :
    (settle u).msq.motion = .idle := by
  have hstay : settleHandover u = u := settleHandover_stays fun m hq hf => absurd hf (hc m hq)
  have hserve : settleServe u = u := by simp [settleServe, hwait]
  rw [settle_poised hw (by simp [State.claimStale, hp]), (offers_keep _).1, poised, hstay, hserve]
  exact settleIdle_stays hm hb hk

theorem enterIdle_msq (s : State) : (enterIdle s).msq = { s.msq with
    motion := .idle, spaceWait := none, spaceExpired := false, abandonMark := false } := rfl

/-- With the abandon mark the head goes to IDLE (R129). -/
theorem Travelled.idles (ht : Travelled r h s v) (hw : s.AtWork) : (settle (enterIdle v)).msq.abandonMark = false ∧
    (settle (enterIdle v)).msq.lastCommand = s.msq.lastCommand ∧
    (s.boardActive = true → s.msq.parkRequest = false → s.msq.waiting = none →
      (∀ m, s.rvu.current = some m → m.state ≠ .formed) → (settle (enterIdle v)).msq.motion = .idle) := by
  set u := enterIdle v with hu
  have hmsq : u.msq = _ := enterIdle_msq v
  have huw : u.AtWork := ht.atWork hw rfl (by simp [hmsq])
  have hpend : u.scu.pending = none := ht.pending
  have hmark := settle_marks huw (by simp [State.claimStale, hpend])
  refine ⟨congrArg (·.2.2.1) hmark, (settle_workKept huw).command.trans ?_, fun hboard hpark hwait hcur => ?_⟩
  · rw [hmsq, ht.msq]
    rfl
  · refine settle_idles huw hpend rfl ((boardActive_congr (s := s.reported r) ht.stc).trans hboard) ?_ ?_
      fun m hq => hcur m ((congrArg Rvu.current ht.rvu).symm.trans hq)
    · rw [hmsq, ht.msq]
      exact hpark
    · rw [hmsq, ht.msq]
      exact hwait

/-- The head after a late STOP, before it asks again (R105, R130). -/
def State.stoppedLate (s : State) : State :=
  enterWaitSpace (s.onMsq fun m => { m with spaceWait := none, spaceExpired := false, spaceEvent := true })

theorem stoppedLate_msq (s : State) : s.stoppedLate.msq = { s.msq with
    motion := .waitSpace, spaceWait := some (s.cfg.spaceWait * 1000000), spaceExpired := false, spaceEvent := true } := rfl

/-- Where a travel ends: in IDLE with the abandon mark, in WAIT_SPACE after a late STOP, else in a descent (R129, R130). -/
theorem travelComplete_eq (s : State) : travelComplete s = if s.msq.abandonMark then enterIdle s.travelled
    else if s.msq.lateStop then s.travelled.stoppedLate else startApproach s.travelled := rfl

/-- In doubt the head waits for space after a late STOP (R130). -/
theorem Travelled.waits (ht : Travelled r h s v) (hw : s.AtWork) (hd : s.scu.doubt = true) :
    (settle v.stoppedLate).msq.motion = .waitSpace ∧
      (settle v.stoppedLate).msq.spaceWait = some (s.cfg.spaceWait * 1000000) ∧
      (settle v.stoppedLate).msq.lastCommand = s.msq.lastCommand := by
  have hcfg : v.cfg = s.cfg := (congrArg (fun c : Stc => c.config.getD .zero) ht.stc :)
  have huw : v.stoppedLate.AtWork := ht.atWork hw rfl (by simp [stoppedLate_msq])
  obtain ⟨hm, hwait⟩ := settle_waitsInDoubt huw ht.pending (ht.doubt.trans hd) rfl (congrArg Msq.spaceWait (stoppedLate_msq v))
  refine ⟨hm, hwait.trans (by rw [hcfg]), (settle_workKept huw).command.trans ?_⟩
  rw [stoppedLate_msq, ht.msq]
  rfl

/-- The approach begins where the travel ended (R129). -/
theorem Travelled.descends (ht : Travelled r h s v) (hw : s.AtWork)
    (hg : ∃ g ∈ s.msq.grant, g.contains r.x.toNat r.y.toNat = true) (hin : h.region.contains r.x.toNat r.y.toNat = true) :
    (settle (startApproach v)).msq.motion = .descend ∧ (settle (startApproach v)).msq.descend = .approach ∧
      (settle (startApproach v)).msq.lastCommand =
        some { number := s.nextCommand, order := .move r.x.toNat r.y.toNat s.cfg.zs .travel } ∧
      (s.scu.replyQueued = false → s.lif.tx = none →
        .shrink (standingWithin s.cfg h r.x.toNat r.y.toNat).rect ∈ (settle (startApproach v)).lif.safety) := by
  rw [ht.approach hg hin]
  set u := v.onMsq fun m => { m with
    motion := .descend, descend := .approach
    lastCommand := some { number := s.nextCommand, order := .move r.x.toNat r.y.toNat s.cfg.zs .travel } } with hu
  have hpend : u.scu.pending = none := ht.pending
  have hrest := settle_rests (ht.atWork hw (u := u) rfl (by simp [hu])) (by simp [State.claimStale, hpend]) (rests_engaged rfl)
  rw [hrest.msq]
  exact ⟨rfl, rfl, rfl, fun hr hx => hrest.safety (ht.lane hx) _ (ht.frame hr hx hw.noLift)⟩

/-! ## The park move completed -/

/-- The head that has reached its park point gives its claim up and is PARKED (R107, R137). -/
def State.parkedAt (r : DriveReport) (s : State) : State := enterParked (takeRelease (s.reported r))

theorem takeReport_park (hl : s.lifting = false) (hm : s.msq.motion = .parking) (hk : s.msq.park = .move)
    (hn : s.msq.lateStop = false) (hf : r.fault = false) (hb : s.breaches r = false) (hd : s.completes r = true) :
    takeReport r s = s.parkedAt r := by
  have hkm : (s.reported r).msq.motion = .parking := hm
  have hkl : (s.reported r).lifting = false := hl
  have hkp : (s.reported r).msq.park = .move := hk
  have hkn : (s.reported r).msq.lateStop = false := hn
  rw [takeReport_completes hf hb hd, commandComplete, if_neg (by simp [hkl])]
  simp only [hkm, parkComplete, hkp, hkn]
  rfl

theorem changeBeacon_due (s : State) : (changeBeacon s).stc.changeDue = false := by
  unfold changeBeacon offerBeacon
  split
  · split <;> simp
  next h => simpa using h

theorem changeBeacon_beacon (hs : s.lif.silent = false) (hl : s.lifting = false) (hd : s.stc.changeDue = true)
    (hst : s.stc.station ≠ none) : .beacon ∈ (changeBeacon s).offered := by
  rw [changeBeacon, if_pos hd, offerBeacon, if_neg (by simpa [Option.isNone_iff_eq_none] using hst)]
  exact offerWork_mem hs hl

/-- What the end of a park move leaves. -/
theorem parkedAt_settled (hw : s.AtWork) (hm : s.msq.motion = .parking) (hk : s.msq.park = .move)
    (hs : s.lif.silent = false) : (settle (s.parkedAt r)).msq.lastReport = some r ∧ (settle (s.parkedAt r)).scu.held = none ∧
      (settle (s.parkedAt r)).msq.grant = none ∧ (settle (s.parkedAt r)).msq.parkRequest = false ∧
      (settle (s.parkedAt r)).jtb = s.jtb ∧ (settle (s.parkedAt r)).flu = s.flu ∧
      (settle (s.parkedAt r)).stc.changeDue = false ∧
      (s.stc.changeDue = true → s.stc.station ≠ none → .beacon ∈ (settle (s.parkedAt r)).offered) ∧
      (s.msq.waiting = none → (∀ m, s.rvu.current = some m → m.state ≠ .formed) →
        (settle (s.parkedAt r)).msq.motion = .parked ∧
          (s.scu.replyQueued = false → s.lif.tx = none → .release ∈ (settle (s.parkedAt r)).lif.safety)) := by
  set k := s.reported r with hkd
  have ht : HeldTaken none .release k (takeRelease k) := takeRelease_heldTaken (.inr ⟨hm, by simp [hkd, State.reported, hk]⟩) hs
  set p := takeRelease k with hp
  set u := s.parkedAt r with hu
  have hmsq : u.msq = { p.msq with
      motion := .parked, grant := none, parkRequest := false, spaceWait := none, spaceExpired := false
      abandonMark := false, lateStop := false } := enterParked_msq p
  have hscu : u.scu = p.scu := by simp [hu, State.parkedAt, ← hkd, ← hp]
  have hflu : u.flu = s.flu := by simp [hu, State.parkedAt, State.reported]
  have hpend : u.scu.pending = none := by rw [hscu, ht.pending]
  have hpstc : p.stc = k.stc := ht.stc
  have huw : u.AtWork := by
    refine hw.congr (identity_inReset (t := u) ?_) ?_ (by rw [hflu]) (halt_congr ?_ hflu) (by simp [hmsq])
    · exact (enterParked_identity p).trans (takeRelease_identity k)
    · exact (enterParked_stc_restart p).trans (congrArg Stc.restart hpstc :)
    · exact (enterParked_outer p).trans (takeRelease_outer k)
  have hkept := settle_workKept huw
  have hmark := settle_marks huw (by simp [State.claimStale, hpend])
  have hmarks : u.marks = (none, false, false, false) := by rw [State.marks, hmsq]
  have hjtb : u.jtb = s.jtb := by simp [hu, State.parkedAt, State.reported]
  refine ⟨hkept.report.trans ?_, (congrArg Prod.fst hkept.claimState).trans ?_, congrArg (·.1) (hmark.trans hmarks),
    congrArg (·.2.1) (hmark.trans hmarks), hkept.jtb.trans hjtb, hkept.flu.trans hflu, ?_, fun hd hst => ?_, fun hwait hcur => ?_⟩
  · rw [hmsq, ht.msq]
    rfl
  · simp [State.claimState, hscu, ht.held]
  · rw [settle_poised huw (by simp [State.claimStale, hpend]), (offers_keep _).2.1, poised_stc]
    exact changeBeacon_due _
  · refine hkept.offered _ (changeBeacon_beacon (s := p.onMsq _) ?_ ?_ ?_ ?_) fun _ => rfl
    · exact (congrArg (·.1) (takeRelease_fenceState k) : _).trans hs
    · exact (congrArg (fun c : Stc => c.restart == .lifting) hpstc).trans hw.noLift
    · exact (congrArg Stc.changeDue hpstc).trans hd
    · exact fun hn => hst ((congrArg Stc.station hpstc).symm.trans hn)
  · have hrest := settle_rests huw (by simp [State.claimStale, hpend]) (rests_parked (by rw [hmsq])
      (by rw [hmsq, ht.msq]; exact hwait) fun m hq => hcur m ?_)
    · rw [hrest.msq]
      refine ⟨by rw [hmsq], fun hr hx => ?_⟩
      obtain ⟨hsaf, htx⟩ := changeBeacon_safety (p.onMsq fun m => { m with
        motion := .parked, grant := none, parkRequest := false, spaceWait := none, spaceExpired := false
        abandonMark := false, lateStop := false })
      refine hrest.safety (htx.trans (ht.lane hx)) _ ?_
      exact hsaf ▸ ht.frame hr hx hs hw.noLift
    · have hrvu : u.rvu = s.rvu := (enterParked_rvu p).trans ht.rvu
      rwa [hrvu] at hq

/-- Settles O46: by motion state, the completed command ends a lift, a touchdown, a travel (`Travelled.settled`) or a park move
(`parkedAt_settled`). -/
theorem reportsCompleteTheMoves : Obligations.ReportsCompleteTheMoves := by
  intro s r hw hf hb kept done x y
  have hkw : (s.reported r).AtWork := hw.congr rfl rfl rfl rfl id
  have hcomplete (hd : done) : s.completes r = true := completes_iff.2 hd
  have hgo {u : State} (hu : takeReport r s = u) (huw : u.AtWork) :
      exec (.driveReport r) s = .next (settle u) ∧ WorkKept u (settle u) := live_work hw.noReset hu huw
  have hexec {u : State} (hu : takeReport r s = u) : exec (.driveReport r) s = .next (settle u) :=
    (exec_driveReport hw.noReset).trans (by rw [hu])
  refine ⟨fun hn => ?_, fun hd hm => ?_, fun c hd hm hc => ?_, fun h hd hm hs hh hor => ?_, fun hd hm hk hn hs => ?_⟩
  · have hnot : ¬ s.completes r = true := fun h => hn (completes_iff.1 h)
    exact hgo (by rw [takeReport_clean hf hb, if_neg hnot, keepReport_clean hf hb]; rfl) hkw
  · refine hgo (u := enterIdle (s.reported r)) ?_ (hw.congr rfl rfl rfl rfl nofun)
    have hkm : (s.reported r).msq.motion = .lift := hm
    rw [takeReport_completes hf hb (hcomplete hd), commandComplete, if_neg (by simp [hkw.noLift])]
    simp only [hkm]
  · have hdown : takeReport r s = downComplete (s.reported r) := by
      have hkm : (s.reported r).msq.motion = s.msq.motion := rfl
      rw [takeReport_completes hf hb (hcomplete hd), commandComplete, if_neg (by simp [hkw.noLift])]
      rcases hm with hm | hm | hm <;> simp only [hkm, hm]
    have hlast : (s.reported r).msq.lastCommand = some c := hc
    simp only [downComplete, hlast] at hdown
    split
    next ho => exact hgo (by rw [hdown, if_pos ho]; rfl) (hw.congr rfl rfl rfl rfl id)
    next ho => exact hgo (by rw [hdown, if_neg ho]; rfl) hkw
  · have ht := travelled_reported (r := r) hm hs hh
    have htake : takeReport r s = if s.msq.abandonMark then enterIdle (s.reported r).travelled
        else if s.msq.lateStop then (s.reported r).travelled.stoppedLate else startApproach (s.reported r).travelled :=
      (takeReport_travel hw.noLift hm hf hb (hcomplete hd)).trans (travelComplete_eq _)
    set v := (s.reported r).travelled with hv
    by_cases hab : s.msq.abandonMark = true
    · rw [if_pos hab] at htake
      obtain ⟨h1, h2, h3, h4, h5, h6⟩ := ht.settled hw (u := enterIdle v) rfl nofun
        (by rw [enterIdle_msq, ht.msq]; exact ⟨rfl, rfl, rfl⟩)
      exact ⟨_, hexec htake, h1, h2, h3, h4, h5, h6, fun _ _ hn => absurd (hab.symm.trans hn) nofun,
        fun hn => absurd (hab.symm.trans hn) nofun, fun hn => absurd (hab.symm.trans hn) nofun, fun _ => ht.idles hw⟩
    by_cases hlate : s.msq.lateStop = true
    · rw [if_neg hab, if_pos hlate] at htake
      obtain ⟨h1, h2, h3, h4, h5, h6⟩ := ht.settled hw (u := v.stoppedLate) rfl nofun
        (by rw [stoppedLate_msq, ht.msq]; exact ⟨rfl, rfl, rfl⟩)
      exact ⟨_, hexec htake, h1, h2, h3, h4, h5, h6, fun _ _ _ hn => absurd (hlate.symm.trans hn) nofun,
        fun _ hn => absurd (hlate.symm.trans hn) nofun, fun _ _ hdoubt => ht.waits hw hdoubt, fun hy => absurd hy hab⟩
    · rw [if_neg hab, if_neg hlate] at htake
      have hgrant := (hor.resolve_left hab).resolve_left hlate
      have hin := tip_inside hm hb hh
      obtain ⟨h1, h2, h3, h4, h5, h6⟩ := ht.settled hw (u := startApproach v) (by rw [ht.approach hgrant hin]; rfl)
        (by rw [ht.approach hgrant hin]; nofun)
        (by rw [ht.approach hgrant hin]; simp [ht.msq, State.reported])
      obtain ⟨d1, d2, d3, d4⟩ := ht.descends hw hgrant hin
      exact ⟨_, hexec htake, h1, h2, h3, h4, h5, h6, fun hr hx _ _ => d4 hr hx, fun _ _ => ⟨d1, d2, d3⟩,
        fun _ hy => absurd hy hlate, fun hy => absurd hy hab⟩
  · exact ⟨_, hexec (takeReport_park hw.noLift hm hk hn hf hb (hcomplete hd)), parkedAt_settled hw hm hk hs⟩

end Sys2Proof.Machine
end

section
/-! SUPPORT. HALT asserted and released, and RESUME (R117, R124, R141 to R143): O50. -/

namespace Sys2Proof.Machine

open Sys2Proof

variable {s t u v : State} {f : TxFrame} {x : RxFrame} {p : PendingClaim} {point : Nat × Nat}

/-! ## HALT asserted -/

/-- The state in which HALT has just been asserted (R142). -/
def State.halted (s : State) : State :=
  (s.onPins fun p => { p with haltIn := true }).onMsq fun m => { m with resumeMark := false }

theorem haltFreeze_msq (s : State) : (haltFreeze s).msq = { s.msq with
    motion := .frozen, frozen := .stopping, idleTimer := none, spaceWait := none, spaceExpired := false, waiting := none
    abandonMark := false, parkRequest := false, resumeMark := false, lateStop := false
    lastCommand := some { number := s.nextCommand, order := .stop } } := by
  rw [haltFreeze, withdrawClaim_msq]
  rfl

theorem haltFreeze_members (s : State) : (haltFreeze s).rvu.current = none ∧ (haltFreeze s).rvu.next = none ∧
    (haltFreeze s).meu = Meu.powerOn := by
  rw [haltFreeze, withdrawClaim_rvu, withdrawClaim_meu]
  exact ⟨rfl, rfl, rfl⟩

/-- A queued CLAIM that is neither on the lane nor waiting behind a frame leaves its queue (R99). -/
theorem withdrawClaim_queued (hp : s.scu.pending = some p) (hq : p.stage = .queued) (hx : s.lif.tx = none) :
    withdrawClaim s = (filterSafety (fun f => !isClaimFrame f) s).onScu fun c => { c with pending := none } := by
  simp [withdrawClaim, hp, hq, State.claimWaits, State.claimOnLane, hx]

/-- The CLAIM frames are gone with a queued claim. -/
theorem haltFreeze_claim (hp : s.scu.pending = some p) (hq : p.stage = .queued) (hx : s.lif.tx = none) :
    (haltFreeze s).scu.pending = none ∧ (haltFreeze s).lif.tx = none ∧
      ∀ f ∈ (haltFreeze s).lif.safety, isClaimFrame f = false := by
  rw [haltFreeze, withdrawClaim_queued (s := freeze (endMembers (meuAbort s))) hp hq hx]
  refine ⟨rfl, hx, fun f hf => ?_⟩
  have hmem : f ∈ s.lif.safety.filter fun f => !isClaimFrame f := hf
  simpa using (List.mem_filter.1 hmem).2

/-- HALT seen in a state in which it acts freezes the head before anything else (R142). -/
theorem settle_haltFreeze (h : s.Running) (hh : s.halt = true) (ha : s.msq.motion.haltActs = true) :
    settle s = settle (haltFreeze s) := by
  have hfreeze : settleHalt s = haltFreeze s := if_pos (by simp [hh, ha])
  have hstay : settleHalt (haltFreeze s) = haltFreeze s := by simp [settleHalt, haltFreeze_msq, MotionState.haltActs]
  have hl : (haltFreeze s).lifting = false := by simpa [State.lifting] using h.noLift
  rw [settle, settle, if_neg (by simp [h.noLift]), if_neg (by simp [hl]), hfreeze, hstay]

/-- What the blocks' own action leaves of a frozen head besides MSQ. -/
theorem settle_frozenMembers (h : s.Running) (hm : s.msq.motion = .frozen) (hc : s.rvu.current = none) (hn : s.rvu.next = none) :
    (settle s).rvu.current = none ∧ (settle s).rvu.next = none ∧ (settle s).meu = s.meu := by
  have hrvu : (settleClaim s).rvu = s.rvu := by
    rcases settleClaim_engaged (s := s) (by rw [hm]; rfl) with he | he <;> simp [he]
  rw [settle_frozen h hm]
  simp [State.msqRests, hrvu, hc, hn]

/-- A frozen head with no claim pending and nothing on the lane adds a CENSUS_REQ to its SAFETY queue at most. -/
theorem settle_frozenSafety (h : s.Running) (hm : s.msq.motion = .frozen) (hp : s.scu.pending = none) (hx : s.lif.tx = none) :
    (settle s).scu.pending = none ∧ ∀ f ∈ (settle s).lif.safety, f ∈ s.lif.safety ∨ f = .censusReq := by
  set w := (settleAction s).msqRests with hw
  have hlif : w.lif = s.lif := settleAction_lif s
  rw [settle_frozen h hm, settleClaim_none hp, ← hw]
  refine ⟨by simp [hw, State.msqRests, hp], fun f hf => ?_⟩
  have := (offers_safety (by rw [hlif, hx])).2 f hf
  rwa [hlif] at this

/-- What HALT leaves of a head it freezes (R142). -/
theorem halted_frozen (h : s.Running) (hs : ¬ (s.msq.motion = .parked ∨ s.msq.motion = .offline ∨ s.msq.motion = .joining ∨
    s.msq.motion = .frozen)) : settle s.halted = settle (haltFreeze s.halted) ∧ (haltFreeze s.halted).Running := by
  have hr : s.halted.Running := h.congr rfl rfl rfl
  have ha : s.halted.msq.motion.haltActs = true := by
    have hm : s.halted.msq.motion = s.msq.motion := rfl
    rw [hm]
    cases hq : s.msq.motion <;> simp_all [MotionState.haltActs]
  exact ⟨settle_haltFreeze hr rfl ha, hr.congr (by simp) (by simp) (by simp)⟩

/-! ## HALT released -/

theorem askTravel_point (s : State) : (askTravel s).msq.waiting = s.msq.waiting ∧ (askTravel s).msq.target = s.msq.target ∧
    (askTravel s).msq.retouch = s.msq.retouch ∧ ((askTravel s).msq.motion = .claiming ∨ (askTravel s).msq.motion = .waitSpace) := by
  unfold askTravel enterWaitSpace startSpaceWait queueClaim
  extract_lets c
  split <;> simp

/-- A head in CLAIMING or WAIT_SPACE stays in them as the space changes (R127). -/
theorem settleSpace_point (h : s.msq.motion = .claiming ∨ s.msq.motion = .waitSpace) :
    (settleSpace (settleIdle s)).msq.waiting = s.msq.waiting ∧ (settleSpace (settleIdle s)).msq.target = s.msq.target ∧
      (settleSpace (settleIdle s)).msq.retouch = s.msq.retouch ∧
      ((settleSpace (settleIdle s)).msq.motion = .claiming ∨ (settleSpace (settleIdle s)).msq.motion = .waitSpace) := by
  rcases h with h | h
  · rw [settleSpace_still (by simp [h]) (by simp [h]) (by simp [h])]
    exact ⟨rfl, rfl, rfl, .inl h⟩
  · rw [settleIdle_notIdle (by simp [h]), settleSpace]
    split
    · simp only [State.onMsq_msq, h]
      exact askTravel_point _
    · exact ⟨rfl, rfl, rfl, .inr h⟩

/-- The waiting point is served in PARKED once HALT is released (R124). -/
theorem settle_served (h : s.Running) (hm : s.msq.motion = .parked) (hh : s.halt = false) (hw : s.msq.waiting = some point)
    (hc : ∀ m, s.rvu.current = some m → m.state ≠ .formed) : (settle s).msq.waiting = none ∧
      (settle s).msq.target = some point ∧ (settle s).msq.retouch = 0 ∧
      ((settle s).msq.motion = .claiming ∨ (settle s).msq.motion = .waitSpace) := by
  have hhalt : settleHalt s = s := settleHalt_idle hh
  obtain ⟨hcm, hcr, -⟩ := settleClaim_stands (s := s) (by simp [hm]) (by simp [hm])
  set v := settleAction (settleClaim s) with hv
  have hvm : v.msq = s.msq := (settleAction_msq _).trans hcm
  have hvr : v.rvu = s.rvu := (settleAction_rvu _).trans hcr
  have hvh : v.halt = false := (settleAction_halt _).trans ((halt_congr (by simp) (by simp)).trans hh)
  have hfence : v.flu.fence ≠ .restartWait := settleAction_fence (by simpa using h.noFence1)
  set w := v.onMsq fun m => { m with waiting := none, retouch := 0, target := some point } with hwd
  have hserve : settleServe v = askTravel w := by
    simp only [settleServe, hvm, hw, hm, hvh, and_self, or_true, if_true, ← hwd]
  obtain ⟨h1, h2, h3, h4⟩ := askTravel_point w
  obtain ⟨k1, k2, k3, k4⟩ := settleSpace_point h4
  rw [settle, if_neg (by simp [h.noLift]), hhalt, settleRestart_idle hfence, settlePlacing_idle (by simp [hvm, hm]),
    settleHandover_stays fun m hq hst => absurd hst (hc m (hvr ▸ hq)), hserve, (offers_keep _).1]
  exact ⟨k1.trans h1, k2.trans h2, k3.trans h3, k4⟩

/-! ## RESUME -/

theorem fenced23_iff : s.fenced23 = true ↔ s.flu.fence = .silent ∨ s.flu.fence = .haltAll := by simp [State.fenced23]

/-- Settles O50: the freeze comes before the blocks' other actions (`settle_haltFreeze`), the release serves the waiting point
(`settle_served`), and RESUME is judged row by row. -/
theorem haltFreezesAndResumeFrees : Obligations.HaltFreezesAndResumeFrees := by
  intro s hr still released
  have hasserted : exec .haltAsserted s = .next (settle s.halted) := by
    refine congrArg Host.Outcome.next ?_
    exact if_neg (by simp [State.onPins, hr.noReset])
  have hreleased : exec .haltReleased s = .next (settle released) := by
    refine congrArg Host.Outcome.next ?_
    exact if_neg (by simp [State.onPins, hr.noReset])
  have hrr : released.Running := hr.congr rfl rfl rfl
  refine ⟨fun _ => ⟨hasserted, settle_runKept (hr.congr rfl rfl rfl)⟩, fun hs => ?_, ⟨hreleased, settle_runKept hrr⟩,
    fun p hm hw hd hc => ?_, fun f ha => ?_⟩
  · obtain ⟨hset, hfr⟩ := halted_frozen hr hs
    have hmsq := haltFreeze_msq s.halted
    obtain ⟨hcur, hnext, hmeu⟩ := haltFreeze_members s.halted
    have hmotion : (haltFreeze s.halted).msq.motion = .frozen := by rw [hmsq]
    have hkept := settle_runKept hfr
    obtain ⟨tm, tfault⟩ := settle_frozenMsq hfr hmotion
    obtain ⟨tcur, tnext, tmeu⟩ := settle_frozenMembers hfr hmotion hcur hnext
    have tmsq : (settle (haltFreeze s.halted)).msq = { s.msq with
        motion := .frozen, frozen := .stopping, idleTimer := none, spaceWait := none, spaceExpired := false, waiting := none
        abandonMark := false, parkRequest := false, resumeMark := false, lateStop := false, spaceEvent := false
        lastCommand := some { number := s.nextCommand, order := .stop } } := by
      rw [tm]
      simp only [State.msqRests, State.onMsq_msq, hmsq]
      rfl
    refine ⟨_, hasserted.trans (by rw [hset]), congrArg Prod.fst (hkept.outer.trans (haltFreeze_outer _)), ?_, ?_, ?_, tcur, tnext,
      tmeu.trans hmeu, ?_, ?_, ?_, ?_, ?_, ?_, hkept.claimState.trans (haltFreeze_claimState _),
      hkept.jtb.trans (haltFreeze_jtb _), tfault.trans (haltFreeze_faultState _), fun p hp hq hx => ?_⟩
    case refine_10 =>
      obtain ⟨hpend, hlane, hfree⟩ := haltFreeze_claim (s := s.halted) hp hq hx
      obtain ⟨h1, h2⟩ := settle_frozenSafety hfr hmotion hpend hlane
      exact ⟨h1, fun f hf => (h2 f hf).elim (hfree f) fun he => by rw [he]; rfl⟩
    all_goals rw [tmsq]
  · exact ⟨_, hreleased, settle_served hrr hm (by simp [State.halt, released, hd]) hw hc⟩
  · intro r goes fenced
    have hrr : r.Running := hr.received
    have hheard : hear .resume f (unlessLift takeResume) s = takeResume r :=
      (hear_accepts _ ha).trans (if_neg (by simp [hr.noLift]))
    have hgo {u : State} (hu : takeResume r = u) (hur : u.Running) : goes u := live_run hr.noReset (hheard.trans hu) hur
    have hhalt : r.halt = s.halt := received_halt ..
    have hmsq : r.msq = s.msq := received_msq ..
    have hfence : r.fenced23 = true ↔ fenced := by rw [fenced23_iff, received_flu]
    refine ⟨fun hh => ?_, fun hh hor => ?_, fun hh hn hm => ⟨fun hp => ?_, fun hp => ?_⟩⟩
    · exact hgo (if_pos (hhalt.trans hh)) (hrr.congr rfl rfl rfl)
    · refine hgo ?_ hrr
      rw [takeResume, if_neg (by simp [hhalt, hh])]
      by_cases hf : fenced
      · exact if_pos (hfence.2 hf)
      · rw [if_neg (hfence.not.2 hf), if_neg (by simpa [hmsq] using hor.resolve_left hf)]
    all_goals
      have hfrozen : takeResume r = if r.msq.frozen = .still then enterIdle (r.onMsq fun m => { m with resumeMark := false })
          else r.onMsq fun m => { m with resumeMark := true } := by
        rw [takeResume, if_neg (by simp [hhalt, hh]), if_neg (hfence.not.2 hn), if_pos (by rw [hmsq, hm])]
    · exact hgo (hfrozen.trans (if_pos (by rw [hmsq, hp]))) (hrr.congr rfl rfl rfl)
    · exact hgo (hfrozen.trans (if_neg (by rwa [hmsq]))) (hrr.congr rfl rfl rfl)

end Sys2Proof.Machine
end

section
/-! SUPPORT. An OBJECT at an observer and at the claimant it names (R103 to R105, R130): O34. -/

namespace Sys2Proof.Machine

open Sys2Proof

variable {s t u v : State} {f : RxFrame} {c : Claim} {n o : Nat} {rect : Rect}

/-! ## At an observer -/

/-- The OBJECT acts where it carries the head's side (R104). -/
theorem exec_hearObject (hr : s.Running) (ha : s.Accepts .object f) (hs : rxAuxSide f = s.stc.side) :
    exec (.object f) s = .next (settle (hearObject f (received .object f s))) := by
  refine (live_eq _ hr.noReset).trans ?_
  cases ho : s.isOwn f with
  | true => rw [hear_own (own := hearObject f) (peer := fun _ => hearObject f) hr ha ho hs]
  | false => rw [hear_peer (own := hearObject f) (peer := fun _ => hearObject f) hr ha ho hs]

theorem objectAtObserver_matches {h : Option Rect} {p : Rect} {d : Nat} (hs : (s.slotOf n).holds = .heldPending h p o d) :
    objectAtObserver n o s = mapChanged (putSlot n { s.slotOf n with holds := (s.slotOf n).holds.dropPending } s) := by
  simp only [objectAtObserver, hs, if_true]

theorem objectAtObserver_other (hs : ∀ h p d, (s.slotOf n).holds ≠ .heldPending h p o d) : objectAtObserver n o s = s := by
  unfold objectAtObserver
  dsimp only
  split
  next h p o' d hq => exact if_neg fun he => hs h p d (by rw [hq, he])
  · rfl

/-! ## At the claimant -/

/-- The slot of the owner of the objected rectangle, when that is entered in it (R104). -/
def SlotHolds.objected (present : Bool) (rect : Rect) : SlotHolds → SlotHolds
  | .empty => if present then .held rect else .frozen (some rect) none
  | .held h => .held (h.bounding rect)
  | .heldPending h p o d => .heldPending (some (rect.boundingWith h)) p o d
  | .frozen h p => .frozen (some (rect.boundingWith h)) p

theorem install_eq (hs : s.stc.station ≠ some n) : install n rect s = putSlot n { s.slotOf n with
    holds := (s.slotOf n).holds.objected ((s.rosterOf n).presence == .present) rect } s := by
  rw [install, if_neg hs]
  dsimp only
  congr 2
  cases (s.slotOf n).holds with
  | empty => simp [SlotHolds.objected]
  | held h => rfl
  | heldPending h p o d => rfl
  | frozen h p => rfl

/-- The map at the claimant when the rectangle is entered in its owner's slot. -/
theorem objected_space (f : RxFrame) (s : State) : (objected f s).space =
    if s.stc.station = some (rxOwner f) then s.scu.map
    else s.scu.map.put (rxOwner f) { s.slotOf (rxOwner f) with
      holds := (s.slotOf (rxOwner f)).holds.objected ((s.rosterOf (rxOwner f)).presence == .present) (rxRect f) } := by
  split
  next h =>
    have hkeep : objected f s = setDoubt s := if_pos h
    rw [hkeep]
    rfl
  next h => exact congrArg State.space (install_eq (s := setDoubt s) h)

theorem objected_claimState (f : RxFrame) (s : State) :
    (objected f s).claimState = (s.scu.held, s.scu.ordinal, s.scu.lastGranted, true) := by
  obtain ⟨h1, -, h2, h3, h4⟩ := objected_scu f s
  rw [State.claimState, h1, h2, h3, h4]

/-- What a change of the map leaves in doubt, a void claim in its window aside. -/
structure ChangeKept (s t : State) : Prop where
  running    : s.Running → t.Running
  claimState : t.claimState = s.claimState
  space      : t.space = s.space
  rosters    : t.rosters = s.rosters
  log        : t.log = s.log

theorem ChangeKept.refl (s : State) : ChangeKept s s := ⟨id, rfl, rfl, rfl, rfl⟩

theorem ChangeKept.trans (h : ChangeKept s t) (k : ChangeKept t u) : ChangeKept s u :=
  ⟨k.running ∘ h.running, k.claimState.trans h.claimState, k.space.trans h.space, k.rosters.trans h.rosters, k.log.trans h.log⟩

theorem ChangeKept.onMsq (q : Msq → Msq) : ChangeKept s (s.onMsq q) := ⟨fun h => h.congr rfl rfl rfl, rfl, rfl, rfl, rfl⟩

theorem mapChanged_kept (hd : s.scu.doubt = true) : ChangeKept s (mapChanged s) := by
  rw [mapChanged_eq]
  split
  · refine ⟨fun h => selfVoid_running (h.congr rfl rfl rfl), ?_, ?_, ?_, ?_⟩
    · simp [selfVoid, State.claimState, setDoubt, State.told, State.onMsq, hd]
    all_goals simp [selfVoid, setDoubt, State.told]
  · exact .onMsq _

/-- A late objection to a claim not of PLACING: a moving head is told of one to its TRAVEL claim (R105, R130). -/
theorem lateObject_eq (hp : ∀ c, s.scu.held = some c → c.placing = false) :
    lateObject s = lateObjection (lateCounted s) ∧ (∃ c, s.scu.held = some c ∧ c.kind = .travel) ∨
      lateObject s = lateCounted s ∧ ¬ ∃ c, s.scu.held = some c ∧ c.kind = .travel := by
  have hl : lateObject s = match s.scu.held with
    | some c => if c.kind = .travel then lateObjection (lateCounted s) else if c.placing then startConflict (lateCounted s)
      else lateCounted s
    | none => lateCounted s := rfl
  cases hh : s.scu.held with
  | none => exact .inr ⟨by rw [hl, hh], by simp⟩
  | some c =>
    simp only [hh] at hl
    by_cases hk : c.kind = .travel
    · exact .inl ⟨by rw [hl, if_pos hk], c, rfl, hk⟩
    · exact .inr ⟨by rw [hl, if_neg hk, if_neg (by simp [hp c hh])], by simpa using hk⟩

/-- The STOP of a late objection (R130). -/
def lateStopped (s : State) : State := (sendCommand .stop s).onMsq fun m => { m with lateStop := true }

theorem lateStopped_kept (s : State) : ChangeKept s (lateStopped s) := ⟨fun h => h.congr rfl rfl rfl, rfl, rfl, rfl, rfl⟩

theorem lateObjection_kept (s : State) : ChangeKept s (lateObjection s) := by
  unfold lateObjection
  (repeat' split)
  · exact lateStopped_kept s
  · exact lateStopped_kept s
  · exact .onMsq id
  · exact lateStopped_kept s
  · exact .onMsq id

theorem lateObject_kept (hp : ∀ c, s.scu.held = some c → c.placing = false) : ChangeKept (lateCounted s) (lateObject s) := by
  rcases lateObject_eq hp with ⟨h, -⟩ | ⟨h, -⟩ <;> rw [h]
  · exact lateObjection_kept _
  · exact .onMsq id

/-- The OBJECT at the claimant by what its ordinal names: the claim in its window, the held one, or neither (R104, R105). -/
theorem objectAtClaimant_window (hw : s.windowOrdinal = some (rxOrdinal f)) (hp : s.pendingPlacing = false) :
    objectAtClaimant (rxOrdinal f) (rxRect f) (rxOwner f) s =
      mapChanged (reportVoid ((objected f s).onScu fun c => { c with pending := none })) := by
  obtain ⟨-, hpend, -⟩ := objected_scu f s
  have hw' : (objected f s).windowOrdinal = some (rxOrdinal f) := by rwa [windowOrdinal_congr hpend]
  have hp' : (objected f s).pendingPlacing = false := by rwa [State.pendingPlacing, hpend]
  show mapChanged (if (objected f s).windowOrdinal = some (rxOrdinal f) then _ else _) = _
  have hnp : ¬ (objected f s).pendingPlacing = true := by simp [hp']
  rw [if_pos hw']
  exact congrArg mapChanged (if_neg hnp)

theorem objectAtClaimant_neither (hw : s.windowOrdinal ≠ some (rxOrdinal f)) (hg : s.scu.lastGranted ≠ some (rxOrdinal f)) :
    objectAtClaimant (rxOrdinal f) (rxRect f) (rxOwner f) s = mapChanged (objected f s) := by
  obtain ⟨-, hpend, -, hl, -⟩ := objected_scu f s
  have hw' : (objected f s).windowOrdinal ≠ some (rxOrdinal f) := by rwa [windowOrdinal_congr hpend]
  show mapChanged (if (objected f s).windowOrdinal = some (rxOrdinal f) then _ else _) = _
  rw [if_neg hw']
  exact congrArg mapChanged (if_neg fun h => hg (hl.symm.trans h))

theorem voided_kept (s : State) : ChangeKept s (reportVoid (s.onScu fun c => { c with pending := none })) where
  running h := h.congr (identity_inReset ((reportVoid_identity _).trans rfl)) (by simp) (by simp)
  claimState := by simp [State.claimState]
  space := by simp [State.space]
  rosters := by simp
  log := by simp

/-- The late objection stops a travel (R130). -/
theorem lateObject_travel (hm : s.msq.motion = .travel) (hp : ∀ c, s.scu.held = some c → c.placing = false)
    (hk : ∃ c, s.scu.held = some c ∧ c.kind = .travel) : lateObject s = lateStopped (lateCounted s) := by
  rcases lateObject_eq hp with ⟨h, -⟩ | ⟨-, hn⟩
  · have hc : (lateCounted s).msq.motion = .travel := hm
    rw [h, lateObjection]
    simp only [hc]
    rfl
  · exact absurd hk hn

/-- A change of the map stops nothing of a head in TRAVEL. -/
theorem mapChanged_travel (hm : s.msq.motion = .travel) : (mapChanged s).msq = { s.msq with spaceEvent := true } ∧
    (s.AtWork → (mapChanged s).AtWork) := by
  have hv (w : State) (h : w.msq.motion = .travel) : reportVoid w = w := reportVoid_engaged (by rw [h]; rfl)
  rw [mapChanged_eq]
  split
  · have hstay := hv (setDoubt (s.told.onScu fun c => { c with pending := none })) hm
    rw [selfVoid, hstay]
    exact ⟨rfl, fun h => h.congr rfl rfl rfl rfl id⟩
  · exact ⟨rfl, fun h => h.congr rfl rfl rfl rfl id⟩

/-- A change of the map in doubt, and what the blocks do after it. -/
theorem ChangeKept.settled (h : ChangeKept s t) (hr : s.Running) (hd : s.scu.doubt = true) :
    (settle (mapChanged t)).claimState = s.claimState ∧ (settle (mapChanged t)).space = s.space ∧
      (settle (mapChanged t)).rosters = s.rosters ∧ (settle (mapChanged t)).log = s.log := by
  have hdt : t.scu.doubt = true := (congrArg (·.2.2.2) h.claimState).trans hd
  have hm := h.trans (mapChanged_kept hdt)
  have hk := settle_runKept (hm.running hr)
  exact ⟨hk.claimState.trans hm.claimState, hk.space.trans hm.space, hk.rosters.trans hm.rosters, hk.log.trans hm.log⟩

/-- Settles O34: at an observer an OBJECT is a change of the map; at the claimant doubt is set first, so that whatever else it does
keeps the claims (`ChangeKept`). -/
theorem objectVoidsOrComesLate : Obligations.ObjectVoidsOrComesLate := by
  intro s f hr ha hs changes r claimant owner
  have hrr : r.Running := hr.received
  have hexec := exec_hearObject hr ha hs
  have hscu : r.scu = s.scu := received_scu ..
  refine ⟨fun hc => ?_, fun hc hpl hplaced => ?_⟩
  · have hobs : hearObject f r = objectAtObserver claimant (rxOrdinal f) r :=
      if_neg fun h => hc (h.trans (received_own ..))
    have hslot : r.slotOf claimant = s.slotOf claimant := received_slotOf ..
    have hstays (h : ∀ a p d, (s.slotOf claimant).holds ≠ .heldPending a p (rxOrdinal f) d) :
        exec (.object f) s = .next (settle r) ∧ RunKept r (settle r) := by
      refine ⟨hexec.trans ?_, settle_runKept hrr⟩
      rw [hobs, objectAtObserver_other (by rwa [hslot])]
    split
    next h p o d hq =>
      split
      next ho =>
        subst ho
        obtain ⟨hheld, hj⟩ := received_held_jtb .object f s
        have hobs' : hearObject f r = mapChanged (putSlot claimant
            { r.slotOf claimant with holds := (r.slotOf claimant).holds.dropPending } r) :=
          hobs.trans (objectAtObserver_matches (by rw [hslot, hq]))
        refine mapChange_answers (u := putSlot claimant { r.slotOf claimant with
          holds := (r.slotOf claimant).holds.dropPending } r) (hexec.trans (by rw [← hobs'])) ?_ (hrr.congr rfl rfl rfl) hheld hj
        rw [hslot, hq]
        cases h <;> rfl
      next ho => exact hstays fun a p' d' he => ho (by rw [hq] at he; cases he; rfl)
    next hne => exact hstays fun a p d => hne a p (rxOrdinal f) d
  · intro sl holds
    have hobj : hearObject f r = objectAtClaimant (rxOrdinal f) (rxRect f) owner r :=
      if_pos (hc.trans (received_own ..).symm)
    rw [hobj] at hexec
    set w := objected f r with hw
    have hwd : w.scu.doubt = true := (objected_scu f r).2.2.2.2
    have hwr : w.Running := hrr.congr (by simp [hw]) (by simp [hw]) (by simp [hw])
    have hwh : w.scu.held = s.scu.held := (objected_scu f r).1.trans (by rw [hscu])
    have hros : w.rosters = r.rosters := by simp [State.rosters, hw]
    have hlog : w.log = r.log := by simp [State.log, hw]
    have hclaims : w.claimState = (s.scu.held, s.scu.ordinal, s.scu.lastGranted, true) := by
      rw [hw, objected_claimState, hscu]
    have hholds : sl.holds.objected ((r.rosterOf owner).presence == .present) (rxRect f) = holds := by
      simp only [holds]
      cases sl.holds with
      | empty => simp [SlotHolds.objected]
      | held h => rfl
      | heldPending h p o d => cases h <;> rfl
      | frozen h p => cases h <;> rfl
    have hspace : w.space = if s.stc.station = some owner then s.scu.map
        else s.scu.map.put owner { holds := holds, lastOrdinal := sl.lastOrdinal } := by
      rw [hw, objected_space, hscu, received_slotOf, identity_station (received_identity ..), hholds]
    have hwin : r.windowOrdinal = s.windowOrdinal := windowOrdinal_congr (by rw [hscu])
    have hgranted : r.scu.lastGranted = s.scu.lastGranted := by rw [hscu]
    have hwplaced (c : Claim) (h : w.scu.held = some c) : c.placing = false := hplaced c (hwh ▸ h)
    have hends {b X : State} (hb : ChangeKept b X) (hbr : b.Running) (hbc : b.claimState = w.claimState)
        (hbs : b.space = w.space) (hbros : b.rosters = w.rosters) :
        let t := settle (mapChanged X)
        t.scu.doubt = true ∧ t.scu.held = s.scu.held ∧ t.scu.ordinal = s.scu.ordinal ∧
          t.scu.lastGranted = s.scu.lastGranted ∧ t.rosters = r.rosters ∧ t.space = w.space ∧ t.log = b.log := by
      intro t
      obtain ⟨k1, k2, k3, k4⟩ := hb.settled hbr ((congrArg (·.2.2.2) hbc).trans hwd)
      have hcl : t.claimState = (s.scu.held, s.scu.ordinal, s.scu.lastGranted, true) := k1.trans (hbc.trans hclaims)
      exact ⟨congrArg (·.2.2.2) hcl, congrArg (·.1) hcl, congrArg (·.2.1) hcl, congrArg (·.2.2.1) hcl,
        k3.trans (hbros.trans hros), k2.trans hbs, k4⟩
    by_cases h1 : s.windowOrdinal = some (rxOrdinal f)
    · have hu := objectAtClaimant_window (f := f) (s := r) (hwin.trans h1) (by rwa [State.pendingPlacing, hscu])
      obtain ⟨e1, e2, e3, e4, e5, e6, e7⟩ := hends (voided_kept w) hwr rfl rfl rfl
      refine ⟨_, hexec.trans (by rw [hu]), e1, e2, e3, e4, e5, e6.trans hspace, fun _ => ⟨?_, ?_⟩, fun h => absurd h1 h,
        fun h => absurd h1 h⟩
      · set X := reportVoid (w.onScu fun c => { c with pending := none }) with hX
        have hpend : X.scu.pending = none := by simp [hX]
        have hdoubt : X.scu.doubt = true := (congrArg Scu.doubt (reportVoid_scu _)).trans hwd
        have hXr : X.Running := (voided_kept w).running hwr
        rw [mapChanged_told hpend]
        exact settle_doubtful (hXr.congr rfl rfl rfl) ⟨hpend, hdoubt⟩
      · exact congrArg Prod.fst (e7.trans hlog)
    by_cases h2 : s.scu.lastGranted = some (rxOrdinal f)
    · have hu := objectAtClaimant_late (f := f) (s := r) (by rwa [hwin]) (hgranted.trans h2)
      obtain ⟨e1, e2, e3, e4, e5, e6, e7⟩ := hends (lateObject_kept hwplaced) (hwr.congr rfl rfl rfl) rfl rfl rfl
      refine ⟨_, hexec.trans (by rw [hu]), e1, e2, e3, e4, e5, e6.trans hspace, fun h => absurd h h1, fun _ _ => ⟨?_, ?_⟩,
        fun _ h => absurd h2 h⟩
      · exact (congrArg Prod.fst e7).trans (lateConflict_counters f r)
      · intro hwork hm hk
        have hwm : w.msq = s.msq := (objected_msq f r).trans (received_msq ..)
        have hrw : r.AtWork := hwork.received
        have hww : w.AtWork := hrw.congr (by simp [hw]) (by simp [hw]) (by simp [hw])
          (halt_congr (by simp [hw, objected]) (by simp [hw])) (by simp [hw])
        have htravel : w.msq.motion = .travel := (congrArg Msq.motion hwm).trans hm
        rw [lateObject_travel htravel hwplaced (by rwa [hwh])]
        set X := lateStopped (lateCounted w) with hX
        obtain ⟨hmsq, hatwork⟩ := mapChanged_travel (s := X) htravel
        have hk' := settle_workKept (hatwork (hww.congr rfl rfl rfl rfl id))
        have hmotion : (mapChanged X).msq.motion = .travel := by
          rw [hmsq]
          exact htravel
        refine ⟨hk'.command.trans ?_, (hk'.motion (by rw [hmotion]; rfl)).trans hmotion⟩
        have hnext : (lateCounted w).nextCommand = s.nextCommand := congrArg (fun m : Msq => match m.lastCommand with
          | some c => (c.number + 1) % 256
          | none => 0) hwm
        rw [hmsq, ← hnext]
        rfl
    · have hu := objectAtClaimant_neither (f := f) (s := r) (by rwa [hwin]) (by rwa [hgranted])
      obtain ⟨e1, e2, e3, e4, e5, e6, e7⟩ := hends (.refl w) hwr rfl rfl rfl
      exact ⟨_, hexec.trans (by rw [hu]), e1, e2, e3, e4, e5, e6.trans hspace, fun h => absurd h h1, fun _ h => absurd h h2,
        fun _ _ => congrArg Prod.fst (e7.trans hlog)⟩

end Sys2Proof.Machine
end

section
/-! SUPPORT. A peer's CLAIM stored or objected to (R101), and the queued CLAIM that is withdrawn (R99): O32. -/

namespace Sys2Proof.Machine

open Sys2Proof

variable {s t u v : State} {f : RxFrame} {g : TxFrame} {p : PendingClaim} {c : Claim} {n o w : Nat} {rect : Rect} {x : SlotHolds}

/-! ## The slot of the claimant -/

theorem thaw_reference (h : SlotHolds) : h.thaw.reference = h.reference := by
  cases h with
  | frozen a b =>
    simp only [SlotHolds.thaw, SlotHolds.reference]
    cases frozenBound a b <;> rfl
  | empty => rfl
  | held r => rfl
  | heldPending a p i d => rfl

/-- A change of a slot leaves what the others hold. -/
theorem mapRects_others (n : Nat) (sl : Slot) (s : State) :
    ((putSlot n sl s).mapRects.filter fun p => p.1 != n) = s.mapRects.filter fun p => p.1 != n := by
  simp only [State.mapRects, putSlot, State.onScu]
  unfold Heads.put
  split <;> simp [Heads.list, List.filter_append, List.filter_map, Function.comp_def]

theorem objection_setSlot (n o : Nat) (x : SlotHolds) (rect : Rect) (s : State) :
    (setSlot n x o s).objection n rect = s.objection n rect := by
  have hown : (setSlot n x o s).ownRects = s.ownRects := rfl
  rw [State.objection, State.objection, hown, setSlot, mapRects_others]
  rfl

theorem setSlot_setSlot (n o o' : Nat) (x x' : SlotHolds) (s : State) :
    setSlot n x o (setSlot n x' o' s) = setSlot n x o s := by
  simp only [setSlot, putSlot, State.onScu, Heads.put_put]

theorem setSlot_told (n o : Nat) (x : SlotHolds) (s : State) : (setSlot n x o s).told = setSlot n x o s.told := rfl

/-- A peer's CLAIM where the head's own claim in its window stays clear of the thawed slot (R101). -/
theorem peerClaim_eq (hn : isHead n = true)
    (hw : (setSlot n (s.slotOf n).holds.thaw o s.told).windowConflict = false) : peerClaim n o rect s =
      match s.objection n rect with
      | none => setSlot n (.heldPending (s.slotOf n).holds.reference rect o 200000) o s.told
      | some (owner, r) =>
        if s.mayOffer then offerSafety (.object n o r owner) (setSlot n (.ofHeld (s.slotOf n).holds.reference) o s.told)
        else setSlot n (.ofHeld (s.slotOf n).holds.reference) o s.told := by
  set w := setSlot n (s.slotOf n).holds.thaw o s.told with hwd
  have htold : mapChanged (setSlot n (s.slotOf n).holds.thaw o s) = w :=
    (mapChanged_eq _).trans (if_neg (by rw [setSlot_told, ← hwd, hw]; decide))
  obtain ⟨sl, hsl⟩ := isHead_at (h := s.scu.map) hn
  have hslot : w.slotOf n = { holds := (s.slotOf n).holds.thaw, lastOrdinal := some o } := by
    have hat := Heads.at_put { holds := (s.slotOf n).holds.thaw, lastOrdinal := some o } hsl
    exact congrArg (Option.getD · Slot.empty) hat
  have hobj : w.objection n rect = s.objection n rect := objection_setSlot ..
  have hset (x : SlotHolds) : setSlot n x o w = setSlot n x o s.told := setSlot_setSlot ..
  dsimp only [peerClaim]
  rw [htold, hobj, hslot]
  simp only [thaw_reference, hset]
  rfl

theorem isHead_source {k : Kind} (ha : s.Accepts k f) (hk : k.accessClass = some .safety) : isHead f.src.toNat = true := by
  have := ha.source
  simpa [sourceOk, hk, isHead] using this

theorem received_mayOffer (k : Kind) (f : RxFrame) (s : State) : (received k f s).mayOffer = s.mayOffer := by
  simp [State.mayOffer, received_silent]

theorem received_objection (k : Kind) (f : RxFrame) (s : State) (n : Nat) (rect : Rect) :
    (received k f s).objection n rect = s.objection n rect := by
  simp [State.objection, State.ownRects, State.mapRects, received_own]

/-- The claimant's slot as its CLAIM leaves it, the map's change told (R101). -/
def claimSlot (f : RxFrame) (h : SlotHolds) (s : State) : State :=
  setSlot f.src.toNat h (rxOrdinal f) (received .claim f s).told

/-- A peer's CLAIM of the side at the head (R101). -/
theorem hear_peerClaim (hr : s.Running) (ha : s.Accepts .claim f) (ho : s.isOwn f = false) (hs : rxRectSide f = s.stc.side)
    (hw : (claimSlot f (s.slotOf f.src.toNat).holds.thaw s).windowConflict = false) :
    exec (.claim f) s = .next (settle (match s.objection f.src.toNat (rxRect f) with
      | none => claimSlot f (.heldPending (s.slotOf f.src.toNat).holds.reference (rxRect f) (rxOrdinal f) 200000) s
      | some (owner, r) =>
        let u := claimSlot f (.ofHeld (s.slotOf f.src.toNat).holds.reference) s
        if s.mayOffer then offerSafety (.object f.src.toNat (rxOrdinal f) r owner) u else u)) := by
  have hslot : (received .claim f s).slotOf f.src.toNat = s.slotOf f.src.toNat := received_slotOf ..
  have hpeer := peerClaim_eq (s := received .claim f s) (rect := rxRect f) (isHead_source ha rfl) (by rw [hslot]; exact hw)
  rw [received_objection, received_mayOffer, hslot] at hpeer
  have hheard := (hear_peer (own := ownClaim (rxOrdinal f) (rxClaimKind f) (rxRect f))
    (peer := fun n => peerClaim n (rxOrdinal f) (rxRect f)) hr ha ho hs).trans hpeer
  exact (live_eq _ hr.noReset).trans (congrArg (Host.Outcome.next ∘ settle) hheard)

theorem claimSlot_running (hr : s.Running) (h : SlotHolds) : (claimSlot f h s).Running := hr.received.congr rfl rfl rfl

theorem claimSlot_atWork (hw : s.AtWork) (h : SlotHolds) : (claimSlot f h s).AtWork := hw.received.congr rfl rfl rfl rfl id

/-- An OBJECT that is queued stays queued (R101). -/
theorem objected_settled {owner : Nat} (hr : s.Running) (hm : s.mayOffer = true) :
    let w := offerSafety (.object n o rect owner) s
    RunKept s (settle w) ∧ (s.AtWork → s.lif.tx = none → .object n o rect owner ∈ (settle w).lif.safety) := by
  intro w
  have hk : RunKept s w := by constructor <;> simp [w]
  refine ⟨hk.trans (settle_runKept (hr.congr (by simp [w]) (by simp [w]) (by simp [w]))), fun hw hx => ?_⟩
  have hsil : s.lif.silent = false := by
    simp only [State.mayOffer, Bool.and_eq_true, Bool.not_eq_true'] at hm
    exact hm.1.2
  have hww : w.AtWork := hw.congr (by simp [w]) (by simp [w]) (by simp [w]) (halt_congr (by simp [w]) (by simp [w])) (by simp [w])
  exact (settle_stirred hww).objects (offerSafety_lane hx) _ (offerSafety_mem hsil hw.noLift hx) rfl

/-! ## A queued CLAIM that is withdrawn -/

/-- A head that has its CLAIM queued for its travel or for its way to the park point, with nothing on the lane. -/
structure State.Asking (p : PendingClaim) (s : State) : Prop where
  pending : s.scu.pending = some p
  queued  : p.stage = .queued
  lane    : s.lif.tx = none
  way     : s.msq.motion = .claiming ∧ s.msq.abandonMark = false ∧ s.msq.spaceExpired = false ∨
    s.msq.motion = .parking ∧ s.msq.park = .seek

/-- The corridor the head asks for (R127, R137). -/
def State.wayCorridor (s : State) : Claim := if s.msq.motion = .parking then s.parkCorridor else s.travelCorridor

/-- The head whose queued CLAIM has left its queue. -/
def State.unclaimed (s : State) : State :=
  (filterSafety (fun f => !isClaimFrame f) s).onScu fun c => { c with pending := none }

/-- It waits for space, or in PARKING for its next try (R99, R127, R137). -/
def State.turnedBack (s : State) : State :=
  if s.msq.motion = .parking then s.unclaimed.onMsq fun m => { m with park := .wait } else enterWaitSpace s.unclaimed

theorem settleClaim_turnsBack (h : s.Asking p) (hs : s.claimStale = true) : settleClaim s = s.turnedBack := by
  have hw : withdrawClaim s = s.unclaimed := withdrawClaim_queued h.pending h.queued h.lane
  have hr : settleClaim s = reportVoid s.unclaimed := by
    rw [settleClaim, if_pos hs, withdrawAndReport, hw]
    exact if_pos (by simp [h.pending, State.unclaimed])
  have hmsq : s.unclaimed.msq = s.msq := rfl
  rw [hr, State.turnedBack]
  rcases h.way with ⟨hm, ha, he⟩ | ⟨hm, hk⟩
  · simp [reportVoid, hmsq, hm, ha, he]
  · simp only [reportVoid, hmsq, hm, if_true]
    simp only [State.onMsq, hmsq, hk, if_true]

theorem turnedBack_atWork (hw : s.AtWork) : s.turnedBack.AtWork := by
  unfold State.turnedBack
  split
  · exact hw.congr rfl rfl rfl rfl id
  · exact hw.congr rfl rfl rfl rfl nofun

theorem turnedBack_scu (s : State) : s.turnedBack.scu = { s.scu with pending := none } := by
  unfold State.turnedBack
  split <;> rfl

theorem settle_turnsBack (hw : s.AtWork) (h : s.Asking p) (hs : s.claimStale = true) : settle s = settle s.turnedBack := by
  have hnone : s.turnedBack.scu.pending = none := by rw [turnedBack_scu]
  rw [settle_eq_poised hw, settle_eq_poised (turnedBack_atWork hw), settleClaim_none hnone, settleClaim_turnsBack h hs]

theorem enterWaitSpace_waits (s : State) : (enterWaitSpace s).msq.spaceWait ≠ none := by
  simp only [enterWaitSpace, startSpaceWait, State.onMsq]
  split <;> nofun

/-- The head that was turned back does not ask again at once: it was not told of the space, or is refused (R98). -/
theorem rests_turnedBack (h : s.Asking p)
    (ha : s.msq.spaceEvent = false ∨ s.scu.doubt = true ∨ s.conflictsMap s.wayCorridor.rect = true) : s.turnedBack.Rests := by
  have hrefuse (c : Claim) (hc : s.scu.doubt = true ∨ s.conflictsMap c.rect = true) : s.turnedBack.refusesClaim c = true := by
    have hmap : s.turnedBack.conflictsMap c.rect = s.conflictsMap c.rect := by
      simp only [State.conflictsMap, State.mapRects, turnedBack_scu]
    rcases hc with hc | hc <;> simp [State.refusesClaim, turnedBack_scu, hmap, hc]
  rcases h.way with ⟨hm, -, -⟩ | ⟨hm, -⟩
  · have hne : s.msq.motion ≠ .parking := by simp [hm]
    have hb : s.turnedBack = enterWaitSpace s.unclaimed := if_neg hne
    refine rests_waiting (by rw [hb]; rfl) (by rw [hb]; exact enterWaitSpace_waits _) ?_
    refine ha.imp (fun he => by rw [hb]; exact he) fun hc => ?_
    have hcor : s.turnedBack.travelCorridor = s.wayCorridor := by
      rw [hb, State.wayCorridor, if_neg hne]
      rfl
    rw [hcor]
    exact hrefuse _ hc
  · have hb : s.turnedBack = s.unclaimed.onMsq fun m => { m with park := .wait } := if_pos hm
    refine rests_parkWaiting (by rw [hb]; exact hm) (by rw [hb]; rfl) ?_
    refine ha.imp (fun he => by rw [hb]; exact he) fun hc => ?_
    have hcor : s.turnedBack.parkCorridor = s.wayCorridor := by
      rw [hb, State.wayCorridor, if_pos hm]
      rfl
    rw [hcor]
    exact hrefuse _ hc

/-- What the withdrawal of its queued CLAIM leaves of a head. -/
structure Withdrawn (s t : State) : Prop where
  pending  : t.scu.pending = none
  frames   : ∀ f ∈ t.lif.safety, isClaimFrame f = false
  held     : t.scu.held = s.scu.held
  jtb      : t.jtb = s.jtb
  claiming : s.msq.motion = .claiming → t.msq.motion = .waitSpace ∧
    t.msq.spaceWait = match s.msq.spaceWait with | some d => some d | none => some (s.cfg.spaceWait * 1000000)
  parking  : s.msq.motion = .parking → t.msq.motion = .parking ∧ t.msq.park = .wait

theorem settle_withdrawn (hw : s.AtWork) (h : s.Asking p) (hs : s.claimStale = true)
    (ha : s.msq.spaceEvent = false ∨ s.scu.doubt = true ∨ s.conflictsMap s.wayCorridor.rect = true) : Withdrawn s (settle s) := by
  have hk := settle_workKept hw
  have hnone : s.turnedBack.scu.pending = none := by rw [turnedBack_scu]
  have hrest := settle_rests (turnedBack_atWork hw) (by simp [State.claimStale, hnone]) (rests_turnedBack h ha)
  rw [← settle_turnsBack hw h hs] at hrest
  have hsafety : s.turnedBack.lif = s.unclaimed.lif := by
    unfold State.turnedBack
    split <;> rfl
  refine ⟨hrest.pending.trans hnone, fun f hf => ?_, congrArg (·.1) hk.claimState, hk.jtb, fun hm => ?_, fun hm => ?_⟩
  · rcases hrest.added (by rw [hsafety]; exact h.lane) f hf with hg | rfl
    · have hmem : f ∈ s.lif.safety.filter fun f => !isClaimFrame f := by rwa [hsafety] at hg
      simpa using (List.mem_filter.1 hmem).2
    · rfl
  · have hb : s.turnedBack = enterWaitSpace s.unclaimed := if_neg (by simp [hm])
    rw [hrest.msq, hb]
    exact ⟨rfl, rfl⟩
  · have hb : s.turnedBack = s.unclaimed.onMsq fun m => { m with park := .wait } := if_pos hm
    rw [hrest.msq, hb]
    exact ⟨hm, rfl⟩

theorem claimStale_iff (h : s.Asking p) :
    s.claimStale = true ↔ s.scu.doubt = true ∨ s.conflictsMap p.claim.rect = true := by
  simp [State.claimStale, h.pending, h.queued]

/-- A rectangle that conflicts with the one a peer claims conflicts with the map in which that is stored. -/
theorem claimSlot_conflicts {r q : Rect} {k : Option Rect} (hn : isHead f.src.toNat = true) (hc : q.conflicts r = true) :
    (claimSlot f (.heldPending k r o w) s).conflictsMap q = true := by
  obtain ⟨sl, hsl⟩ := isHead_at (h := (received .claim f s).scu.map) hn
  refine conflictsMap_iff.2 ⟨(f.src.toNat, _), Heads.mem_list.2 (Heads.at_put _ hsl), r, ?_, hc⟩
  simp [SlotHolds.rects]

/-- What the head itself is as the claimant's slot changes. -/
theorem claimSlot_head (f : RxFrame) (x : SlotHolds) (s : State) : (claimSlot f x s).msq = { s.msq with spaceEvent := true } ∧
    (claimSlot f x s).scu.pending = s.scu.pending ∧ (claimSlot f x s).cfg = s.cfg := by
  refine ⟨?_, (congrArg Scu.pending (received_scu .claim f s) :), received_cfg .claim f s⟩
  exact congrArg (fun m : Msq => { m with spaceEvent := true }) (received_msq .claim f s)

/-- A queued claim has no window for the map to conflict with (R99). -/
theorem claimSlot_unwindowed (x : SlotHolds) (hp : s.scu.pending = some p) (hq : p.stage = .queued) :
    (claimSlot f x s).windowConflict = false := by
  simp [State.windowConflict, (claimSlot_head f x s).2.1, hp, hq]

theorem wayCorridor_congr (hm : t.msq = { s.msq with spaceEvent := true }) (hc : t.cfg = s.cfg) :
    t.wayCorridor = s.wayCorridor := by
  simp only [State.wayCorridor, State.travelCorridor, State.parkCorridor, State.goal, State.tipX, State.tipY, hm, hc]

/-- Without an event of the claim space a head on its way goes on as it is. -/
theorem rests_unasked (h1 : s.msq.motion ≠ .idle) (h2 : s.msq.motion ≠ .parked) (he : s.msq.spaceEvent = false) : s.Rests := by
  have hm := settleHandover_motion s
  rw [State.Rests, poised, settleServe_moving (by rwa [hm]) (by rwa [hm]),
    settleSpace_unasked (by rwa [hm]) ((settleHandover_spaceEvent s).trans he)]

/-- Without doubt no census is asked for: the SAFETY queue stays. -/
theorem settle_sameSafety (hw : s.AtWork) (hc : s.claimStale = false) (hd : s.scu.doubt = false) (h : s.Rests) :
    (settle s).lif.safety = s.lif.safety := by
  have hlif : (poised s).lif = s.lif := by rw [h]; simp [State.msqRests]
  have hscu : (poised s).scu = s.scu := by rw [h]; simp [State.msqRests]
  have hcensus : settleCensus (settleTake (poised s)) = settleTake (poised s) := if_neg (by simp [hscu, hd])
  rw [settle_poised hw hc, hcensus]
  exact (settleTake_safety _).1.trans (congrArg Lif.safety hlif)

theorem execSettleEnd_off (hr : s.stc.inReset = false) (hw : s.meu.window = .off) : exec .settleEnd s = .next (settle s) := by
  refine (live_eq beginSampling hr).trans ?_
  simp [beginSampling, hw]

/-- A BROKEN frame of which no word was received sets doubt (R7, R109). -/
theorem execFrameBroken_none (hr : s.Running) (hw : s.lif.receiver ≠ .waitQuiet) : ∃ l : Lif → Lif,
    (∀ x : Lif, (l x).tx = x.tx ∧ (l x).safety = x.safety) ∧
      exec (.frameBroken []) s = .next (settle (setDoubt (s.onLif l))) := by
  refine ⟨fun l => { l with
    receiver := .waitQuiet, gap := none, burst := none
    counters := { l.counters with broken := saturate16 l.counters.broken } }, fun _ => ⟨rfl, rfl⟩, ?_⟩
  refine (live_eq (unlessWaiting (takeBroken [])) hr.noReset).trans ?_
  rw [unlessWaiting, if_neg hw, takeBroken, frameBroke, frameLost_eq (by exact hr.noLift)]
  rfl

/-- Settles O32: a peer's CLAIM enters its slot or is objected to (`hear_peerClaim`); a queued CLAIM that is stale leaves its queue and
the head waits (`settle_withdrawn`). -/
theorem peerClaimIsStoredOrObjected : Obligations.PeerClaimIsStoredOrObjected := by
  refine ⟨fun s f hr ha ho hs => ?_, fun s p hw hsil hp hq hx he hcur => ?_⟩
  · intro n slot hclear kept
    have hexec := hear_peerClaim hr ha ho hs hclear
    refine ⟨fun hnone => ?_, fun owner rect hsome => ?_⟩
    · rw [hnone] at hexec
      exact ⟨hexec, settle_runKept (claimSlot_running hr _)⟩
    · intro u
      have hu : u = claimSlot f (.ofHeld kept) s := by
        simp only [u]
        cases kept <;> rfl
      rw [hsome] at hexec
      refine ⟨fun hm => ?_, fun hm => ?_⟩
      · refine ⟨hexec.trans ?_, hu ▸ settle_runKept (claimSlot_running hr _)⟩
        rw [hu]
        simp only [hm]
        rfl
      · have hur : (claimSlot f (.ofHeld kept) s).Running := claimSlot_running hr _
        obtain ⟨hk, hin⟩ := objected_settled (n := n) (o := rxOrdinal f) (rect := rect) (owner := owner) hur
          ((received_mayOffer .claim f s).trans hm)
        refine ⟨_, hexec.trans (by simp only [hm, if_true]; rfl), hu ▸ hk, fun hw hx => hin (claimSlot_atWork hw _) ?_⟩
        exact (received_laneFree .claim f s).2 hx
  · intro withdrawn
    have hgo {c : Instr} {u : State} (hexec : exec c s = .next (settle u)) (hu : u.AtWork) (ha : u.Asking p)
        (hst : u.claimStale = true)
        (hask : u.msq.spaceEvent = false ∨ u.scu.doubt = true ∨ u.conflictsMap u.wayCorridor.rect = true)
        (hheld : u.scu.held = s.scu.held) (hj : u.jtb = s.jtb) (hcfg : u.cfg = s.cfg)
        (hmsq : u.msq = { s.msq with spaceEvent := u.msq.spaceEvent }) : withdrawn c := by
      have ht := settle_withdrawn hu ha hst hask
      refine ⟨_, hexec, ht.pending, ht.frames, ht.held.trans hheld, ht.jtb.trans hj, fun hm _ _ => ?_, fun hm _ => ?_⟩
      · have := ht.claiming (by rw [hmsq]; exact hm)
        rwa [hmsq, hcfg] at this
      · exact ht.parking (by rw [hmsq]; exact hm)
    refine ⟨fun hway hab hex => ?_, fun hwin hd hc hm => ?_⟩
    · have hs : s.Asking p := ⟨hp, hq, hx, hway.imp (fun h => ⟨h, hab, hex⟩) id⟩
      refine ⟨fun hwin hst => ?_, fun hrec => ?_, fun f ha ho hside hobj hconf hcor => ?_⟩
      · exact hgo (execSettleEnd_off hw.noReset hwin) hw hs ((claimStale_iff hs).2 hst) (.inl he) rfl rfl rfl rfl
      · obtain ⟨l, hl, hexec⟩ := execFrameBroken_none hw.running hrec
        obtain ⟨htx, -⟩ := hl s.lif
        have hu : (setDoubt (s.onLif l)).Asking p := ⟨hp, hq, htx.trans hx, hs.way⟩
        exact hgo hexec (hw.congr rfl rfl rfl rfl id) hu ((claimStale_iff hu).2 (.inl rfl)) (.inl he) rfl rfl rfl rfl
      · obtain ⟨hmsq, hpend, hcfg⟩ := claimSlot_head f
          (.heldPending (s.slotOf f.src.toNat).holds.reference (rxRect f) (rxOrdinal f) 200000) s
        have hexec := hear_peerClaim hw.running ha ho hside (claimSlot_unwindowed _ hp hq)
        rw [hobj] at hexec
        set u := claimSlot f (.heldPending (s.slotOf f.src.toNat).holds.reference (rxRect f) (rxOrdinal f) 200000) s with hu
        have huask : u.Asking p := by
          refine ⟨hpend.trans hp, hq, (received_laneFree .claim f s).2 hx, ?_⟩
          rw [hmsq]
          exact hs.way
        have hmap : u.conflictsMap p.claim.rect = true := claimSlot_conflicts (isHead_source ha rfl) hconf
        have hwc : u.wayCorridor.rect = p.claim.rect := by
          rw [hcor, wayCorridor_congr hmsq hcfg, State.wayCorridor]
          split <;> rfl
        refine hgo (u := u) hexec (claimSlot_atWork hw _) huask ((claimStale_iff huask).2 (.inr hmap)) (.inr (.inr (by rwa [hwc]))) ?_
          (received_jtb ..) hcfg (by rw [hmsq])
        exact (congrArg Scu.held (received_scu .claim f s) :)
    · have hfresh : s.claimStale = false := by simp [State.claimStale, hp, hq, hd, hc]
      have hrest := rests_unasked (s := s) (by rcases hm with hm | hm <;> simp [hm]) (by rcases hm with hm | hm <;> simp [hm]) he
      have hsettled := settle_rests hw hfresh hrest
      refine ⟨_, execSettleEnd_off hw.noReset hwin, hsettled.pending.trans hp, settle_sameSafety hw hfresh hd hrest, ?_⟩
      rw [hsettled.msq]

end Sys2Proof.Machine
end

section
/-! SUPPORT. The stimulus is driven in an open window alone: O57. -/

namespace Sys2Proof.Machine

open Sys2Proof

/-- Settles O57: every step keeps the condition on the stimulus (`step_keepsSafe`). -/
theorem stimulusStaysSafe : Obligations.StimulusStaysSafe := by
  intro s hs
  obtain ⟨t, ht, hk, -⟩ := step_keepsSafe s
  exact ⟨t, ht, hk.stimulus hs⟩

end Sys2Proof.Machine
end

section
/-! SUPPORT. The arithmetic of a decision (R158 to R162): O28. -/

namespace Sys2Proof.Machine

open Sys2Proof

variable {f r : Reading} {v i : Int} {n d : Nat} {kind : JobKind} {low high : DataWord} {rows : List (Option Reading)}

/-! ## Quotients -/

/-- `q` is the integer next to `num / den`, the upper one of two as near (R153 at a quotient that is not negative). -/
def IsNearest (q num den : Int) : Prop :=
  2 * (q * den - num).natAbs ≤ den.natAbs ∧ (2 * (q * den - num).natAbs = den.natAbs → num ≤ q * den)

theorem roundQuot_natCast (n d : Nat) : roundQuot (n : Int) d = ((n / d + if d ≤ 2 * (n % d) then 1 else 0 : Nat) : Int) := by
  simp only [roundQuot, Int.natAbs_natCast]
  exact if_neg (by omega)

theorem roundQuot_nonneg (n d : Nat) : 0 ≤ roundQuot (n : Int) d := by
  rw [roundQuot_natCast]
  exact Int.natCast_nonneg _

/-- A quotient of natural numbers is rounded half up (R153). -/
theorem roundQuot_isNearest (hd : 0 < d) : IsNearest (roundQuot (n : Int) d) n d := by
  have hmod : n % d < d := Nat.mod_lt n hd
  have hdiv : ((n / d : Nat) : Int) * d + (n % d : Nat) = n := by exact_mod_cast Nat.div_add_mod' n d
  rw [roundQuot_natCast, IsNearest]
  split
  · have hup : (((n / d + 1 : Nat) : Int)) * d = ((n / d : Nat) : Int) * d + d := by push_cast; ring
    omega
  · rw [Nat.add_zero]
    omega

/-- The bound of a rounded quotient from below. -/
theorem IsNearest.le_num {q num : Int} (h : IsNearest q num d) {b : Int} (hb : b ≤ q) : (2 * b - 1) * d ≤ 2 * num := by
  have hmul : b * d ≤ q * d := Int.mul_le_mul_of_nonneg_right hb (Int.natCast_nonneg d)
  have hexp : (2 * b - 1) * (d : Int) = 2 * (b * d) - d := by ring
  obtain ⟨hnear, -⟩ := h
  omega

/-- A rounded quotient does not pass a whole bound of the quotient (R159). -/
theorem IsNearest.le_of_le {q num : Int} (h : IsNearest q num d) (hd : 0 < d) {b : Int} (hb : num ≤ b * d) : q ≤ b := by
  by_contra hq
  have hle := h.le_num (b := b + 1) (by omega)
  have hexp : (2 * (b + 1) - 1) * (d : Int) = 2 * (b * d) + d := by ring
  omega

/-! ## CONT and KELVIN -/

theorem resistance_open (hi : i.natAbs < 100) : resistance v i = (4294967295, false) := if_pos hi

theorem resistance_opposite (hi : 100 ≤ i.natAbs) (ho : 0 < v ∧ i < 0 ∨ v < 0 ∧ 0 < i) : resistance v i = (0, true) := by
  rw [resistance, if_neg (by omega), if_pos ho]

theorem resistance_quotient (hi : 100 ≤ i.natAbs) (ho : ¬ (0 < v ∧ i < 0 ∨ v < 0 ∧ 0 < i)) :
    resistance v i = (min (roundQuot ((v.natAbs * 1000000 : Nat) : Int) i.natAbs) 4294967295, false) := by
  rw [resistance, if_neg (by omega), if_neg ho]
  rfl

/-- R158: the value and conditions of a resistance job, from its voltage difference and its return current. -/
def Resistor (v i : Int) (f : Reading) (c : Computed) : Prop :=
  let opposite : Prop := 0 < v ∧ i < 0 ∨ v < 0 ∧ 0 < i
  let top : Int := (v.natAbs : Int) * 1000000
  (i.natAbs < 100 → c.value = 4294967295 ∧ c.isOpen = true ∧ c.neg = false) ∧
  (100 ≤ i.natAbs → c.isOpen = f.compliance ∧
    (opposite → c.value = 0 ∧ c.neg = true) ∧
    (¬ opposite → c.neg = false ∧ 0 ≤ c.value ∧ c.value ≤ 4294967295 ∧
      (c.value < 4294967295 → IsNearest c.value top i.natAbs) ∧
      (c.value = 4294967295 → (2 * 4294967295 - 1) * (i.natAbs : Int) ≤ 2 * top))) ∧
  (c.leak = true ↔ f.amp.natAbs < (f.amp - i).natAbs * 16)

/-- A job whose value is the resistance of its difference and current meets R158. -/
theorem resistor_of_resistance {c : Computed} (hval : (c.value, c.neg) = resistance v i)
    (hopen : c.isOpen = (decide (i.natAbs < 100) || f.compliance))
    (hleak : c.leak = decide (f.amp.natAbs < (f.amp - i).natAbs * 16)) : Resistor v i f c := by
  refine ⟨fun hi => ?_, fun hi => ⟨?_, fun ho => ?_, fun ho => ?_⟩, by rw [hleak, decide_eq_true_iff]⟩
  · obtain ⟨hv, hn⟩ := Prod.mk.inj (hval.trans (resistance_open hi))
    exact ⟨hv, by simp [hopen, hi], hn⟩
  · simp [hopen, Nat.not_lt.2 hi]
  · exact Prod.mk.inj (hval.trans (resistance_opposite hi ho))
  · obtain ⟨hv, hn⟩ := Prod.mk.inj (hval.trans (resistance_quotient hi ho))
    have hnear := roundQuot_isNearest (n := v.natAbs * 1000000) (d := i.natAbs) (by omega)
    have hnonneg := roundQuot_nonneg (v.natAbs * 1000000) i.natAbs
    rw [Nat.cast_mul, Nat.cast_ofNat] at hnear hnonneg hv
    refine ⟨hn, by omega, by omega, fun hlt => ?_, fun htop => hnear.le_num (by omega)⟩
    rwa [hv, min_eq_left (by omega)]

/-! ## ISOL -/

theorem isol_open (hi : r.amp.natAbs < 10) : (compute .isol [some f, some r]).value = 4294967295 := if_pos hi

theorem isol_quotient (hi : 10 ≤ r.amp.natAbs) :
    (compute .isol [some f, some r]).value = roundQuot ((f.volt - r.volt).natAbs : Int) r.amp.natAbs :=
  if_neg (Nat.not_lt.2 hi)

/-- Within the converters' range an insulation resistance is 1 GΩ at most. -/
theorem isol_range (hf : f.volt.natAbs ≤ 5000000) (hr : r.volt.natAbs ≤ 5000000) (hi : 10 ≤ r.amp.natAbs) :
    roundQuot ((f.volt - r.volt).natAbs : Int) r.amp.natAbs ≤ 1000000 :=
  (roundQuot_isNearest (by omega)).le_of_le (by omega) (by omega)

/-! ## Limits -/

/-- The comparison with limits as integers (R161). -/
theorem compareLimits_eq (kind : JobKind) (low high : DataWord) (x : Int) : compareLimits kind low high x =
    if x < (if kind = .diode then low.toInt else low.toNat) then .low
    else if kind ≠ .isol ∧ (if kind = .diode then high.toInt else high.toNat) < x then .high else .pass := rfl

theorem dataWord_toInt_range (w : DataWord) : -8388608 ≤ w.toInt ∧ w.toInt ≤ 8388607 := by
  have h1 := BitVec.le_toInt w
  have h2 := BitVec.toInt_lt (x := w)
  omega

/-! ## Verdicts -/

theorem anyRow_iff {p : Reading → Bool} : anyRow rows p = true ↔ ∃ x, some x ∈ rows ∧ p x = true := by
  simp only [anyRow, List.any_eq_true]
  constructor
  · rintro ⟨y, hy, hp⟩
    cases y with
    | none => cases hp
    | some x => exact ⟨x, hy, hp⟩
  · rintro ⟨x, hx, hp⟩
    exact ⟨some x, hx, hp⟩

theorem any_isNone_iff {α : Type} {l : List (Option α)} : l.any (·.isNone) = true ↔ none ∈ l := by
  simp

theorem judge_missing (hn : none ∈ rows) : judge kind low high rows = (.missing, 0, false) :=
  if_pos (any_isNone_iff.2 hn)

theorem judge_lifted (hn : none ∉ rows) (hl : anyRow rows (·.lifted) = true) :
    judge kind low high rows = (.noContact, 0, false) := by
  rw [judge, if_neg (mt any_isNone_iff.1 hn), if_pos hl]

/-- The verdict on a table that is complete, all of it taken in contact (R162). -/
theorem judge_computed (hn : none ∉ rows) (hl : ¬ anyRow rows (·.lifted) = true) : judge kind low high rows =
    (if anyRow rows (·.isOver) then .isOver
      else if (compute kind rows).isOpen then .isOpen
      else if (compute kind rows).leak then .leak
      else compareLimits kind low high (compute kind rows).value,
      (compute kind rows).value, (compute kind rows).neg) := by
  rw [judge, if_neg (mt any_isNone_iff.1 hn), if_neg hl]

/-- Settles O28: the values are quotients rounded to the nearest (`roundQuot_isNearest`), the comparison has signed limits for DIODE
alone, and the verdict is the first that applies (`judge_computed`). -/
theorem valuesFollowTheKind : Obligations.ValuesFollowTheKind := by
  refine ⟨fun f r => resistor_of_resistance rfl rfl rfl, fun f r h l => resistor_of_resistance rfl rfl rfl, fun f r => ?_,
    fun f r => ⟨rfl, rfl, rfl, rfl, fun hf hr => ?_⟩, fun kind low high x => ?_, fun kind low high rows => ?_⟩
  · refine ⟨isol_open, fun hi => ?_, rfl, rfl, rfl⟩
    rw [isol_quotient hi]
    exact ⟨roundQuot_nonneg .., roundQuot_isNearest (by omega), fun hf hr => isol_range hf hr hi⟩
  · change (f.volt - r.volt).natAbs ≤ 10000000
    omega
  · intro lo hi verdict
    have hv : verdict = if x < lo then .low else if kind ≠ .isol ∧ hi < x then .high else .pass := compareLimits_eq ..
    refine ⟨fun hx => hv.trans (if_pos hx), fun hx hk => ?_, fun hx hk => ?_, fun hk hc => ?_, fun hk => ?_, fun hk => ?_⟩
    · rw [hv, if_neg (by omega)]
      simp only [ne_eq, hk, not_false_eq_true, true_and]
    · rw [hv, if_neg (by omega), if_neg fun hc => hc.1 hk]
    · rw [hv]
      split
      · decide
      · rw [if_pos ⟨hk, by omega⟩]
        decide
    · simp only [lo, hi, if_neg hk]
      omega
    · simp only [lo, hi, if_pos hk]
      exact ⟨(dataWord_toInt_range low).1, (dataWord_toInt_range low).2, dataWord_toInt_range high⟩
  · intro c some'
    refine ⟨judge_missing, fun hn hl => judge_lifted hn (anyRow_iff.2 hl), fun hn hl => ?_⟩
    rw [judge_computed hn (mt anyRow_iff.1 hl)]
    refine ⟨rfl, fun ho => if_pos (anyRow_iff.2 ho), fun ho hop => ?_, fun ho hop hlk => ?_, fun ho hop hlk => ?_⟩
    · exact (if_neg (mt anyRow_iff.1 ho)).trans (if_pos hop)
    · exact (if_neg (mt anyRow_iff.1 ho)).trans ((if_neg (ne_true_of_eq_false hop)).trans (if_pos hlk))
    · exact (if_neg (mt anyRow_iff.1 ho)).trans ((if_neg (ne_true_of_eq_false hop)).trans (if_neg (ne_true_of_eq_false hlk)))

end Sys2Proof.Machine
end

section
/-! SUPPORT. The course of a window (R149 to R154, R88): O27. -/

namespace Sys2Proof.Machine

open Sys2Proof

variable {s : State} {m : Membership} {e : Entry} {settleNs n : Nat} {volt amp : Int}

/-! ## Samples -/

theorem clampInt_symm (b x : Int) (hb : 0 ≤ b) : clampInt (-b) b x = max (-b) (min b x) := by
  unfold clampInt
  (repeat' split) <;> omega

theorem voltOver_eq (x : Int) : voltOver x = decide (x.natAbs = 5000000) := by
  rw [voltOver, voltEnd, ← Bool.decide_or]
  exact decide_eq_decide.2 (by omega)

theorem ampOver_eq (x : Int) : ampOver x = decide (x.natAbs = 8000000) := by
  rw [ampOver, ampEnd, ← Bool.decide_or]
  exact decide_eq_decide.2 (by omega)

/-- The stimulus is a current. -/
def Stimulus.isCurrent : Stimulus → Bool
  | .current _ => true
  | _ => false

/-- One sample of a front end that is set to a role (R150, R151). -/
theorem addSample_eq {setting : FrontEnd} (hs : setting ≠ .off) (stim : Stimulus) (volt amp : Int) (a : Accumulator) :
    let v := max (-5000000) (min 5000000 volt)
    let i := max (-8000000) (min 8000000 amp)
    addSample setting stim volt amp a = {
      volts := a.volts + v, amps := if setting = .sense then a.amps else a.amps + i, count := a.count + 1
      isOver := a.isOver || decide (v.natAbs = 5000000 ∨ ¬ setting = .sense ∧ i.natAbs = 8000000)
      compliance := a.compliance || (decide (setting = .force ∧ 4900000 ≤ v.natAbs) && stim.isCurrent)
      lifted := a.lifted } := by
  intro v i
  have hv : clampInt (-voltEnd) voltEnd volt = v := clampInt_symm voltEnd volt (by decide)
  have hi : clampInt (-ampEnd) ampEnd amp = i := clampInt_symm ampEnd amp (by decide)
  simp only [addSample, hv, hi, voltOver_eq, ampOver_eq]
  cases setting with
  | off => exact absurd rfl hs
  | sense => simp
  | ret => simp [Bool.or_assoc]
  | force => cases stim <;> simp [Bool.or_assoc, Stimulus.isCurrent]

theorem beginSampling_settle (hw : s.meu.window = .settle settleNs n) :
    beginSampling s = s.onMeu fun x => { x with window := .sample settleNs n } := by
  simp only [beginSampling, hw]

theorem takeSample_open (hw : s.meu.window = .sample settleNs n) (hc : s.meu.acc.count < n) :
    takeSample volt amp s = s.onMeu fun u => { u with acc := addSample u.frontEnd u.stimulus volt amp u.acc } := by
  simp only [takeSample, hw, if_pos hc]

theorem takeSample_done (hw : s.meu.window = .sample settleNs n) (hc : n ≤ s.meu.acc.count) : takeSample volt amp s = s := by
  simp only [takeSample, hw, if_neg (Nat.not_lt.2 hc)]

theorem endWindow_sample (hw : s.meu.window = .sample settleNs n) : endWindow s = closeWindow n s := by
  simp only [endWindow, hw]

/-! ## The end of the window -/

/-- The reading of a window of `n` samples that ends (R153). -/
def State.windowReading (n : Nat) (s : State) : Reading := formReading n s.meu.frontEnd s.meu.acc

/-- The lead's membership with its own row stored (R154). -/
def Membership.storeOwn (r : Reading) (m : Membership) : Membership := { m with readings := m.readings.set 0 (some r) }

/-- The READING of a member (R154). -/
def readingFrame (m : Membership) (r : Reading) : TxFrame :=
  .reading m.job m.role m.pass r.isOver r.compliance r.lifted r.volt r.amp

/-- MEU after a window, its reading kept with the role and pass of the membership (R153, R154). -/
def windowEnded (m : Membership) (n : Nat) (s : State) : State := s.onMeu fun u => { u with
  frontEnd := .off, stimulus := .off, window := .off
  ownReading := some { role := m.role, pass := m.pass, reading := s.windowReading n } }

theorem closeWindow_member (hc : s.rvu.current = some m) (hr : m.role ≠ 0) : closeWindow n s =
    if s.workFree then enterHold m.job (offerWork (readingFrame m (s.windowReading n)) (windowEnded m n s))
    else offerWork (readingFrame m (s.windowReading n)) (windowEnded m n s) := by
  have hl : m.lead = false := by simpa [Membership.lead] using hr
  simp only [closeWindow, hc, hl, Option.map_some, State.onMeu_rvu]
  rfl

theorem closeWindow_lead (hc : s.rvu.current = some m) (hr : m.role = 0) : closeWindow n s =
    decideIfComplete m.job (enterHold m.job
      (updMember m.job (·.storeOwn (s.windowReading n)) (windowEnded m n s))) := by
  have hl : m.lead = true := by simpa [Membership.lead] using hr
  simp only [closeWindow, hc, hl, Option.map_some, State.onMeu_rvu]
  rfl

/-- A frame that the WORK queue has a place for enters it (R14). -/
theorem offerWork_enters {g : TxFrame} (hs : s.lif.silent = false) (hl : s.lifting = false) (hf : s.workFree = true) :
    offerWork g s = s.onLif fun l => { l with
      work := l.work ++ [g], stallWork := if l.work = [] then some 20000000 else l.stallWork } := by
  rw [← pushWork_eq]
  simp [offerWork, hs, hl, hf]

/-- A frame other than a BEACON that the WORK queue has no place for is held (R14). -/
theorem offerWork_held {g : TxFrame} (hs : s.lif.silent = false) (hl : s.lifting = false) (hf : s.workFree = false)
    (hg : (g == .beacon) = false) : offerWork g s = s.onLif fun l => { l with held := l.held ++ [g] } := by
  simp [offerWork, hs, hl, hf, hg]

/-- The lead goes to HOLD, where it has no limit (R88, R90). -/
theorem enterHold_lead (hc : s.rvu.current = some m) (hr : m.role = 0) (hd : m.deferred = none)
    (he : s.entry? m.job = some e) (hn : ∀ k, s.rvu.next = some k → k.job ≠ m.job) :
    enterHold m.job s =
      (s.onRvu fun r => { r with current := some { m with state := .hold, holdLimit := none } }).onMsq fun q =>
        { q with motion := .hold } := by
  have hl : m.lead = true := by simpa [Membership.lead] using hr
  simp only [enterHold, he, member?_current hc, hd, updMember_current_eq hc hn, hl, if_true]

/-- The lead does not decide before its table is complete (R157). -/
theorem decideIfComplete_waits {job : Nat} (hm : s.member? job = some m) (hnone : none ∈ m.readings) :
    decideIfComplete job s = s := by
  unfold decideIfComplete
  split
  next e m' _ hlead =>
    obtain ⟨hmem, -⟩ := leadMember?_iff.1 hlead
    cases hm.symm.trans hmem
    refine if_neg fun h => ?_
    rw [Bool.and_eq_true, all_isSome_iff] at h
    exact h.2 hnone
  · rfl

/-- A lead whose table is not complete at its window's end goes to HOLD with its own row stored (R88, R154, R157). -/
theorem closeWindow_lead_waits (hc : s.rvu.current = some m) (hr : m.role = 0) (hd : m.deferred = none)
    (he : s.entry? m.job = some e) (hn : ∀ k, s.rvu.next = some k → k.job ≠ m.job)
    (hnone : none ∈ m.readings.set 0 (some (s.windowReading n))) : closeWindow n s =
      ((windowEnded m n s).onRvu fun q => { q with
        current := some { m.storeOwn (s.windowReading n) with state := .hold, holdLimit := none } }).onMsq fun q =>
          { q with motion := .hold } := by
  set stored := m.storeOwn (s.windowReading n)
  set v := (windowEnded m n s).onRvu fun q => { q with current := some stored }
  have hup : updMember m.job (·.storeOwn (s.windowReading n)) (windowEnded m n s) = v :=
    updMember_current_eq (s := windowEnded m n s) hc hn _
  have hhold : enterHold m.job v = _ := enterHold_lead (s := v) (m := stored) rfl hr hd he hn
  rw [closeWindow_lead hc hr, hup, hhold]
  set held : Membership := { stored with state := .hold, holdLimit := none }
  exact decideIfComplete_waits (m := held) (member?_current (m := held) rfl) hnone

/-- Settles O27: the window takes its samples (`addSample_eq`), and its end leaves a member in HOLD with its READING queued or
MEASURING with it held (`closeWindow_member`), and the lead in HOLD with its row stored (`closeWindow_lead_waits`). -/
theorem windowTakesItsSamples : Obligations.WindowTakesItsSamples := by
  intro s settleNs n hw
  refine ⟨fun hwin => live_work hw.noReset (beginSampling_settle hwin) (hw.congr rfl rfl rfl rfl id), fun hwin => ?_⟩
  refine ⟨fun volt amp hf hc => ?_, fun volt amp hc => live_work hw.noReset (takeSample_done hwin hc) hw, ?_⟩
  · intro sense v i u
    refine live_work hw.noReset ((takeSample_open hwin hc).trans ?_) (hw.congr rfl rfl rfl rfl id)
    simp only [State.onMeu, addSample_eq hf]
    rfl
  · intro m e hc he hd hn hs r frame off hold
    have hoff : windowEnded m n s = off := rfl
    have hend : endWindow s = _ := endWindow_sample hwin
    refine ⟨fun hr hfree => ?_, fun hr hfull => ?_, fun hr hnone => ?_⟩
    · refine live_work hw.noReset (hend.trans ?_) (hw.congr rfl rfl rfl rfl nofun)
      rw [closeWindow_member hc hr, if_pos hfree, hoff, offerWork_enters (s := off) hs hw.noLift hfree,
        enterHold_eq (s := off.onLif _) hc rfl hr hd he hn]
      rfl
    · refine live_work hw.noReset (hend.trans ?_) (hw.congr rfl rfl rfl rfl id)
      rw [closeWindow_member hc hr, if_neg (by simp [hfull]), hoff, offerWork_held (s := off) hs hw.noLift hfull rfl]
      rfl
    · refine live_work hw.noReset (hend.trans ?_) (hw.congr rfl rfl rfl rfl nofun)
      exact closeWindow_lead_waits hc hr hd he hn hnone

end Sys2Proof.Machine
end

section
/-! SUPPORT. The lead's reading table and its decision (R156, R157, R163, R164): O23. -/

namespace Sys2Proof.Machine

open Sys2Proof

variable {s : State} {e : Entry} {m : Membership} {src role pass : Nat} {rd : Reading} {rows : List (Option Reading)}

/-! ## The next step -/

/-- Budget is left, and the verdict is one that another pass may change (R163). -/
def AsksAgain (verdict : Verdict) (pass budget : Nat) : Prop :=
  pass < budget ∧ (verdict = .isOpen ∨ verdict = .noContact ∨ verdict = .missing)

theorem nextStep_again {verdict : Verdict} {budget : Nat} (h : AsksAgain verdict pass budget) :
    nextStep verdict pass budget = some (verdict == .missing) := by
  obtain ⟨hb, hv⟩ := h
  unfold nextStep
  rw [if_pos hb]
  rcases hv with rfl | rfl | rfl <;> rfl

theorem nextStep_result {verdict : Verdict} {budget : Nat} (h : ¬ AsksAgain verdict pass budget) :
    nextStep verdict pass budget = none := by
  unfold nextStep
  split
  next hb =>
    cases verdict
    case isOpen | noContact | missing => exact absurd ⟨hb, by decide⟩ h
    all_goals rfl
  · rfl

/-! ## The decision -/

/-- The membership with its deadline stopped (R157). -/
def Membership.undue (m : Membership) : Membership := { m with deadline := none }

/-- The lead's membership with a role's reading stored (R156). -/
def Membership.storeRow (role : Nat) (rd : Reading) (m : Membership) : Membership :=
  { m with readings := m.readings.set role (some rd) }

/-- What the head is left with by the lead's decision on a reading table (R163, R164). -/
def Decided (e : Entry) (m : Membership) (s : State) (rows : List (Option Reading)) (t : State) : Prop :=
  let j := judge e.offer.kind e.offer.low e.offer.high rows
  let again : Prop := AsksAgain j.1 m.pass e.offer.budget
  (again → TxFrame.again m.job (j.1 == .missing) (m.pass + 1) ∈ t.offered ∧ t.lif.post = s.lif.post) ∧
  (¬ again → s.LiftsSafely → t.member? m.job = none ∧ t.jtb = s.jtb ∧
    t.lif.post = s.lif.post ++ [.result {
      job := m.job, board := e.offer.board, verdict := j.1, value := BitVec.ofInt 32 j.2.1
      passesUsed := m.pass + 1, neg := j.2.2, members := m.takers }])

/-- What the decision finds of a state is its job table, its post queue and where its probe stands. -/
theorem Decided.congr {t u : State} (h : Decided e m u rows t) (hj : u.jtb = s.jtb) (hp : u.lif.post = s.lif.post)
    (hq : u.msq = s.msq) : Decided e m s rows t := by
  have hl : u.LiftsSafely ↔ s.LiftsSafely := by
    simp only [State.LiftsSafely, State.stand, State.tip, State.tipX, State.tipY, hq]
  simpa only [Decided, hj, hp, hl] using h

/-- The lead decides on the table it has, and the blocks act on it (R163, R164). -/
theorem leadDecision_settled (hw : s.AtWork) (hs : s.lif.silent = false) (hm : s.member? m.job = some m)
    (hd : ∀ c n, s.rvu.current = some c → s.rvu.next = some n → c.job ≠ n.job) :
    Decided e m s m.readings (settle (leadDecision e m s)) := by
  set j := judge e.offer.kind e.offer.low e.offer.high m.readings
  set v := updMember m.job Membership.undue s with hv
  have hvw : v.AtWork := hw.congr rfl rfl rfl rfl id
  have hdec : leadDecision e m s = match nextStep j.1 m.pass e.offer.budget with
    | some repeated => offerWork (.again m.job repeated (m.pass + 1)) v
    | none => postJob e m j.1 j.2.1 j.2.2 v := rfl
  refine ⟨fun h => ?_, fun h hl => ?_⟩
  · rw [hdec, nextStep_again h]
    exact offerWork_settled hvw hs fun _ => rfl
  · rw [hdec, nextStep_result h]
    have hvm : v.member? m.job = some m.undue := by
      rw [hv, member?_updMember (g := Membership.undue) (fun _ => rfl), hm]
      rfl
    exact postJob_settled (n := m.undue) hvw hl hs hvm (updMember_distinct (g := Membership.undue) (fun _ => rfl) m.job hd) rfl

theorem endDeadline_stopped (hm : s.leadMember? m.job = some m) (h : m.deadline = none) : endDeadline m.job s = s := by
  unfold endDeadline
  split
  next e' m' _ hm' =>
    cases hm.symm.trans hm'
    exact if_neg (by simp [h])
  · rfl

theorem endDeadline_running (he : s.entry? m.job = some e) (hm : s.leadMember? m.job = some m) (h : m.deadline ≠ none) :
    endDeadline m.job s = leadDecision e m s := by
  simp only [endDeadline, he, hm, if_pos (Option.isSome_iff_ne_none.2 h)]

/-- The lead decides when its table is complete (R157). -/
theorem decideIfComplete_full {job : Nat} (he : s.entry? job = some e) (hm : s.leadMember? job = some m)
    (hd : m.deadline ≠ none) (hall : none ∉ m.readings) : decideIfComplete job s = leadDecision e m s := by
  have h : (m.deadline.isSome && m.readings.all (·.isSome)) = true :=
    Bool.and_eq_true_iff.2 ⟨Option.isSome_iff_ne_none.2 hd, all_isSome_iff.2 hall⟩
  simp only [decideIfComplete, he, hm, if_pos h]

/-! ## A READING -/

/-- R156: the READING fills a row of the lead's table. -/
def FillsRow (e : Entry) (m : Membership) (src role pass : Nat) : Prop :=
  e.takerOf role = some src ∧ role ≠ 0 ∧ pass = m.pass ∧ m.deadline ≠ none ∧ m.readings[role]? = some none

theorem FillsRow.due (h : FillsRow e m src role pass) : m.deadline ≠ none := by
  obtain ⟨-, -, -, hdue, -⟩ := h
  exact hdue

theorem takeReading_counted (h : ¬ FillsRow e m src role pass) : takeReading e m src role pass rd s = countDiscard s :=
  if_pos (by
    unfold FillsRow at h
    tauto)

theorem takeReading_stored (h : FillsRow e m src role pass) : takeReading e m src role pass rd s =
    decideIfComplete m.job (updMember m.job (Membership.storeRow role rd) s) :=
  if_neg (by
    unfold FillsRow at h
    tauto)

/-- Settles O23: a READING that fills a row is stored (`takeReading_stored`), and the complete table or the deadline decides
(`leadDecision_settled`). -/
theorem readingsDecideTheJob : Obligations.ReadingsDecideTheJob := by
  intro s e m hw hs he hlead hd decided
  obtain ⟨hm, hrole⟩ := leadMember?_iff.1 hlead
  have hlift : unlessLift (endDeadline m.job) s = endDeadline m.job s := by simp [unlessLift, hw.noLift]
  refine ⟨fun hdue => ?_, fun hdue => live_work hw.noReset (hlift.trans (endDeadline_stopped hlead hdue)) hw, ?_⟩
  · refine ⟨_, live_eq _ hw.noReset, ?_⟩
    rw [hlift, endDeadline_running he hlead hdue]
    exact leadDecision_settled hw hs hm hd
  intro f ha hj r role fits rows
  have hejob : e.offer.job = m.job := (entry?_mem he).2
  have hheard : hear .reading f (Instr.effect (.reading f)) s =
      takeReading e m f.src.toNat role (rxReadingPass f) (rxReading f) r :=
    lead_heard hw.running ha (hj ▸ he) (hejob ▸ hlead)
  have hrm : r.member? m.job = some m := (received_member? ..).trans hm
  have hrd : ∀ c n, r.rvu.current = some c → r.rvu.next = some n → c.job ≠ n.job := by rwa [received_rvu]
  set u := updMember m.job (Membership.storeRow role (rxReading f)) r with hu
  have huw : u.AtWork := hw.received.congr rfl rfl rfl rfl id
  have hum : u.member? m.job = some (m.storeRow role (rxReading f)) := by
    rw [hu, member?_updMember (g := Membership.storeRow role (rxReading f)) (fun _ => rfl), hrm]
    rfl
  have hru : updMember m.job (fun x => { x with readings := rows }) r = u := updMember_congr hrm hrd rfl
  refine ⟨fun h => live_work hw.noReset (hheard.trans (takeReading_counted h)) (hw.received.congr rfl rfl rfl rfl id),
    fun h hnone => hru ▸ live_work hw.noReset (hheard.trans ?_) huw, fun h hall => ?_⟩
  · exact (takeReading_stored h).trans (decideIfComplete_waits hum hnone)
  have hue : u.entry? m.job = some e := (received_entry? ..).trans he
  have hdec : decideIfComplete m.job u = leadDecision e (m.storeRow role (rxReading f)) u :=
    decideIfComplete_full hue (leadMember?_iff.2 ⟨hum, hrole⟩) (FillsRow.due (m := m) h) hall
  have hdecided : Decided e (m.storeRow role (rxReading f)) u rows (settle (leadDecision e (m.storeRow role (rxReading f)) u)) :=
    leadDecision_settled huw ((received_silent ..).trans hs) hum
      (updMember_distinct (g := Membership.storeRow role (rxReading f)) (fun _ => rfl) m.job hrd)
  have hact := hheard.trans ((takeReading_stored h).trans hdec)
  exact ⟨_, (live_eq _ hw.noReset).trans (congrArg (fun t => Host.Outcome.next (settle t)) hact),
    hdecided.congr (received_jtb ..) (received_post ..) (received_msq ..)⟩

end Sys2Proof.Machine
end

section
/-! SUPPORT. One step, by the queue of commands: O1. -/

namespace Sys2Proof.Machine

variable {s : State} {c : Instr} {q : List Instr}

/-- An empty queue idles (log entry 4). -/
theorem step_of_pending_nil (h : s.pending = []) : step s = .next s := by
  simp only [step, h]

theorem step_of_pending_cons (h : s.pending = c :: q) : step s = exec c { s with pending := q } := by
  simp only [step, h]

/-- Settles O1, by the two forms of the queue: a command in front (`step_of_pending_cons`) and none
(`step_of_pending_nil`). -/
theorem stepRunsFrontCommand : Obligations.StepRunsFrontCommand :=
  ⟨fun _ _ _ => step_of_pending_cons rfl, fun _ => step_of_pending_nil⟩

end Sys2Proof.Machine
end
